-- ==== Sys2Proof/Word.lean ====
section
/-!
DEFINITION. The word types of the engine, as the spec names their widths, and nothing else.
-/

namespace Sys2Proof

/-- One byte, as Ledger frames, Parcels and the Cellar carry it. -/
abbrev Byte := BitVec 8

/-- A 16-bit word: endpoint codes (R45), role epochs (R49), TAG fields. -/
abbrev U16 := BitVec 16

/-- A 32-bit word: page entries (R215), doorbells (R277), FP32 codes (R95). -/
abbrev U32 := BitVec 32

/-- A 64-bit word: message headers (R44), queue-context words (R278). -/
abbrev U64 := BitVec 64

/-- A physical tile, T000 to T111 (R17). -/
abbrev Phys := Fin 112

/-- A logical tile number, 0 to 107 (R25, R45). -/
abbrev Logi := Fin 108

/-- A plot number, 0 to 15 (R237). -/
abbrev PlotId := Fin 16

/-- A queue pair number (R246). -/
abbrev QpId := Fin 16384

/-- A model slot of a plot's image (R209). -/
abbrev MSlot := Fin 16

/-- A Ferry port, 00 to 35 (R30). -/
abbrev FerryId := Fin 36

/-- An Ethernet port, 0 to 7 (R30). -/
abbrev EthId := Fin 8

/-- A rim die, 00 to 23 (R30). -/
abbrev Rim := Fin 24

/-- A node of the fabric: 0 to 111 the tile routers, 112 + r rim die r (R30, R31). -/
abbrev Node := Fin 136

end Sys2Proof
end

