-- ==== Sys2Proof/Syntax.lean ====
section
/-!
DEFINITION. The commands of the engine: one constructor per row of spec/opcode_table.json, and the operand types they
carry. A row is one whole and indivisible step of the part (spec/95_what_each_step_holds.md). An operand is what the
outside world, or the physics of the part, supplies at that step: a value written, a voltage sensed, a verdict of a
cryptographic check. What the spec lets the engine know by itself is read from the state, never an operand.
-/

namespace Sys2Proof

/-- The grades (R5, R178). -/
inductive Grade where
  | e108
  | e96
  deriving DecidableEq, Repr

/-- A physical loom slot tile.row.position, the row spare at position 5 included (R19, R22). -/
structure Slot where
  tile : Phys
  row  : Fin 4
  pos  : Fin 6
  deriving DecidableEq, Repr

/-- A loom by its logical endpoint: logical tile, row and active position (R45, R182). -/
structure Loom where
  tile : Logi
  row  : Fin 4
  pos  : Fin 5
  deriving DecidableEq, Repr

/-- The two host ports (R30, R270). -/
inductive Port where
  | a
  | b
  deriving DecidableEq, Repr

/-- A PCIe function of a host port: the physical function, or virtual function 0 to 15 (R270). -/
structure Func where
  port : Port
  vf   : Option (Fin 16)
  deriving DecidableEq, Repr

/-- A requester of the Ledger (R369): a host port's mailbox through one of its functions, or a management session. -/
inductive Requester where
  | host (fn : Func)
  | mgmt (session : Byte)
  deriving DecidableEq, Repr

/-- The parts of a request's header that every Ledger command carries (R381). Log: 12 DESIGN CHOICE. -/
structure Sender where
  who       : Requester
  tag       : U16
  /-- COUNTER of a management frame (R386); not looked at on a mailbox. -/
  counter   : U32
  /-- Whether the 16-byte code of a management frame verifies under the session key (R386). -/
  authentic : Bool
  deriving DecidableEq, Repr

/-- The status codes (R15). -/
inductive Status where
  | done | notReady | busy | denied | badIndex | badValue | otpExhausted | locked | cancelled | deadlineMissed
  | faulted | epochStale | linkDown | truncated | integrity | noSpace
  deriving DecidableEq, Repr

/-- Traffic classes VC0 to VC3 (R34) are numbers 0 to 3; a fabric message is its header (R44) and its payload bytes. `ref` names the
write, read or entry that a VC2 message of the Cellar belongs to; 0 elsewhere. Log: 110 DESIGN CHOICE. -/
structure Msg where
  epoch   : U16
  dest    : U16
  src     : U16
  plot    : BitVec 5
  cls     : Fin 4
  kind    : BitVec 3
  payload : List Byte
  ref     : Nat := 0
  deriving DecidableEq, Repr

/-- The region of a Bench that one LDW reads: `rows` reduction elements for each of `cols` columns, from byte address
`base`, in format `fmt`; of the two-bit formats a cell holds a pair, so that `rows` may be 512 (R87). Block scales have the code of
their format, 0xA or 0xB, and stand at `scaleBase`, one byte per block; none where the tensor has none. The weight tensor scale is that
of the Parcel header at `header` (R102); none is 1.0. For L4, each column has a codebook of 16 BF16 entries for every codebook block of
2,048 reduction elements that it meets, from `cbBase` on, column by column; row 0 is element 64 × `cbStart` of the first (R98).
Log: 11 DESIGN CHOICE. -/
structure WRegion where
  base      : BitVec 22
  fmt       : BitVec 4
  rows      : Fin 513
  cols      : Fin 257
  block64   : Bool
  scaleFmt  : Option (BitVec 4)
  scaleBase : BitVec 22
  header    : Option (BitVec 22)
  cbBase    : BitVec 22
  cbStart   : Fin 32
  deriving DecidableEq, Repr

/-- The activation vector that one PASS sends through the array. -/
structure ARegion where
  base      : BitVec 22
  fmt       : BitVec 4
  rows      : Fin 513
  scaleFmt  : Option (BitVec 4)
  scaleBase : BitVec 22
  deriving DecidableEq, Repr

/-- A vector in a Bench that the Fuller reads: byte address, length, and FP32, BF16 or FP16 as its format (R89). Log: 11 DESIGN CHOICE. -/
structure Vec where
  base : BitVec 22
  len  : Fin 4097
  fmt  : BitVec 4 := 0xE
  deriving DecidableEq, Repr

/-- The elementwise functions of the Fuller (R88, R113). -/
inductive Fn1 where
  | exp2 | log2 | recip | rsqrt | sin | cos | sqrt | neg
  deriving DecidableEq, Repr

/-- The two-operand operations of the Fuller (R88, R113); `less` gives 1.0 or 0.0. -/
inductive Fn2 where
  | add | sub | mul | div | max | less
  deriving DecidableEq, Repr

/-- The shape of a reduction as a placement chooses it in fast mode (R117): which partials are added when. -/
inductive SumTree where
  | leaf (block : Nat)
  | node (l r : SumTree)
  deriving DecidableEq, Repr

/-- A query position of a head of a session, for the attention of one loom over some of its pages (R221): the query's codes, and each
page with the Bench address of its portion as a Pantry read leaves it. `tscale` names a tensor scale of the image. -/
structure Query where
  request : U32
  pos     : BitVec 24
  head    : BitVec 6
  q       : ARegion
  tscale  : Option (Fin 256)
  pages   : List (Fin 262144 × BitVec 22)
  deriving DecidableEq, Repr

/-- One program of the Fuller (R88): what FULL runs. Results are FP32 words at `dst`, unless said otherwise.
Log: 11 DESIGN CHOICE, 35 DESIGN CHOICE. -/
inductive FullOp where
  /-- Block partials of the accumulators of the last PASS, by R112, output-major. -/
  | partials (dst : BitVec 22)
  /-- R113, R115, R117: `outs` outputs, each the sum of `blocks` partials, output-major from `src` in logical block order; in fast mode
  they are added in the order of `shape`. The weight tensor scale is that of the last PASS, the other one a constant of the image. -/
  | reduce (src : BitVec 22) (blocks outs : Fin 4097) (shape : SumTree) (tscale : Option (Fin 256)) (dst : BitVec 22)
  /-- R104: blocks of 32 or 64 FP32 values to narrow codes and their block scales. -/
  | convert (src : Vec) (fmt : BitVec 4) (scaleFmt : Option (BitVec 4)) (block64 : Bool) (tscale : Option (Fin 256))
      (dst scaleDst : BitVec 22)
  | map1 (f : Fn1) (src : Vec) (dst : BitVec 22)
  | map2 (f : Fn2) (x y : Vec) (dst : BitVec 22)
  /-- A vector and one FP32 word. -/
  | scalar (f : Fn2) (x : Vec) (y dst : BitVec 22)
  /-- Where the word of `c` is not zero, that of `x`, else that of `y`. -/
  | select (c x y : Vec) (dst : BitVec 22)
  /-- A reduction over one vector in the order of R115 (R113). -/
  | sum (src : Vec) (dst : BitVec 22)
  | max (src : Vec) (dst : BitVec 22)
  /-- The index of the largest element, the first of several, as an integer. -/
  | argmax (src : Vec) (dst : BitVec 22)
  /-- R233: the products of two vectors, summed pairwise. -/
  | dot (x y : Vec) (dst : BitVec 22)
  /-- R211, R222, R234: `n` vectors of `len` words in the pairwise tree of R115 over class index: merged as partial results m, l, o[0..d-1],
  or added element by element. -/
  | combine (merge : Bool) (src : BitVec 22) (n : Fin 17) (len : Fin 4097) (dst : BitVec 22)
  /-- R222: at the root, out and lse. -/
  | root (x : Vec) (dst lse : BitVec 22)
  /-- R211, R221: the loom's own pages in ascending order, merged into the running state m, l, o at `run`. -/
  | attend (x : Query) (run : BitVec 22)
  /-- R233: from do_t and its narrow codes, delta_t and lse_t, for the positions of each page in ascending order: dv and dk, added to the
  words at the two addresses of the page, and the partial dq_t. -/
  | backward (x : Query) (dout : Vec) (dcodes : ARegion) (delta lse : BitVec 22) (grads : List (BitVec 22 × BitVec 22))
      (dq : BitVec 22)
  /-- R218: one head's new key (0) or value (1) in KV_FORMAT, sent to the Cellar controller of its portion's tile. -/
  | kvAppend (src : Vec) (slot : MSlot) (layer : BitVec 7) (request : U32) (position : BitVec 24) (kv : Fin 2) (head : BitVec 6)
  /-- R127, R101: FP32 masters recast to BF16 working copies. -/
  | recast (src : Vec) (dst : BitVec 22)
  /-- R128, R129: gradients to E4M3 or E5M2 in the plot's format and rounding; `first` is the element index of the first. -/
  | gradient (src : Vec) (first : U32) (dst scaleDst : BitVec 22)
  deriving DecidableEq, Repr

/-- What SEND sends (R103, R191): whole transfers from a Bench address, or a narrow vector, `blocks` scaling blocks of codes and after
them their scale bytes, with zeros up to a whole transfer. Log: 11 DESIGN CHOICE. -/
inductive SendSrc where
  | raw (base : BitVec 22) (transfers : BitVec 6)
  | narrow (codes : BitVec 22) (fmt : BitVec 4) (block64 : Bool) (scales : BitVec 22) (blocks : Fin 4097)
  deriving DecidableEq, Repr

/-- Where the payload of an operand, partial-sum or Bench-write stream lands (R43, R55, R103, R115): a Bench region; or, for a narrow
vector of `blocks` scaling blocks in format `fmt`, the region of its codes and that of its scales. Log: 109 DESIGN CHOICE. -/
inductive Window where
  | raw (base : BitVec 22) (bytes : Nat)
  | narrow (codes : BitVec 22) (fmt : BitVec 4) (block64 : Bool) (scales : BitVec 22) (blocks : Nat)
  deriving DecidableEq, Repr

/-- A request placed in a decoupling queue (R192, R193). Log: 11 DESIGN CHOICE. -/
inductive QReq where
  /-- CF: fill `len` bytes from a Cellar address field into Bench. -/
  | fill (addr : BitVec 40) (bench : BitVec 22) (len : Fin 4097)
  /-- CD: drain Bench bytes to a Cellar address field. -/
  | drain (bench : BitVec 22) (addr : BitVec 40) (len : Fin 4097)
  /-- PA: read the portion of a page of a request for the loom's own layer, codes then scales, into Bench (R220). -/
  | pantryRead (request : U32) (page : Fin 262144) (bench : BitVec 22)
  /-- PA: append-expect entry for a stream and position (R220). -/
  | expect (request : U32) (position : BitVec 24)
  /-- EN: a transfer of `len` bytes on path `path` at `offset` of its region (R301), from or to a Cellar address field; the Parcels of a
  USE 0 path go where the manifest has them (R306). -/
  | ether (path : Fin 16) (offset : U64) (len : U32) (write : Bool) (local_ : BitVec 40)
  /-- FR: one frame of 8 to 4,104 bytes through a Ferry port, message header first (R314). -/
  | ferry (port : FerryId) (bench : BitVec 22) (len : Fin 4105)
  /-- HM: host memory read or write through a host port. -/
  | host (port : Port) (addr : U64) (bench : BitVec 22) (len : Fin 4097) (write : Bool)
  deriving DecidableEq, Repr

/-- One route record as the image holds it (R184 type 1), and the channel the plan gives it on each hop: (site, edge, channel). -/
structure Route where
  word : BitVec 128
  hops : List (Phys × Fin 4 × Fin 16)
  deriving DecidableEq, Repr

/-- One extent record as the image holds it (R184 type 2), and the engine extent the plan assigns to it: logical tile and extent of
that tile. -/
structure ExtentRec where
  word   : BitVec 128
  toTile : Logi
  toExt  : Fin 176
  deriving DecidableEq, Repr

/-- One pool descriptor (R212), field by field. -/
structure Pool where
  slot      : MSlot
  stripe    : BitVec 5
  layers    : BitVec 7
  kvHeads   : BitVec 6
  headDim   : BitVec 4
  kvFormat  : BitVec 4
  scales    : BitVec 2
  block64   : Bool
  frames    : BitVec 24
  firstExt  : BitVec 15
  listFirst : BitVec 15
  listCount : BitVec 8
  reserved  : BitVec 33
  deriving DecidableEq, Repr

/-- The constants of a model slot in the image (R258, R251, R249). -/
structure Model where
  slot          : MSlot
  chunk         : Nat
  stepStreams   : Nat
  stepPositions : Nat
  stepDepth     : Nat
  contextLimit  : Nat
  inputDriven   : Bool
  draft         : Option MSlot
  deriving DecidableEq, Repr

/-- One loom of the footprint with its program, the instruction words of R191; the loom to which it passes its operands on (R43);
and, for the operand, partial-sum and Bench-write streams, where their payload lands. An attention loom carries its model slot, attention
layer and class (R209). `tensors` are the activation tensor scales that the program uses, constants of the image (R102).
Log: 109 DESIGN CHOICE. -/
structure Program where
  loom    : Loom
  words   : List U64
  passTo  : Option Loom := none
  windows : List (Fin 3 × Window) := []
  attn    : Option (MSlot × Nat × Nat) := none
  tensors : List U32 := []
  deriving DecidableEq, Repr

/-- One stream record (R203), with the image extents of its ring and the looms that read it (R172). Log: 109 DESIGN CHOICE. -/
structure Stream where
  layer  : Nat
  ring    : List (Fin 19008) := []
  readers : List Loom := []
  bytes  : Nat
  /-- R_in in GB/s. -/
  rIn    : Nat
  bMin   : Nat
  deriving DecidableEq, Repr

/-- One Parcel manifest entry (R306). -/
structure ManifestEntry where
  extent : BitVec 15
  unit   : BitVec 12
  path   : Fin 16
  zero   : BitVec 33
  deriving DecidableEq, Repr

/-- The eight words of an image's header (R181). -/
structure Header where
  w0 : U64
  w1 : U64
  w2 : U64
  w3 : U64
  w4 : U64
  w5 : U64
  w6 : U64
  w7 : U64 := 0
  deriving DecidableEq, Repr

/-- An entry of the section table (R180). -/
structure Section where
  type   : Byte
  offset : U64
  length : U64
  deriving DecidableEq, Repr

/-- What host memory holds at a load descriptor's address: the image's header, section table and sections (R180 to R184, R203, R212) as
relocated by Skeon's plan (R185). `quality` lists the operations of each quality layer by loom and instruction, `preamble` and `pools`
are the first words of the loom-program section, `resident` the Bench regions (address and bytes) that the image marks resident (R169),
`signer` the fingerprint of the key of its signature section (R416). Log: 108 DEDUCED. -/
structure Image where
  header    : Header
  sections  : List Section
  looms     : List Program
  quality   : List (List (Loom × Nat)) := []
  extents   : List ExtentRec
  patches   : List (BitVec 128)
  routes    : List Route
  split     : Bool
  weightPart : U16
  actPart   : U16
  streams   : List Stream
  preamble  : BitVec 128
  pools     : List (BitVec 128)
  models    : List Model
  manifest  : List ManifestEntry
  resident  : List (BitVec 22 × Nat)
  signer    : List Byte
  deriving DecidableEq, Repr

/-- A submission entry q0 to q7 (R248). -/
structure Sub where
  q0 : U64
  q1 : U64
  q2 : U64
  q3 : U64
  q4 : U64
  q5 : U64
  q6 : U64
  q7 : U64
  deriving DecidableEq, Repr

/-- What the looms hand the Drover for one request of a step: drafts accepted, the tokens sampled (the drafts that were
accepted, then the next token), whether the last of them is a stop token (R224, R251), and whether the step finishes a backward pass,
which no later step reads again (R234). -/
structure StreamOut where
  request  : U32
  accepted : Nat
  tokens   : List (BitVec 24)
  stop     : Bool
  trained  : Bool := false
  deriving DecidableEq, Repr

/-- What a Cellar read finds in its codewords (R150, R151): the wrong bits of a codeword by its number in the unit (32 data bytes each,
counted on into a following unit), and whether the read has landed on another address. -/
structure EccFound where
  wrong : List (Nat × Nat) := []
  stray : Bool := false
  deriving DecidableEq, Repr

/-- A 64-bit word of a Bench, by its number (R134). -/
abbrev BenchWord := Fin 524288

/-- What LDW takes: the region, and the Bench words of which a bit has changed by itself since the last command of the loom that reads its
Bench (R134, R153). So `upset` in the records below. -/
structure WLoad where
  region : WRegion
  upset  : List BenchWord
  deriving DecidableEq, Repr

/-- What happens to a loom during PASS: upsets, and block accumulators that it gets wrong, by index and with the difference (R121). -/
structure PassLuck where
  upset : List BenchWord
  wrong : List (Nat × Int)
  deriving DecidableEq, Repr

/-- What FULL takes: the operation, upsets, and block partials that the loom gets wrong, with the word that it gives (R121). -/
structure FullRun where
  op    : FullOp
  upset : List BenchWord
  wrong : List (Nat × U32)
  deriving DecidableEq, Repr

/-- What ISSUE takes: the request, and upsets. -/
structure QIssue where
  req   : QReq
  upset : List BenchWord
  deriving DecidableEq, Repr

/-- What CHAIN_XOR takes besides member and row: the member for which the unit is reconstructed, the partial that came, and the errors found in
the member's own unit (R163). -/
structure ChainPart where
  lost     : Logi
  received : List Byte
  e        : EccFound
  deriving DecidableEq, Repr

/-- A slot of a channel's wheel, and the errors that the scrubber finds if it has the slot (R149). -/
structure SlotVisit where
  slot : Fin 32
  e    : EccFound
  deriving DecidableEq, Repr

/-- What comes back for a queue entry: the data from the far end of a link, and what a Cellar read found in its codewords. -/
structure Returned where
  data : List Byte
  e    : EccFound
  deriving DecidableEq, Repr

/-- A flit (R310). The CRC-64 verdict is an operand of FLIT_RECEIVE. -/
structure Flit where
  type    : BitVec 4
  cls     : Fin 4
  seq     : BitVec 12
  ack     : BitVec 12
  crClass : Fin 4
  crCount : BitVec 12
  jobTag  : U16
  payload : List Byte
  deriving DecidableEq, Repr

/-- One domain sample of R337: current in 10 mA, voltage in 100 µV, hottest monitor site in 1/16 °C, duty limited. -/
structure DomainSample where
  current : U16
  voltage : U16
  tj      : U16
  duty    : Bool
  deriving DecidableEq, Repr

/-- What the regulator of a tile senses (R62, R335): the readings of the tile's 16 voltage sensors and of the remote-sense point, in
100 µV, and which sensors have not updated for 10 µs. -/
structure Sensed where
  readings : Vector U16 16
  stale    : U16
  remote   : U16
  deriving DecidableEq, Repr

/-- What one 1 ms sample brings (R337, R341, R349): input power in W, VBUS in 100 µV and its current in A; per tile the VCORE and VMEM samples and the leakage in W estimated from its monitor sites; per rim
die the VIO sample; per active loom the beats completed, its natural beat rate in kbeat/s, and the readings of the two monitor sites nearest to its slot,
in 1/16 °C. -/
structure PowerIn where
  inputW  : Nat
  vbus    : Nat
  vbusA   : Nat
  aux     : Nat
  vcore   : List (Phys × DomainSample)
  vmem    : List (Phys × DomainSample)
  vio     : List (Rim × DomainSample)
  leakage : List (Phys × Nat)
  beats   : List (Loom × Nat)
  natural : List (Loom × Nat)
  loomTj  : List (Loom × Int × Int)
  deriving DecidableEq, Repr

/-- The regulator domains of R332. -/
inductive Domain where
  | vcore | vmem | vio
  deriving DecidableEq, Repr

/-- Where a regulator sits: a tile site, or a rim die for VIO (R332, R365). -/
inductive RegSite where
  | tile (t : Phys)
  | rim (r : Rim)
  deriving DecidableEq, Repr

/-- Tile-failure causes, the parameter of E-7110 (R424). -/
inductive TileCause where
  | liveness | localHold | tooFewPhases | cellarDie | loomNoSpare | digest | softStart
  deriving DecidableEq, Repr

/-- The units that send heartbeats (R402). -/
inductive Beater where
  | reeve | constable | drover (k : Fin 4)
  deriving DecidableEq, Repr

/-- Why a host port went down (R287, R293). -/
inductive PortCause where
  | linkDown | hotReset | perst | flr
  deriving DecidableEq, Repr

/-- The 64-bit identity quantities (R276). -/
inductive Identity where
  | serial | timebase
  deriving DecidableEq, Repr

/-- The isolation tables of R419. -/
inductive FwTable where
  | router | channels | extents | ferryOwner | qpBinding | vfMap
  deriving DecidableEq, Repr

/-- The commands: one constructor per row of spec/opcode_table.json, in the table's order. -/
inductive Instr where
  /-- CANARY_TEST (R67): bit d of `settled` is set when datapath d settled within its tap less the guard. -/
  | canaryTest (slot : Slot) (settled : BitVec 3)
  /-- TRIM_APPLY (R69): the loom's current beat has ended. -/
  | trimApply (slot : Slot)
  /-- HOLD_ASSERT (R62, R335): what the regulator senses. -/
  | holdAssert (tile : Phys) (sensed : Sensed)
  /-- HOLD_RELEASE (R65, R335): what the regulator sensed when its minimum was lowest in the last 10 µs. -/
  | holdRelease (tile : Phys) (lowest : Sensed)
  /-- HOLD_TIMEOUT (R66): the hold of a tile is looked at again. -/
  | holdTimeout (tile : Phys)
  /-- MESSAGE_FORWARD (R35): the next opportunity of one output channel of a tile's router or a rim die. -/
  | messageForward (site : Node) (edge : Fin 4) (chan : Fin 16)
  /-- CREDIT_RETURN (R34): the freed transfers of one set return to the channel's sender. -/
  | creditReturn (site : Node) (edge : Fin 4) (chan : Fin 16) (cls : Fin 4) (set : Fin 3)
  /-- MESSAGE_RECEIVE (R48): an endpoint takes the next message that has reached it. -/
  | messageReceive (endpoint : U16)
  /-- EPOCH_STALE_REPLY (R50): the sender of a message to `dest` receives the reply. -/
  | epochStaleReply (sender dest : U16)
  /-- STEP_RERUN (R50). -/
  | stepRerun (step : Nat)
  /-- BELL_REF_EDGE (R77): the measured phase error in ns (5800:05). -/
  | bellRefEdge (phaseError : BitVec 32)
  /-- BELL_REF_LOSS (R79). -/
  | bellRefLoss
  /-- TICK_EDGE (R80). -/
  | tickEdge
  /-- TICK_MISSING (R80). -/
  | tickMissing
  /-- TIME_LOAD (R81): a write to 5800:04. -/
  | timeLoad (f : Sender) (body : List Byte)
  /-- TICK_PERIOD (R83): a write to 5800:03. -/
  | tickPeriod (f : Sender) (body : List Byte)
  /-- LDW (R191). -/
  | ldw (l : Loom) (x : WLoad)
  /-- XCHG (R84). -/
  | xchg (l : Loom)
  /-- PASS (R85). -/
  | pass (l : Loom) (a : ARegion) (x : PassLuck)
  /-- FULL (R88). -/
  | full (l : Loom) (x : FullRun)
  /-- SEND (R191): destination, expected epoch, class, kind, what is sent, and upsets (R134). -/
  | send (l : Loom) (dest epoch : U16) (cls : Fin 4) (kind : BitVec 3) (src : SendSrc) (upset : List BenchWord)
  /-- ISSUE (R193). -/
  | issue (l : Loom) (q : Fin 6) (x : QIssue)
  /-- WAIT (R194). -/
  | wait (l : Loom) (q : Fin 6) (t : Byte)
  /-- FENCE (R194). -/
  | fence (l : Loom) (q : Fin 6)
  /-- HINT (R202): lead time in µs and load class. -/
  | hint (l : Loom) (lead : Byte) (cls : BitVec 2)
  /-- BR (R191): go to `target` when field `field` of the step descriptor equals `value`. -/
  | br (l : Loom) (field : Fin 16) (value : U32) (target : BitVec 13)
  /-- STEPEND (R198). -/
  | stepend (l : Loom)
  /-- ASSAY_CHECK (R120): the oldest unchecked sample of a plot at a tile's Assayer; `flip` says the Assayer's first recomputation went
  wrong. -/
  | assayCheck (tile : Phys) (p : PlotId) (flip : Bool)
  /-- QUALITY_CHECK (R125): the oldest sample of a plot's quality layer at a tile's Assayer whose quality is still to be checked. -/
  | qualityCheck (tile : Phys) (p : PlotId) (layer : Byte)
  /-- CELLAR_READ (R151): address, plot tag of the reader, length within one unit, errors found. -/
  | cellarRead (addr : BitVec 40) (tag : BitVec 5) (len : Fin 4097) (e : EccFound)
  /-- CHAIN_XOR (R163): a surviving member, the row, and what it adds to. -/
  | chainXor (member : Logi) (row : Fin 786432) (x : ChainPart)
  /-- CELLAR_WRITE (R158). -/
  | cellarWrite (addr : BitVec 40) (tag : BitVec 5) (data : List Byte)
  /-- PARITY_DELTA_APPLY (R158): the write whose delta has reached the parity member. -/
  | parityDeltaApply (id : Nat)
  /-- CELLAR_WRITE_COMPLETE (R158): its acknowledgement has arrived. -/
  | cellarWriteComplete (id : Nat)
  /-- KV_APPEND (R218): plot, model slot, layer, request, position, K (0) or V (1), head, codes and scales. -/
  | kvAppend (p : PlotId) (m : MSlot) (layer : Nat) (request : U32) (position : BitVec 24) (kv : Fin 2) (head : Nat)
      (codes scales : List Byte)
  /-- REFRESH_SLOT (R148): slot 15 or 31 of a channel's wheel. -/
  | refreshSlot (tile : Phys) (chan : Fin 48) (x : SlotVisit)
  /-- REFRESH_INTERVAL_CHANGE (R147): hottest site in 1/16 °C, and the highest it was in the last 10 ms. -/
  | refreshIntervalChange (tile : Phys) (tj highest : U16)
  /-- REBUILD_START (R162): a promoted logical tile. -/
  | rebuildStart (lt : Logi)
  /-- REBUILD_ROW (R162): the next row of the rebuild that runs. -/
  | rebuildRow
  /-- SPILL_ACK (R173): page of a request, in its main or draft list. -/
  | spillAck (p : PlotId) (request : U32) (draft : Bool) (page : Nat)
  /-- SPILL_ACK_TIMEOUT (R173). -/
  | spillAckTimeout (p : PlotId) (request : U32) (draft : Bool) (page : Nat)
  /-- FILL_COMPLETE (R174): the frame's bytes as they came back from remote memory, layer by layer, codes then scales. -/
  | fillComplete (p : PlotId) (request : U32) (draft : Bool) (page : Nat) (data : List Byte)
  /-- FILL_FAILED (R232). -/
  | fillFailed (p : PlotId) (request : U32) (draft : Bool) (page : Nat) (why : Status)
  /-- SPILL_START (R230): the next eligible page. -/
  | spillStart (p : PlotId) (request : U32)
  /-- FILL_START (R231). -/
  | fillStart (p : PlotId) (request : U32)
  /-- LOAD_REQUEST (R205): the 32-byte descriptor, and the image that host memory holds at its address. -/
  | loadRequest (f : Sender) (p : PlotId) (body : List Byte) (img : Image)
  /-- RELOAD_DRAIN_END (R206). -/
  | reloadDrainEnd (p : PlotId)
  /-- IMAGE_AUTHENTICATED (R205): whether the signature verifies under the key it names. -/
  | imageAuthenticated (p : PlotId) (verifies : Bool)
  /-- IMAGE_APPLIED (R205). -/
  | imageApplied (p : PlotId)
  /-- LOAD_READY (R242). -/
  | loadReady (p : PlotId)
  /-- PARCEL_RECEIVE (R306): manifest index, the 4,096 bytes with their payload in plaintext, and the tag's verdict. -/
  | parcelReceive (p : PlotId) (n : Nat) (bytes : List Byte) (tagOk : Bool)
  /-- ROUTE_LOAD (R187). -/
  | routeLoad (p : PlotId)
  /-- CHANNEL_RELEASE_ROUTE (R188). -/
  | channelReleaseRoute (site : Phys) (edge : Fin 4) (chan : Fin 16)
  /-- QUEUE_ENTRY_COMPLETE (R192): attempt tag, status, and what returned. -/
  | queueEntryComplete (l : Loom) (q : Fin 6) (t : Byte) (attempt : BitVec 4) (st : Status) (x : Returned)
  /-- UNFILLED_READ_RESUME (R199). -/
  | unfilledReadResume (l : Loom)
  /-- HINT_RECEIVED (R343). -/
  | hintReceived (tile : Phys) (p : PlotId) (lead : Byte) (cls : BitVec 2)
  /-- STREAM_PASS_END (R204): load and compute time in ns. -/
  | streamPassEnd (p : PlotId) (layer : Nat) (loadNs computeNs : Nat)
  /-- STEP_FORM (R258). -/
  | stepForm (p : PlotId) (m : MSlot)
  /-- STEP_COMMIT (R224): what the sampling looms returned. -/
  | stepCommit (step : Nat) (outs : List StreamOut)
  /-- PLOT_CREATE (R240). -/
  | plotCreate (f : Sender) (p : PlotId) (body : List Byte)
  /-- PLOT_RESIZE (R243): subindex 05 to 0A. -/
  | plotResize (f : Sender) (p : PlotId) (sub : Fin 6) (body : List Byte)
  /-- TEARDOWN (R244). -/
  | teardown (f : Sender) (p : PlotId)
  /-- TEARDOWN_DRAIN_END (R244). -/
  | teardownDrainEnd (p : PlotId)
  /-- ERASE_END (R421). -/
  | eraseEnd (p : PlotId)
  /-- PLOT_RESET (R433). -/
  | plotReset (f : Sender) (p : PlotId)
  /-- PLOT_RESET_CLEAR (R433). -/
  | plotResetClear (p : PlotId)
  /-- SQ_TAIL_DOORBELL (R247): function, index through that function, value written. -/
  | sqTailDoorbell (fn : Func) (n : QpId) (v : U32)
  /-- OPEN (R249): the entry at SQ_HEAD of a queue pair. -/
  | openReq (qp : QpId) (e : Sub)
  /-- APPEND (R251). -/
  | append (qp : QpId) (e : Sub)
  /-- HINT_SUBMISSION (R251). -/
  | hintSubmission (qp : QpId) (e : Sub)
  /-- CANCEL (R254). -/
  | cancel (qp : QpId) (e : Sub)
  /-- CLOSE (R251). -/
  | close (qp : QpId) (e : Sub)
  /-- STATUS (R262). -/
  | status (qp : QpId) (e : Sub)
  /-- RQ_HEAD_DOORBELL (R265). -/
  | rqHeadDoorbell (fn : Func) (n : QpId) (v : U32)
  /-- COOL_DELAY_EXPIRE (R251). -/
  | coolDelayExpire (p : PlotId) (request : U32)
  /-- DEADLINE_MISS (R257). -/
  | deadlineMiss (p : PlotId) (request : U32)
  /-- RESULT_ENTRY_WRITE (R260). -/
  | resultEntryWrite (qp : QpId)
  /-- PORT_LINK_UP (R271): generation and width. -/
  | portLinkUp (x : Port) (gen : Fin 8) (width : Fin 17)
  /-- PORT_LINK_DOWN (R288). -/
  | portLinkDown (x : Port) (cause : PortCause)
  /-- VF_FLR (R287). -/
  | vfFlr (x : Port) (vf : Fin 16)
  /-- FAILOVER_REWRITE (R288, R289): a queue pair that moved, and whether the other port's IOMMU faults. -/
  | failoverRewrite (qp : QpId) (fault : Bool)
  /-- QUEUE_CONTEXT_WRITE (R278): context word 0 to 7 and the value written. -/
  | queueContextWrite (fn : Func) (n : QpId) (word : Fin 8) (v : U64)
  /-- QP_ENABLE (R279): c2 written with ENABLE = 1 on a DISABLED queue pair. -/
  | qpEnable (fn : Func) (n : QpId) (v : U64)
  /-- QP_DISABLE (R279): c2 written with ENABLE = 0. -/
  | qpDisable (fn : Func) (n : QpId) (v : U64)
  /-- QP_RESUME (R290): c2 written with ENABLE = 1 on a STOPPED queue pair. -/
  | qpResume (fn : Func) (n : QpId) (v : U64)
  /-- IDENTITY_LOW_READ (R276). -/
  | identityLowRead (fn : Func) (r : Identity)
  /-- HEARTBEAT_TICK (R276). -/
  | heartbeatTick
  /-- MB_GO (R280): the frame in the request buffer and the value written to MB_CTRL. -/
  | mbGo (fn : Func) (ctrl : U32) (frame : List Byte)
  /-- TAKE (R282). -/
  | take (fn : Func) (k : Fin 64)
  /-- GIVE (R284). -/
  | give (fn : Func) (k : Fin 64)
  /-- FORCE_RELEASE (R292): a write to 2100:02. -/
  | forceRelease (f : Sender) (body : List Byte)
  /-- ETH_MODE (R296). -/
  | ethMode (f : Sender) (port : EthId) (body : List Byte)
  /-- ETH_LINK_UP (R296). -/
  | ethLinkUp (port : EthId)
  /-- ETH_LINK_DOWN (R296): cause 0 loss of signal, 1 local or remote fault (R329). -/
  | ethLinkDown (port : EthId) (cause : Fin 2)
  /-- PATH (R297). -/
  | path (f : Sender) (p : PlotId) (i : Fin 16) (body : List Byte)
  /-- PATH_ENABLE (R298). -/
  | pathEnable (f : Sender) (p : PlotId) (i : Fin 16) (body : List Byte)
  /-- ECN_MARK (R445). -/
  | ecnMark (p : PlotId) (i : Fin 16)
  /-- ECN_RECOVERY (R445). -/
  | ecnRecovery (p : PlotId) (i : Fin 16)
  /-- EN_IDLE_LIMIT (R301): the EN ticket whose response stays stopped. -/
  | enIdleLimit (l : Loom) (t : Byte)
  /-- FLIT_SEND (R311). -/
  | flitSend (port : FerryId) (cls : Fin 4)
  /-- FLIT_RECEIVE (R313). -/
  | flitReceive (port : FerryId) (x : Flit) (crcOk : Bool)
  /-- RETRY_REQUEST (R313): the peer's last good SEQ. -/
  | retryRequest (port : FerryId) (seq : BitVec 12)
  /-- PARTIAL_FRAME_TIMEOUT (R315). -/
  | partialFrameTimeout (port : FerryId) (cls : Fin 4)
  /-- FERRY_TRAINING_END (R317): generation agreed, and the lanes that trained. -/
  | ferryTrainingEnd (port : FerryId) (gen : Fin 4) (lanes : BitVec 8)
  /-- FERRY_RETRAIN_TIMEOUT (R317). -/
  | ferryRetrainTimeout (port : FerryId)
  /-- FERRY_CONFIRM (R323): the peer's JOB_TAG and serial. -/
  | ferryConfirm (port : FerryId) (jobTag : U16) (serial : U64)
  /-- FERRY_CONFIG (R324): a write to 5410 with bit 3 clear. -/
  | ferryConfig (f : Sender) (port : FerryId) (body : List Byte)
  /-- FERRY_RETRAIN_REQUEST (R319): a write to 5410 with bit 3 set. -/
  | ferryRetrainRequest (f : Sender) (port : FerryId) (body : List Byte)
  /-- LANE_BAD (R318). -/
  | laneBad (port : FerryId) (lane : Fin 8)
  /-- WIDTH_CHANGE_REQUEST (R320): peer serial, whether a retrain is asked, and its bad lanes. -/
  | widthChangeRequest (port : FerryId) (serial : U64) (retrain : Bool) (bad : BitVec 8)
  /-- WIDTH_CHANGE_DONE (R319). -/
  | widthChangeDone (port : FerryId)
  /-- FERRY_OWNER (R325). -/
  | ferryOwner (f : Sender) (port : FerryId) (body : List Byte)
  /-- SWEEP_REQUEST (R321). -/
  | sweepRequest (f : Sender) (body : List Byte)
  /-- SWEEP_END (R322): the status it ends with and the counts measured. -/
  | sweepEnd (st : Status) (counts : List U32)
  /-- POWER_SAMPLE (R337). -/
  | powerSample (x : PowerIn)
  /-- PHASE_ADD (R333). -/
  | phaseAdd (tile : Phys) (d : Domain)
  /-- SENSOR_FALLBACK (R335): what the regulator senses. -/
  | sensorFallback (tile : Phys) (sensed : Sensed)
  /-- SENSOR_FALLBACK_EXIT (R335): what the regulator sensed when the fewest sensors were plausible in the last 100 ms. -/
  | sensorFallbackExit (tile : Phys) (sensed : Sensed)
  /-- PSTATE_ENTRY (R345). -/
  | pstateEntry (p : PlotId)
  /-- PSTATE_EXIT (R347). -/
  | pstateExit (p : PlotId)
  /-- P4_ENTRY (R348). -/
  | p4Entry
  /-- P4_EXIT (R348). -/
  | p4Exit
  /-- LATENCY_TOLERANCE (R346). -/
  | latencyTolerance (f : Sender) (p : PlotId) (body : List Byte)
  /-- CAP (R340). -/
  | cap (f : Sender) (body : List Byte)
  /-- COOL_READING (R353): the tray registers as the tray controller leaves them. -/
  | coolReading (inlet outlet flow : U16) (seq : Byte)
  /-- COOL_READING_TIMEOUT (R354). -/
  | coolReadingTimeout
  /-- COOL_NO_DATA_TIMEOUT (R447). -/
  | coolNoDataTimeout
  /-- COOL_GRACE_EXPIRE (R355). -/
  | coolGraceExpire
  /-- COOL_NORMAL (R354). -/
  | coolNormal
  /-- OVERTEMP (R352): the site's reading over the last 1 ms, its lowest, in 1/16 °C. -/
  | overtemp (tile : Phys) (tj : U16)
  /-- SHORT_DETECT (R356). -/
  | shortDetect (tile : Phys) (d : Domain)
  /-- SOFT_START_RETRY (R356): whether the retry reached its target. -/
  | softStartRetry (tile : Phys) (d : Domain) (reached : Bool)
  /-- PHASE_OPEN (R357). -/
  | phaseOpen (site : RegSite) (d : Domain) (phase : Fin 7)
  /-- SENSE_FAIL (R358). -/
  | senseFail (site : RegSite) (d : Domain) (phase : Fin 7)
  /-- LOW_INPUT_DETECT (R362): VBUS in 100 µV, and whether a regulator is duty-limited or the bus stage at its limit. -/
  | lowInputDetect (vbus : Nat) (duty busLimit : Bool)
  /-- LOW_INPUT_RELEASE (R362): the lowest VBUS of the last 100 ms, and whether a regulator was duty-limited in it. -/
  | lowInputRelease (vbus : Nat) (duty : Bool)
  /-- VBUS_LOW_SHUTDOWN (R362): the highest VBUS of the last 1 ms, in 100 µV. -/
  | vbusLowShutdown (vbus : Nat)
  /-- WARM_SHUTDOWN (R363): the phases Quiesce and Power down of a shutdown that has been decided. -/
  | warmShutdown
  /-- SHUTDOWN_RESTART (R363): the lowest VBUS of the last 1 s, in 100 µV. -/
  | shutdownRestart (vbus : Nat)
  /-- READ (R379): FLAGS and ARG of the request. -/
  | read (f : Sender) (idx : U16) (sub : Byte) (newer : Bool) (arg : U32)
  /-- WRITE (R372). -/
  | write (f : Sender) (idx : U16) (sub : Byte) (body : List Byte)
  /-- WRITE_PERSIST (R376). -/
  | writePersist (f : Sender) (idx : U16) (sub : Byte) (body : List Byte)
  /-- BLOCK_READ (R382). -/
  | blockRead (f : Sender) (idx : U16) (sub : Byte) (offset : U32) (body : List Byte)
  /-- SUBSCRIBE (R391): ARG and the 8-byte body. -/
  | subscribe (f : Sender) (arg : U32) (body : List Byte)
  /-- KEY_TAKE (R382). -/
  | keyTake (f : Sender) (k : Fin 64)
  /-- KEY_GIVE (R382). -/
  | keyGive (f : Sender) (k : Fin 64)
  /-- CLOSE_SESSION (R387): SESSION of the frame. -/
  | closeSession (f : Sender) (session : Byte)
  /-- REQUEST_REPEAT (R388): COMMAND, INDEX and SUBINDEX of the repeat. -/
  | requestRepeat (f : Sender) (command : Byte) (idx : U16) (sub : Byte)
  /-- SESSION_IDLE_EXPIRE (R387). -/
  | sessionIdleExpire (session : Byte)
  /-- EVENT_IRQ (R392). -/
  | eventIrq (x : Port)
  /-- EVENT_FRAME (R392). -/
  | eventFrame (session : Byte)
  /-- MEASUREMENT_REFRESH (R378): the entry and its new value. -/
  | measurementRefresh (idx : U16) (sub : Byte) (value : List Byte)
  /-- EYE_REFRESH (R435): kind 0 Ethernet, 1 Ferry, 2 PCIe; port; width and height of each lane. -/
  | eyeRefresh (kind : Fin 3) (port : Fin 36) (lanes : List (U16 × U16))
  /-- LIVENESS_EXCHANGE (R399): whether the tile's Tinker answered. -/
  | livenessExchange (tile : Phys) (answered : Bool)
  /-- TILE_FAIL (R401): the failed tile, the cause, and whether its router and power are still sound (R24). -/
  | tileFail (tile : Phys) (cause : TileCause) (sound : Bool)
  /-- HEARTBEAT_SEND (R402). -/
  | heartbeatSend (u : Beater)
  /-- DROVER_LOSS (R403). -/
  | droverLoss (k : Fin 4)
  /-- REEVE_TAKEOVER (R404). -/
  | reeveTakeover
  /-- CONSTABLE_TAKEOVER (R404). -/
  | constableTakeover
  /-- RESET_WATCHDOG (R426). -/
  | resetWatchdog
  /-- BOOT_TIMEOUT (R413). -/
  | bootTimeout
  /-- UPDATE_REQUEST (R414). -/
  | updateRequest (f : Sender) (body : List Byte)
  /-- UPDATE_CHUNK (R414). -/
  | updateChunk (f : Sender) (body : List Byte)
  /-- UPDATE_PHASE_END (R414): for Program, the 166 header bytes that an update from host memory writes; for Verify, the verdict on
  signature and digest. -/
  | updatePhaseEnd (verified : Bool) (header : List Byte)
  /-- HELLO (R417): the 232-byte body, the fingerprint of the key that signed it, and the signature's verdict. -/
  | hello (f : Sender) (body : List Byte) (signer : List Byte) (verifies : Bool)
  /-- REPORT (R417): ARG. -/
  | report (f : Sender) (arg : U32)
  /-- HELLO_EXPIRE (R417): the pending exchange by its nonce word. -/
  | helloExpire (nonce : U32)
  /-- PARCEL_KEY (R418): key slot, the 72-byte body, and whether its tag verifies under the session's wrap key. -/
  | parcelKey (f : Sender) (p : PlotId) (slot : Fin 2) (body : List Byte) (tagOk : Bool)
  /-- FIREWALL_DIGEST_CHECK (R420): whether the digest read back differs, and differs again after the rewrite. -/
  | firewallDigestCheck (tile : Phys) (t : FwTable) (differs again : Bool)
  /-- PINNED_LEVEL (R442): a WRITE_PERSIST to 1000:12. -/
  | pinnedLevel (f : Sender) (body : List Byte)
  /-- COLD_START (R429): RESET_CAUSE 0 to 3. -/
  | coldStart (cause : Fin 4)
  /-- COLD_START_READY (R429). -/
  | coldStartReady
  /-- WARM_RESET (R430): cause 0 WARM_RST_N, 1 I3C warm, 2 restart after shutdown, 3 watchdog (RESET_CAUSE less 4). -/
  | warmReset (cause : Fin 4)
  /-- WARM_RESET_RESTORE (R430). -/
  | warmResetRestore
  /-- RESET_KEY (R427). -/
  | resetKey (v : Byte)
  /-- RESET_CMD (R427). -/
  | resetCmd (v : Byte)
  /-- RESET_ARM_EXPIRE (R427). -/
  | resetArmExpire
  /-- BUS_STAGE_START (R429): the lowest VBUS of the last 10 ms in 100 µV; the canary results of the start-up tap pass (R70)
  as taps reached per slot and datapath. -/
  | busStageStart (vbus : Nat) (taps : List (Slot × Fin 3 × Fin 64))
  /-- HINT_RAISE_HOLD_END (R343). -/
  | hintRaiseHoldEnd (tile : Phys)
  /-- PORT_RETRAIN (R271). -/
  | portRetrain (x : Port) (gen : Fin 8) (width : Fin 17)
  /-- FERRY_DETECT (R317). -/
  | ferryDetect (port : FerryId)
  deriving DecidableEq, Repr

end Sys2Proof
end

