-- ==== Sys2Proof/Decode.lean ====
section
/-!
DEFINITION. The decoder over the rows of spec/opcode_table.json that give bits. No row does: every row's list of fields is
empty, so no word spells a command.
-/

namespace Sys2Proof

/-- The command that the low `nbits` bits of `w` spell by the table: none, because the table gives no row bits.
Log: 104 DESIGN CHOICE. -/
def decodeTableWord (_nbits _w : Nat) : Option Instr := none

end Sys2Proof
end

