-- ==== Sys2Proof/Config.lean ====
section
/-!
DEFINITION. What one unit of the engine fixes and the spec leaves open: the factory values, and the functions that the spec
names but does not define (the reference algorithms published with Gupafel). None has a body, so no proof can see a value.
-/

namespace Sys2Proof

/-- Engine serial of the unit (1000:03, R394: "factory value"). -/
opaque Config.serial : Nat

/-- Vendor ID assigned to the maker (R272): the spec gives no number. -/
opaque Config.vendorId : BitVec 16

/-- What the PLOT field of a queue context holds where the queue pair is bound to no plot (R278): the spec states no value. -/
opaque Config.noPlot : BitVec 4

/-- Firmware version running at shipment (1000:05, R394: no default given). -/
opaque Config.fwVersion : Nat

/-- Security version of the firmware at shipment (R412, R417). -/
opaque Config.svn : Nat

/-- Bytes of firmware in the slot shipped (R412). -/
opaque Config.fwLength : Nat

/-- Slowest-loom beat rate at screening, FP32 code (4010:02, R61: "factory value"). -/
opaque Config.beatScreened : Nat

/-- The certificate chain of 8000:02 (R423: "factory value"). -/
opaque Config.deviceCert : Nat → Byte

/-- Factory baseline tap of a slot's datapath (R70, R434). Log: 5 DESIGN CHOICE. -/
opaque Config.baselineTap : Nat → Nat → Nat

/-- A factory correction (R434): 0 SerDes slicer offset, 1 SerDes equalisation, 2 regulator current-sense gain; of the comparator, lane or
phase. Its code is not visible. Log: 131 DESIGN CHOICE. -/
opaque Config.correction : Nat → Nat → Nat

/-- Tap of a matched delay line that no loom slot has (R52, R53): the Cellar port of tile t is line t, the data lane of channel k of the
fabric line 112 + k. No rule trims these lines. Log: 116 DESIGN CHOICE. -/
opaque Config.lineTap : Nat → Fin 64

/-- How far the reference algorithm of a function (0 exp2, 1 log2, 2 reciprocal, 3 reciprocal square root, 4 sine, 5 cosine) comes to lie
from the correctly rounded value, for an FP32 operand: modulo 5, less 2, in units in the last place (R113). Log: 10 DESIGN CHOICE. -/
opaque Config.ulp : Nat → Nat → Nat

/-- Serial of a tile, from which its Assayer's generator is seeded (R119). Log: 122 DESIGN CHOICE. -/
opaque Config.tileSerial : Nat → BitVec 32

/-- The next state of an Assayer's 32-bit linear-feedback generator (R119): the spec gives no polynomial. Log: 122 DESIGN CHOICE. -/
opaque Config.lfsr : BitVec 32 → BitVec 32

/-- The mixing hash of stochastic rounding, applied to seed, step number and element index (R129). -/
opaque Config.mixHash : Nat → Nat → Nat → Nat

/-- The code that a conversion gives where the tensor scale is zero, infinite or NaN, so that R104 states no quotient: of the FP32
code and the tensor scale. Log: 33 DESIGN CHOICE. -/
opaque Config.openQuotient : Nat → Nat → Nat

/-- Which of 2^n steps of a plot is the sampled one (R119: "one step in 2^n"). Log: 34 DESIGN CHOICE. -/
opaque Config.assayPhase : Nat → Nat → Nat

/-- Which detour tile the Reeve chooses for a source and destination site on a given map generation (R41).
Log: 24 DESIGN CHOICE. -/
opaque Config.detour : Nat → Nat → Nat → Nat

/-- A digest, signature or public-key byte that the factory or the Constable computes (R412, R417): of what, and which byte. -/
opaque Config.constableByte : Nat → Nat → Byte

/-- A session key byte, derived by the exchange of R417: exchange number and byte. -/
opaque Config.sessionKeyByte : Nat → Nat → Byte

/-- The Parcel key that a wrapped blob holds (R418): the bytes 24 to 55 decrypted under the session's wrap key. -/
opaque Config.unwrap : Nat → List Byte → List Byte

/-- Byte `i` of a unit sealed under a key (R305, R308): AES-256-GCM of the key, the path, the remote address and the 4,096 bytes; the spec does
not say how the nonce is derived. -/
opaque Config.sealedByte : List Byte → Nat → Nat → List Byte → Nat → Byte

/-- What a byte of Bench holds whose contents are lost or not defined (R168): of the loss and the address. Log: 106 DESIGN CHOICE. -/
opaque Config.benchByte : Nat → Nat → Byte

/-- A value the spec leaves open, drawn by the running number of the draw. -/
opaque Config.freeValue : Nat → Nat

end Sys2Proof
end

