-- ==== Sys2Proof/Machine/Tab.lean ====
section
/-!
DEFINITION. Sparse tables: the one shape in which the model holds "a value for each number" (a Bench or Cellar byte per
address, a record per tile, a value per Ledger entry). A table lists only the numbers whose value differs from the table's
default, in rising order, so equal tables are equal data.
-/

namespace Sys2Proof.Machine

/-- A sparse table from numbers to values; the default is given by whoever reads or writes it. -/
abbrev Tab (α : Type) := List (Nat × α)

/-- The value at `k`, `d` where the table lists none. -/
def Tab.get {α : Type} (d : α) : Tab α → Nat → α
  | [], _ => d
  | (j, v) :: t, k => if j = k then v else Tab.get d t k

/-- Put an entry at its place among entries with other keys. -/
def Tab.insert {α : Type} (k : Nat) (v : α) : Tab α → Tab α
  | [] => [(k, v)]
  | (j, w) :: t => if k < j then (k, v) :: (j, w) :: t else (j, w) :: Tab.insert k v t

/-- Take the entry of `k` out. -/
def Tab.erase {α : Type} (k : Nat) : Tab α → Tab α
  | [] => []
  | (j, w) :: t => if j = k then Tab.erase k t else (j, w) :: Tab.erase k t

/-- Write `v` at `k`; writing the default takes the entry out. -/
def Tab.set {α : Type} [DecidableEq α] (d : α) (t : Tab α) (k : Nat) (v : α) : Tab α :=
  if v = d then Tab.erase k t else Tab.insert k v (Tab.erase k t)

/-- Change the value at `k`. -/
def Tab.upd {α : Type} [DecidableEq α] (d : α) (t : Tab α) (k : Nat) (f : α → α) : Tab α :=
  Tab.set d t k (f (Tab.get d t k))

/-- Keep only the entries whose key satisfies `p`. -/
def Tab.keep {α : Type} (p : Nat → Bool) : Tab α → Tab α
  | [] => []
  | (j, w) :: t => if p j then (j, w) :: Tab.keep p t else Tab.keep p t

/-- Write the values of a list at consecutive keys from `k`. -/
def Tab.setList {α : Type} [DecidableEq α] (d : α) (t : Tab α) (k : Nat) : List α → Tab α
  | [] => t
  | v :: vs => Tab.setList d (Tab.set d t k v) (k + 1) vs

/-- The values at `n` consecutive keys from `k`. -/
def Tab.getList {α : Type} (d : α) (t : Tab α) (k : Nat) : Nat → List α
  | 0 => []
  | n + 1 => Tab.get d t k :: Tab.getList d t (k + 1) n

/-- The canonical form: keys strictly rising, no entry equal to the default. -/
def Tab.wf {α : Type} [DecidableEq α] (d : α) : Tab α → Bool
  | [] => true
  | [(_, v)] => decide (v ≠ d)
  | (j, v) :: (k, w) :: t => decide (v ≠ d) && decide (j < k) && Tab.wf d ((k, w) :: t)

end Sys2Proof.Machine
end

