-- ==== Sys2Proof/Machine/State.lean ====
section
/-!
DEFINITION. The state of the engine as plain data, and the state after reset. Every scalar of the Ledger has its one home in
`led`; a Ledger value that another piece of state determines is computed when it is read (Machine/LedgerMap.lean).
-/

namespace Sys2Proof.Machine

/-- Why a command stops the machine instead of being carried out. -/
inductive Fault where
  /-- Raised by a command whose operands are not well-formed (Sys2Proof.Instr.wf): a list longer than its carrier holds.
  Safe: no such command exists on the hardware. -/
  | illFormed
  deriving DecidableEq, Repr

/-- Why the model gives a command no meaning. -/
inductive Refusal where
  /-- A command that has no meaning yet, by its mnemonic. Safe. -/
  | notModelled (mnemonic : String)
  deriving DecidableEq, Repr

/-! ### Time (R77 to R83) -/

/-- The Bell states (R79). -/
inductive BellState where
  | free | acquiring | locked | holdover
  deriving DecidableEq, Repr

/-- The Bell input's discipline of the timebase. -/
structure Bell where
  st          : BellState := .free
  /-- Count at the last reference edge, to which the next edge adds 40 (R77). -/
  edgeBase    : Nat := 0
  /-- Part of the last measured phase correction not yet slewed (R78, R79), in ns. -/
  corr        : Int := 0
  /-- Engine time of the last ns slewed (R78). -/
  lastSlew    : Nat := 0
  /-- Period in use; 5800:03 takes effect at the next counted tick (R83). -/
  period      : Nat := 100000
  /-- Expected instant whose tick was counted last (R80), or the value of a time load since (R81). -/
  lastCounted : Option Nat := none
  /-- The watch for missing ticks is armed (R80). -/
  watch       : Bool := false
  /-- E-5803 was raised and no tick has been counted since (R80). -/
  missRaised  : Bool := false
  /-- The armed time load: value and engine time of the write's completion (R81). -/
  load        : Option (Nat × Nat) := none
  /-- Ticks that aligned steps have seen, counted or taken as the expected instant (R327), and engine time of the last. -/
  tickNo      : Nat := 0
  tickAt      : Option Nat := none
  deriving DecidableEq, Repr

/-! ### Events and the management of requests (R381 to R392, R446) -/

/-- An event record (R389). -/
structure EventRec where
  seq    : Nat
  ev     : Nat
  /-- 0xFF for none. -/
  plot   : Nat
  time   : Nat
  params : List Nat
  deriving DecidableEq, Repr

/-- A subscription with what is matched and not yet sent (R391, R392). -/
structure Subscription where
  active  : Bool := false
  areas   : Nat := 0
  plots   : Nat := 0
  noPlot  : Bool := false
  vector  : Nat := 0
  unsent  : List EventRec := []
  /-- Engine times of the records sent in the sliding window (R392). -/
  sentAt  : List Nat := []
  lastIrq : Option Nat := none
  irqDue  : Bool := false
  deriving DecidableEq, Repr

/-- The event log and the rate limits of R446. -/
structure Events where
  seq       : Nat := 0
  log       : List EventRec := []
  /-- Engine time of the last raise plus one, by event and scope. -/
  lastRaise : Tab Nat := []
  /-- Engine times of the deadline misses of the last second, by plot (E-3404). -/
  missAt    : Tab (List Nat) := []
  /-- Subscription of each host port's physical function. -/
  port      : Tab Subscription := []
  deriving DecidableEq, Repr

/-- A response (R381). -/
structure Reply where
  status : Status
  seq    : Nat := 0
  gen    : Nat := 0
  type   : Nat := 0
  body   : List Byte := []
  deriving DecidableEq, Repr

/-- A management session (R386 to R388). -/
structure Session where
  opened    : Nat
  lastRx    : Nat
  rxCounter : Nat := 0
  txCounter : Nat := 0
  /-- The host function through whose mailbox it was opened; none on the management network (R417). -/
  via       : Option Port := none
  exchange  : Nat := 0
  sub       : Subscription := {}
  /-- TAG, COMMAND, INDEX, SUBINDEX of the previous request and its response (R388). -/
  prev      : Option (Nat × Nat × Nat × Nat) := none
  kept      : Option Reply := none
  deriving DecidableEq, Repr

/-- A pending session exchange (R417). -/
structure Exchange where
  nonce  : List Byte
  at_    : Nat
  via    : Option Port
  number : Nat
  deriving DecidableEq, Repr

/-- What the engine has put on its outside interfaces. Log: 102 DESIGN CHOICE. -/
inductive Out where
  | reply (who : Requester) (tag : Nat) (r : Reply)
  | busRead (v : Nat)
  | msix (fn : Func) (vector : Nat)
  | eventFrame (session : Nat) (rs : List EventRec) (seq : Nat)
  /-- One posted write into a result entry, from word `first` on (R264); Relaxed Ordering is never set on it. -/
  | result (qp : Nat) (port : Port) (index : Nat) (first : Nat) (d : List Nat) (relaxed : Bool)
  | flit (port : FerryId) (x : Flit)
  | retry (port : FerryId) (seq : Nat)
  | truncated (port : FerryId) (cls : Nat)
  | confirm (port : FerryId) (jobTag : Nat) (serial : Nat)
  | widthRequest (port : FerryId) (serial : Nat) (bad : Nat)
  | rdma (plot : Nat) (path : Nat) (offset : Nat) (write : Bool) (data : List Byte)
  deriving DecidableEq, Repr

/-! ### Sites, slots and regulators -/

/-- The states of a physical tile in the defect map (R24). -/
inductive TileState where
  | active | reserve | retired | absent
  deriving DecidableEq, Repr

/-- The defect-map entry of one physical tile (R28) and the tile's own running state. -/
structure Site where
  st         : TileState := .absent
  /-- Logical number while ACTIVE. -/
  logical    : Nat := 0x7F
  /-- For each row whose spare is in use, the position it took over (R22, R28). -/
  spareFor   : Tab (Option Nat) := []
  /-- Rows whose spare has failed (R444). -/
  spareBad   : Tab Bool := []
  /-- Hold asserted since (R62). -/
  held       : Option Nat := none
  /-- Hold has been asserted since the last 1 ms sample (R338). -/
  heldSeen   : Bool := false
  /-- Unanswered liveness exchanges in a row (R399). -/
  missed     : Nat := 0
  /-- The site's bypass is engaged (R40). -/
  bypass     : Bool := false
  /-- The Assayer takes no further samples (R121). -/
  assayerOff : Bool := false
  /-- The Assayer's linear-feedback generator (R119). -/
  lfsr       : BitVec 32 := 0
  deriving DecidableEq, Repr

/-- A physical loom slot: delay taps, Bench parity errors of the running step (R67 to R71, R153). -/
structure SlotSt where
  taps     : Tab Nat := []
  /-- Engine time of the last rise plus one, by datapath (R68). -/
  rose     : Tab Nat := []
  /-- Trims decided and not yet applied, by datapath (R69). -/
  trims    : Tab Bool := []
  /-- Parity errors found in attempts of the step named (R153). -/
  parity   : Nat × Nat := (0, 0)
  deriving DecidableEq, Repr

/-- Headroom of a slot: 63 less its highest tap (R71). -/
def SlotSt.headroom (x : SlotSt) : Nat := 63 - max (Tab.get 0 x.taps 0) (max (Tab.get 0 x.taps 1) (Tab.get 0 x.taps 2))

/-- A region regulator (R332 to R336, R356 to R360), and the hint raise on its tile (R343). -/
structure Reg where
  /-- Open phases and failed senses, by domain × 8 + phase. -/
  opens      : Tab Bool := []
  senses     : Tab Bool := []
  latched    : Bool := false
  /-- Retries used and engine time of the last latch-off (R356). -/
  retries    : Nat := 0
  latchedAt  : Nat := 0
  fallback   : Bool := false
  /-- Mask of implausible sensors (R335). -/
  badSensors : Nat := 0
  /-- tile_cut in mV (R360), samples below 97 % of the cap in a row. -/
  tileCut    : Nat := 0
  belowFor   : Nat := 0
  /-- Hint raise in mV, engine time its hold ends, every phase forced on (R343). -/
  raise      : Nat := 0
  raiseEnd   : Nat := 0
  allPhases  : Bool := false
  /-- Working phases that are switched off at a light load, by domain (R333). -/
  shed       : Tab Nat := []
  deriving DecidableEq, Repr

/-! ### Fabric (R33 to R50, R187 to R190) -/

/-- A message in the fabric: the buffer set it goes out on, and the buffer it stands in. -/
structure Transit where
  msg   : Msg
  /-- 0 compiler-route set, 1 XY set, 2 YX set (R36). -/
  set   : Nat
  /-- Site of a detour tile still to be passed (R41). -/
  via   : Option Nat
  /-- Channel and set of the buffer that it stands in; none at its sender's node. -/
  holds : Option (Nat × Nat)
  deriving DecidableEq, Repr

/-- One output channel of a node: of a tile's router, or of a rim die. -/
structure Chan where
  /-- Position in the rotation of eight opportunities (R37). -/
  turn    : Nat := 0
  /-- Transfers used in the downstream buffer sets, by class × 3 + set. -/
  used    : Tab Nat := []
  /-- Freed transfers whose credit is on its way back. -/
  freed   : Tab Nat := []
  waiting : List Transit := []
  /-- By class, the message whose transfers are going, and how many of them are left: transfers of different classes interleave
  (R35, R37). -/
  sending : Tab (Option (Transit × Nat)) := []
  /-- Plot tag served last, by class (R38); set served last, by class × 32 + plot tag (R37). Log: 111 DEDUCED. -/
  lastTag : Tab Nat := []
  lastSet : Tab Nat := []
  deriving DecidableEq, Repr

/-- A route entry at a router (R189). -/
structure RouteEntry where
  plot : Nat
  cls  : Nat
  src  : Nat
  dst  : Nat
  site : Nat
  edge : Nat
  chan : Nat
  deriving DecidableEq, Repr

/-- A flow whose derived route is not loaded yet (R187, R188). -/
structure Derived where
  plot    : Nat
  route   : Route
  /-- Edges that have no channel yet, as site × 4 + edge. -/
  missing : List Nat
  deriving DecidableEq, Repr

/-- The role epoch of an endpoint (R49): its value when every change that is due has taken place, and engine time plus one of the last
of them; 0 where there was none since the reset. Log: 22 DESIGN CHOICE. -/
structure EpochRec where
  val  : Nat := 1
  last : Nat := 0
  deriving DecidableEq, Repr

/-- The fabric. -/
structure Fabric where
  chans     : Tab Chan := []
  routes    : List RouteEntry := []
  /-- Owner of each edge channel for VC0 and VC1, plot + 1 (R38). -/
  chanOwner : Tab Nat := []
  /-- Messages that have reached an endpoint, oldest first. -/
  inbox     : Tab (List Msg) := []
  /-- Messages the endpoint has accepted, oldest first. -/
  taken     : Tab (List Msg) := []
  droppedPlot  : Nat := 0
  droppedEpoch : Nat := 0
  refused   : Nat := 0
  /-- Messages dropped for their epoch whose status reply the sender has not received yet (R48, R50). -/
  lost      : List Msg := []
  /-- Destination-table entries marked stale, by sender × 65,536 + destination (R50). -/
  stale     : Tab Bool := []
  derived   : List Derived := []
  /-- Messages that wait at their source for a channel of their flow (R188). -/
  parked    : List Msg := []
  /-- Messages of fallback flows that wait at a node for an edge channel of their plot (R38): node × 4 + edge. Log: 23 DESIGN CHOICE. -/
  waitChan  : List (Nat × Transit) := []
  deriving DecidableEq, Repr

/-! ### Looms (R84 to R106, R191 to R201) -/

/-- A set of weight registers: codes by row × 256 + column, and the scales that go with them. -/
structure Weights where
  fmt      : Nat := 0
  rows     : Nat := 0
  cols     : Nat := 0
  block    : Nat := 32
  scaleFmt : Nat := 0
  codes    : Tab Nat := []
  scales   : Tab Nat := []
  tscale   : Nat := 0x3F800000
  /-- Normalised codebooks, column by column: grid exponent and sixteen 13-bit integers (R98, R99); first row in its codebook block. -/
  books    : List (Int × List Int) := []
  cbFirst  : Nat := 0
  deriving DecidableEq, Repr

/-- The special content of a block (R111). -/
inductive Special where
  | finite | nan | posInf | negInf
  deriving DecidableEq, Repr

/-- A block accumulator as it leaves the south edge (R109, R111). -/
structure Acc where
  out     : Nat
  block   : Nat
  shift   : Nat
  value   : Int
  q       : Int
  special : Special
  wscale  : Nat
  ascale  : Nat
  /-- Whether either operand block holds an infinite or NaN element (R111: a zero scale). -/
  tainted : Bool
  deriving DecidableEq, Repr

/-- What a stalled sequencer waits for (R86, R193, R194, R199). -/
inductive Stall where
  | exchange
  | queueFull (q : Nat)
  | wait (q : Nat) (t : Nat)
  | fence (q : Nat)
  | stepend
  | unfilled (since lo hi : Nat)
  | serial
  | stale (dest : Nat)
  deriving DecidableEq, Repr

/-- An outstanding entry of a decoupling queue (R192 to R197). -/
structure QEntry where
  ticket  : Nat
  req     : QReq
  attempt : Nat
  status  : Option Status
  /-- Bytes that a drain has taken from the Bench (R192). -/
  data    : List Byte := []
  /-- Place in the order in which the step's requests were issued, over all queues (R200). -/
  order   : Nat := 0
  deriving DecidableEq, Repr

/-- A decoupling queue: entries issued in the step so far, and those whose ticket is not consumed. -/
structure Queue where
  issued  : Nat := 0
  entries : List QEntry := []
  deriving DecidableEq, Repr

/-- A loom, by its logical endpoint. -/
structure LoomSt where
  program  : List U64 := []
  ip       : Nat := 0
  /-- Step the sequencer runs, none between steps, and its attempt tag (R197). -/
  step     : Option Nat := none
  attempt  : Nat := 0
  /-- Fields of the step descriptor (R191). -/
  desc     : List Nat := []
  stall    : Option Stall := none
  fg       : Weights := {}
  bg       : Weights := {}
  bgReady  : Bool := false
  accs     : List Acc := []
  /-- Tensor scale of the weights of the last PASS (R113). -/
  accTs    : Nat := 0x3F800000
  /-- Contents of the Bench, each byte as its difference from what an unlisted address reads. -/
  bench    : List Host.Cell := []
  /-- Losses of Bench contents, newest first: number of the loss, and the ranges that it left alone; an unlisted byte reads zero
  where no loss reached it, else an open value (R168). -/
  void     : List (Nat × List (Nat × Nat)) := []
  losses   : Nat := 0
  /-- Bench lines with fills or writes pending from issued operations, each as queue × 256 + ticket (R199). -/
  pending  : Tab (List Nat) := []
  queues   : Tab Queue := []
  lastHint : Option Nat := none
  /-- Bytes of the operand, partial-sum and Bench-write streams that have landed in their Bench region (R43, R55, R103), modulo the
  region. Log: 109 DESIGN CHOICE. -/
  inPos    : Tab Nat := []
  /-- UNFILLED to STALE_RETURN in the order of R201. -/
  ctr      : Tab Nat := []
  /-- Bench words that do not agree with their odd-parity bit (R134). -/
  badWords : Tab Bool := []
  /-- The resident Bench regions stand in the save extents (R169). -/
  saved    : Bool := false
  deriving DecidableEq, Repr

/-! ### Cellar (R145 to R177) -/

/-- A data write whose parity is not yet acknowledged (R158). -/
structure CWrite where
  id      : Nat
  lt      : Nat
  row     : Nat
  offset  : Nat
  delta   : List Byte
  plot    : Nat
  applied : Bool := false
  /-- Manifest index plus one of the Parcel that it writes; 0 for another write (R158, R306). -/
  parcel  : Nat := 0
  deriving DecidableEq, Repr

/-- How far the units of a member that was lost are restored: the phase (0 weights, 1 other data, 2 parity) and its next row
(R162), and the rows rebuilt on demand (R164). -/
structure Unbuilt where
  phase    : Nat := 0
  next     : Nat := 0
  onDemand : List Nat := []
  done     : Nat := 0
  /-- Engine time at which the promotion ended (E-6202). -/
  since    : Nat := 0
  deriving DecidableEq, Repr

/-- The Cellar, its protection and its rebuilds. -/
structure Cellar where
  /-- Contents: logical tile × 3 GiB + physical offset; zero after cold start (R422, R429). -/
  mem      : List Host.Cell := []
  /-- Poisoned units, by logical tile × 786,432 + stripe row (R152). -/
  poison   : Tab Bool := []
  writes   : List CWrite := []
  nextId   : Nat := 0
  /-- Owner of an extent, by 176 × logical tile + extent: 0 free, 1 + p plot, 17 + p engine for plot p (R160, R169, R431). -/
  owner    : Tab Nat := []
  /-- USE of an owned extent plus one; 5 marks a page-list store, 6 a save extent (R169, R184, R216). -/
  use      : Tab Nat := []
  /-- Erase-pending bits and the plot that held the extent (R421): 1 + p. -/
  erase    : Tab Nat := []
  /-- Members whose units are not all rebuilt. -/
  unbuilt  : Tab (Option Unbuilt) := []
  /-- The member being rebuilt with the engine time its rebuild began, and those that wait (R165). -/
  rebuild  : Option (Nat × Nat) := none
  waiting  : List Nat := []
  /-- Logical numbers that no tile holds any more (R166). -/
  orphans  : List Nat := []
  /-- Next row to refresh of a channel, rows refreshed in the interval, by physical tile × 48 + channel (R148). -/
  refresh  : Tab Nat := []
  /-- Next codeword access to scrub, by physical tile × 48 + channel (R149). -/
  scrub    : Tab Nat := []
  /-- A warm reset cut erasure short: what was pending is erased before any extent is assigned (R422). -/
  eraseFirst : Bool := false
  /-- The last read return: plot tag of the reader, status, data (R151, R152). -/
  returned : Option (Nat × Status × List Byte) := none
  deriving DecidableEq, Repr

/-! ### Plots, steps and the Order Book (R237 to R269) -/

/-- A frame pool of a model slot (R212, R217): the frames that are allocated, and the remote slots in use. -/
structure PoolSt where
  desc   : Pool
  used   : List Nat := []
  remote : List Nat := []
  deriving DecidableEq, Repr

/-- What a plot drains for (R206, R244, R433). -/
inductive Drain where
  | teardown | reload | reset
  deriving DecidableEq, Repr

/-- A plot, beyond its Ledger entries. -/
structure Plot where
  looms     : List Nat := []
  rightsA   : Bool := false
  rightsB   : Bool := false
  rightsM   : Bool := false
  image     : Option Image := none
  /-- The image of a load in progress, the generation of its plan and the requesting port. -/
  loading   : Option (Image × Nat × Port) := none
  drain     : Option Drain := none
  /-- Load to abandon at the end of its phase (R428). -/
  abandon   : Bool := false
  /-- Manifest indices written so far and those read once with a failed check (R306). -/
  written   : List Nat := []
  retried   : List Nat := []
  pools     : List (Nat × PoolSt) := []
  saveExt   : Bool := false
  /-- Ring units that hold a Parcel, by image extent × 4,096 + unit, with the looms that have filled them since (R172). -/
  ring      : Tab (Option (List Nat)) := []
  /-- Parcel keys of the two slots (R416). -/
  keys      : Tab (List Byte) := []
  /-- Engine time at which the plot was last not idle (R345); a trigger has come since it left P0 (R347). -/
  busyAt    : Nat := 0
  wake      : Bool := false
  /-- State before the drain, to which a plot reset returns (R433). -/
  wasCreated : Bool := false
  /-- Attributed power of the last ten samples, newest first, in µW; the gap in µs (R342). -/
  power10   : List Nat := []
  gap       : Nat := 0
  /-- Engine time plus one at which the gap before a model slot's next step ends (R342). -/
  gapEnd    : Tab Nat := []
  /-- Attempt tag of the next step attempt (R197). -/
  nextTag   : Nat := 0
  /-- Steps formed with the image, from which one in 2^n is sampled (R119), and which number its steps (R129). -/
  formed    : Nat := 0
  /-- Result entries discarded at Release (R244). -/
  discarded : Nat := 0
  /-- The last 256 samples of a quality layer: step, sum of squared differences, sum of squares, and whether a value is not finite
  (R124, R125). -/
  quality   : Tab (List (Nat × Nat × Nat × Bool)) := []
  qualityOver : Tab Bool := []
  /-- Ticks at which a step of a model slot was formed (R327). -/
  tickUsed  : Tab Nat := []
  /-- Engine time, drafts proposed and drafts committed of the commits of the last second (A100+p:08). -/
  drafts    : List (Nat × Nat × Nat) := []
  /-- First-token latency bins (A100+p:09). -/
  hist      : Tab Nat := []
  /-- Serving settings of 3400+p in effect since a step formation (R267). -/
  serving   : Tab Nat := []
  deriving DecidableEq, Repr

/-- A request's part in a step. -/
structure StepReq where
  ob       : Nat
  need     : Nat
  drafts   : Nat
  input    : Nat
  deriving DecidableEq, Repr

/-- The life of a step attempt. -/
inductive StepState where
  | running | discarded
  deriving DecidableEq, Repr

/-- A key or value that a step has appended (R218): model slot, layer, request, position, K or V and head, and the writes it took. -/
structure Append where
  mslot    : Nat
  layer    : Nat
  request  : Nat
  position : Nat
  kv       : Nat
  head     : Nat
  ids      : List Nat
  deriving DecidableEq, Repr

/-- A step (R258, R197). -/
structure Step where
  plot     : Nat
  mslot    : Nat
  attempt  : Nat
  reqs     : List StepReq
  /-- Looms that have reached STEPEND in this attempt (R198). -/
  ended    : List Nat := []
  st       : StepState := .running
  /-- Discards for LINK_DOWN, TRUNCATED or NO_SPACE (R196). -/
  discards : Nat := 0
  tick     : Nat := 0
  /-- Whether the step is sampled (R119). -/
  sampled  : Bool := false
  /-- The arithmetic settings of 3200+p with which it runs, by subindex (R114, R130), and its number among the steps of the plot's image
  (R129). -/
  arith    : Tab Nat := []
  number   : Nat := 0
  /-- What the attempt has appended (R220). -/
  appends  : List Append := []
  deriving DecidableEq, Repr

/-- The states of an Order Book entry (R250). -/
inductive ReqState where
  | free | queued | prefill | decode | waitInput | pausedCool | draining | done | cancelled | faulted
  deriving DecidableEq, Repr

/-- Input of an OPEN or APPEND that is not yet consumed (R249, R251, R257): the words left, and whether it belongs to the turn in
progress or waits for the turn's end. -/
structure Input where
  addr     : Nat
  count    : Nat
  deadline : Nat
  tag      : Nat
  at_      : Nat
  joined   : Bool
  append   : Bool
  deriving DecidableEq, Repr

/-- An Order Book entry (R250), and what the Drover keeps with it. -/
structure Ob where
  request    : Nat := 0
  plot       : Nat := 0
  mslot      : Nat := 0
  st         : ReqState := .free
  priority   : Nat := 0
  dropOnMiss : Bool := false
  latClass   : Nat := 0
  depth      : Nat := 0
  interrupt  : Bool := false
  committed  : Nat := 0
  provisional : Nat := 0
  pageHead   : Nat := 0xFFFFFFFF
  qp         : Nat := 0
  deadline   : Nat := 0
  budget     : Nat := 0
  coolDelay  : Nat := 0
  /-- PENDING_TOKEN; none before the first token is sampled or after a turn was abandoned (R253). -/
  pendingTok : Option Nat := none
  /-- INPUT_REMAINING and INPUT_ADDR: the inputs in order. -/
  inputs     : List Input := []
  lastPost   : Nat := 0
  turn       : Nat := 0
  /-- TAG of the submission that started the turn; whether a turn is in progress, has posted a token, has missed. -/
  tag        : Nat := 0
  turnOpen   : Bool := false
  posted     : Bool := false
  missed     : Bool := false
  turnStart  : Nat := 0
  /-- Engine time since when it is in WAIT_INPUT, and order of admission. -/
  since      : Nat := 0
  admitted   : Nat := 0
  /-- Page entries of the main and of the draft list, as words of R215. -/
  main       : Tab Nat := []
  draftList  : Tab Nat := []
  /-- The blocks of the page-list store that hold the two lists, in order (R214). -/
  mainBlocks : List Nat := []
  draftBlocks : List Nat := []
  /-- Pages with a spill or fill transfer in flight, and those whose frame returns when it ends: draft × 2^24 + page. -/
  moving     : List Nat := []
  /-- Remote slot of a page whose spill or fill is on its way, plus one. -/
  remoteOf   : Tab Nat := []
  /-- Failed tries of a page's fill (R232). -/
  tries      : Tab Nat := []
  /-- A fill of the session has been started (R231). -/
  filling    : Bool := false
  /-- Engine time of a HINT that holds off spills (R230). -/
  hintAt     : Option Nat := none
  /-- Engine time plus one by which the acknowledgement of a page's spill is due: the limit of the path that it took (R173). -/
  spillBy    : Tab Nat := []
  step       : Option Nat := none
  final      : Option Status := none
  /-- The FINAL entry has been consumed (R251). -/
  consumed   : Bool := false
  deriving DecidableEq, Repr

/-! ### Queue pairs and host ports (R246 to R248, R262 to R291) -/

/-- A result entry before it is given a PHASE (R262). -/
structure Result where
  request : Nat
  status  : Status
  kind    : Nat
  more    : Bool := false
  turnEnd : Bool := false
  tag     : Nat := 0
  data    : List Nat := []
  length  : Nat := 0
  /-- Order Book entry whose FINAL this is, plus one. -/
  ob      : Nat := 0
  deriving DecidableEq, Repr

/-- QP_STATE (R278). -/
inductive QpState where
  | disabled | active | stopped | error
  deriving DecidableEq, Repr

/-- A queue pair: its context words as the host wrote them, the engine's fields, and its rings as the engine knows them. -/
structure Qp where
  c0      : U64 := 0
  c1      : U64 := 0
  c2      : U64 := 0
  c3      : U64 := 0
  st      : QpState := .disabled
  active  : Port := .a
  sqTail  : Nat := 0
  sqHead  : Nat := 0
  rqTail  : Nat := 0
  rqHead  : Nat := 0
  /-- PHASE of the present lap (R264). -/
  phase   : Bool := true
  /-- Entries written and not yet consumed, by ring index. -/
  ring    : Tab (Option (Result × Bool)) := []
  waiting : List Result := []
  /-- The lost port from which it moved, while its entries are still to be rewritten (R288). -/
  rewrite : Option Port := none
  deriving DecidableEq, Repr

/-- A Ledger mailbox (R280). -/
structure Mailbox where
  request  : List Byte := []
  response : List Byte := []
  busy     : Bool := false
  /-- Order of arrival among the requests that wait in mailboxes (R280, R372). -/
  arrived  : Nat := 0
  lastSeq  : Nat := 0
  newSeq   : Nat := 0
  status   : Nat := 1
  ready    : Bool := false
  deriving DecidableEq, Repr

/-! ### Ethernet and Ferry (R294 to R328) -/

/-- The congestion state of a path (R445): its rate in MB/s as a fraction, none for the rate it has without congestion; engine
time of the last reduction, and of the last mark or recovery. -/
structure PathSt where
  rate  : Option (Nat × Nat) := none
  cutAt : Option Nat := none
  since : Nat := 0
  deriving DecidableEq, Repr

/-- A Ferry port's states (R317). -/
inductive FerryState where
  | down | training | confirm | active
  deriving DecidableEq, Repr

/-- A frame being received (R314, R315). -/
structure Partial where
  bytes    : List Byte := []
  flits    : Nat := 0
  lastAt   : Nat := 0
  active   : Bool := false
  deriving DecidableEq, Repr

/-- A flit of this engine's on its way, and the queue entry it belongs to: loom, ticket and attempt (R192, R313). -/
structure TxFlit where
  flit    : Flit
  loom    : Nat
  ticket  : Nat
  attempt : Nat
  deriving DecidableEq, Repr

/-- A Ferry port. -/
structure Ferry where
  st        : FerryState := .down
  gen       : Nat := 0
  width     : Nat := 0
  lanes     : Nat := 0
  badLanes  : Nat := 0
  /-- Training began at, it is a retrain (R317), and the width may rise at its end (R319). -/
  trainAt   : Nat := 0
  retrain   : Bool := false
  mayRise   : Bool := true
  /-- A request sent and not acknowledged: true for a retrain, false for a width change (R320). -/
  asked     : Option Bool := none
  /-- A retrain of its own, withdrawn for the peer's width change, whose cause still holds (R320). -/
  again     : Bool := false
  /-- The width change in progress: lanes chosen, and whether the peer leads (R319). -/
  change    : Option (Nat × Bool) := none
  txSeq     : Nat := 0
  /-- SEQ of the last flit received in order, and whether a retry of what follows it has been requested (R313). -/
  rxSeq     : Nat := 4095
  retryOut  : Bool := false
  /-- Sent flits not yet acknowledged, oldest first (R313), and resends of the first of them. -/
  replay    : List TxFlit := []
  resends   : Nat := 0
  /-- Flits waiting to be sent, by class; turn in the rotation. -/
  queue     : Tab (List TxFlit) := []
  turn      : Nat := 0
  /-- Flits sent and the peer's freed count, by class, modulo 4,096 (R311). -/
  sent      : Tab Nat := []
  freed     : Tab Nat := []
  /-- Own count of flits freed, by class; class whose count goes next. -/
  own       : Tab Nat := []
  crTurn    : Nat := 0
  parts     : Tab Partial := []
  /-- SRC, as its sender wrote it, of the last frame to each endpoint (R314). -/
  sources   : Tab Nat := []
  /-- Flits of a discarded frame that came after its discard (R315). -/
  late      : Nat := 0
  /-- The eight counters of 5450. -/
  ctr       : Tab Nat := []
  deriving DecidableEq, Repr

/-- The margin sweep that runs (R321). -/
structure Sweep where
  port  : Nat
  lanes : Nat
  far   : Bool
  n     : Nat
  /-- Why it cannot be completed any more: LINK_DOWN or CANCELLED (R322). -/
  why   : Option Status := none
  deriving DecidableEq, Repr

/-! ### Power and cooling (R330 to R365, R447) -/

/-- The power state shared by the Stewards. -/
structure Power where
  /-- engine_cut in mV (R342), samples in a row above the effective cap, samples since it fell, last 100 input powers. -/
  engineCut : Nat := 0
  above     : Nat := 0
  fallFor   : Nat := 0
  last100   : List Nat := []
  /-- The last complete 1 ms input power since Core power (R362), and the sample number. -/
  inputW    : Option Nat := none
  sampleNo  : Nat := 0
  vbus      : Nat := 120000
  auxOk     : Bool := true
  /-- The low-input cap while set, and samples in a row without a duty limit (R362). -/
  lowCap    : Option Nat := none
  rising    : Bool := false
  dutyFree  : Nat := 0
  /-- Histories: newest first, by domain × 112 + place (R337, R338). -/
  hist      : Tab (List Nat) := []
  /-- Pace limit of the paced loom as a percentage of its natural rate (R350), samples since it rose. -/
  pacePct   : Nat := 100
  paceWait  : Nat := 0
  /-- R351: more than one loom was hot in the last sample; samples since then; the cut is in force. -/
  second    : Bool := false
  hotFree   : Nat := 0
  hotCut    : Bool := false
  at95      : Bool := false
  /-- Tray registers (R353). -/
  inlet     : Nat := 0x7FFF
  outlet    : Nat := 0x7FFF
  flow      : Nat := 0xFFFF
  traySeq    : Nat := 0
  /-- The last usable reading: time, inlet in 1/16 °C, flow in 0.01 L/min (R354). -/
  usable    : Option (Nat × Int × Nat) := none
  /-- Cooling limit that waits for COOL_GRACE, engine time of E-4401, last time a condition held, the 2 % rise. -/
  graceFrom : Option Nat := none
  limited   : Bool := false
  badAt     : Nat := 0
  degraded  : Bool := false
  riseFor   : Nat := 0
  /-- An orderly warm shutdown: phase 0 none, 1 stopped, 2 powered down (R363). -/
  shutdown  : Nat := 0
  vcoreOff  : Bool := false
  p4        : Bool := false
  /-- A trigger has come since P4 was entered (R348). -/
  p4wake    : Bool := false
  /-- The engine cap that each Steward, by its quadrant, holds since they last agreed it (R29). Log: 127 DESIGN CHOICE. -/
  stewardCap : Tab Nat := []
  /-- Engine time of the newest sample (R338), and of the last soft start of every regulator (R356). -/
  sampleAt  : Nat := 0
  rampAt    : Option Nat := none
  deriving DecidableEq, Repr

/-! ### Processors, security and start-up -/

/-- The processors and their heartbeats (R402 to R405). -/
structure Procs where
  /-- HEARTBEAT (R276). -/
  heartbeat     : Nat := 0
  reeveBeat     : Nat := 0
  constableBeat : Nat := 0
  droverBeat    : Tab Nat := []
  /-- A takeover runs, or no standby was left (R404, R406); Reeves and Constables lost since the reset. -/
  reeveLost     : Bool := false
  constableLost : Bool := false
  reevesLost     : Nat := 0
  constablesLost : Nat := 0
  droverLost    : Tab Bool := []
  /-- The submission ring from which each Drover fetched last (R247). Log: 125 DESIGN CHOICE. -/
  ringTurn      : Tab Nat := []
  /-- A recovery that changes the map or moves work is running; how many (R397, R405). -/
  running       : Nat := 0
  /-- Tiles that have failed while no Reeve was active, with the cause and whether router and power are sound, oldest first: the
  Tinkers agree a promotion with the active Reeve (R29). -/
  waitFail      : List (Nat × TileCause × Bool) := []
  deriving DecidableEq, Repr

/-- One boot flash slot header (R412); a blank one reads all ones. -/
structure FlashSlot where
  magic  : Nat := 0xFFFFFFFF
  /-- 0xFF blank, 0x7F PROGRAMMING, 0x3F VALID, 0x00 INVALID. -/
  st     : Nat := 0xFF
  seq    : Nat := 0xFFFFFFFF
  fw     : Nat := 0xFFFFFFFF
  svn    : Nat := 0xFFFF
  length : Nat := 0xFFFFFFFF
  digest : List Byte := List.replicate 48 0xFF
  signature : List Byte := List.replicate 96 0xFF
  deriving DecidableEq, Repr

/-- Secure boot and update (R411 to R415). -/
structure Boot where
  slotA    : FlashSlot := {}
  slotB    : FlashSlot := {}
  /-- Running slot: false A, true B (1000:06). -/
  running  : Bool := false
  /-- Consecutive boots of the running slot that did not bring READY (R413). -/
  failures : Nat := 0
  recovery : Bool := false
  /-- The update is fed from a host's memory (8010:02); else offsets of the chunks received through 8010:03, and the header
  bytes among them. -/
  fromHost : Bool := false
  chunks   : List Nat := []
  head     : List Byte := []
  deriving DecidableEq, Repr

/-- Start-up phases (R429, R430). -/
inductive BootPhase where
  | alwaysOn | booting | ready | warm | down
  deriving DecidableEq, Repr

/-- Reset control (R425 to R430). -/
structure Reset where
  phase   : BootPhase := .alwaysOn
  ready   : Bool := false
  cause   : Nat := 0
  armedAt : Option Nat := none
  watch   : Bool := false
  /-- Engine time at which the running boot began (R413). -/
  bootAt  : Nat := 0
  /-- The factory corrections are in place (R434). Log: 131 DESIGN CHOICE. -/
  corrected : Bool := false
  /-- Engine time at which the Bus stage of the cold start ended (R447). -/
  busAt   : Option Nat := none
  /-- Management address and UDP port in use: those of 2200:01 and 2200:02 at the last reset (R385, R394). -/
  address : List Byte := List.replicate 20 0
  udpPort : Nat := 6712
  deriving DecidableEq, Repr

/-- What the factory recorded (R5, R25, R394, R434). -/
structure Factory where
  grade  : Grade
  serial : Nat
  /-- States of the tiles that are not ACTIVE at shipment: 1 RESERVE, 2 RETIRED, 3 ABSENT (R25). -/
  map    : Tab Nat
  /-- Row spares failed at shipment, by tile × 4 + row (R444). -/
  spareBad : Tab Bool := []
  beat   : Nat
  level  : Nat
  deriving DecidableEq, Repr

/-- A generation record (R375). -/
structure GenRec where
  value : List Byte
  valid : Bool
  deriving DecidableEq, Repr

/-- A record of the field defect log (R407). -/
structure DefectRec where
  kind     : Nat
  site     : Nat
  detail   : Nat
  promoted : Nat
  time     : Nat
  mapGen   : Nat
  event    : Nat
  deriving DecidableEq, Repr

/-- A measurement entry (R378, R379). -/
structure Meas where
  seq     : Nat := 0
  value   : List Byte := []
  ready   : Bool := false
  running : Bool := false
  deriving DecidableEq, Repr

/-- An output tile that an Assayer has copied (R118): where and when, the weights of the pass, the activation vector, and the block
accumulators, block partials and outputs of 64 consecutive outputs from `first` on. -/
structure Sample where
  tile    : Nat
  /-- Physical slot, logical loom, and instruction of the PASS. -/
  slot    : Nat
  loom    : Nat
  ip      : Nat
  plot    : Nat
  step    : Nat
  attempt : Nat
  first   : Nat
  w       : Weights
  afmt    : Nat
  acodes  : List Nat
  asf     : Nat
  ascales : List Nat
  accs    : List Acc
  parts   : Option (List Nat) := none
  /-- The engine's FP32 outputs, and the activation tensor scale with which they were formed (R125). -/
  y       : Option (List Nat × Nat) := none
  /-- No later PASS of the loom has come, so that partials and outputs still belong to it. -/
  fresh   : Bool := true
  /-- Output tiles of the step among which it was chosen so far (R119). -/
  seen    : Nat := 1
  /-- Checks still to be made: integrity, quality (3200+p:03); settings of the step: the limit, and whether the commit is held. -/
  forInt  : Bool
  forQual : Bool
  limit   : Nat
  hold    : Bool
  deriving DecidableEq, Repr

/-! ### The whole -/

/-- The state of the engine. -/
structure State where
  /-- Commands that wait, first in, first out. -/
  pending  : List Instr
  /-- The timebase, in ns (R77). DESIGN CHOICE: the counts of the two host dies, which agree within 2 ns, are one count.
  Log: 112 DESIGN CHOICE. -/
  now      : Nat
  bell     : Bell
  /-- Every scalar Ledger entry that has a stored value, by index × 256 + subindex. -/
  led      : Tab Nat
  /-- Every BLOB entry that has a stored value, likewise. -/
  blob     : Tab (List Byte)
  meas     : Tab Meas
  /-- Generation records of persistent entries, likewise (R375). -/
  otp      : Tab (List GenRec)
  defects  : List DefectRec
  factory  : Factory
  ev       : Events
  sessions : Tab (Option Session)
  exchanges : List Exchange
  nextExchange : Nat
  /-- Holder IDs of keys 0 to 2 and 16 to 63 (R282, R283). -/
  keys     : Tab Nat
  sites    : Tab Site
  slots    : Tab SlotSt
  regs     : Tab Reg
  /-- Role epochs, by endpoint code (R49). -/
  epochs   : Tab EpochRec
  fabric   : Fabric
  looms    : Tab LoomSt
  cellar   : Cellar
  plots    : Tab Plot
  steps    : Tab (Option Step)
  nextStep : Nat
  /-- What the Assayers have copied and not yet checked, oldest first (R118). -/
  samples  : List Sample
  ob       : Tab Ob
  nextAdmit : Nat
  qps      : Tab Qp
  /-- Mailboxes, by port × 32 + function (0 physical, v + 1 virtual function v). -/
  mailbox  : Tab Mailbox
  /-- Queue pairs that moved off a lost port, until their entries are rewritten and E-2201 is raised, by lost port (R288). -/
  moved    : Tab Nat
  /-- Latched high words of the identity registers, by (port × 32 + function) × 2 + register (R276). -/
  latch    : Tab (Option Nat)
  paths    : Tab PathSt
  /-- The counters of 5000:21 to 5000:28 that commands raise, by port × 8 + counter. -/
  ethCtr   : Tab Nat
  ferry    : Tab Ferry
  sweep    : Option Sweep
  power    : Power
  procs    : Procs
  boot     : Boot
  rst      : Reset
  /-- Eyes below a minimum, by kind × 2^16 + port × 256 + lane, and engine time since when they are good again (R436). -/
  eyes     : Tab (Option Nat)
  /-- What has left the engine, newest first. -/
  out      : List Out
  /-- Draws of open values so far: the model's own field, no part of the machine. -/
  free     : Nat
  deriving DecidableEq, Repr

/-- A CW3-108E as shipped: T000, T001, T108 and T111 are RESERVE (R25). Log: 7 DESIGN CHOICE. -/
def shipped108 : Factory :=
  { grade := .e108, serial := Config.serial, map := [(0, 1), (1, 1), (108, 1), (111, 1)], beat := Config.beatScreened,
    level := 0x0300 }

/-- Slot A as shipped: VALID, with the factory's firmware. Log: 7 DESIGN CHOICE. -/
def shippedSlot : FlashSlot :=
  { magic := 0x4E424653, st := 0x3F, seq := 1, fw := Config.fwVersion, svn := Config.svn, length := Config.fwLength,
    digest := (List.range 48).map (Config.constableByte 0), signature := (List.range 96).map (Config.constableByte 1) }

/-- The machine when the Always-on phase of a cold start has ended (R425, R429): everything at its default, nothing booted,
RESET_CAUSE 0 (AUX applied). Log: 7 DESIGN CHOICE, 103 DESIGN CHOICE. -/
def State.reset : State :=
  { pending := [], now := 0, bell := {}, led := [], blob := [], meas := [], otp := [], defects := [], factory := shipped108,
    ev := {}, sessions := [], exchanges := [], nextExchange := 0, keys := [], sites := [], slots := [], regs := [],
    epochs := [], fabric := {}, looms := [], cellar := {}, plots := [], steps := [], nextStep := 0, samples := [], ob := [],
    nextAdmit := 0, qps := [], mailbox := [], moved := [], latch := [], paths := [], ethCtr := [], ferry := [], sweep := none, power := {},
    procs := {}, boot := { slotA := shippedSlot }, rst := {},
    eyes := [], out := [], free := 0 }

end Sys2Proof.Machine
end

