-- ==== Sys2Proof/Machine/Bytes.lean ====
section
/-!
DEFINITION. Little-endian values and bit fields of words and byte strings (R91, R367, R381), and saturating counts.
-/

namespace Sys2Proof.Machine

/-- Bits [hi:lo] of a number. -/
def bits (v hi lo : Nat) : Nat := v / 2 ^ lo % 2 ^ (hi + 1 - lo)

/-- One bit of a number. -/
def bit (v i : Nat) : Bool := v / 2 ^ i % 2 == 1

/-- Set or clear one bit of a number. -/
def setBit (v i : Nat) (b : Bool) : Nat :=
  if bit v i then (if b then v else v - 2 ^ i) else (if b then v + 2 ^ i else v)

/-- The number a little-endian byte string holds (R367). -/
def ofLe : List Byte → Nat
  | [] => 0
  | b :: bs => b.toNat + 256 * ofLe bs

/-- The `n` low bytes of a number, least significant first (R367). -/
def toLe : Nat → Nat → List Byte
  | 0, _ => []
  | n + 1, v => BitVec.ofNat 8 v :: toLe n (v / 256)

/-- Bytes `lo` to `lo + n - 1` of a string as one number. -/
def field (bs : List Byte) (lo n : Nat) : Nat := ofLe ((bs.drop lo).take n)

/-- A count that holds at its maximum (R131, R176, R201). -/
def satAdd (width v n : Nat) : Nat := min (v + n) (2 ^ width - 1)

/-- A 16-bit code as a signed number. -/
def int16 (v : Nat) : Int := if v < 32768 then Int.ofNat v else Int.ofNat v - 65536

/-- Bytes of FP32 words, one after another. -/
def wordsLe (n : Nat) : List Nat → List Byte
  | [] => []
  | v :: vs => toLe n v ++ wordsLe n vs

/-- A byte string cut into words of `n` bytes, `k` of them. -/
def splitLe (n : Nat) : Nat → List Byte → List Nat
  | 0, _ => []
  | k + 1, bs => ofLe (bs.take n) :: splitLe n k (bs.drop n)

/-- Byte-wise exclusive or (R155, R158). -/
def xorBytes : List Byte → List Byte → List Byte
  | [], bs => bs
  | as, [] => as
  | a :: as, b :: bs => (a ^^^ b) :: xorBytes as bs

/-- The reflected CRC-32 of IEEE 802.3, one bit (R375). -/
def crcBit (c : Nat) : Nat := if c % 2 = 1 then (c / 2) ^^^ 0xEDB88320 else c / 2

/-- Eight bits of it. -/
def crcByte (c : Nat) (b : Byte) : Nat :=
  crcBit (crcBit (crcBit (crcBit (crcBit (crcBit (crcBit (crcBit (c ^^^ b.toNat))))))))

/-- CRC-32 of a byte string (R375, R407). -/
def crc32 (bs : List Byte) : Nat := (bs.foldl crcByte 0xFFFFFFFF) ^^^ 0xFFFFFFFF

end Sys2Proof.Machine
end

