-- ==== Sys2Proof/Machine/Arith.lean ====
section
/-!
DEFINITION. The arithmetic of looms and Fullers, bit by bit (R87 to R117, R222): format codes, packing, exact accumulation,
FP32 rounding, conversion to narrow formats, the reduction tree. Every rounding is of an exact rational, once.
-/

namespace Sys2Proof.Machine

/-! ### Elements -/

/-- What an operand code denotes, on its format's grid (R89): a signed magnitude in steps of 2^q, or a special value. -/
inductive Elem where
  | num (neg : Bool) (m : Nat)
  | inf (neg : Bool)
  | nan (neg : Bool)
  deriving DecidableEq, Repr

/-- The signed integer k of an element; special values have none and give 0. -/
def Elem.k : Elem → Int
  | .num true m => -(Int.ofNat m)
  | .num false m => Int.ofNat m
  | _ => 0

/-- Whether the element is NaN. -/
def Elem.isNan : Elem → Bool
  | .nan _ => true
  | _ => false

/-- Whether the element is infinite. -/
def Elem.isInf : Elem → Bool
  | .inf _ => true
  | _ => false

/-- Exponent width, mantissa width and bias of a floating format (R95). -/
structure FloatFmt where
  e    : Nat
  m    : Nat
  bias : Nat
  /-- Infinity and NaN as in IEEE 754; otherwise E4M3's one NaN code, or none at all. -/
  ieee : Bool
  nan1 : Bool := false

def e2m1 : FloatFmt := { e := 2, m := 1, bias := 1, ieee := false }
def e4m3 : FloatFmt := { e := 4, m := 3, bias := 7, ieee := false, nan1 := true }
def e5m2 : FloatFmt := { e := 5, m := 2, bias := 15, ieee := true }
def bf16 : FloatFmt := { e := 8, m := 7, bias := 127, ieee := true }
def fp16 : FloatFmt := { e := 5, m := 10, bias := 15, ieee := true }
def fp32 : FloatFmt := { e := 8, m := 23, bias := 127, ieee := true }

/-- The exponent of the smallest non-zero step (R89, R95). -/
def FloatFmt.q (f : FloatFmt) : Int := 1 - Int.ofNat f.bias - Int.ofNat f.m

/-- What a code of a floating format denotes (R95). -/
def FloatFmt.decode (f : FloatFmt) (c : Nat) : Elem :=
  let neg := bit c (f.e + f.m)
  let ef := bits c (f.e + f.m - 1) f.m
  let mf := c % 2 ^ f.m
  if f.ieee && ef == 2 ^ f.e - 1 then (if mf = 0 then .inf neg else .nan neg)
  else if f.nan1 && ef == 2 ^ f.e - 1 && mf == 2 ^ f.m - 1 then .nan neg
  else if ef = 0 then .num neg mf
  else .num neg ((2 ^ f.m + mf) * 2 ^ (ef - 1))

/-- Two's complement of `w` bits (R94). -/
def signed (w c : Nat) : Elem := if bit c (w - 1) then .num true (2 ^ w - c % 2 ^ w) else .num false (c % 2 ^ w)

/-- The floating format of a code, if it is one (R89). -/
def floatOf (fmt : Nat) : Option FloatFmt :=
  if fmt = 5 then some e2m1 else if fmt = 8 then some e4m3 else if fmt = 9 then some e5m2
  else if fmt = 12 then some bf16 else if fmt = 13 then some fp16 else if fmt = 14 then some fp32 else none

/-- Bits of an element (R89). -/
def width (fmt : Nat) : Nat :=
  if fmt ≤ 1 then 2 else if fmt = 2 then 3 else if fmt ≤ 6 then 4 else if fmt ≤ 11 then 8 else if fmt ≤ 13 then 16 else 32

/-- Elements in a 64-bit word (R89, R91, R92). -/
def perWord (fmt : Nat) : Nat := if fmt = 2 then 21 else 64 / width fmt

/-- Words of a scaling block: it begins on a new word (R93). -/
def blockWords (fmt block : Nat) : Nat := (block + perWord fmt - 1) / perWord fmt

/-- Grid exponent q (R89); L4's comes with its codebook. -/
def gridQ (fmt : Nat) : Int :=
  match floatOf fmt with
  | some f => f.q
  | none => 0

/-- What an element code denotes (R94, R95); L4 is looked up in its codebook instead. -/
def decodeElem (fmt c : Nat) : Elem :=
  match floatOf fmt with
  | some f => f.decode c
  | none =>
    if fmt = 0 then (if c % 4 = 1 then .num false 1 else if c % 4 = 3 then .num true 1 else .num false 0)
    else if fmt = 4 ∨ fmt = 6 then .num false (c % 16)
    else signed (width fmt) c

/-- Element i of the words of a block (R91, R92). -/
def elemCode (fmt : Nat) (words : List Nat) (i : Nat) : Nat :=
  bits (words.getD (i / perWord fmt) 0) (width fmt * (i % perWord fmt) + width fmt - 1) (width fmt * (i % perWord fmt))

/-- A block's codes packed into words (R91 to R93). -/
def packWord (w : Nat) : List Nat → Nat
  | [] => 0
  | c :: cs => c % 2 ^ w + 2 ^ w * packWord w cs

/-- The words of a block's codes (R91 to R93), `n` of them. -/
def packWords (fmt : Nat) : Nat → List Nat → List Nat
  | 0, _ => []
  | n + 1, cs => packWord (width fmt) (cs.take (perWord fmt)) :: packWords fmt n (cs.drop (perWord fmt))

/-- A cell operand: codes 0x0 to 0x9, 0xC or 0xD; L4 only as the weight (R90). Log: 37 DEDUCED. -/
def cellOperand (weight : Bool) (fmt : Nat) : Bool :=
  decide (fmt ≤ 9 ∨ fmt = 12 ∨ fmt = 13) && (weight || decide (fmt ≠ 6))

/-! ### Rounding -/

/-- n / d to the nearest integer, ties to even. -/
def rneDiv (n : Int) (d : Nat) : Int :=
  let q := n / Int.ofNat d
  let r := n % Int.ofNat d
  if 2 * r < Int.ofNat d then q
  else if 2 * r > Int.ofNat d then q + 1
  else if q % 2 = 0 then q else q + 1

/-- floor(log2 (n / d)) for positive n and d. -/
def ratLog2 (n d : Nat) : Int :=
  let t : Int := Int.ofNat (Nat.log2 n) - Int.ofNat (Nat.log2 d)
  if 0 ≤ t then (if d * 2 ^ t.toNat ≤ n then t else t - 1)
  else (if d ≤ n * 2 ^ (-t).toNat then t else t - 1)

/-- |n| / d · 2^e on the grid of a floating format taken without bound: the integer and its grid exponent (R104, R112). -/
def onGrid (f : FloatFmt) (n d : Nat) (e : Int) : Nat × Int :=
  if n = 0 then (0, f.q)
  else
    let g := max (ratLog2 n d + e - Int.ofNat f.m) f.q
    if g ≤ e then ((rneDiv (Int.ofNat (n * 2 ^ (e - g).toNat)) d).toNat, g)
    else ((rneDiv (Int.ofNat n) (d * 2 ^ (g - e).toNat)).toNat, g)

/-- The code of k · 2^g, where k < 2^(m+1) or is 2^(m+1): exponent and mantissa run on from one another. -/
def FloatFmt.encode (f : FloatFmt) (neg : Bool) (k : Nat) (g : Int) : Nat :=
  (if neg then 2 ^ (f.e + f.m) else 0) + (g - f.q).toNat * 2 ^ f.m + k

/-- The code of infinity in an IEEE format. -/
def FloatFmt.infCode (f : FloatFmt) (neg : Bool) : Nat := (if neg then 2 ^ (f.e + f.m) else 0) + (2 ^ f.e - 1) * 2 ^ f.m

/-- Round ±|n| / d · 2^e to an IEEE format: beyond the range it is infinity, below the normals a subnormal (R112).
Log: 17 DEDUCED. -/
def FloatFmt.round (f : FloatFmt) (neg : Bool) (n d : Nat) (e : Int) : Nat :=
  let kg := onGrid f n d e
  let c := f.encode false kg.1 kg.2
  if (2 ^ f.e - 1) * 2 ^ f.m ≤ c then f.infCode neg else f.encode neg kg.1 kg.2

/-- The canonical NaN of FP32 (R106). -/
def qnan : Nat := 0x7FC00000

/-- Round an exact signed value k · 2^e to FP32; `zneg` is the sign an exact zero takes. -/
def roundF32 (k : Int) (e : Int) (zneg : Bool) : Nat :=
  fp32.round (if k = 0 then zneg else decide (k < 0)) k.natAbs 1 e

/-- A ratio of two natural numbers as FP32 (R367), the nearest; zero over zero reads 0. -/
def f32Ratio (n d : Nat) : Nat := if n = 0 then 0 else fp32.round false n d 0

/-- A positive normal FP32 code times a natural number, rounded down. -/
def f32Scaled (v k : Nat) : Nat := (2 ^ 23 + v % 2 ^ 23) * k / 2 ^ (150 - v / 2 ^ 23)

/-! ### FP32 operations (R113) -/

def f32neg (a : Nat) : Nat :=
  if (fp32.decode a).isNan then qnan else if 2 ^ 31 ≤ a then a - 2 ^ 31 else a + 2 ^ 31

def f32add (a b : Nat) : Nat :=
  match fp32.decode a, fp32.decode b with
  | .nan _, _ => qnan
  | _, .nan _ => qnan
  | .inf x, .inf y => if x = y then fp32.infCode x else qnan
  | .inf x, .num _ _ => fp32.infCode x
  | .num _ _, .inf y => fp32.infCode y
  | .num x m, .num y n => roundF32 ((Elem.num x m).k + (Elem.num y n).k) fp32.q (x && y)

def f32mul (a b : Nat) : Nat :=
  match fp32.decode a, fp32.decode b with
  | .nan _, _ => qnan
  | _, .nan _ => qnan
  | .inf x, .inf y => fp32.infCode (x != y)
  | .inf x, .num y n => if n = 0 then qnan else fp32.infCode (x != y)
  | .num x m, .inf y => if m = 0 then qnan else fp32.infCode (x != y)
  | .num x m, .num y n => fp32.round (x != y) (m * n) 1 (2 * fp32.q)

def f32div (a b : Nat) : Nat :=
  match fp32.decode a, fp32.decode b with
  | .nan _, _ => qnan
  | _, .nan _ => qnan
  | .inf _, .inf _ => qnan
  | .inf x, .num y _ => fp32.infCode (x != y)
  | .num x _, .inf y => if x != y then 2 ^ 31 else 0
  | .num x m, .num y n =>
    if n = 0 then (if m = 0 then qnan else fp32.infCode (x != y)) else fp32.round (x != y) m n 0

/-- The larger of two; NaN if either is (R106, R222). Log: 17 DEDUCED, 20 DEDUCED. -/
def f32max (a b : Nat) : Nat :=
  match fp32.decode a, fp32.decode b with
  | .nan _, _ => qnan
  | _, .nan _ => qnan
  | .inf x, _ => if x then b else a
  | _, .inf y => if y then a else b
  | .num x m, .num y n => if (Elem.num x m).k < (Elem.num y n).k then b else a

/-- The square root of n / d · 2^e, to nearest, ties to even, as FP32. Log: 19 DEDUCED. -/
def sqrtF32 (n d : Nat) (e : Int) : Nat :=
  if n = 0 then 0
  else
    let half : Int := (ratLog2 n d + e) / 2
    let g := max (half - 23) fp32.q
    let s := e - 2 * g
    let n' := if 0 ≤ s then n * 2 ^ s.toNat else n
    let d' := if 0 ≤ s then d else d * 2 ^ (-s).toNat
    let r := Nat.sqrt (n' / d')
    let up := decide (d' * (2 * r + 1) ^ 2 < 4 * n') || (decide (d' * (2 * r + 1) ^ 2 = 4 * n') && decide (r % 2 = 1))
    let c := fp32.encode false (if up then r + 1 else r) g
    if 255 * 2 ^ 23 ≤ c then fp32.infCode false else c

def f32sqrt (a : Nat) : Nat :=
  match fp32.decode a with
  | .nan _ => qnan
  | .inf x => if x then qnan else fp32.infCode false
  | .num x m => if m = 0 then a else if x then qnan else sqrtF32 m 1 fp32.q

/-- The pairwise tree of R115, one level. -/
def pairUp (op : Nat → Nat → Nat) : List Nat → List Nat
  | a :: b :: t => op a b :: pairUp op t
  | t => t

/-- The pairwise tree of R115: `fuel` levels are enough when it is at least the length. -/
def tree (op : Nat → Nat → Nat) : Nat → List Nat → Nat
  | 0, t => t.headD 0
  | n + 1, t => match t with
    | [] => 0
    | [a] => a
    | t => tree op n (pairUp op t)

/-- Exact-mode reduction (R115). Log: 17 DEDUCED. -/
def exactReduce (t : List Nat) : Nat := tree f32add t.length t

/-! ### Scales (R96, R97) -/

/-- A block scale as mantissa and exponent; none for NaN. `scaleFmt` 0 none, 1 E8M0, 2 UE5M3. -/
def scaleValue (scaleFmt c : Nat) : Option (Nat × Int) :=
  if scaleFmt = 0 then some (1, 0)
  else if c = 0xFF then none
  else if scaleFmt = 1 then some (1, Int.ofNat c - 127)
  else if c / 8 = 0 then some (c % 8, -17)
  else some (8 + c % 8, Int.ofNat (c / 8) - 18)

/-! ### Accumulation within a block (R109 to R112) -/

/-- Bit length of a natural number. -/
def bitLen (n : Nat) : Nat := if n = 0 then 0 else Nat.log2 n + 1

/-- Shift and accumulator of a block from its exact products (R109). -/
def accumulate (ks : List Int) : Nat × Int :=
  let b := bitLen (ks.foldl (fun m k => max m k.natAbs) 0)
  if b ≤ 25 then (0, ks.foldl (· + ·) 0)
  else (b - 25, (ks.map (fun k => rneDiv k (2 ^ (b - 25)))).foldl (· + ·) 0)

/-- One product's special value (R111): NaN, an infinity of a sign, or none. -/
def productSpecial (x y : Elem) : Special :=
  match x, y with
  | .nan _, _ => .nan
  | _, .nan _ => .nan
  | .inf s, .inf t => if s != t then .negInf else .posInf
  | .inf s, .num t m => if m = 0 then .nan else if s != t then .negInf else .posInf
  | .num s m, .inf t => if m = 0 then .nan else if s != t then .negInf else .posInf
  | .num _ _, .num _ _ => .finite

/-- Specials of a block combine: NaN wins, infinities of both signs are NaN (R111). -/
def joinSpecial : Special → Special → Special
  | .finite, b => b
  | a, .finite => a
  | .nan, _ => .nan
  | _, .nan => .nan
  | .posInf, .posInf => .posInf
  | .negInf, .negInf => .negInf
  | _, _ => .nan

/-- A block's shift, accumulator and special from its element pairs (R109, R111). -/
def blockAcc (xs : List (Elem × Elem)) : Nat × Int × Special :=
  let a := accumulate (xs.map (fun p => p.1.k * p.2.k))
  (a.1, a.2, xs.foldl (fun s p => joinSpecial s (productSpecial p.1 p.2)) .finite)

/-- Whether a block holds an infinite or NaN element (R111, a zero scale). -/
def tainted (xs : List (Elem × Elem)) : Bool :=
  xs.any (fun p => p.1.isNan || p.1.isInf || p.2.isNan || p.2.isInf)

/-- The FP32 block partial (R111, R112). -/
def blockPartial (shift : Nat) (acc : Int) (q : Int) (sp : Special) (taint : Bool) (ws as_ : Option (Nat × Int)) : Nat :=
  match ws, as_ with
  | none, _ => qnan
  | _, none => qnan
  | some w, some a =>
    if w.1 * a.1 = 0 then (if taint then qnan else 0)
    else
      match sp with
      | .nan => qnan
      | .posInf => fp32.infCode false
      | .negInf => fp32.infCode true
      | .finite => roundF32 (acc * Int.ofNat (w.1 * a.1)) (Int.ofNat shift + q + w.2 + a.2) false

/-! ### Codebooks (R98, R99) -/

/-- A codebook of BF16 entries on its common grid: grid exponent, integers, and how many entries were NaN or infinite. -/
def normaliseBook (codes : List Nat) : Int × List Int × Nat :=
  let es := codes.map bf16.decode
  let top := es.foldl (fun m e => max m e.k.natAbs) 0
  let bad := (es.filter (fun e => e.isNan || e.isInf)).length
  if top = 0 then (0, es.map (fun _ => 0), bad)
  else
    let l := Nat.log2 top
    (Int.ofNat l + bf16.q - 11, es.map (fun e => rneDiv (e.k * 2 ^ 11) (2 ^ l)), bad)

/-! ### Conversion at the array edge (R104 to R106) -/

/-- emax of a target format (R104). -/
def emaxOf (fmt : Nat) : Int :=
  if fmt ≤ 1 then 0 else if fmt = 2 then 1 else if fmt = 3 then 2 else if fmt = 4 then 3 else if fmt = 5 then 2
  else if fmt = 7 then 6 else if fmt = 8 then 8 else if fmt = 9 then 15 else if fmt = 13 then 15 else 127

/-- max of a target format (R104). -/
def maxOf (fmt : Nat) : Nat :=
  if fmt ≤ 1 then 1 else if fmt = 2 then 3 else if fmt = 3 then 7 else if fmt = 4 then 15 else if fmt = 5 then 6
  else if fmt = 7 then 127 else if fmt = 8 then 448 else if fmt = 9 then 57344 else if fmt = 13 then 65504
  else 255 * 2 ^ 120

/-- Lowest and highest value of an integer format (R87, R104). -/
def intRange (fmt : Nat) : Int × Int :=
  if fmt = 0 then (-1, 1) else if fmt = 1 then (-2, 1) else if fmt = 2 then (-4, 3) else if fmt = 3 then (-8, 7)
  else if fmt = 4 then (0, 15) else (-128, 127)

/-- Largest finite code of a floating target without its sign (R95). -/
def maxCode (f : FloatFmt) : Nat :=
  if f.ieee then (2 ^ f.e - 1) * 2 ^ f.m - 1 else if f.nan1 then 2 ^ (f.e + f.m) - 2 else 2 ^ (f.e + f.m) - 1

/-- The largest finite |x| of a block, in steps of 2^−149 (R104, stage 1). -/
def amax (xs : List Nat) : Nat := xs.foldl (fun m x => max m (fp32.decode x).k.natAbs) 0

/-- The block scale (R104, stage 2). Log: 33 DESIGN CHOICE. -/
def chooseScale (fmt scaleFmt : Nat) (a : Nat) : Nat :=
  if scaleFmt = 1 then
    (if a = 0 then 0x7F
     else (min 127 (max (-127) (Int.ofNat (Nat.log2 a) + fp32.q - emaxOf fmt)) + 127).toNat)
  else if scaleFmt = 2 then
    (if a = 0 then 0
     else ((List.range 0xFF).find? (fun c => match scaleValue 2 c with
        | some (m, e) => decide (a ≤ m * 2 ^ (e - fp32.q).toNat * maxOf fmt)
        | none => false)).getD 0xFE)
  else 0

/-- The code of an integer in an integer format (R94). -/
def intCode (fmt : Nat) (k : Int) : Nat :=
  if 0 ≤ k then k.toNat else (2 ^ width fmt - k.natAbs)

/-- A NaN of the target with a sign (R106). -/
def nanCode (f : FloatFmt) (neg : Bool) : Nat :=
  (if neg then 2 ^ (f.e + f.m) else 0) + (if f.nan1 then 2 ^ (f.e + f.m) - 1 else (2 ^ f.e - 1) * 2 ^ f.m + 2 ^ (f.m - 1))

/-- What one conversion gives: the code, whether it saturated, whether a NaN became 0 (R104, R105). -/
structure Conv where
  code : Nat
  sat  : Bool := false
  nan0 : Bool := false

/-- One FP32 value to a target format, given the product of the scales as ± m · 2^e (R104 stage 3, R105). `up` decides an
inexact magnitude for stochastic rounding (R129); none rounds to nearest with ties to even.
Log: 17 DEDUCED, 21 DEDUCED, 33 DESIGN CHOICE. -/
def convert1 (fmt : Nat) (sneg : Bool) (sm : Nat) (se : Int) (up : Option Nat) (x : Nat) : Conv :=
  let lohi := intRange fmt
  match floatOf fmt, fp32.decode x with
  | some f, .nan s => if f.ieee || f.nan1 then { code := nanCode f s } else { code := 0, nan0 := true }
  | none, .nan _ => { code := 0, nan0 := true }
  | some f, .inf s =>
    if f.ieee then { code := f.infCode s } else { code := (if s then 2 ^ (f.e + f.m) else 0) + maxCode f, sat := true }
  | none, .inf s => { code := intCode fmt (if s then lohi.1 else lohi.2), sat := true }
  | some f, .num s m =>
    let neg := s != sneg
    if m = 0 ∨ sm = 0 then { code := if neg ∧ m = 0 then 2 ^ (f.e + f.m) else 0 }
    else
      let kg := match up with
        | none => onGrid f m sm (fp32.q - se)
        | some u =>
          let e := fp32.q - se
          let g := max (ratLog2 m sm + e - Int.ofNat f.m) f.q
          let n' := if g ≤ e then m * 2 ^ (e - g).toNat else m
          let d' := if g ≤ e then sm else sm * 2 ^ (g - e).toNat
          (if u * d' < (n' % d') * 2 ^ 16 then n' / d' + 1 else n' / d', g)
      let c := f.encode false kg.1 kg.2
      if c ≤ maxCode f then { code := f.encode neg kg.1 kg.2 }
      else { code := (if neg then 2 ^ (f.e + f.m) else 0) + maxCode f, sat := true }
  | none, .num s m =>
    if m = 0 ∨ sm = 0 then { code := 0 }
    else
      let e := fp32.q - se
      let n : Int := if s != sneg then -(Int.ofNat m) else Int.ofNat m
      let k := if 0 ≤ e then rneDiv (n * 2 ^ e.toNat) sm else rneDiv n (sm * 2 ^ (-e).toNat)
      if k < lohi.1 then { code := intCode fmt lohi.1, sat := true }
      else if lohi.2 < k then { code := intCode fmt lohi.2, sat := true }
      else { code := intCode fmt k }

/-- A converted block: scale byte, codes, saturations, NaNs that became 0. -/
structure Block where
  scale : Nat
  codes : List Nat
  sats  : Nat
  nans  : Nat

/-- One FP32 value where the tensor scale is zero, infinite or NaN: R105 still says what a special value becomes, and for any
other R104 states no quotient, so its code is an open one. Log: 33 DESIGN CHOICE. -/
def convertOpen (fmt tscale : Nat) (x : Nat) : Conv :=
  match fp32.decode x with
  | .num _ _ => { code := Config.openQuotient x tscale % 2 ^ width fmt }
  | _ => convert1 fmt false 1 0 none x

/-- One block of FP32 values to a scaled narrow format (R104, R105); `ups` are the values u of R129, if rounding is
stochastic. Log: 21 DEDUCED, 33 DESIGN CHOICE. -/
def convertBlock (fmt scaleFmt tscale : Nat) (ups : Option (Nat → Nat)) (xs : List Nat) : Block :=
  let sc := chooseScale fmt scaleFmt (amax xs)
  let bs := (scaleValue scaleFmt sc).getD (1, 0)
  let ts := fp32.decode tscale
  let cs := xs.zipIdx.map (fun (x, i) => if ts.k = 0 then convertOpen fmt tscale x
    else convert1 fmt (decide (ts.k < 0)) (bs.1 * ts.k.natAbs) (bs.2 + fp32.q) (ups.map (fun u => u i)) x)
  { scale := sc, codes := cs.map Conv.code, sats := (cs.filter Conv.sat).length, nans := (cs.filter Conv.nan0).length }

/-- FP32 to BF16, nearest with ties to even; a NaN keeps its sign (R106, R127). -/
def toBf16 (x : Nat) : Nat :=
  match fp32.decode x with
  | .nan s => nanCode bf16 s
  | .inf s => bf16.infCode s
  | .num s m => bf16.round s m 1 fp32.q

/-- BF16 to FP32: the upper half of the word; a NaN keeps its sign (R106). -/
def ofBf16 (c : Nat) : Nat :=
  match bf16.decode c with
  | .nan s => nanCode fp32 s
  | _ => c * 2 ^ 16

/-- FP16 to FP32, exactly; a NaN keeps its sign (R106). -/
def ofFp16 (c : Nat) : Nat :=
  match fp16.decode c with
  | .nan s => nanCode fp32 s
  | .inf s => fp32.infCode s
  | .num s m => fp32.round s m 1 fp16.q

/-- The pairwise tree of R115 over any values. -/
def pairUpOf {α : Type} (op : α → α → α) : List α → List α
  | a :: b :: t => op a b :: pairUpOf op t
  | t => t

/-- The pairwise tree of R115 over any values: `fuel` levels are enough when it is at least the length. -/
def treeOf {α : Type} (op : α → α → α) (d : α) : Nat → List α → α
  | 0, t => t.headD d
  | n + 1, t => match t with
    | [] => d
    | [a] => a
    | t => treeOf op d n (pairUpOf op t)

/-- A block scale's format by its code (R89): 1 E8M0, 2 UE5M3, 0 where there is no scale; any other code cannot stand there. -/
def scaleCode : Option (BitVec 4) → Option Nat
  | none => some 0
  | some c => if c = 0xA then some 1 else if c = 0xB then some 2 else none

end Sys2Proof.Machine
end

