-- ==== Sys2Proof/Machine/LedgerMap.lean ====
section
/-!
DEFINITION. The Ledger's entry map (R366 to R370, R393, R394 and the tables of the other chapters): which entries exist, their
types, who may do what to them, their defaults and ranges.
-/

namespace Sys2Proof.Machine

/-- The types of entries, by their code (R367). -/
inductive Ty where
  | bool | u8 | u16 | u32 | u64 | i32 | f32 | time64 | enum8 | bits32 | str | blob
  deriving DecidableEq, Repr

/-- The TYPE field of a response (R367). -/
def Ty.code : Ty → Nat
  | .bool => 1 | .u8 => 2 | .u16 => 3 | .u32 => 4 | .u64 => 5 | .i32 => 6 | .f32 => 8 | .time64 => 9 | .enum8 => 10
  | .bits32 => 11 | .str => 12 | .blob => 13

/-- The size of a scalar type in bytes (R367); 0 for STR and BLOB. -/
def Ty.size : Ty → Nat
  | .bool => 1 | .u8 => 1 | .u16 => 2 | .u32 => 4 | .u64 => 8 | .i32 => 4 | .f32 => 4 | .time64 => 8 | .enum8 => 1
  | .bits32 => 4 | .str => 0 | .blob => 0

/-- The access codes (R370). -/
inductive Acc1 where
  | ro | rw | wo | rwp | no
  deriving DecidableEq, Repr

/-- One row of the entry map: indexes `base` to `base + span − 1`, subindexes `lo` to `hi`. -/
structure Row where
  base : Nat
  span : Nat
  lo   : Nat
  hi   : Nat
  ty   : Ty
  /-- Access of host A and host B, and of the management network. -/
  host : Acc1
  mgmt : Acc1
  /-- Length of a BLOB; 0 where the contents give it. -/
  len  : Nat := 0
  /-- A write needs the plot's configuration rights (R238). -/
  rights : Bool := false
  /-- Named keys a write needs: PLOT, PERSIST, POWER (R286). -/
  plotKey : Bool := false
  persistKey : Bool := false
  powerKey : Bool := false
  /-- A measurement entry (R378). -/
  meas : Bool := false
  deriving DecidableEq, Repr

/-- A read-only scalar row. -/
def roRow (base span lo hi : Nat) (ty : Ty) : Row := { base, span, lo, hi, ty, host := .ro, mgmt := .ro }

/-- A read-only measurement row. -/
def msRow (base span lo hi : Nat) (ty : Ty) (len : Nat := 0) : Row :=
  { base, span, lo, hi, ty, host := .ro, mgmt := .ro, len, meas := true }

/-- A read-only BLOB. -/
def blRow (base span lo hi len : Nat) : Row := { base, span, lo, hi, ty := .blob, host := .ro, mgmt := .ro, len }

/-- A writable row that needs the plot's rights. -/
def rgRow (base span lo hi : Nat) (ty : Ty) (len : Nat := 0) : Row :=
  { base, span, lo, hi, ty, host := .rw, mgmt := .rw, len, rights := true }

/-- A write-only BLOB. -/
def woRow (base span lo hi len : Nat) : Row := { base, span, lo, hi, ty := .blob, host := .wo, mgmt := .wo, len }

/-- A persistent row; every WRITE_PERSIST needs the PERSIST key (R376). -/
def rpRow (base sub : Nat) (ty : Ty) (len : Nat := 0) : Row :=
  { base, span := 1, lo := sub, hi := sub, ty, host := .rwp, mgmt := .rwp, len, persistKey := true }

/-- Areas 1 and 2 (R394, R207, R292). -/
def rows12 : List Row :=
  [ roRow 0x1000 1 1 2 .str, roRow 0x1000 1 3 3 .u64, roRow 0x1000 1 4 4 .enum8, roRow 0x1000 1 5 5 .u32,
    roRow 0x1000 1 6 6 .enum8, roRow 0x1000 1 0x10 0x10 .u16, roRow 0x1000 1 0x11 0x11 .u32, rpRow 0x1000 0x12 .u16,
    roRow 0x1000 1 0x13 0x13 .u16,
    roRow 0x2000 1 1 1 .enum8, roRow 0x2000 1 2 3 .u32, roRow 0x2000 1 0x11 0x11 .enum8, roRow 0x2000 1 0x12 0x13 .u32,
    roRow 0x2000 1 0x20 0x21 .u32, blRow 0x2100 1 1 1 128,
    { base := 0x2100, span := 1, lo := 2, hi := 2, ty := .u8, host := .no, mgmt := .wo }, roRow 0x2100 1 3 4 .u32,
    rpRow 0x2200 1 .blob 20, rpRow 0x2200 2 .u16,
    { base := 0x2200, span := 1, lo := 3, hi := 3, ty := .u32, host := .ro, mgmt := .rw }, roRow 0x2200 1 4 4 .u8,
    blRow 0x2200 1 5 5 512, roRow 0x2200 1 6 7 .u32, roRow 0x2200 1 8 8 .bits32 ]

/-- Area 3 (R266, R207, R130, R267). -/
def rows3 : List Row :=
  [ roRow 0x3000 16 1 1 .enum8, roRow 0x3000 16 2 2 .bits32, roRow 0x3000 16 3 3 .u16, roRow 0x3000 16 4 4 .u32,
    { rgRow 0x3000 16 5 5 .u32 with plotKey := true }, { rgRow 0x3000 16 6 7 .u16 with plotKey := true },
    { rgRow 0x3000 16 8 8 .u32 with plotKey := true }, { rgRow 0x3000 16 9 0xA .u8 with plotKey := true },
    roRow 0x3000 16 0xB 0xB .u8, roRow 0x3000 16 0xC 0xC .u32, { woRow 0x3000 16 0x10 0x10 296 with plotKey := true },
    { base := 0x3000, span := 16, lo := 0x11, hi := 0x11, ty := .u8, host := .wo, mgmt := .wo, rights := true,
      plotKey := true },
    blRow 0x3000 16 0x12 0x12 270, roRow 0x3010 1 1 1 .bits32, roRow 0x3010 1 2 2 .u32, roRow 0x3010 1 3 3 .u16,
    roRow 0x3100 16 1 1 .u32, roRow 0x3100 16 2 2 .u64, roRow 0x3100 16 3 3 .enum8, roRow 0x3100 16 4 5 .u32,
    { woRow 0x3100 16 0x10 0x10 32 with rights := true },
    rgRow 0x3200 16 1 1 .bool, rgRow 0x3200 16 2 2 .u8, rgRow 0x3200 16 3 3 .enum8, rgRow 0x3200 16 4 4 .f32,
    rgRow 0x3200 16 5 5 .bool, rgRow 0x3200 16 6 6 .u32, rgRow 0x3200 16 7 8 .enum8,
    roRow 0x3300 16 1 8 .u64, roRow 0x3300 16 9 0xA .u32, roRow 0x3300 16 0xB 0xC .u64, blRow 0x3300 16 0x10 0x10 0,
    rgRow 0x3400 16 1 0x12 .u32, rgRow 0x3400 16 0x13 0x13 .u8, rgRow 0x3400 16 0x14 0x14 .u32 ]

/-- Area 4 (R61, R364). -/
def rows4 : List Row :=
  [ { base := 0x4000, span := 1, lo := 1, hi := 1, ty := .u32, host := .rw, mgmt := .rw, powerKey := true },
    { rpRow 0x4000 2 .u32 with powerKey := true }, roRow 0x4000 1 3 3 .u32, msRow 0x4000 1 4 5 .f32,
    { base := 0x4000, span := 1, lo := 6, hi := 6, ty := .f32, host := .rw, mgmt := .rw, powerKey := true },
    { base := 0x4000, span := 1, lo := 7, hi := 7, ty := .u32, host := .rw, mgmt := .rw, powerKey := true },
    roRow 0x4000 1 8 8 .enum8, roRow 0x4000 1 9 9 .bits32, roRow 0x4000 1 0xA 0xB .u64, msRow 0x4000 1 0xC 0xE .f32,
    msRow 0x4010 1 1 1 .f32, roRow 0x4010 1 2 2 .f32, rpRow 0x4010 3 .f32, roRow 0x4010 1 4 4 .u32,
    roRow 0x4010 1 5 5 .u64, msRow 0x4011 1 1 0x70 .f32,
    roRow 0x4020 1 1 0x70 .u64, roRow 0x4021 1 1 0x70 .u64, roRow 0x4022 1 1 0x18 .u64,
    blRow 0x4030 1 1 0x70 8008, blRow 0x4031 1 1 0x70 8008, blRow 0x4032 1 1 0x18 8008,
    { base := 0x4040, span := 1, lo := 1, hi := 1, ty := .f32, host := .rw, mgmt := .rw, powerKey := true },
    msRow 0x4040 1 2 2 .f32, roRow 0x4040 1 3 3 .u32, roRow 0x4040 1 4 4 .u32, roRow 0x4040 1 5 5 .f32,
    roRow 0x4041 1 1 0x70 .f32, msRow 0x4050 1 1 3 .f32, roRow 0x4050 1 4 4 .enum8, roRow 0x4050 1 5 5 .u32,
    { base := 0x4050, span := 1, lo := 6, hi := 6, ty := .u32, host := .rw, mgmt := .rw, powerKey := true },
    roRow 0x4060 1 1 0x70 .u32, rgRow 0x4200 16 1 1 .u32, roRow 0x4200 16 2 2 .enum8, msRow 0x4200 16 3 3 .f32,
    roRow 0x4200 16 4 4 .u32, roRow 0x4200 16 5 6 .u64 ]

/-- Area 5 (R328, R83). Rights on 5000, 5410, 5420, 5430 and 5440 depend on owners and are checked apart. -/
def rows5 : List Row :=
  [ { base := 0x5000, span := 1, lo := 1, hi := 8, ty := .enum8, host := .rw, mgmt := .rw }, roRow 0x5000 1 0x11 0x18 .enum8,
    blRow 0x5000 1 0x21 0x28 64, roRow 0x5000 1 0x30 0x30 .u32,
    { base := 0x5000, span := 1, lo := 0x41, hi := 0x48, ty := .u32, host := .rw, mgmt := .rw },
    { base := 0x5000, span := 1, lo := 0x50, hi := 0x50, ty := .blob, host := .rw, mgmt := .rw, len := 12 },
    rgRow 0x5100 16 1 0x10 .blob 64, roRow 0x5100 16 0x11 0x12 .u32, roRow 0x5100 16 0x13 0x13 .u64,
    roRow 0x5400 1 1 0x24 .u32, { base := 0x5410, span := 1, lo := 1, hi := 0x24, ty := .u32, host := .rw, mgmt := .rw },
    { base := 0x5420, span := 1, lo := 1, hi := 0x24, ty := .u64, host := .rw, mgmt := .rw },
    { base := 0x5430, span := 1, lo := 1, hi := 0x24, ty := .u8, host := .rw, mgmt := .rw, plotKey := true },
    { base := 0x5440, span := 1, lo := 1, hi := 0x24, ty := .u32, host := .rw, mgmt := .rw },
    blRow 0x5450 1 1 0x24 64, roRow 0x5460 1 1 0x24 .u64, woRow 0x5600 1 1 1 16, roRow 0x5600 1 2 2 .u8,
    msRow 0x5600 1 3 3 .blob, rgRow 0x5700 1 1 0x10 .bool,
    roRow 0x5800 1 1 1 .time64, roRow 0x5800 1 2 2 .enum8,
    { base := 0x5800, span := 1, lo := 3, hi := 3, ty := .u32, host := .rw, mgmt := .rw },
    { base := 0x5800, span := 1, lo := 4, hi := 4, ty := .time64, host := .wo, mgmt := .wo },
    msRow 0x5800 1 5 5 .i32, roRow 0x5800 1 6 6 .u64 ]

/-- Areas 6 and 7 (R176, R235, R394, R28, R207, R423). -/
def rows67 : List Row :=
  [ roRow 0x6000 1 1 3 .u64, roRow 0x6000 1 4 4 .u32, roRow 0x6010 1 1 2 .u64, roRow 0x6010 1 3 5 .u32,
    roRow 0x6010 1 6 6 .time64, roRow 0x6020 1 1 1 .enum8, roRow 0x6020 1 2 2 .u8, msRow 0x6020 1 3 3 .u32,
    roRow 0x6020 1 4 4 .bits32, roRow 0x6030 1 1 0x70 .u8, roRow 0x6100 16 1 1 .enum8, roRow 0x6100 16 2 4 .u16,
    roRow 0x6100 16 5 6 .u32, roRow 0x6200 16 1 0x10 .u32, roRow 0x6200 16 0x11 0x11 .u64, roRow 0x6200 16 0x12 0x12 .u32,
    roRow 0x6200 16 0x13 0x14 .u64, roRow 0x6200 16 0x15 0x15 .u32, roRow 0x6200 16 0x16 0x17 .u64,
    roRow 0x7000 1 1 1 .u32, blRow 0x7000 1 2 2 32768, roRow 0x7000 1 3 3 .u64, roRow 0x7000 1 4 4 .u16,
    blRow 0x7010 1 1 1 8192, roRow 0x7010 1 2 2 .u16, roRow 0x7020 1 1 0x70 .u32, roRow 0x7021 1 1 1 .u32,
    roRow 0x7100 1 1 1 .enum8, roRow 0x7100 1 2 2 .u32, roRow 0x7100 1 3 3 .time64, roRow 0x7100 1 4 4 .u32,
    roRow 0x7110 1 1 2 .enum8, roRow 0x7110 1 3 3 .u32 ]

/-- Areas 8, 9 and A (R423, R72, R131, R435, R268). -/
def rows89 : List Row :=
  [ roRow 0x8000 1 1 1 .enum8, blRow 0x8000 1 2 2 2048, rpRow 0x8000 5 .blob 20, rpRow 0x8000 6 .blob 20,
    roRow 0x8010 1 1 1 .enum8,
    { base := 0x8010, span := 1, lo := 2, hi := 2, ty := .blob, host := .wo, mgmt := .no, len := 16, persistKey := true },
    { woRow 0x8010 1 3 3 1032 with persistKey := true }, blRow 0x8010 1 4 4 64, rpRow 0x8010 5 .u16,
    woRow 0x8020 1 1 1 232, blRow 0x8020 1 2 2 312, rgRow 0x8100 16 1 1 .blob 20,
    { woRow 0x8100 16 2 3 72 with rights := true }, roRow 0x8100 16 4 4 .bits32, blRow 0x8300 1 1 1 2376,
    roRow 0x8300 1 2 2 .u32, roRow 0x8300 1 3 3 .enum8,
    roRow 0x9100 1 1 1 .u8, roRow 0x9100 1 2 3 .u32, roRow 0x9210 1 1 5 .u64, roRow 0x9220 1 1 1 .u64,
    roRow 0x9220 1 2 4 .u32, roRow 0x9300 16 0 0 .u8, msRow 0x9300 16 1 0xFE .f32, msRow 0x9400 1 1 8 .blob 32,
    msRow 0x9410 1 1 0x24 .blob 32, msRow 0x9420 1 1 2 .blob 64,
    { base := 0x9430, span := 1, lo := 1, hi := 2, ty := .u16, host := .ro, mgmt := .rw }, msRow 0x9440 1 1 1 .f32,
    roRow 0x9440 1 2 2 .u32,
    roRow 0xA000 1 1 3 .u64, msRow 0xA000 1 4 4 .u32, roRow 0xA100 16 1 5 .u64, roRow 0xA100 16 6 6 .u32,
    roRow 0xA100 16 7 7 .u64, msRow 0xA100 16 8 8 .f32, msRow 0xA100 16 9 9 .blob 128, msRow 0xA100 16 0xA 0xA .blob 40 ]

/-- Whether a row names an entry. -/
def Row.names (r : Row) (idx sub : Nat) : Bool :=
  decide (r.base ≤ idx) && decide (idx < r.base + r.span) && decide (r.lo ≤ sub) && decide (sub ≤ r.hi)

/-- The rows of the area of an index. -/
def areaRows (idx : Nat) : List Row :=
  if idx < 0x3000 then rows12 else if idx < 0x4000 then rows3 else if idx < 0x5000 then rows4
  else if idx < 0x6000 then rows5 else if idx < 0x8000 then rows67 else rows89

/-- The entry's row, none where the map does not name it (R366). -/
def entry (idx sub : Nat) : Option Row := (areaRows idx).find? (fun r => r.names idx sub)

/-- The key of an entry in the state's tables. -/
def ek (idx sub : Nat) : Nat := idx * 256 + sub

/-- The default of a scalar entry with a stored value; every entry not named here defaults to 0. Log: 103 DESIGN CHOICE. -/
def entryDefault (idx sub : Nat) : Nat :=
  if idx < 0x3000 then
    (if idx = 0x1000 then (if sub = 0x13 then 1 else 0)
     else if idx = 0x2200 then (if sub = 2 then 6712 else if sub = 3 then 30000 else 0) else 0)
  else if idx < 0x4000 then
    (if idx < 0x3010 then (if sub = 9 ∨ sub = 0xA then 0xFF else if sub = 0xB then (idx - 0x3000) % 4 else 0)
     else if 0x3200 ≤ idx ∧ idx < 0x3210 then
       (if sub = 2 then 8 else if sub = 3 then 2 else if sub = 4 then 0x3B800000 else if sub = 7 then 1 else 0)
     else if 0x3400 ≤ idx ∧ idx < 0x3410 then
       (if sub ≤ 0x10 then 20000 else if sub = 0x11 then 2000 else if sub = 0x13 then 8
        else if sub = 0x14 then 1000000 else 0)
     else 0)
  else if idx < 0x5000 then
    (if idx = 0x4000 then (if sub = 1 ∨ sub = 2 then 20000 else if sub = 6 then 0x3F4CCCCD else 0)
     else if idx = 0x4040 then (if sub = 1 then 0x42B40000 else if sub = 4 then 0xFFFFFFFF else 0)
     else if idx = 0x4050 then (if sub = 4 then 2 else if sub = 5 then 15000 else if sub = 6 then 2000 else 0)
     else 0)
  else if idx < 0x6000 then
    (if idx = 0x5000 then (if sub ≤ 8 then 1 else if 0x41 ≤ sub ∧ sub ≤ 0x48 then 10000 else 0)
     else if idx = 0x5410 then 3 else if idx = 0x5430 then 0xFF else if idx = 0x5440 then 10000
     else if idx = 0x5800 ∧ sub = 3 then 100000 else 0)
  else if idx = 0x6020 then (if sub = 2 then 0xFF else 0)
  else if idx = 0x6030 then 64
  else if idx = 0x7021 then 1
  else if idx = 0x8000 then (if sub = 1 then 1 else 0)
  else if idx = 0x9430 then (if sub = 1 then 12 else 120)
  else 0

/-- The default of a BLOB entry with a stored value (R328: all zero except SPILL_LIMIT; R445). Log: 103 DESIGN CHOICE. -/
def blobDefault (idx sub : Nat) : List Byte :=
  if 0x5100 ≤ idx ∧ idx < 0x5110 ∧ 1 ≤ sub ∧ sub ≤ 0x10 then
    List.replicate 36 0 ++ toLe 4 10000 ++ List.replicate 24 0
  else if idx = 0x5000 ∧ sub = 0x50 then toLe 4 0x3F000000 ++ toLe 4 100 ++ toLe 4 100
  else if idx = 0x2200 ∨ idx = 0x8000 ∨ (0x8100 ≤ idx ∧ idx < 0x8110) then List.replicate 20 0
  else []

/-- An FP32 code that is neither NaN nor infinite (R368). -/
def f32Finite (v : Nat) : Bool := bits v 30 23 ≠ 255

/-- Codes of finite FP32 numbers in order: the key rises with the number. Log: 20 DEDUCED. -/
def f32Key (v : Nat) : Int := if bit v 31 then -(Int.ofNat (v % 2 ^ 31)) else Int.ofNat (v % 2 ^ 31)

/-- Whether a finite FP32 code lies between two others. -/
def f32In (v lo hi : Nat) : Bool := decide (f32Key lo ≤ f32Key v) && decide (f32Key v ≤ f32Key hi)

/-- The values a scalar entry accepts beyond its type (R368 and the tables); level and SVN are the unit's own. -/
def rangeOk (level svn : Nat) (idx sub v : Nat) : Bool :=
  if idx = 0x1000 then v = 0 ∨ (0x0300 ≤ v ∧ v ≤ level)
  else if idx = 0x2100 then v ≤ 2 ∨ (16 ≤ v ∧ v ≤ 63)
  else if idx = 0x2200 then (if sub = 2 then 1024 ≤ v else 1000 ≤ v ∧ v ≤ 600000)
  else if 0x3000 ≤ idx ∧ idx < 0x3010 then (if sub = 0x11 then v = 1 ∨ v = 2 else true)
  else if 0x3200 ≤ idx ∧ idx < 0x3210 then
    (if sub = 2 then v ≤ 20 ∨ v = 0xFF else if sub = 3 then v ≤ 2
     else if sub = 4 then 0 < f32Key v else if sub = 7 ∨ sub = 8 then v ≤ 1 else true)
  else if 0x3400 ≤ idx ∧ idx < 0x3410 then (if sub = 0x13 then v ≤ 8 else true)
  else if idx = 0x4000 then
    (if sub = 1 ∨ sub = 2 then 6000 ≤ v ∧ v ≤ 23000 else if sub = 6 then f32In v 0x3F1EB852 0x3F666666 else true)
  else if idx = 0x4010 then v % 2 ^ 31 = 0 ∨ f32In v 0x3F59999A 0x40000000
  else if idx = 0x4040 then f32In v 0x428C0000 0x42B80000
  else if idx = 0x4050 then v ≤ 10000
  else if idx = 0x5000 then (if sub ≤ 8 then v ≤ 11 else true)
  else if idx = 0x5430 then v ≤ 15 ∨ v = 0xFF
  else if idx = 0x5440 then 1 ≤ v ∧ v ≤ 1000000
  else if idx = 0x5800 then (if sub = 3 then v % 40 = 0 ∧ 10000 ≤ v ∧ v ≤ 10000000 else true)
  else if idx = 0x8010 then v ≤ svn
  else if idx = 0x9430 then (if sub = 1 then 4 ≤ v ∧ v ≤ 100 else 50 ≤ v ∧ v ≤ 500)
  else true

/-- The contents a BLOB entry accepts (R394, R445); descriptors with checks of their own are judged by their commands. -/
def blobOk (idx sub : Nat) (b : List Byte) : Bool :=
  if idx = 0x2200 then field b 17 3 = 0
  else if idx = 0x5000 ∧ sub = 0x50 then
    f32Finite (field b 0 4) && f32In (field b 0 4) 0x3DCCCCCD 0x3F666666 && decide (10 ≤ field b 4 4)
      && decide (field b 4 4 ≤ 100000) && decide (10 ≤ field b 8 4) && decide (field b 8 4 ≤ 98000)
  else true

/-- Whether a body has the type, length and range of an entry (R368). -/
def bodyOk (level svn : Nat) (r : Row) (idx sub : Nat) (b : List Byte) : Bool :=
  match r.ty with
  | .blob => decide (b.length = r.len) && blobOk idx sub b
  | .str => decide (b.length ≤ 64)
  | .bool => decide (b.length = 1) && decide (ofLe b ≤ 1)
  | .f32 => decide (b.length = 4) && f32Finite (ofLe b) && rangeOk level svn idx sub (ofLe b)
  | t => decide (b.length = t.size) && rangeOk level svn idx sub (ofLe b)

end Sys2Proof.Machine
end

