-- ==== Sys2Proof/Machine/Ops.lean ====
section
/-!
DEFINITION. The named operations that commands share: Ledger cells, events, keys, rights, sites, epochs. The spec's machine
takes no exceptions; what it reports, it reports as events (R389) and statuses (R15).
-/

namespace Sys2Proof

/-- The number of a host port in a table. -/
def Port.n : Port → Nat
  | .a => 0
  | .b => 1

/-- The other host port. -/
def Port.other : Port → Port
  | .a => .b
  | .b => .a

/-- Logical tiles of a grade (R5). -/
def Grade.tiles : Grade → Nat
  | .e108 => 108
  | .e96 => 96

/-- Key of a slot in tables: tile, row, position. -/
def Slot.n (x : Slot) : Nat := x.tile.val * 24 + x.row.val * 6 + x.pos.val

/-- Slot code as in 9100:02 (R72). -/
def Slot.code (x : Slot) : Nat := x.tile.val + x.row.val * 128 + x.pos.val * 512

/-- Loom index 20 × tile + 5 × row + position (R240). -/
def Loom.n (l : Loom) : Nat := l.tile.val * 20 + l.row.val * 5 + l.pos.val

/-- The physical tile of a slot's table key. -/
def slotTile (n : Nat) : Nat := n / 24

/-- The slot code of a slot's table key (R72). -/
def slotCode (n : Nat) : Nat := n / 24 + n % 24 / 6 * 128 + n % 6 * 512

/-- Index of a function in tables: port × 32, then 0 for the physical function, v + 1 for virtual function v. -/
def Func.n (f : Func) : Nat := f.port.n * 32 + (match f.vf with | none => 0 | some v => v.val + 1)

/-- The codes of R15. -/
def Status.code : Status → Nat
  | .done => 0 | .notReady => 1 | .busy => 2 | .denied => 3 | .badIndex => 4 | .badValue => 5 | .otpExhausted => 6
  | .locked => 7 | .cancelled => 8 | .deadlineMissed => 9 | .faulted => 10 | .epochStale => 11 | .linkDown => 12
  | .truncated => 13 | .integrity => 14 | .noSpace => 15

end Sys2Proof

namespace Sys2Proof.Machine

abbrev Result0 := Host.Outcome State Fault Refusal

/-! ### Ledger cells -/

/-- The stored value of a scalar entry. -/
def State.cell (s : State) (idx sub : Nat) : Nat := Tab.get (entryDefault idx sub) s.led (ek idx sub)

/-- Store a scalar entry. -/
def State.setCell (s : State) (idx sub v : Nat) : State :=
  { s with led := Tab.set (entryDefault idx sub) s.led (ek idx sub) v }

/-- Raise a counter of `w` bits; it holds at its maximum (R131, R176, R235, R268). -/
def State.bump (s : State) (w idx sub n : Nat) : State := s.setCell idx sub (satAdd w (s.cell idx sub) n)

/-- The stored bytes of a BLOB entry. -/
def State.blobAt (s : State) (idx sub : Nat) : List Byte := Tab.get (blobDefault idx sub) s.blob (ek idx sub)

/-- Store a BLOB entry. -/
def State.setBlob (s : State) (idx sub : Nat) (b : List Byte) : State :=
  { s with blob := Tab.set (blobDefault idx sub) s.blob (ek idx sub) b }

/-- A measurement entry (R378). -/
def State.measAt (s : State) (idx sub : Nat) : Meas := Tab.get {} s.meas (ek idx sub)

/-- A measurement entry takes a new value: value and sequence number change together (R378). -/
def State.measure (s : State) (idx sub : Nat) (v : List Byte) : State :=
  let m := s.measAt idx sub
  { s with meas := Tab.set {} s.meas (ek idx sub) { seq := (m.seq + 1) % 2 ^ 32, value := v, ready := true } }

/-- Bytes of a persistent entry: its highest valid record, else its default (R377). -/
def otpValue (recs : List GenRec) (dflt : List Byte) : List Byte :=
  ((recs.filter (fun r => r.valid)).getLast?.map GenRec.value).getD dflt

/-- The default bytes of an RWP entry. -/
def persistDefault (idx sub : Nat) : List Byte :=
  match entry idx sub with
  | some r => if r.ty = .blob then blobDefault idx sub else toLe r.ty.size (entryDefault idx sub)
  | none => []

/-- The value of an RWP entry (R377). -/
def State.persistent (s : State) (idx sub : Nat) : List Byte :=
  otpValue (Tab.get [] s.otp (ek idx sub)) (persistDefault idx sub)

/-- Records spent: the GEN field (R377). -/
def State.gen (s : State) (idx sub : Nat) : Nat := (Tab.get [] s.otp (ek idx sub)).length

/-- What leaves the engine. Log: 102 DESIGN CHOICE. -/
def State.emit (s : State) (o : Out) : State := { s with out := o :: s.out }

/-! ### Events (R389 to R392, R446) -/

/-- Whether a subscription selects an event (R391). -/
def Subscription.wants (b : Subscription) (r : EventRec) : Bool :=
  b.active && bit b.areas (r.ev / 4096) && (if r.plot = 0xFF then b.noPlot else bit b.plots r.plot)

/-- A port's subscription takes a record: the vector is raised at once unless it was raised within 100 µs (R392). -/
def Subscription.take (b : Subscription) (now : Nat) (r : EventRec) : Subscription × Bool :=
  if b.wants r then
    match b.lastIrq with
    | some t => if now < t + 100000 then ({ b with irqDue := true }, false) else ({ b with lastIrq := some now }, true)
    | none => ({ b with lastIrq := some now }, true)
  else (b, false)

/-- A session's subscription takes a record into what it has still to send (R392). -/
def Session.note (x : Session) (r : EventRec) : Session :=
  if x.sub.wants r then { x with sub := { x.sub with unsent := x.sub.unsent ++ [r] } } else x

/-- A port's subscription. -/
def Events.sub (e : Events) (x : Port) : Subscription := Tab.get {} e.port x.n

/-- One port's part of a raise. -/
def raisePort (x : Port) (r : EventRec) (s : State) : State :=
  let t := (s.ev.sub x).take s.now r
  let s' := { s with ev := { s.ev with port := Tab.set {} s.ev.port x.n t.1 } }
  if t.2 then s'.emit (.msix { port := x, vf := none } (s.ev.sub x).vector) else s'

/-- Raise an event: it is entered in the log before it is sent to any subscriber (R390). -/
def State.raise (s : State) (ev plot : Nat) (params : List Nat) : State :=
  let r : EventRec := { seq := s.ev.seq + 1, ev, plot, time := s.now, params }
  let log := s.ev.log ++ [r]
  let s1 := { s with ev := { s.ev with seq := s.ev.seq + 1, log := if 1024 < log.length then log.drop 1 else log },
                     sessions := s.sessions.map (fun p => (p.1, p.2.map (fun x => x.note r))) }
  raisePort .b r (raisePort .a r s1)

/-- Raise an event at most once per period in a scope (R446). -/
def State.raiseLimited (s : State) (ev scope period plot : Nat) (params : List Nat) : State :=
  let k := ev * 2 ^ 40 + scope
  let last := Tab.get 0 s.ev.lastRaise k
  if last ≠ 0 ∧ s.now < last - 1 + period then s
  else { s with ev := { s.ev with lastRaise := Tab.set 0 s.ev.lastRaise k (s.now + 1) } }.raise ev plot params

/-- One second of engine time, in ns. -/
def second : Nat := 1000000000

/-! ### Keys and rights -/

/-- Holder IDs (R283). -/
def holderId : Requester → Nat
  | .host fn => (if fn.port = .a then 0x1000 else 0x2000)
  | .mgmt n => 0x3000 + n.toNat

/-- The holder of a key; keys 3 to 15 are held by the active Reeve for ever (R286). -/
def State.holder (s : State) (k : Nat) : Nat := if 3 ≤ k ∧ k ≤ 15 then 0x4000 else Tab.get 0 s.keys k

/-- Whether a requester holds a named key (R286). -/
def State.holds (s : State) (w : Requester) (k : Nat) : Bool := s.holder k == holderId w

/-- Give a key a holder; keys 3 to 15 never change. -/
def State.setHolder (s : State) (k h : Nat) : State :=
  if 3 ≤ k ∧ k ≤ 15 then s else { s with keys := Tab.set 0 s.keys k h }

/-- Plot record. -/
def State.plot (s : State) (p : Nat) : Plot := Tab.get {} s.plots p

/-- Change a plot record. -/
def State.updPlot (s : State) (p : Nat) (f : Plot → Plot) : State := { s with plots := Tab.upd {} s.plots p f }

/-- PLOT_STATE (3000+p:01): 0 NONE, 1 CREATED, 2 SERVING, 3 DRAINING, 4 ERASING, 5 FAULTED (R266). -/
def State.plotState (s : State) (p : Nat) : Nat := s.cell (0x3000 + p) 1

/-- Whether a plot exists (3010:01). -/
def State.plotExists (s : State) (p : Nat) : Bool := s.plotState p != 0

/-- The plots that exist, ascending. -/
def State.plotsNow (s : State) : List Nat := (List.range 16).filter (fun p => s.plotExists p)

/-- Whether a requester holds a plot's configuration rights: a host's physical function or the management network, as the
create descriptor named them; none in a plot that does not exist (R238, R366). -/
def State.hasRights (s : State) (w : Requester) (p : Nat) : Bool :=
  s.plotExists p && match w with
    | .host { port := .a, vf := none } => (s.plot p).rightsA
    | .host { port := .b, vf := none } => (s.plot p).rightsB
    | .host _ => false
    | .mgmt _ => (s.plot p).rightsM

/-! ### Paths (R297 to R300) -/

/-- Word k of a path descriptor (R297). -/
def pathWord (d : List Byte) (k : Nat) : Nat := field d (8 * k) 8

/-- ENABLE, PORT, USE and RATE of a path descriptor (R297). -/
def pathOn (d : List Byte) : Bool := bit (pathWord d 1) 61
def pathPort (d : List Byte) : Nat := bits (pathWord d 1) 58 56
def pathUse (d : List Byte) : Nat := bits (pathWord d 1) 60 59
def pathRate (d : List Byte) : Nat := bits (pathWord d 4) 15 0

/-- The descriptor of path i of plot p (5100+p:(i + 1)). -/
def State.pathDesc (s : State) (p i : Nat) : List Byte := s.blobAt (0x5100 + p) (i + 1)

/-- Sum of RATE over the enabled USE 0 paths that a test selects, by plot and path. -/
def State.rateSum (s : State) (want : Nat → Nat → Bool) : Nat :=
  ((List.range 16).map (fun p => ((List.range 16).map (fun i =>
    let d := s.pathDesc p i
    if pathOn d && pathUse d == 0 && want p i then pathRate d else 0)).sum)).sum

/-- INBOUND_RESERVED of a plot (5100+p:11, R300). -/
def State.inboundOf (s : State) (p : Nat) : Nat := s.rateSum (fun q _ => q == p)

/-- INBOUND_FREE (5000:30): GB/s of Parcels reserved by no plot. -/
def State.inboundFree (s : State) : Nat := 784 - s.rateSum (fun _ _ => true)

/-! ### Sites, slots, endpoints -/

/-- Rows of the wafer: first tile, sites, first column (R16). -/
def waferRows : List (Nat × Nat × Nat) :=
  [(0, 4, 4), (4, 8, 2), (12, 10, 1), (22, 10, 1), (32, 12, 0), (44, 12, 0), (56, 12, 0), (68, 12, 0), (80, 10, 1),
   (90, 10, 1), (100, 8, 2), (108, 4, 4)]

/-- Row of a physical tile (R16, R17). -/
def rowOf (t : Nat) : Nat := (waferRows.filter (fun r => r.1 ≤ t)).length - 1

/-- Column of a physical tile (R17). -/
def colOf (t : Nat) : Nat :=
  let r := waferRows.getD (rowOf t) (0, 0, 0)
  r.2.2 + (t - r.1)

/-- The physical tile at a row and column, if the wafer has one (R16). -/
def tileAt (y x : Nat) : Option Nat :=
  match waferRows[y]? with
  | some r => if r.2.2 ≤ x ∧ x < r.2.2 + r.2.1 then some (r.1 + (x - r.2.2)) else none
  | none => none

/-- The running record of a physical tile. -/
def State.site (s : State) (t : Nat) : Site := Tab.get {} s.sites t

/-- Change a tile's record. -/
def State.updSite (s : State) (t : Nat) (f : Site → Site) : State := { s with sites := Tab.upd {} s.sites t f }

/-! ### Rails and regulators (R330 to R332) -/

/-- A rail of R330: its nominal voltage and range in 100 µV, and its current limit in A, of the whole engine, a tile or a rim die. -/
structure Rail where
  nominal : Nat
  low     : Nat
  high    : Nat
  limit   : Nat
  deriving DecidableEq, Repr

/-- The six rails (R330). VINT is made from VBUS in the fixed ratio of 8 and shares its limit; VMEM and VIO are fixed. -/
def vbusRail : Rail := { nominal := 120000, low := 114000, high := 126000, limit := 2200 }
def auxRail : Rail := { nominal := 33000, low := 31350, high := 34650, limit := 20 }
def vintRail : Rail := { nominal := 15000, low := 14250, high := 15750, limit := 2200 }
def vcoreRail : Rail := { nominal := 8000, low := 6200, high := 9000, limit := 259 }
def vmemRail : Rail := { nominal := 7500, low := 7500, high := 7500, limit := 60 }
def vioRail : Rail := { nominal := 7500, low := 7500, high := 7500, limit := 90 }

/-- Whether a voltage lies within the range of a rail. -/
def Rail.holds (r : Rail) (v : Nat) : Bool := decide (r.low ≤ v) && decide (v ≤ r.high)

/-- Whether VBUS lies within its range. -/
def Power.vbusIn (x : Power) : Bool := vbusRail.holds x.vbus

/-- The voltage that VINT follows (R330), in 100 µV. -/
def Power.vint (x : Power) : Nat := x.vbus / 8

/-- Sustained and transient limits of the input power in W (R331), and the VCORE current summed over the tiles of a grade, in A. -/
def sustainedLimit : Nat := 23000
def transientLimit : Nat := 26000
def vcoreTotal : Grade → Nat
  | .e108 => 108 * vcoreRail.limit
  | .e96 => 96 * vcoreRail.limit

/-- Key of a regulator site: a tile, or 128 + rim die; the code by which E-4503 and the defect log name it (R407).
Log: 84 DEDUCED. -/
def siteKey : RegSite → Nat
  | .tile t => t.val
  | .rim r => 128 + r.val

/-- A regulator. -/
def State.reg (s : State) (k : Nat) : Reg := Tab.get {} s.regs k

/-- Change a regulator. -/
def State.updReg (s : State) (k : Nat) (f : Reg → Reg) : State := { s with regs := Tab.upd {} s.regs k f }

/-- The physical tile that holds a logical number (R24). -/
def State.physOf (s : State) (lt : Nat) : Option Nat :=
  (s.sites.find? (fun p => p.2.st == .active && p.2.logical == lt)).map Prod.fst

/-- Slot record. -/
def State.slot (s : State) (n : Nat) : SlotSt := Tab.get {} s.slots n

/-- Change a slot record. -/
def State.updSlot (s : State) (n : Nat) (f : SlotSt → SlotSt) : State := { s with slots := Tab.upd {} s.slots n f }

/-- Loom record. -/
def State.loom (s : State) (n : Nat) : LoomSt := Tab.get {} s.looms n

/-- Change a loom record. -/
def State.updLoom (s : State) (n : Nat) (f : LoomSt → LoomSt) : State := { s with looms := Tab.upd {} s.looms n f }

/-- The plot that owns a loom (R237). -/
def State.ownerOf (s : State) (n : Nat) : Option Nat := s.plotsNow.find? (fun p => (s.plot p).looms.contains n)

/-- Endpoint code of a loom's stream: bit 15 zero, tile, row, position, stream (R45). -/
def loomEndpoint (n stream : Nat) : Nat := (n / 20) * 256 + (n % 20 / 5) * 64 + (n % 5) * 8 + stream

/-- The loom that an endpoint code names, if it is a loom endpoint in use (R45). -/
def endpointLoom (e : Nat) : Option Nat :=
  if bit e 15 ∨ 108 ≤ bits e 14 8 ∨ 5 ≤ bits e 5 3 ∨ 4 ≤ bits e 2 0 then none
  else some (bits e 14 8 * 20 + bits e 7 6 * 5 + bits e 5 3)

/-- One millisecond of engine time, in ns. -/
def milli : Nat := 1000000

/-- The next role epoch: after 0xFFFF comes 0x0001, and 0x0000 is never assigned (R49). -/
def nextEpoch (e : Nat) : Nat := if 0xFFFF ≤ e then 1 else e + 1

/-- The role epoch before one. -/
def prevEpoch (e : Nat) : Nat := if e ≤ 1 then 0xFFFF else e - 1

/-- Changes of an epoch that are due later than `now`: they follow each other at 1 ms (R49). -/
def EpochRec.due (r : EpochRec) (now : Nat) : Nat := (r.last - (now + 1) + (milli - 1)) / milli

/-- The epoch at a time: without the changes that are still due. -/
def EpochRec.at (r : EpochRec) (now : Nat) : Nat := (prevEpoch)^[r.due now] r.val

/-- One more change: at once, or 1 ms after the last one (R49). -/
def EpochRec.change (r : EpochRec) (now : Nat) : EpochRec :=
  { val := nextEpoch r.val, last := if r.last = 0 then now + 1 else max (now + 1) (r.last + milli) }

/-- Where the epoch of an endpoint is kept: a loom's four streams share one. -/
def epochKey (e : Nat) : Nat := if bit e 15 then e else e / 8 * 8

/-- The record of an endpoint's role epoch. -/
def State.epochRec (s : State) (e : Nat) : EpochRec := Tab.get {} s.epochs (epochKey e)

/-- Role epoch of an endpoint: 0x0001 at reset exit (R49). -/
def State.epoch (s : State) (e : Nat) : Nat := (s.epochRec e).at s.now

/-- Whether an endpoint's epoch may change at once: it has not changed in the last 1 ms (R49). -/
def State.epochFree (s : State) (e : Nat) : Bool := decide ((s.epochRec e).last = 0 ∨ (s.epochRec e).last + milli ≤ s.now + 1)

/-- ROLE_EPOCH_CHANGE of an endpoint: at once, or, where its epoch changed less than 1 ms ago, 1 ms after that change (R49).
Log: 22 DESIGN CHOICE. -/
def State.newEpoch (s : State) (e : Nat) : State :=
  { s with epochs := Tab.upd {} s.epochs (epochKey e) (fun r => r.change s.now) }

/-- New role epochs of a list of looms (R49). -/
def State.newEpochs (s : State) (ls : List Nat) : State := ls.foldl (fun s n => s.newEpoch (loomEndpoint n 0)) s

/-- The physical slot behind a loom's logical position: the row spare once it has taken the position over (R22). -/
def State.slotOf (s : State) (n : Nat) : Option Nat :=
  (s.physOf (n / 20)).map (fun t =>
    let row := n % 20 / 5
    let pos := n % 5
    t * 24 + row * 6 + (if Tab.get none (s.site t).spareFor row = some pos then 5 else pos))

/-- The logical loom that a physical slot serves, if it serves one (R22, R24). -/
def State.loomAt (s : State) (x : Slot) : Option Nat :=
  let c := s.site x.tile.val
  if c.st ≠ .active then none
  else
    let f := Tab.get none c.spareFor x.row.val
    if x.pos.val = 5 then f.map (fun p => c.logical * 20 + x.row.val * 5 + p)
    else if f = some x.pos.val then none
    else some (c.logical * 20 + x.row.val * 5 + x.pos.val)

/-- A change to the defect map: MAP_GENERATION rises by one (R28). -/
def State.mapChanged (s : State) : State := s.setCell 0x7021 1 ((s.cell 0x7021 1 + 1) % 2 ^ 32)

/-- A defect-map word (R28). -/
def Site.word (c : Site) : Nat :=
  (match c.st with | .active => 0 | .reserve => 1 | .retired => 2 | .absent => 3)
  + (if c.st = .active then c.logical else 0x7F) * 4
  + ((List.range 4).foldl (fun a r => a + (if (Tab.get none c.spareFor r).isSome then 2 ^ (9 + r) else 0)) 0)
  + ((List.range 4).foldl (fun a r => a + (if Tab.get false c.spareBad r then 2 ^ (13 + r) else 0)) 0)

/-- Append a record to the field defect log; when its 256 records are in use the repair is not logged and E-7102 says so
(R407, R409). -/
def State.logDefect (s : State) (kind site detail promoted event : Nat) : State :=
  if 256 ≤ s.defects.length then s.raise 0x7102 0xFF [site, kind]
  else { s with defects := s.defects ++ [{ kind, site, detail, promoted, time := s.now, mapGen := s.cell 0x7021 1, event }] }

/-- Draw a value the spec leaves open: the number of the draw is used up. Log: 19 DEDUCED. -/
def State.draw (s : State) : Nat × State := (Config.freeValue s.free, { s with free := s.free + 1 })

/-- The local queue pair number of path i of plot p (R297). -/
def localQpn (p i : Nat) : Nat := 0x010000 + 16 * p + i

/-- Remote bytes of `n` sealed bytes: each unit of 4,096 travels with its tag of 16 (R308). Log: 132 DESIGN CHOICE. -/
def sealedLen (n : Nat) : Nat := (n + 4095) / 4096 * 4112

/-- Data as it leaves on a path of USE 1 or 2, at an offset of its region (R308): unit by unit, the last one filled up with zeros, each
sealed under the key of the path's slot. Log: 132 DESIGN CHOICE. -/
def State.sealed (s : State) (p i off : Nat) (bs : List Byte) : List Byte :=
  let d := s.pathDesc p i
  let key := Tab.get [] (s.plot p).keys (bits (pathWord d 6) 49 48)
  (List.range ((bs.length + 4095) / 4096)).flatMap (fun k =>
    let u := (bs.drop (4096 * k)).take 4096
    (List.range 4112).map (fun b =>
      Config.sealedByte key i (pathWord d 0 + off + 4112 * k) (u ++ List.replicate (4096 - u.length) 0) b))

/-- Extents of a grade: 176 on each logical tile (R160). -/
def State.extents (s : State) : Nat := 176 * s.factory.grade.tiles

/-- Whether an extent is free to be assigned: nobody owns it, it is not pending erasure, and its logical tile is held by a
tile (R160, R166, R421). -/
def State.extentFree (s : State) (x : Nat) : Bool :=
  decide (x < s.extents) && Tab.get 0 s.cellar.owner x == 0 && Tab.get 0 s.cellar.erase x == 0
    && !s.cellar.orphans.contains (x / 176)

/-- FREE_EXTENTS (6000:04): total less those owned, pending or on an unassigned logical tile. -/
def State.freeExtents (s : State) : Nat :=
  let gone := (s.cellar.owner.map Prod.fst ++ s.cellar.erase.map Prod.fst).dedup.filter
    (fun x => decide (x < s.extents) && !s.cellar.orphans.contains (x / 176))
  s.extents - 176 * (s.cellar.orphans.filter (fun t => t < s.factory.grade.tiles)).length - gone.length

/-- Extents a plot owns (6100+p:05), ascending. -/
def State.plotExtents (s : State) (p : Nat) : List Nat := (s.cellar.owner.filter (fun x => x.2 == 1 + p)).map Prod.fst

/-- Extents the engine owns for a plot: save extents and engine copies (R169, R431). -/
def State.engineExtents (s : State) (p : Nat) : List Nat := (s.cellar.owner.filter (fun x => x.2 == 17 + p)).map Prod.fst

/-- The compatibility level in force: the pinned one when the engine is pinned (R178). -/
def State.level (s : State) : Nat :=
  let v := ofLe (s.persistent 0x1000 0x12)
  if v = 0 then s.factory.level else v

/-- CLASS_WORD (R178). -/
def State.classWord (s : State) : Nat :=
  (match s.factory.grade with | .e108 => 0x016C0000 | .e96 => 0x02600000) + s.level

/-- The running security version (R411, R423). -/
def State.slotRunning (s : State) : FlashSlot := if s.boot.running then s.boot.slotB else s.boot.slotA

/-- OB_FREE, QP_FREE (R266): what is in no quota. -/
def State.obFree (s : State) : Nat := 65536 - (s.plotsNow.map (fun p => s.cell (0x3000 + p) 5)).sum
def State.qpFree (s : State) : Nat := 16384 - (s.plotsNow.map (fun p => s.cell (0x3000 + p) 7)).sum

/-- The effective cap (R339): the least of CAP, the cooling limit and the low-input cap. -/
def State.effectiveCap (s : State) : Nat :=
  let c := min (s.cell 0x4000 1) (s.cell 0x4050 5)
  match s.power.lowCap with
  | some l => min c l
  | none => c

/-- Sum of POWER_SHARE over existing plots (R340). -/
def State.shareSum (s : State) : Nat := (s.plotsNow.map (fun p => s.cell (0x3000 + p) 8)).sum

/-- Effective share of a plot (R341): every share scaled by one factor when the effective cap is below their sum.
Log: 45 DEDUCED. -/
def State.effectiveShare (s : State) (p : Nat) : Nat :=
  let w := s.cell (0x3000 + p) 8
  if s.shareSum ≤ s.effectiveCap then w else w * s.effectiveCap / s.shareSum

end Sys2Proof.Machine
end

