-- ==== Sys2Proof/Machine/Serve.lean ====
section
/-!
DEFINITION. How the active Reeve serves a Ledger request: which requests it accepts, the order of its checks (R371), the
response and where it goes (R280, R381, R384, R386, R388).
-/

namespace Sys2Proof.Machine

/-- The Ledger's commands (R382). -/
inductive Cmd where
  | read | write | persist | blockRead | subscribe | keyTake | keyGive | closeSession
  deriving DecidableEq, Repr

/-- Command codes (R382). -/
def Cmd.code : Cmd → Nat
  | .read => 1 | .write => 2 | .persist => 3 | .blockRead => 4 | .subscribe => 5 | .keyTake => 6 | .keyGive => 7
  | .closeSession => 8

/-- A request beyond its sender: command, entry, FLAGS, ARG, SESSION and body (R381, R382). -/
structure Req where
  cmd  : Cmd
  idx  : Nat := 0
  sub  : Nat := 0
  flags : Nat := 0
  arg  : Nat := 0
  sess : Nat := 0
  body : List Byte := []
  deriving DecidableEq, Repr

/-- The bytes of a request frame as a mailbox carries it (R381): COUNTER is zero there. Log: 12 DESIGN CHOICE. -/
def Req.bytes (r : Req) (tag : Nat) : List Byte :=
  toLe 2 0x474C ++ toLe 1 1 ++ toLe 1 r.cmd.code ++ toLe 2 r.body.length ++ toLe 2 tag ++ toLe 1 r.sess ++ toLe 1 r.flags
    ++ toLe 2 r.idx ++ toLe 1 r.sub ++ toLe 3 0 ++ toLe 4 0 ++ toLe 4 r.arg ++ r.body

/-- The bytes of a response frame (R381): TAG, COMMAND, INDEX and SUBINDEX of the request (R384).
Log: 12 DESIGN CHOICE, 51 DEDUCED. -/
def frameBytes (cmd tag idx sub : Nat) (r : Reply) : List Byte :=
  toLe 2 0x474C ++ toLe 1 1 ++ toLe 1 cmd ++ toLe 2 r.body.length ++ toLe 2 tag ++ toLe 2 0 ++ toLe 2 idx ++ toLe 1 sub
    ++ toLe 1 r.status.code ++ toLe 1 r.type ++ toLe 1 r.gen ++ toLe 4 0 ++ toLe 4 r.seq ++ r.body

/-- A mailbox. -/
def State.box (s : State) (fn : Func) : Mailbox := Tab.get {} s.mailbox fn.n

/-- Change a mailbox. -/
def State.updBox (s : State) (fn : Func) (g : Mailbox → Mailbox) : State :=
  { s with mailbox := Tab.upd {} s.mailbox fn.n g }

/-- A session. -/
def State.session (s : State) (n : Nat) : Option Session := Tab.get none s.sessions n

/-- Change a session, if it exists. -/
def State.updSession (s : State) (n : Nat) (g : Session → Session) : State :=
  { s with sessions := Tab.upd none s.sessions n (Option.map g) }

/-- The response stands in a mailbox (R280). -/
def Mailbox.respond (m : Mailbox) (cmd tag idx sub : Nat) (r : Reply) : Mailbox :=
  { m with response := frameBytes cmd tag idx sub r, busy := false, lastSeq := m.newSeq, status := r.status.code, ready := true }

/-- Exactly one response to a request (R384): through the mailbox it came by (R280), or on the session, which keeps it for a
repeat (R388). -/
def State.answer (s : State) (f : Sender) (q : Req) (r : Reply) : State :=
  let s1 := s.emit (.reply f.who f.tag.toNat r)
  match f.who with
  | .host fn => s1.updBox fn (fun m => m.respond q.cmd.code f.tag.toNat q.idx q.sub r)
  | .mgmt n => s1.updSession n.toNat (fun x =>
      { x with prev := some (f.tag.toNat, q.cmd.code, q.idx, q.sub), kept := some r, txCounter := x.txCounter + 1 })

/-- Whether the Ledger takes requests at all: after boot has completed (R276), or in recovery (R413).
Log: 12 DESIGN CHOICE, 63 DEDUCED. -/
def State.serving (s : State) : Bool := s.rst.ready || s.boot.recovery

/-- Whether an entry is answered: in recovery, only area 1000 and the entries of 8010 (R413). Log: 14 DEDUCED. -/
def State.accepts (s : State) (idx : Nat) : Bool := s.rst.ready || idx == 0x1000 || idx == 0x8010

/-- A request frame without what its command does not look at: NEWER but for READ, and ARG but for its bits in use (R382).
Log: 53 DEDUCED. -/
def usedBytes (cmd : Cmd) (b : List Byte) : List Byte :=
  let flags := if cmd = .read then field b 9 1 else 0
  let arg := match cmd with
    | .read => field b 20 4
    | .blockRead => field b 20 4
    | .subscribe => field b 20 4
    | .keyTake => field b 20 4 % 64
    | .keyGive => field b 20 4 % 64
    | _ => 0
  b.take 9 ++ toLe 1 flags ++ (b.drop 10).take 10 ++ toLe 4 arg ++ b.drop 24

/-- The number of the next request to arrive in a mailbox (R280). -/
def State.arrival (s : State) : Nat := s.mailbox.foldl (fun n e => if e.2.busy then max n (e.2.arrived + 1) else n) 0

/-- Whether a request is the next to be served (R280, R372): a host's stands in its mailbox, accepted and not yet answered, and arrived
before every other that waits in one; a management request is its own frame, and arrives after those that wait. Log: 12 DESIGN CHOICE. -/
def State.submitted (s : State) (f : Sender) (q : Req) : Bool :=
  match f.who with
  | .host fn => (s.box fn).busy && usedBytes q.cmd (s.box fn).request == usedBytes q.cmd (q.bytes f.tag.toNat)
      && s.mailbox.all (fun e => !e.2.busy || decide ((s.box fn).arrived ≤ e.2.arrived))
  | .mgmt _ => s.mailbox.all (fun e => !e.2.busy)

/-- What session 0x00 accepts: the two requests that open a session, and READs of area 1000 (R417).
Log: 12 DESIGN CHOICE, 14 DEDUCED, 16 DESIGN CHOICE. -/
def opening (q : Req) : Bool :=
  (q.cmd == .write && q.idx == 0x8020 && q.sub == 1) || (q.cmd == .read && (q.idx == 0x1000 || (q.idx == 0x8020 && q.sub == 2)))

/-- A frame that fails check 1 is dropped without a response, and counted (R386). Log: 14 DEDUCED. -/
def State.dropFrame (s : State) (sub : Nat) : State :=
  let s1 := s.bump 32 0x2200 sub 1
  s1.raiseLimited 0x2303 0 second 0xFF [s1.cell 0x2200 6, s1.cell 0x2200 7]

/-- Largest body that a path carries (R383). -/
def bodyLimit : Requester → Nat
  | .host _ => 4072
  | .mgmt _ => 1432

/-- Serve one request: check 1 of R371, the repeat of R388, the length (R383), recovery (R413), then `act`. While a Reeve takeover runs a request
waits (R398, R404): the command does nothing. Log: 13 DEDUCED, 52 DESIGN CHOICE, 63 DEDUCED. -/
def State.serve (s : State) (f : Sender) (q : Req) (act : State → State × Reply) : State :=
  let run := fun (s : State) =>
    let a := if bodyLimit f.who < q.body.length then (s, { status := .badValue, gen := s.gen q.idx q.sub })
      else if s.accepts q.idx then act s else (s, { status := .denied, gen := s.gen q.idx q.sub })
    a.1.answer f q a.2
  if s.serving = false ∨ s.procs.reeveLost ∨ s.submitted f q = false then s
  else match f.who with
    | .host _ => run s
    | .mgmt n =>
      if n = 0 then
        (if f.authentic = false then s.dropFrame 6
         else if opening q then run s
         else s.answer f q { status := .denied })
      else match s.session n.toNat with
      | none => s.dropFrame 6
      | some x =>
        if x.via.isSome ∨ f.authentic = false then s.dropFrame 6
        else if f.counter.toNat ≤ x.rxCounter then s.dropFrame 7
        else
          let s1 := s.updSession n.toNat (fun x => { x with rxCounter := f.counter.toNat, lastRx := s.now })
          if x.prev = some (f.tag.toNat, q.cmd.code, q.idx, q.sub) then
            match x.kept with
            | some r => (s1.emit (.reply f.who f.tag.toNat r)).updSession n.toNat
                (fun x => { x with txCounter := x.txCounter + 1 })
            | none => s1
          else run s1

/-- The plot that a virtual function belongs to (R274). -/
def State.vfPlot (s : State) (x : Port) (v : Nat) : Option Nat :=
  s.plotsNow.find? (fun p => s.cell (0x3000 + p) (if x = .a then 9 else 0xA) == v)

/-- Whether a class may use a command on an entry (R281, R370). -/
def State.classOk (s : State) (w : Requester) (cmd : Cmd) (r : Row) (idx : Nat) : Bool :=
  let a := match w with | .host _ => r.host | .mgmt _ => r.mgmt
  let byCode := match cmd with
    | .read => a == .ro || a == .rw || a == .rwp
    | .blockRead => a == .ro || a == .rw || a == .rwp
    | .write => a == .rw || a == .wo
    | .persist => a == .rwp
    | _ => true
  byCode && match w with
    | .host { port := x, vf := some v } =>
      (cmd == .read || cmd == .blockRead) &&
        (idx == 0x1000 || (r.span == 16 && s.vfPlot x v.val == some (idx - r.base)))
    | _ => true

/-- The plots with an enabled path on an Ethernet port (R296, R328). -/
def State.pathPlots (s : State) (port : Nat) : List Nat :=
  (List.range 16).filter (fun p => (List.range 16).any (fun i =>
    let d := s.pathDesc p i
    pathOn d && pathPort d == port))

/-- Configuration rights that a write needs (R238, R328): of the plot of a base + p entry; of every plot with an enabled path
on the port for 5000; of the plot that owns a Ferry port for 5410, 5420 and 5440; of the plot named for 5700. -/
def State.rightsOk (s : State) (w : Requester) (r : Row) (idx sub : Nat) : Bool :=
  if r.base = 0x5700 then s.hasRights w (sub - 1)
  else if r.rights then s.hasRights w (idx - r.base)
  else if idx = 0x5000 ∧ sub = 0x50 then
    (List.range 8).all (fun x => (s.pathPlots x).all (fun p => s.hasRights w p))
  else if idx = 0x5000 then (s.pathPlots ((sub - 1) % 0x40)).all (fun p => s.hasRights w p)
  else if idx = 0x5410 ∨ idx = 0x5420 ∨ idx = 0x5440 then
    s.cell 0x5430 sub = 0xFF || s.hasRights w (s.cell 0x5430 sub)
  else true

/-- The rights that FERRY_OWNER needs besides: of the plot that gains the port and of the plot that loses it (R325).
Log: 82 DEDUCED. -/
def State.ownerRights (s : State) (w : Requester) (idx sub : Nat) (body : List Byte) : Bool :=
  idx != 0x5430 || [s.cell 0x5430 sub, ofLe body].all (fun p => p == 0xFF || s.hasRights w p)

/-- The named keys that a write needs (R286). -/
def State.keysOk (s : State) (w : Requester) (r : Row) : Bool :=
  (!r.plotKey || s.holds w 0) && (!r.persistKey || s.holds w 1) && (!r.powerKey || s.holds w 2)

/-- Checks 3 to 7 of R371 for a write: entry, class, rights, keys, body; the first that fails gives the status. -/
def State.writeCheck (s : State) (w : Requester) (cmd : Cmd) (idx sub : Nat) (body : List Byte) : Option Status :=
  if 0xF000 ≤ idx then some .denied
  else
    match entry idx sub with
    | none => some .badIndex
    | some r =>
      if s.classOk w cmd r idx = false then some .denied
      else if s.rightsOk w r idx sub = false ∨ s.ownerRights w idx sub body = false then some .denied
      else if s.keysOk w r = false then some .locked
      else if bodyOk s.factory.level s.slotRunning.svn r idx sub body = false then some .badValue
      else none

/-- A WRITE: the checks, then the entry's conditions of state (check 8), then the write, applied whole (R372). -/
def State.serveWrite (s : State) (f : Sender) (idx sub : Nat) (body : List Byte) (cond : State → Option Status)
    (act : State → State) : State :=
  s.serve f { cmd := .write, idx, sub, body } (fun s =>
    match s.writeCheck f.who .write idx sub body with
    | some st => (s, { status := st, gen := s.gen idx sub })
    | none =>
      match cond s with
      | some st => (s, { status := st })
      | none => (act s, { status := .done }))

/-- The persistent value is burned into the lowest record that is not spent, MARKER last, unless it equals the present value
or every record is spent (R376). E-7001 and E-7002 (R395). Log: 52 DESIGN CHOICE. -/
def State.burn (s : State) (idx sub : Nat) (v : List Byte) : State × Reply :=
  let recs : List GenRec := Tab.get [] s.otp (ek idx sub)
  if s.persistent idx sub = v then (s, { status := .done, gen := recs.length })
  else if 4 ≤ recs.length then (s.raise 0x7002 0xFF [idx, sub], { status := .otpExhausted, gen := recs.length })
  else
    let s1 := { s with otp := Tab.set [] s.otp (ek idx sub) (recs ++ [(⟨v, true⟩ : GenRec)]) }
    (s1.raise 0x7001 0xFF [idx, sub, recs.length + 1], { status := .done, gen := recs.length + 1 })

/-- A WRITE_PERSIST (R376): the checks, the conditions of state, then the burn. -/
def State.servePersist (s : State) (f : Sender) (idx sub : Nat) (body : List Byte) (cond : State → Option Status)
    (after : State → State) : State :=
  s.serve f { cmd := .persist, idx, sub, body } (fun s =>
    match s.writeCheck f.who .persist idx sub body with
    | some st => (s, { status := st, gen := s.gen idx sub })
    | none =>
      match cond s with
      | some st => (s, { status := st, gen := s.gen idx sub })
      | none =>
        let a := s.burn idx sub body
        (after a.1, a.2))

end Sys2Proof.Machine
end

