-- ==== Sys2Proof/Machine/CellarOps.lean ====
section
/-!
DEFINITION. The Cellar's address map, its parity and its units (R145, R146, R154 to R167).
-/

namespace Sys2Proof.Machine

/-- Bytes of a tile's Cellar: 3 GiB (R18, R146). -/
def tileBytes : Nat := 3 * 2 ^ 30

/-- Stripe rows of a tile (R146). -/
def stripeRows : Nat := 786432

/-- Stripe row of a tile-local data offset on member index m (R156). -/
def dataRow (m o : Nat) : Nat :=
  let u := o / 4096
  let b := u % 11
  12 * (u / 11) + (if b < m then b else b + 1)

/-- Data unit of a stripe row that is a data row of member m: the inverse of R156. -/
def rowUnit (m r : Nat) : Nat := 11 * (r / 12) + (if r % 12 < m then r % 12 else r % 12 - 1)

/-- Channel, bank, column and row of a tile-local physical offset (R146). -/
def geometry (p : Nat) : Nat × Nat × Nat × Nat :=
  let x := 8 * (p / 4096) + (p % 4096) / 512
  let i := x / 48
  (x % 48, i % 16, i / 16 % 4, i / 64)

/-- The requesters of a Cellar channel's slots (R141). -/
inductive CellarUser where
  | loom (row pos : Nat)
  | fabricIn | fabricOut | append | refresh
  deriving DecidableEq, Repr

/-- The requester of each of the 32 slots of a Cellar channel; `fast` says that the refresh interval is 32 µs (R141). -/
def cellarSlot (slot : Nat) (fast : Bool) : CellarUser :=
  if slot = 31 then .refresh
  else if slot = 15 then (if fast then .refresh else .fabricIn)
  else if slot = 7 ∨ slot = 23 then .append
  else if slot % 8 = 5 then .fabricIn
  else if slot % 8 = 6 then .fabricOut
  else .loom (slot / 8) (slot % 8)

/-- The 512-byte accesses of a range within one unit: access 8 × row + k of the tile, which R146 maps to channel, bank, column and row
(R141, R146). -/
def accessesOf (r off n : Nat) : List Nat :=
  if n = 0 then [] else (List.range ((off % 512 + n + 511) / 512)).map (fun k => 8 * r + off / 512 + k)

/-- The codewords of a range, by their number in its unit: sixteen for each access (R145, R150). -/
def codewordsOf (off n : Nat) : List Nat :=
  (accessesOf 0 off n).flatMap (fun x => (List.range 16).map (fun k => 16 * x + k))

/-- Wrong bits of a codeword. -/
def wrongBits (e : EccFound) (k : Nat) : Nat := ((e.wrong.find? (fun x => x.1 == k)).map Prod.snd).getD 0

/-- Codewords with a number of wrong bits, among some. -/
def countWrong (e : EccFound) (ks : List Nat) (n : Nat) : Nat := (ks.filter (fun k => wrongBits e k == n)).length

/-- Whether a codeword is uncorrectable: three wrong bits or more, or the read has landed on another address, which the check bits
show (R150). Log: 117 DEDUCED. -/
def deadCodes (e : EccFound) (ks : List Nat) : Bool :=
  (e.stray && ks != []) || ks.any (fun k => decide (3 ≤ wrongBits e k))

/-- Key of a unit: logical tile and stripe row. -/
def unitKey (lt r : Nat) : Nat := lt * stripeRows + r

/-- Address of the first byte of a unit in the Cellar's memory. -/
def unitAddr (lt r : Nat) : Nat := lt * tileBytes + 4096 * r

/-- Bytes of a Cellar range; an unlisted byte is zero (R422, R429). -/
def State.cbytes (s : State) (a n : Nat) : List Byte := Tab.getList 0 s.cellar.mem a n

/-- Store bytes in the Cellar. -/
def State.cstore (s : State) (a : Nat) (bs : List Byte) : State :=
  { s with cellar := { s.cellar with mem := Tab.setList 0 s.cellar.mem a bs } }

/-- Logical tile and offset of a Cellar address in engine form (R157). -/
def caTile (a : Nat) : Nat := bits a 38 32
def caOffset (a : Nat) : Nat := bits a 31 0

/-- Whether a Cellar address names a byte of the grade's data space (R157, R183). -/
def State.addrOk (s : State) (a : Nat) : Bool :=
  !bit a 39 && decide (caOffset a < 0xB0000000) && decide (caTile a < s.factory.grade.tiles)

/-- Extent of a Cellar address: 176 × logical tile + extent (R160). -/
def extentOf (a : Nat) : Nat := caTile a * 176 + caOffset a / 2 ^ 24

/-- Whether a plot tag may access an address: the extent is the plot's own and no page-list store; the engine tag may access
every extent (R46, R160, R216). -/
def State.tagOwns (s : State) (tag a : Nat) : Bool :=
  tag == 0x1F || (Tab.get 0 s.cellar.owner (extentOf a) == 1 + tag && Tab.get 0 s.cellar.use (extentOf a) != 5)

/-- What kind of row a stripe row is for member m of a rebuild: 0 weights, 1 other data, 2 parity (R162). -/
def State.rowKind (s : State) (lt r : Nat) : Nat :=
  if r % 12 = lt % 12 then 2
  else if Tab.get 0 s.cellar.use (lt * 176 + rowUnit (lt % 12) r / 4096) = 1 then 0 else 1

/-- Whether a member's unit of a row is there to be read: its tile exists, and the unit is rebuilt if it ever was lost. -/
def State.built (s : State) (lt r : Nat) : Bool :=
  !s.cellar.orphans.contains lt && match Tab.get none s.cellar.unbuilt lt with
    | none => true
    | some u => u.onDemand.contains r || decide (s.rowKind lt r < u.phase) ||
        (s.rowKind lt r == u.phase && decide (r < u.next))

/-- The other eleven members of a logical tile's stripe group, ascending (R154, R163). -/
def others (lt : Nat) : List Nat := ((List.range 12).map (fun i => lt / 12 * 12 + i)).filter (fun m => m != lt)

/-- Whether a unit is poisoned (R152). -/
def State.poisoned (s : State) (lt r : Nat) : Bool := Tab.get false s.cellar.poison (unitKey lt r)

/-- Owner of a unit: the plot that owns its extent (R160). -/
def State.unitPlot (s : State) (lt r : Nat) : Option Nat :=
  let v := Tab.get 0 s.cellar.owner (lt * 176 + rowUnit (lt % 12) r / 4096)
  if 1 ≤ v ∧ v ≤ 16 then some (v - 1) else none

/-- The physical tile of a logical one, as events name it. Log: 46 DEDUCED. -/
def State.tileName (s : State) (lt : Nat) : Nat := (s.physOf lt).getD 0x7F

/-- Bytes of a unit range as the chain of R163 supplies them: the XOR of the other eleven members' units. -/
def State.chainBytes (s : State) (lt r off n : Nat) : List Byte :=
  (others lt).foldl (fun acc m => xorBytes acc (s.cbytes (unitAddr m r + off) n)) (List.replicate n 0)

/-- Whether the stripe row can supply a unit: every other member's unit of the row is there and sound (R151, R167). -/
def State.canSupply (s : State) (lt r : Nat) : Bool :=
  (others lt).all (fun m => s.built m r && !s.poisoned m r)

/-- Whether the tile that holds a logical number is held: its Cellar controller begins no access (R64). Log: 41 DEDUCED. -/
def State.cellarHeld (s : State) (lt : Nat) : Bool :=
  match s.physOf lt with
  | some t => (s.site t).held.isSome
  | none => false

/-- Whether another member of a logical tile's stripe group is held (R64). Log: 41 DEDUCED. -/
def State.groupHeld (s : State) (lt : Nat) : Bool := (others lt).any (fun m => s.cellarHeld m)

/-- Whether the chain of a unit has to wait: a member that it would read is held (R64, R163), or a parity delta of another member's
write to the row is still on its way, so that the row does not agree yet (R158). Log: 41 DEDUCED, 107 DEDUCED. -/
def State.chainHeld (s : State) (lt r : Nat) : Bool :=
  s.groupHeld lt
    || s.cellar.writes.any (fun w => w.lt / 12 == lt / 12 && w.lt != lt && w.row == r && !w.applied)

/-- Whether an access to a unit has to wait for the end of a hold: that of its own tile, or, while the unit is not there, that of
a member of its chain (R64, R164). Log: 41 DEDUCED. -/
def State.rowHeld (s : State) (lt r : Nat) : Bool := s.cellarHeld lt || (!s.built lt r && s.chainHeld lt r)

/-- Whether a tile's Cellar wheel runs: on ACTIVE tiles, outside P4 (R143). -/
def State.wheelRuns (s : State) (t : Nat) : Bool := (s.site t).st == .active && !s.power.p4

/-- Bytes of a unit range for a reader: read, or, where the unit is not there, a degraded read (R164). -/
def State.unitRead (s : State) (lt r off n : Nat) : List Byte :=
  if s.built lt r then s.cbytes (unitAddr lt r + off) n else s.chainBytes lt r off n

/-- Bytes at a Cellar address, within one unit. -/
def State.dataRead (s : State) (a n : Nat) : List Byte :=
  s.unitRead (caTile a) (dataRow (caTile a % 12) (caOffset a)) (caOffset a % 4096) n

/-- Mark a unit poisoned (R151, R167): it counts in 6010:04 while it is. -/
def State.poison (s : State) (lt r : Nat) : State :=
  if s.poisoned lt r then s
  else { s with cellar := { s.cellar with poison := Tab.set false s.cellar.poison (unitKey lt r) true } }.bump 32 0x6010 4 1

/-- A unit that cannot be supplied is poisoned (R151). Log: 46 DEDUCED. -/
def State.poisonUnit (s : State) (lt r : Nat) : State :=
  (s.poison lt r).raise 0x6002 ((s.unitPlot lt r).getD 0xFF) [s.tileName lt, r, (s.unitPlot lt r).getD 0xFF]

/-- The Cellar controller looks at the codewords `ks` of a unit that it reads (R151): one and two wrong bits are corrected and counted;
an uncorrectable codeword has the unit reconstructed from its stripe row and written back, or, where the row cannot supply it,
poisoned. -/
def State.checkCodes (s : State) (lt r : Nat) (ks : List Nat) (e : EccFound) : State :=
  let one := countWrong e ks 1
  let two := countWrong e ks 2
  let s1 := if one + two = 0 then s else s.bump 64 0x6010 1 (one + two)
  let s2 := if two = 0 then s1 else s1.bump 64 0x6010 2 two
  if deadCodes e ks = false then s2
  else if s2.canSupply lt r then
    ((s2.cstore (unitAddr lt r) (s2.chainBytes lt r 0 4096)).bump 32 0x6010 3 1).raise 0x6001 0xFF [s.tileName lt, r]
  else s2.poisonUnit lt r

/-- A complete write of a unit ends its poison (R152). -/
def State.unpoison (s : State) (lt r : Nat) : State :=
  if s.poisoned lt r then
    { s with cellar := { s.cellar with poison := Tab.set false s.cellar.poison (unitKey lt r) false } }.setCell 0x6010 4
      (s.cell 0x6010 4 - 1)
  else s

/-- The tile under rebuild reports the rows rebuilt so far, those rebuilt on demand among them (6020:03, R176). Log: 60 DESIGN CHOICE. -/
def State.measureRows (s : State) (lt done : Nat) : State :=
  match s.cellar.rebuild with
  | some (x, _) => if x = lt then s.measure 0x6020 3 (toLe 4 done) else s
  | none => s

/-- Restore a unit that was lost: it is written from the chain, and the row no longer counts as lost (R163, R164); where the row cannot
supply it, a data unit is poisoned (R151). -/
def State.rebuildUnit (s : State) (lt r : Nat) : State :=
  match Tab.get none s.cellar.unbuilt lt with
  | none => s
  | some u =>
    let s1 := if s.canSupply lt r then s.cstore (unitAddr lt r) (s.chainBytes lt r 0 4096)
      else if r % 12 = lt % 12 then s else s.poison lt r
    { s1 with cellar := { s1.cellar with
        unbuilt := Tab.set none s1.cellar.unbuilt lt (some { u with onDemand := r :: u.onDemand, done := u.done + 1 }) } }.measureRows
      lt (u.done + 1)

/-- Apply a write of `data` at offset `off` of a unit; its parity delta is outstanding (R158). On an unassigned logical tile the
write goes to the parity unit alone (R166); a unit not yet rebuilt is rebuilt on demand first (R164). -/
def State.unitWrite (s : State) (lt r off plot : Nat) (data : List Byte) : State :=
  let par := lt / 12 * 12 + r % 12
  if s.cellar.orphans.contains lt then
    if par = lt then s
    else
      let rest := (others lt).filter (fun m => m != par)
      let x := rest.foldl (fun acc m => xorBytes acc (s.cbytes (unitAddr m r + off) data.length)) data
      let s1 := s.cstore (unitAddr par r + off) x
      if off = 0 ∧ data.length = 4096 then s1.unpoison lt r else s1
  else
    let s0 := if s.built lt r then s else s.rebuildUnit lt r
    let old := if s0.poisoned lt r then s0.chainBytes lt r off data.length
               else s0.cbytes (unitAddr lt r + off) data.length
    let w : CWrite := { id := s0.cellar.nextId, lt, row := r, offset := off, delta := xorBytes old data, plot }
    let s1 := s0.cstore (unitAddr lt r + off) data
    let s2 := { s1 with cellar := { s1.cellar with writes := s1.cellar.writes ++ [w], nextId := s1.cellar.nextId + 1 } }
    if off = 0 ∧ data.length = 4096 then s2.unpoison lt r else s2

/-- The parity member applies a delta to the same bytes of its parity unit (R158). A parity unit that is itself lost takes
none: its regeneration reads the data units. -/
def State.applyDelta (s : State) (w : CWrite) : State :=
  let par := w.lt / 12 * 12 + w.row % 12
  if s.built par w.row then
    let a := unitAddr par w.row + w.offset
    s.cstore a (xorBytes (s.cbytes a w.delta.length) w.delta)
  else s

/-- A delta is applied and acknowledged (R158). -/
def State.deltaNow (s : State) (w : CWrite) : State :=
  let s1 := s.applyDelta w
  let done := s1.cellar.writes.map (fun x => if x.id = w.id then { x with applied := true } else x)
  { s1 with cellar := { s1.cellar with writes := done } }

/-- The deltas of other members' writes to a row that are on their way are applied before the chain reads the row (R158).
Log: 107 DEDUCED. -/
def State.settleRow (s : State) (lt r : Nat) : State :=
  (s.cellar.writes.filter (fun w => w.lt / 12 == lt / 12 && w.lt != lt && w.row == r && !w.applied)).foldl (fun s w => s.deltaNow w) s

/-- Write whole bytes of an engine-form address without leaving a delta outstanding: data and parity together, as the drains,
fills and appends that are complete under R158 leave them. -/
def State.settledWrite (s : State) (a plot : Nat) (data : List Byte) : State :=
  let lt := caTile a
  let r := dataRow (lt % 12) (caOffset a)
  let s1 := s.unitWrite lt r (caOffset a % 4096) plot data
  match s1.cellar.writes.getLast? with
  | some w =>
    if w.id = s.cellar.nextId ∧ s1.cellar.nextId = s.cellar.nextId + 1 then
      let s2 := s1.applyDelta w
      { s2 with cellar := { s2.cellar with writes := s2.cellar.writes.dropLast } }
    else s1
  | none => s1

/-- A write that may cross units, unit by unit; `fuel` bounds the units. -/
def State.longWrite (s : State) (a plot : Nat) : Nat → List Byte → State
  | 0, _ => s
  | n + 1, data =>
    if data = [] then s
    else
      let k := 4096 - a % 4096
      (s.settledWrite a plot (data.take k)).longWrite (a + k) plot n (data.drop k)

/-- A read that may cross units. -/
def State.longRead (s : State) (a : Nat) : Nat → Nat → List Byte
  | 0, _ => []
  | f + 1, n =>
    if n = 0 then []
    else
      let k := min n (4096 - a % 4096)
      s.dataRead a k ++ s.longRead (a + k) f (n - k)

end Sys2Proof.Machine
end

