-- ==== Sys2Proof/Machine/ImageOps.lean ====
section
/-!
DEFINITION. The words of an image, bit by bit: header, section table, patch, route and extent records, preamble and pool descriptors
(R180, R181, R183, R184, R212).
-/

namespace Sys2Proof

/-! ### The header (R181) -/

def Image.magic (im : Image) : Nat := Machine.bits im.header.w0.toNat 31 0
def Image.format (im : Image) : Nat := Machine.bits im.header.w0.toNat 47 32
def Image.klass (im : Image) : Nat := Machine.bits im.header.w1.toNat 31 0
def Image.build (im : Image) : Nat := Machine.bits im.header.w1.toNat 63 32
def Image.imageId (im : Image) : Nat := im.header.w2.toNat
def Image.fDecl (im : Image) : Nat := Machine.bits im.header.w5.toNat 31 0
def Image.table (im : Image) : Nat := im.header.w6.toNat

/-- The counts of the header: sections, looms, route records, stream records, quality layers, extent records. -/
def Image.counts (im : Image) : List Nat :=
  [Machine.bits im.header.w0.toNat 63 48, Machine.bits im.header.w3.toNat 15 0, Machine.bits im.header.w3.toNat 31 16,
   Machine.bits im.header.w3.toNat 47 32, Machine.bits im.header.w3.toNat 63 48, Machine.bits im.header.w4.toNat 31 0]

/-- What they count. -/
def Image.counted (im : Image) : List Nat :=
  [im.sections.length, im.looms.length, im.routes.length, im.streams.length, im.quality.length, im.extents.length]

/-- The reserved fields of the header are zero. -/
def Image.headerZero (im : Image) : Bool :=
  Machine.bits im.header.w4.toNat 63 32 == 0 && Machine.bits im.header.w5.toNat 63 32 == 0 && im.header.w7 == 0

/-! ### Records (R184) -/

/-- TYPE of a record: 0 Cellar patch, 1 route, 2 extent. -/
def recType (w : BitVec 128) : Nat := Machine.bits w.toNat 127 124

/-- A Cellar patch: logical loom, instruction, bit position of address bit 0. -/
def patchLoom (w : BitVec 128) : Nat := Machine.bits w.toNat 123 112
def patchWord (w : BitVec 128) : Nat := Machine.bits w.toNat 111 99
def patchLow (w : BitVec 128) : Nat := Machine.bits w.toNat 98 93

def Route.cls (r : Route) : Nat := Machine.bits r.word.toNat 123 123
def Route.src (r : Route) : Nat := Machine.bits r.word.toNat 122 116
def Route.dst (r : Route) : Nat := Machine.bits r.word.toNat 115 109

/-- WAYPOINTS: up to four logical tiles; 0x7F ends the list. -/
def Route.waypoints (r : Route) : List Nat :=
  ((List.range 4).map (fun k => Machine.bits r.word.toNat (108 - 7 * k) (102 - 7 * k))).takeWhile (fun t => t != 0x7F)

def ExtentRec.image (e : ExtentRec) : Nat := Machine.bits e.word.toNat 123 109
def ExtentRec.use (e : ExtentRec) : Nat := Machine.bits e.word.toNat 101 100

/-- TILE: the logical tile on which the extent is required; 0x7F lets relocation choose. -/
def ExtentRec.tile (e : ExtentRec) : Option Nat :=
  let t := Machine.bits e.word.toNat 108 102
  if t = 0x7F then none else some t

/-- A record that the table of R184 does not have: another type, a bit position above 24, an image extent above 19,007, or a reserved
bit. Log: 108 DEDUCED. -/
def badPatch (w : BitVec 128) : Bool := recType w != 0 || decide (24 < patchLow w) || Machine.bits w.toNat 92 0 != 0
def badRoute (r : Route) : Bool := recType r.word != 1 || Machine.bits r.word.toNat 80 0 != 0
def badExtent (e : ExtentRec) : Bool := recType e.word != 2 || decide (19008 ≤ e.image) || Machine.bits e.word.toNat 99 0 != 0

/-- The Cellar address fields of the loom programs that the patch records name, as the plan has rewritten them (R183, R184). A record
of a loom or an instruction that the image does not have names none. -/
def Image.patched (im : Image) : List Nat :=
  im.patches.filterMap (fun w =>
    ((im.looms.find? (fun x => x.loom.tile.val * 32 + x.loom.row.val * 8 + x.loom.pos.val == patchLoom w)).bind
      (fun x => x.words[patchWord w]?)).map (fun i => Machine.bits i.toNat (patchLow w + 39) (patchLow w)))

/-! ### Preamble and pool descriptors (R212) -/

/-- N of the preamble. -/
def Image.poolN (im : Image) : Nat := Machine.bits im.preamble.toNat 4 0

/-- A preamble that is refused: N above 16, or a reserved bit. -/
def Image.badPreamble (im : Image) : Bool := decide (16 < im.poolN) || Machine.bits im.preamble.toNat 127 5 != 0

/-- Byte of the loom-program section at which the loom programs begin. -/
def Image.programsAt (im : Image) : Nat := 16 * (im.poolN + 1)

/-- The fields of a pool descriptor. -/
def poolOf (w : BitVec 128) : Pool :=
  { slot := Fin.ofNat 16 (Machine.bits w.toNat 127 124), stripe := w.extractLsb' 119 5, layers := w.extractLsb' 112 7,
    kvHeads := w.extractLsb' 106 6, headDim := w.extractLsb' 102 4, kvFormat := w.extractLsb' 98 4, scales := w.extractLsb' 96 2,
    block64 := w.getLsbD 95, frames := w.extractLsb' 71 24, firstExt := w.extractLsb' 56 15, listFirst := w.extractLsb' 41 15,
    listCount := w.extractLsb' 33 8, reserved := w.extractLsb' 0 33 }

/-- The pools of an image. -/
def Image.poolList (im : Image) : List Pool := im.pools.map poolOf

/-- The quality layer in which an instruction of a loom is an operation (R125, R180). -/
def Image.layerOf (im : Image) (loom ip : Nat) : Option Nat :=
  im.quality.findIdx? (fun ops => ops.any (fun x => x.1.n == loom && x.2 == ip))

end Sys2Proof
end

