-- ==== Sys2Proof/Machine/Frames.lean ====
section
/-! DEFINITION. Where a frame of a pool stands in the Cellar (R157, R212, R213). -/

namespace Sys2Proof.Machine

/-- The engine extent that the plan assigned to an image extent (R185). -/
def imageExtent (im : Image) (x : Nat) : Option Nat :=
  (im.extents.find? (fun e => e.image == x)).map (fun e => e.toTile.val * 176 + e.toExt.val)

/-! ### Frames in the Cellar (R212, R213) -/

/-- Elements of a head, code bytes and scale bytes of one position (R212). -/
def poolD (x : Pool) : Nat := 32 * x.headDim.toNat
def poolCb (x : Pool) : Nat := poolD x * width x.kvFormat.toNat / 8
def poolSb (x : Pool) : Nat := if x.scales = 0 then 0 else poolD x / (if x.block64 then 64 else 32)

/-- Bytes of a portion's codes and of its scales, and portions per extent (R212). -/
def codeSize (x : Pool) : Nat := 2 * x.kvHeads.toNat * 64 * poolCb x
def scaleSize (x : Pool) : Nat := 2 * x.kvHeads.toNat * 64 * poolSb x
def perExtent (x : Pool) : Nat := 2 ^ 24 / (codeSize x + scaleSize x)

/-- Image extent and slot of a frame's portion of a layer (R213). -/
def portionAt (x : Pool) (l f : Nat) : Nat × Nat :=
  let a := max 1 x.stripe.toNat
  let i := f / a
  let n := perExtent x
  (x.firstExt.toNat + (i / n * x.layers.toNat + l) * a + f % a, i % n)

/-- Bytes of a whole frame, all layers. -/
def frameSize (x : Pool) : Nat := x.layers.toNat * (codeSize x + scaleSize x)

/-- Cellar address of an offset of an engine extent (R157). -/
def extentAddr (e o : Nat) : Nat := (e / 176) * 2 ^ 32 + (e % 176) * 2 ^ 24 + o

/-- The units under a byte range of an engine extent: logical tile and stripe row. -/
def rangeUnits (e o n : Nat) : List (Nat × Nat) :=
  (List.range (n / 4096 + 2)).filterMap (fun k =>
    let u := o / 4096 * 4096 + 4096 * k
    if u < o + n then some (e / 176, dataRow (e / 176 % 12) ((e % 176) * 2 ^ 24 + u)) else none)

/-- The units of a frame. -/
def frameUnits (im : Image) (x : Pool) (f : Nat) : List (Nat × Nat) :=
  (List.range x.layers.toNat).flatMap (fun l =>
    let q := portionAt x l f
    match imageExtent im q.1 with
    | none => []
    | some e => rangeUnits e (q.2 * codeSize x) (codeSize x)
        ++ rangeUnits e (perExtent x * codeSize x + q.2 * scaleSize x) (scaleSize x))

end Sys2Proof.Machine
end

