-- ==== Sys2Proof/Machine/PlotOps.lean ====
section
/-!
DEFINITION. Plots, their requests and their results, as far as several commands share them: the result rings (R259 to R264), the
pages of a request and their frames (R212 to R228), the ends of requests and plots (R245, R251), steps (R197, R258).
-/

namespace Sys2Proof.Machine

/-! ### Queue pairs and result rings -/

/-- A queue pair. -/
def State.qp (s : State) (n : Nat) : Qp := Tab.get {} s.qps n

/-- Change a queue pair. -/
def State.updQp (s : State) (n : Nat) (f : Qp → Qp) : State := { s with qps := Tab.upd {} s.qps n f }

/-- The plot whose range contains a queue pair (R246). -/
def State.plotOfQp (s : State) (n : Nat) : Option Nat :=
  s.plotsNow.find? (fun p => decide (s.cell (0x3000 + p) 6 ≤ n) &&
    decide (n < s.cell (0x3000 + p) 6 + s.cell (0x3000 + p) 7))

/-- Entries of the two rings (R278). -/
def Qp.sqSize (q : Qp) : Nat := 2 ^ bits q.c2.toNat 4 0
def Qp.rqSize (q : Qp) : Nat := 2 ^ bits q.c2.toNat 12 8

/-- Result entries written and not consumed, and the entries that may still be written: a ring holds its size less one (R277). -/
def Qp.rqUsed (q : Qp) : Nat := (q.rqTail + q.rqSize - q.rqHead) % q.rqSize
def Qp.room (q : Qp) : Nat := q.rqSize - 1 - q.rqUsed

/-- The function of a port that a queue pair uses: the physical one, or its plot's virtual function (R279). -/
def State.qpFunc (s : State) (n : Nat) (x : Port) : Option Func :=
  if bit (s.qp n).c2.toNat 20 then
    match s.plotOfQp n with
    | none => none
    | some p =>
      let v := s.cell (0x3000 + p) (if x = .a then 9 else 0xA)
      if h : v < 16 then some { port := x, vf := some ⟨v, h⟩ } else none
  else some { port := x, vf := none }

/-- KIND codes of result entries (R262). -/
def kTokens : Nat := 0
def kCompletion : Nat := 1
def kState : Nat := 2
def kFinal : Nat := 3

/-- The eight words of a result entry (R262). -/
def Result.words (r : Result) (phase : Bool) : List Nat :=
  [r.request, r.status.code + r.kind * 256 + (if r.kind = kTokens then r.data.length * 2048 else 0)
      + (if r.more then 2 ^ 14 else 0) + (if r.turnEnd then 2 ^ 15 else 0) + r.tag * 2 ^ 16]
    ++ (r.data ++ List.replicate (5 - r.data.length) 0) ++ [r.length % 2 ^ 24 + (if phase then 2 ^ 31 else 0)]

/-- A result entry goes out in two posted writes: d0 to d6, then d7 with the PHASE (R264). -/
def State.emitResult (s : State) (n : Nat) (x : Port) (index : Nat) (d : List Nat) : State :=
  (s.emit (.result n x index 0 (d.take 7) false)).emit (.result n x index 7 (d.drop 7) false)

/-- Write one entry at RQ_TAIL with the phase of the lap (R264). -/
def State.ringWrite (s : State) (n : Nat) (r : Result) : State :=
  let q := s.qp n
  let next := (q.rqTail + 1) % q.rqSize
  (s.updQp n (fun q => { q with ring := Tab.set none q.ring q.rqTail (some (r, q.phase)), rqTail := next,
                                phase := if next = 0 then !q.phase else q.phase })).emitResult n q.active q.rqTail (r.words q.phase)

/-- Raise a ring's interrupt, if the context enables it (R263, R278). A vector that the function's table does not have raises
nothing: a virtual function has 64. Log: 49 DEDUCED. -/
def State.ringIrq (s : State) (n : Nat) : State :=
  let q := s.qp n
  if bit q.c2.toNat 18 then
    match s.qpFunc n q.active with
    | some fn =>
      let v := if q.active = .a then bits q.c3.toNat 10 0 else bits q.c3.toNat 26 16
      if fn.vf.isSome ∧ 64 ≤ v then s else s.emit (.msix fn v)
    | none => s
  else s

/-- Whether the next entry can be written now (R260). -/
def Qp.canWrite (q : Qp) : Bool := q.st == .active && decide (0 < q.room)

/-- Post one entry: it is written, or it waits in order behind those that wait (R260). -/
def State.postOne (s : State) (n : Nat) (r : Result) : State :=
  let q := s.qp n
  if q.canWrite ∧ q.waiting = [] then s.ringWrite n r else s.updQp n (fun q => { q with waiting := q.waiting ++ [r] })

/-- Post a batch and raise the interrupt once for what was written (R263). -/
def State.post (s : State) (n : Nat) (rs : List Result) : State :=
  let s1 := rs.foldl (fun s r => s.postOne n r) s
  if (s1.qp n).rqTail = (s.qp n).rqTail then s1 else s1.ringIrq n

/-- Write waiting entries while they can be written; `fuel` bounds their number (R260). -/
def State.flushRing (s : State) (n : Nat) : Nat → State
  | 0 => s
  | f + 1 =>
    let q := s.qp n
    match q.waiting with
    | [] => s
    | r :: rest =>
      if q.canWrite then ((s.ringWrite n r).updQp n (fun q => { q with waiting := rest })).flushRing n f else s

/-- All entries of a ring that can be written now, as one batch. -/
def State.flush (s : State) (n : Nat) : State :=
  let s1 := s.flushRing n (s.qp n).waiting.length
  if (s1.qp n).rqTail = (s.qp n).rqTail then s1 else s1.ringIrq n

/-- E-2201, once every queue pair that moved off a port is rewritten or rewrites no more (R288). Log: 50 DEDUCED. -/
def State.failoverEnd (s : State) (x : Port) : State :=
  if s.qps.any (fun e => e.2.rewrite == some x) then s
  else
    let n := Tab.get 0 s.moved x.n
    let s1 := { s with moved := Tab.set 0 s.moved x.n 0 }
    if n = 0 then s1 else s1.raise 0x2201 0xFF [x.n, n]

/-- Both ports' failovers end where no queue pair is left to rewrite (R288). Log: 50 DEDUCED. -/
def State.failoverEnds (s : State) : State := (s.failoverEnd .a).failoverEnd .b

/-! ### Settings and idleness of a plot -/

/-- A serving setting of a plot as a step formation took it over (R267). -/
def State.servingOf (s : State) (p sub : Nat) : Nat := Tab.get (entryDefault (0x3400 + p) sub) (s.plot p).serving sub

/-- The looms of a plot's image, which run its steps (R182, R191). Log: 75 DEDUCED. -/
def State.footprint (s : State) (p : Nat) : List Nat :=
  match (s.plot p).image with
  | some im => im.looms.map (fun x => x.loom.n)
  | none => []

/-- Whether any entry of a loom's EN, FR and HM queues is outstanding (R347). -/
def LoomSt.outside (l : LoomSt) : Bool :=
  l.queues.any (fun e => decide (3 ≤ e.1) && e.2.entries.any (fun x => x.status.isNone))

/-- Whether a plot is idle (R347). -/
def State.plotIdle (s : State) (p : Nat) : Bool :=
  s.ob.all (fun e => e.2.plot != p || !(e.2.st == .queued || e.2.st == .prefill || e.2.st == .decode))
    && s.steps.all (fun e => match e.2 with | some x => x.plot != p | none => true)
    && !(decide (1 ≤ s.cell (0x3100 + p) 3) && decide (s.cell (0x3100 + p) 3 ≤ 4))
    && (s.plot p).looms.all (fun n => !(s.loom n).outside)

/-- What may end a plot's last work is about to happen: a plot that is not idle now has not been idle before now (R345). -/
def State.noteBusy (s : State) (p : Nat) : State :=
  if s.plotIdle p then s else s.updPlot p (fun x => { x with busyAt := s.now })

/-- A trigger of R348: the engine has to leave P4. -/
def State.wakeP4 (s : State) : State := if s.power.p4 then { s with power := { s.power with p4wake := true } } else s

/-- A trigger of R347: a plot that has left P0 has to come back. -/
def State.trigger (s : State) (p : Nat) : State :=
  let s1 := s.wakeP4
  if s1.cell (0x4200 + p) 2 = 0 then s1 else s1.updPlot p (fun x => { x with wake := true })

/-! ### Requests -/

/-- An Order Book entry. -/
def State.obAt (s : State) (i : Nat) : Ob := Tab.get {} s.ob i

/-- Change an Order Book entry. -/
def State.updOb (s : State) (i : Nat) (f : Ob → Ob) : State := { s with ob := Tab.upd {} s.ob i f }

/-- A request is live in every state except FREE, DONE, CANCELLED and FAULTED (R249). -/
def ReqState.live : ReqState → Bool
  | .free => false | .done => false | .cancelled => false | .faulted => false
  | .queued => true | .prefill => true | .decode => true | .waitInput => true | .pausedCool => true | .draining => true

/-- STATE codes (R250). -/
def ReqState.code : ReqState → Nat
  | .free => 0 | .queued => 1 | .prefill => 2 | .decode => 3 | .waitInput => 4 | .pausedCool => 5 | .draining => 6
  | .done => 7 | .cancelled => 8 | .faulted => 9

/-- The Order Book entry of a request of a plot, if one is not FREE. -/
def State.findReq (s : State) (p request : Nat) : Option Nat :=
  (s.ob.find? (fun e => e.2.st != .free && e.2.plot == p && e.2.request == request)).map Prod.fst

/-- The entries of a plot that are not FREE. -/
def State.obOf (s : State) (p : Nat) : List Nat :=
  (s.ob.filter (fun e => e.2.st != .free && e.2.plot == p)).map Prod.fst

/-- Page states and words (R215). -/
def pgState (w : Nat) : Nat := w / 2 ^ 29
def pgFrame (w : Nat) : Nat := w % 2 ^ 24
def pgWord (st frame : Nat) : Nat := st * 2 ^ 29 + frame

/-- A page's key: its list and number. -/
def pageKey (draft : Bool) (page : Nat) : Nat := (if draft then 2 ^ 24 else 0) + page

/-- A page entry of the main or the draft list. -/
def Ob.page (o : Ob) (draft : Bool) (j : Nat) : Nat := Tab.get 0 (if draft then o.draftList else o.main) j

/-- Write a page entry. -/
def Ob.setPage (o : Ob) (draft : Bool) (j w : Nat) : Ob :=
  if draft then { o with draftList := Tab.set 0 o.draftList j w } else { o with main := Tab.set 0 o.main j w }

/-- The pages that are not EMPTY: list and page. -/
def Ob.pages (o : Ob) : List (Bool × Nat) :=
  o.main.map (fun e => (false, e.1)) ++ o.draftList.map (fun e => (true, e.1))

/-- The constants of a model slot of a plot's image. -/
def State.model (s : State) (p m : Nat) : Option Model :=
  (s.plot p).image.bind (fun im => im.models.find? (fun x => x.slot.val == m))

/-- The blocks of its model slot's page-list store that a session holds (R214). -/
def Ob.blocks (o : Ob) : List Nat :=
  (if o.pageHead = 0xFFFFFFFF then [] else [o.pageHead]) ++ o.mainBlocks ++ o.draftBlocks

/-- The model slot whose pool serves a request's list: its own, or its draft model's (R225). -/
def State.poolSlot (s : State) (p m : Nat) (draft : Bool) : Option Nat :=
  if draft then (s.model p m).bind (fun x => x.draft.map Fin.val) else some m

/-- The list of a request that belongs to a model slot: its own or its draft model's (R225). -/
def State.listOf (s : State) (p i m : Nat) : Option Bool :=
  let o := s.obAt i
  if o.mslot = m then some false else if s.poolSlot p o.mslot true = some m then some true else none

/-- A frame pool. -/
def State.pool (s : State) (p m : Nat) : Option PoolSt := ((s.plot p).pools.find? (fun e => e.1 == m)).map Prod.snd

/-- Change a frame pool. -/
def State.updPool (s : State) (p m : Nat) (f : PoolSt → PoolSt) : State :=
  s.updPlot p (fun x => { x with pools := x.pools.map (fun e => if e.1 = m then (e.1, f e.2) else e) })

/-- Stripe width A of a pool (R209, R212), at least 1. -/
def PoolSt.a (x : PoolSt) : Nat := max 1 x.desc.stripe.toNat

/-- Free frames of a class (R217). -/
def PoolSt.freeOf (x : PoolSt) (c : Nat) : Nat :=
  x.desc.frames.toNat / x.a - (x.used.filter (fun f => f % x.a == c)).length

/-- Free frames of a pool (6200+p:01 and on). -/
def PoolSt.free (x : PoolSt) : Nat := x.desc.frames.toNat - x.used.length

/-- The lowest free frame of a class that is not kept back (DESIGN CHOICE: the spec does not say which free frame is taken); at most
`n` are. Log: 16 DESIGN CHOICE. -/
def PoolSt.pick (x : PoolSt) (c n : Nat) (kept : Nat → Bool) : Option Nat :=
  ((List.range (x.used.length + n + 1)).map (fun k => c + k * x.a)).find?
    (fun f => decide (f < x.desc.frames.toNat) && !x.used.contains f && !kept f)

/-- Whether a write to a frame is still outstanding (R227). -/
def State.frameBusy (s : State) (p : Nat) (x : Pool) (f : Nat) : Bool :=
  match (s.plot p).image with
  | some im => s.cellar.writes.any (fun w => (frameUnits im x f).contains (w.lt, w.row))
  | none => false

/-- The lowest remote slot that is not in use. Log: 16 DESIGN CHOICE. -/
def PoolSt.pickRemote (x : PoolSt) : Nat :=
  ((List.range (x.remote.length + 1)).find? (fun k => !x.remote.contains k)).getD 0

/-- Return a frame to its class's free list. -/
def State.returnFrame (s : State) (p m frame : Nat) : State :=
  s.updPool p m (fun x => { x with used := x.used.filter (fun f => f != frame) })

/-- Release a remote slot. -/
def State.releaseRemote (s : State) (p m slot : Nat) : State :=
  s.updPool p m (fun x => { x with remote := x.remote.filter (fun f => f != slot) })

/-- Allocate a frame for page j of class j mod A (R217), none to which a write is outstanding (R227). Log: 16 DESIGN CHOICE. -/
def State.allocFrame (s : State) (p m j : Nat) : Option (Nat × State) :=
  match s.pool p m with
  | none => none
  | some x =>
    match x.pick (j % x.a) s.cellar.writes.length (fun f => s.frameBusy p x.desc f) with
    | none => none
    | some f => some (f, s.updPool p m (fun x => { x with used := x.used ++ [f] }))

/-! ### The page-list store (R214) -/

/-- Blocks of 64 bytes in an extent. -/
def blocksPerExtent : Nat := 262144

/-- The lowest block of a model slot's page-list store that no session holds. Log: 16 DESIGN CHOICE. -/
def State.freeBlock (s : State) (p m : Nat) (x : PoolSt) : Option Nat :=
  let used := (s.ob.filter (fun e => e.2.st != .free && e.2.plot == p && e.2.mslot == m)).flatMap (fun e => e.2.blocks)
  (List.range (used.length + 1)).find? (fun b => !used.contains b && decide (b < x.desc.listCount.toNat * blocksPerExtent))

/-- Take a free block of the store for session `i`. -/
def State.giveBlock (s : State) (i : Nat) (f : Nat → Ob → Ob) : Option State :=
  let o := s.obAt i
  (s.pool o.plot o.mslot).bind (fun x => (s.freeBlock o.plot o.mslot x).map (fun b => s.updOb i (f b)))

/-- A list block lies behind the last one of a list. -/
def Ob.addBlock (d : Bool) (b : Nat) (o : Ob) : Ob :=
  if d then { o with draftBlocks := o.draftBlocks ++ [b] } else { o with mainBlocks := o.mainBlocks ++ [b] }

/-- The list blocks of one list. -/
def Ob.listBlocks (o : Ob) (d : Bool) : List Nat := if d then o.draftBlocks else o.mainBlocks

/-- A session's header block and the list blocks that page j of a list needs, fifteen entries to a block; none where the store is
full. A model slot without a pool has no store. Log: 15 DEDUCED. -/
def State.holdPage (s : State) (i : Nat) (d : Bool) (j : Nat) : Option State :=
  let o := s.obAt i
  match s.pool o.plot o.mslot with
  | none => some s
  | some _ =>
    let s1 := if o.pageHead = 0xFFFFFFFF then s.giveBlock i (fun b o => { o with pageHead := b }) else some s
    (List.range (j / 15 + 1 - (o.listBlocks d).length)).foldl (fun t _ => t.bind (fun s => s.giveBlock i (Ob.addBlock d))) s1

/-- The first block of a list, or the end mark. -/
def firstBlock (bs : List Nat) : Nat := bs.headD 0xFFFFFFFF

/-- Word w of block b of a session's lists, where the block is one of its own (R214, R215). -/
def Ob.blockWord (o : Ob) (b w : Nat) : Option Nat :=
  let word := fun (d : Bool) (k : Nat) =>
    if w < 15 then o.page d (15 * k + w) else ((o.listBlocks d)[k + 1]?).getD 0xFFFFFFFF
  if b = o.pageHead then some (if w = 0 then firstBlock o.mainBlocks else if w = 1 then firstBlock o.draftBlocks else 0)
  else if o.mainBlocks.contains b then some (word false (o.mainBlocks.idxOf b))
  else if o.draftBlocks.contains b then some (word true (o.draftBlocks.idxOf b))
  else none

/-- Where block b of a pool's page-list store lies: the store extent and the offset in it (R214). -/
def PoolSt.blockAt (x : PoolSt) (b : Nat) : Nat × Nat := (x.desc.listFirst.toNat + b / blocksPerExtent, b % blocksPerExtent * 64)

/-- What the page-list store of a model slot holds in word w of block b; a block that no session holds has no stated contents. -/
def State.storeWord (s : State) (p m b w : Nat) : Option Nat :=
  (s.ob.filter (fun e => e.2.st != .free && e.2.plot == p && e.2.mslot == m)).findSome? (fun e => e.2.blockWord b w)

/-- The units of the frames of a plot that are being filled: nobody reads them before the whole frame is there (R174). -/
def State.fillingUnits (s : State) (p : Nat) : List (Nat × Nat) :=
  match (s.plot p).image with
  | none => []
  | some im => (s.obOf p).flatMap (fun i => ((s.obAt i).pages.filter (fun e => pgState ((s.obAt i).page e.1 e.2) == 5)).flatMap (fun e =>
      match (s.poolSlot p (s.obAt i).mslot e.1).bind (fun m => s.pool p m) with
      | some x => frameUnits im x.desc (pgFrame ((s.obAt i).page e.1 e.2))
      | none => []))

/-- One page of a request that gives its frames up (R226 to R228): a SPILLED page releases its remote slot; a page whose frame
has a transfer in flight, and any page while the request is in a step, waits; a LOST page keeps its frame, unless its fill
failed three times; any other returns its frame. -/
def State.releasePage (s : State) (i : Nat) (d : Bool) (j : Nat) : State :=
  let o := s.obAt i
  let w := o.page d j
  match s.poolSlot o.plot o.mslot d with
  | none => s.updOb i (fun o => o.setPage d j 0)
  | some m =>
    if pgState w = 4 then (s.releaseRemote o.plot m (pgFrame w)).updOb i (fun o => o.setPage d j 0)
    else if o.moving.contains (pageKey d j) ∨ o.step.isSome then s
    else if pgState w = 6 then
      (if 3 ≤ Tab.get 0 o.tries (pageKey d j) then s.updOb i (fun o => o.setPage d j 0) else s)
    else (s.returnFrame o.plot m (pgFrame w)).updOb i (fun o => o.setPage d j 0)

/-- Every page of a request (R227, R228). -/
def State.releasePages (s : State) (i : Nat) : State :=
  (s.obAt i).pages.foldl (fun s e => s.releasePage i e.1 e.2) s

/-- A transfer on a page has ended: its remote slot is released, unless the page is SPILLED into it (R226). -/
def State.transferEnd (s : State) (i : Nat) (d : Bool) (j : Nat) : State :=
  let o := s.obAt i
  let k := pageKey d j
  let r := Tab.get 0 o.remoteOf k
  let s1 := s.updOb i (fun o => { o with moving := o.moving.filter (fun x => x != k), remoteOf := Tab.set 0 o.remoteOf k 0 })
  if r = 0 ∨ pgState (o.page d j) = 4 then s1
  else match s.poolSlot o.plot o.mslot d with
    | some m => s1.releaseRemote o.plot m (r - 1)
    | none => s1

/-- A turn's TAG, request and length make the rest of an entry that answers no submission. -/
def Ob.entry (o : Ob) (st : Status) (kind tag : Nat) (data : List Nat) : Result :=
  { request := o.request, status := st, kind, tag, data, length := o.committed }

/-- An entry becomes FREE when its FINAL entry has been consumed and every frame has been returned (R251). -/
def State.maybeFree (s : State) (i : Nat) : State :=
  let o := s.obAt i
  if o.st.live = false ∧ o.consumed ∧ o.pages = [] ∧ o.moving = [] ∧ o.step = none then { s with ob := Tab.erase i s.ob }
  else s

/-- A step. -/
def State.stepAt (s : State) (id : Nat) : Option Step := Tab.get none s.steps id

/-- A setting of 3200+p as a step took it over when it was formed (R114, R130). -/
def Step.setting (x : Step) (sub : Nat) : Nat := Tab.get (entryDefault (0x3200 + x.plot) sub) x.arith sub

/-- A setting of the step that is running. -/
def State.setting (s : State) (id sub : Nat) : Nat :=
  match s.stepAt id with
  | some x => x.setting sub
  | none => 0

/-- The samples of a discarded attempt are discarded with it, those in the quality windows too (R124). -/
def State.dropSamples (s : State) (id p : Nat) : State :=
  { s with samples := s.samples.filter (fun x => x.step != id) }.updPlot p (fun (x : Plot) => { x with
    quality := (x.quality.map (fun (e : Nat × List (Nat × Nat × Nat × Bool)) => (e.1, e.2.filter (fun (y : Nat × Nat × Nat × Bool) => y.1 != id)))).filter
      (fun e => e.2 != []) })

/-- Whether a step waits for an integrity check of one of its samples (R122). -/
def State.checkDue (s : State) (id : Nat) : Bool := s.samples.any (fun x => x.step == id && x.forInt && x.hold)

/-- Change a step. -/
def State.updStep (s : State) (id : Nat) (f : Step → Step) : State :=
  { s with steps := Tab.upd none s.steps id (Option.map f) }

/-- A step attempt of which every request has ended is discarded as to its samples, and takes no more (R124). -/
def State.cancelSamples (s : State) (i : Nat) : State :=
  match (s.obAt i).step with
  | none => s
  | some id =>
    match s.stepAt id with
    | none => s
    | some x =>
      if x.reqs.all (fun r => !(s.obAt r.ob).st.live) then
        (s.dropSamples id x.plot).updStep id (fun x => { x with sampled := false })
      else s

/-- A request ends: its state, its counts, its frames (R227, R228, R251, R254). -/
def State.endCore (s : State) (i : Nat) (st : ReqState) (final : Status) : State :=
  let o := s.obAt i
  let s1 := (s.noteBusy o.plot).updOb i (fun o => { o with st := st, final := some final, turnOpen := false, inputs := [], pendingTok := none })
  let s2 := match st with
    | .cancelled => s1.bump 64 (0xA100 + o.plot) 5 1
    | .faulted => (s1.bump 32 (0xA100 + o.plot) 6 1).raise 0x3403 o.plot [o.plot, o.request, final.code]
    | _ => s1
  (s2.cancelSamples i).releasePages i

/-- The FINAL entry of Order Book entry `i`, the last that its request posts (R251, R255). -/
def State.finalEntry (s : State) (i : Nat) (final : Status) (tag : Nat) : Result :=
  { (s.obAt i).entry final kFinal tag [] with ob := i + 1 }

/-- End a request and post its FINAL entry (R251, R254). -/
def State.endRequest (s : State) (i : Nat) (st : ReqState) (final : Status) (tag : Nat) : State :=
  (s.endCore i st final).post (s.obAt i).qp [s.finalEntry i final tag]

/-- Whether a DRAINING request has every return complete (R228, R251): no page holds a frame but a LOST one. Log: 76 DEDUCED. -/
def Ob.drained (o : Ob) : Bool :=
  o.step.isNone && o.moving == [] && o.pages.all (fun e => pgState (o.page e.1 e.2) == 6)

/-- DRAINING reaches DONE when no step is in flight and every frame is returned (R251); the FINAL entry is still to be posted. Its TAG
is that of the CLOSE, or of the turn that used the token budget up: the spec names no submission that it answers. Log: 76 DEDUCED,
124 DESIGN CHOICE. -/
def State.settleCore (s : State) (i : Nat) : State × List (Nat × Result) :=
  let o := s.obAt i
  if o.st = .draining ∧ o.drained then (s.endCore i .done .done, [(o.qp, s.finalEntry i .done o.tag)]) else (s, [])

/-- Post entries that stand in several rings, one batch with one interrupt to a ring (R263). -/
def State.postAll (s : State) (es : List (Nat × Result)) : State :=
  ((es.map Prod.fst).dedup).foldl (fun s n => s.post n ((es.filter (fun e => e.1 == n)).map Prod.snd)) s

/-- DRAINING ends if it can, and its FINAL entry is posted; then an ended entry may become FREE (R251). Log: 76 DEDUCED. -/
def State.settle (s : State) (i : Nat) : State :=
  let r := s.settleCore i
  (r.1.postAll r.2).maybeFree i

/-- Enter DRAINING by CLOSE or by the end of the token budget, and give up the frames (R228, R251). -/
def State.drainCore (s : State) (i : Nat) : State :=
  ((s.noteBusy (s.obAt i).plot).updOb i (fun o =>
    { o with st := .draining, turnOpen := false, inputs := [], pendingTok := none })).releasePages i

/-- Enter DRAINING, and end it at once if it can (R228, R251). Log: 76 DEDUCED. -/
def State.startDrain (s : State) (i : Nat) : State := (s.drainCore i).settle i

/-! ### Steps -/

/-- The steps of a plot in flight, oldest first. -/
def State.stepsOf (s : State) (p : Nat) : List Nat :=
  (s.steps.filter (fun e => match e.2 with | some x => x.plot == p | none => false)).map Prod.fst

/-- The attempt tag of a new attempt of a plot (R197), and the state that has used it up. Log: 38 DEDUCED. -/
def State.newTag (s : State) (p : Nat) : Nat × State :=
  ((s.plot p).nextTag, s.updPlot p (fun x => { x with nextTag := (x.nextTag + 1) % 16 }))

/-- The step descriptor's fields that BR can look at, in the model's order: step, attempt, model slot, streams,
positions, tick number (R327), then each stream's positions. Log: 11 DESIGN CHOICE. -/
def Step.desc (x : Step) (id : Nat) : List Nat :=
  [id, x.attempt, x.mslot, x.reqs.length, (x.reqs.map StepReq.need).sum, x.tick] ++ x.reqs.map StepReq.need

/-- Queue entries that are still outstanding, as a new attempt finds them: they complete later, with the old tag (R197). -/
def LoomSt.carry (l : LoomSt) : Tab Queue :=
  (l.queues.map (fun e => (e.1, { issued := 0, entries := e.2.entries.filter (fun x => x.status.isNone) }))).filter
    (fun e => e.2 != ({} : Queue))

/-- What a Bench address reads that nothing has written since the last loss that reached it (R168). Log: 9 DESIGN CHOICE,
106 DESIGN CHOICE. -/
def LoomSt.blank (l : LoomSt) (a : Nat) : Byte :=
  match l.void.find? (fun v => !v.2.any (fun r => decide (r.1 ≤ a) && decide (a < r.1 + r.2))) with
  | some v => Config.benchByte v.1 a
  | none => 0

/-- The contents of loom `n`'s Bench are lost, or not defined any more, but in some ranges (R168). Log: 106 DESIGN CHOICE. -/
def LoomSt.lose (n : Nat) (keep : List (Nat × Nat)) (l : LoomSt) : LoomSt :=
  { l with bench := Tab.keep (fun a => keep.any (fun r => decide (r.1 ≤ a) && decide (a < r.1 + r.2))) l.bench,
           badWords := Tab.keep (fun w => keep.any (fun r => decide (r.1 ≤ 8 * w) && decide (8 * w < r.1 + r.2))) l.badWords,
           void := (n * 2 ^ 32 + l.losses, keep) :: l.void.filter (fun v => v.2 != keep), losses := l.losses + 1 }

/-- The Bench regions that an image marks resident (R169). -/
def residentRanges (im : Image) : List (Nat × Nat) := im.resident.map (fun r => (r.1.toNat, r.2))

/-- The resident Bench regions of a loom. -/
def State.residents (s : State) (n : Nat) : List (Nat × Nat) :=
  match (s.ownerOf n).bind (fun p => (s.plot p).image) with
  | some im => residentRanges im
  | none => []

/-- A loom begins a step: its program runs once from the descriptor (R191). -/
def LoomSt.begin_ (l : LoomSt) (id : Nat) (x : Step) : LoomSt :=
  { l with ip := 0, step := some id, attempt := x.attempt, desc := x.desc id, stall := none, accs := [], pending := [],
           queues := l.carry }

/-- A loom without work takes the oldest running step of its plot that it has not ended (R191); what its Bench holds outside the
resident regions is not defined across invocations (R168). Log: 75 DEDUCED, 106 DESIGN CHOICE. -/
def State.pickStep (s : State) (n : Nat) : State :=
  match (s.loom n).step, s.ownerOf n with
  | none, some p =>
    match s.steps.find? (fun e => match e.2 with
        | some x => x.plot == p && x.st == .running && !x.ended.contains n
        | none => false) with
    | some (id, some x) => s.updLoom n (fun l => (l.lose n (s.residents n)).begin_ id x)
    | _ => s
  | _, _ => s

/-- A loom stops what it runs; data of that attempt that returns later is stale (R197). -/
def LoomSt.halt (l : LoomSt) : LoomSt := { l with step := none, stall := none, pending := [], accs := [] }

/-- Discard a step's attempt: its looms stop, and it waits for its re-run (R50, R153, R196, R401). -/
def State.discard (s : State) (id : Nat) : State :=
  match s.stepAt id with
  | none => s
  | some x =>
    let s1 := (s.dropSamples id x.plot).updStep id (fun x => { x with st := .discarded, ended := [], appends := [] })
    (s1.footprint x.plot).foldl (fun s n => if (s.loom n).step = some id then s.updLoom n LoomSt.halt else s) s1

/-- Discard every step in flight of a plot. -/
def State.discardAll (s : State) (p : Nat) : State := (s.stepsOf p).foldl (fun s id => s.discard id) s

/-- Take a step out: its requests are in no step any more, and its looms stop if they still run it. -/
def State.dropStep (s : State) (id : Nat) : State :=
  match s.stepAt id with
  | none => s
  | some x =>
    let s1 := x.reqs.foldl (fun s r => s.updOb r.ob (fun o => if o.step = some id then
      { o with step := none, provisional := o.committed } else o)) (s.noteBusy x.plot)
    let s2 := (s1.footprint x.plot).foldl (fun s n => if (s.loom n).step = some id then s.updLoom n LoomSt.halt else s) s1
    { s2 with steps := Tab.set none s2.steps id none }

/-- PROVISIONAL pages of a request. -/
def Ob.provPages (o : Ob) : Nat := (o.pages.filter (fun e => pgState (o.page e.1 e.2) == 1)).length

/-- A step ends without a commit: its samples go with it (R124), and the positions and frames that it held provisionally are counted
(R224, R235). -/
def State.cutStep (s : State) (id : Nat) : State :=
  match s.stepAt id with
  | none => s
  | some x =>
    (((s.dropSamples id x.plot).bump 64 (0x6200 + x.plot) 0x16 (x.reqs.map (fun r => (s.obAt r.ob).provPages)).sum).bump 64
      (0x6200 + x.plot) 0x17 (x.reqs.map StepReq.need).sum).dropStep id

/-! ### Faults of a plot -/

/-- A plot faults (R245): its attempts are discarded, every live request goes FAULTED and posts its FINAL entry, with INTEGRITY
where it read a poisoned unit; a load in progress ends REFUSED; the plot reads FAULTED unless it is being drained or erased. -/
def State.faultPlot (s : State) (p : Nat) (poisonedFor : Nat → Bool) : State :=
  if s.plotExists p then
    let s1 := (s.stepsOf p).foldl (fun s id => s.cutStep id) s
    let s2 := ((s1.obOf p).filter (fun i => (s1.obAt i).st.live)).foldl (fun s i =>
      s.endRequest i .faulted (if poisonedFor i then .integrity else .faulted) (s.obAt i).tag) s1
    let s3 := (s2.obOf p).foldl (fun s i => (s.releasePages i).settle i) s2
    let s4 := if (s3.plot p).loading.isSome then
        (s3.updPlot p (fun x => { x with loading := none })).setCell (0x3100 + p) 3 6 else s3
    if s4.plotState p = 1 ∨ s4.plotState p = 2 then s4.setCell (0x3000 + p) 1 5 else s4
  else s

/-- An address fault of a loom (R199, R201): the plot faults, it is counted, and E-3201 names the instruction. -/
def State.addrFault (s : State) (p n : Nat) : State :=
  ((s.bump 32 (0x3300 + p) 9 1).raise 0x3201 p [p, loomEndpoint n 0, (s.loom n).ip]).faultPlot p (fun _ => false)

/-- The requests of a step whose loom read a poisoned unit (R152, R196). Log: 46 DEDUCED. -/
def State.inStep (s : State) (id : Option Nat) (i : Nat) : Bool :=
  match id with
  | none => false
  | some id => (s.obAt i).step == some id

end Sys2Proof.Machine
end

