-- ==== Sys2Proof/Machine/BenchOps.lean ====
section
/-! DEFINITION. The Bench of a loom as several commands share it: its bytes, words and lines, and its partitions (R133 to R137). -/

namespace Sys2Proof.Machine

/-- Bytes of a Bench: 4 MiB. -/
def benchSize : Nat := 2 ^ 22

/-- Bank, line in the bank and byte in the line of a Bench address: bits [10:7], [21:11] and [6:0] (R133). -/
def benchPlace (a : Nat) : Nat × Nat × Nat := (bits a 10 7, bits a 21 11, bits a 6 0)

/-- The requesters of a Bench (R137, R138). -/
inductive BenchUser where
  | operand | loomWrite | fuller | fabricIn | fabricOut | fill | drain
  deriving DecidableEq, Repr

/-- The requester of each of the eight slots of a Bench bank (R138). -/
def benchSlot (k : Nat) : BenchUser :=
  match k with
  | 0 => .operand | 1 => .loomWrite | 2 => .fuller | 3 => .fabricIn | 4 => .operand | 5 => .fabricOut | 6 => .fill | _ => .drain

/-- Whether a requester may access a partition in split mode: 0 weights, 1 activations, 2 partial sums; the fabric writes weights as
read returns only, KIND 4 (R137). -/
def benchPermits (u : BenchUser) (part kind : Nat) : Bool :=
  match u with
  | .operand => true
  | .loomWrite => part != 0
  | .fuller => part != 0
  | .fabricIn => part != 0 || kind == 4
  | .fabricOut => part != 0
  | .fill => true
  | .drain => true

/-- The word enables of the write of `n` bytes at `a` in a line: one for each of its sixteen 64-bit words (R134). -/
def lineMask (a n line : Nat) : List Bool :=
  (List.range 16).map (fun k => decide (a / 8 ≤ 16 * line + k) && decide (16 * line + k < (a + n + 7) / 8))

/-- Bytes from address `a` on as differences from what an unlisted address reads; the same function leads back. -/
def LoomSt.overBlank (l : LoomSt) (a : Nat) : List Byte → List Byte
  | [] => []
  | b :: bs => (b ^^^ l.blank a) :: l.overBlank (a + 1) bs

/-- `n` bytes of a Bench from address `a`. -/
def LoomSt.bytes (l : LoomSt) (a n : Nat) : List Byte := l.overBlank a (Tab.getList 0 l.bench a n)

/-- Write bytes; nothing lies beyond the 4 MiB. Every word that is written gets its parity bit (R134). Log: 39 DEDUCED. -/
def LoomSt.store (l : LoomSt) (a : Nat) (bs : List Byte) : LoomSt :=
  { l with bench := Tab.setList 0 l.bench a (l.overBlank a (bs.take (benchSize - a))),
           badWords := Tab.keep (fun w => !((lineMask a bs.length (w / 16)).getD (w % 16) false)) l.badWords }

/-- Bits of some words have changed by themselves: they no longer agree with their parity bits (R134, R153). -/
def LoomSt.upset (ws : List BenchWord) (l : LoomSt) : LoomSt :=
  { l with badWords := ws.foldl (fun t w => Tab.set false t w.val true) l.badWords }

/-- Whether a read of some ranges returns a word whose parity is wrong (R134). -/
def LoomSt.parityBad (l : LoomSt) (ranges : List (Nat × Nat)) : Bool :=
  l.badWords.any (fun e => e.2 && ranges.any (fun r => r.2 != 0 && decide (r.1 / 8 ≤ e.1) && decide (e.1 < (r.1 + r.2 + 7) / 8)))

/-- Words of `w` bytes from address `a`. -/
def LoomSt.words (l : LoomSt) (w a n : Nat) : List Nat := splitLe w n (l.bytes a (w * n))

/-- The range of a vector (R89). -/
def vecRange (v : Vec) : Nat × Nat := (v.base.toNat, width v.fmt.toNat / 8 * v.len.val)

/-- A vector as FP32 words: those of BF16 and FP16 denote their values unchanged (R89, R101). -/
def LoomSt.vec (l : LoomSt) (v : Vec) : List Nat :=
  if v.fmt = 0xC then (l.words 2 v.base.toNat v.len.val).map ofBf16
  else if v.fmt = 0xD then (l.words 2 v.base.toNat v.len.val).map ofFp16
  else l.words 4 v.base.toNat v.len.val

/-- Write FP32 words. -/
def LoomSt.storeVec (l : LoomSt) (a : Nat) (xs : List Nat) : LoomSt := l.store a (wordsLe 4 xs)

/-- The lines of 128 bytes under a range. -/
def lineRange (a n : Nat) : Nat × Nat := (a / 128, (a + n + 127) / 128)

/-- Whether a range reaches a line with a fill or write pending from an issued operation (R199). -/
def LoomSt.pendingIn (l : LoomSt) (lo hi : Nat) : Bool := l.pending.any (fun e => e.2 != [] && decide (lo ≤ e.1) && decide (e.1 < hi))

/-- The partitions of a plot in split mode, as first address and end (R136). -/
def State.partition (s : State) (p : Nat) : Nat → Nat × Nat
  | 0 => (0, s.cell (0x6100 + p) 2 * 65536)
  | 1 => (s.cell (0x6100 + p) 2 * 65536, (s.cell (0x6100 + p) 2 + s.cell (0x6100 + p) 3) * 65536)
  | _ => ((s.cell (0x6100 + p) 2 + s.cell (0x6100 + p) 3) * 65536, benchSize)

/-- Whether a requester may access a range: in unified mode always, in split mode if it may access every partition that the range
reaches (R135, R137). -/
def State.partOk (s : State) (p : Nat) (u : BenchUser) (kind a n : Nat) : Bool :=
  s.cell (0x6100 + p) 1 == 0 || n == 0 || (List.range 3).all (fun k =>
    benchPermits u k kind || decide (a + n ≤ (s.partition p k).1) || decide ((s.partition p k).2 ≤ a) ||
      decide ((s.partition p k).2 ≤ (s.partition p k).1))

/-- A refused access: counted in 6100+p:06, and the plot faults (R137). -/
def State.partFault (s : State) (p : Nat) : State := (s.bump 32 (0x6100 + p) 6 1).faultPlot p (fun _ => false)

end Sys2Proof.Machine
end

