-- ==== Sys2Proof/Machine/FabricOps.lean ====
section
/-!
DEFINITION. The fabric as several commands share it: where an endpoint is, which way a message goes next, credits, injection and
arrival (R30 to R50, R187 to R190).
-/

namespace Sys2Proof.Machine

/-! ### Geometry. Edges are numbered 0 north, 1 east, 2 south, 3 west. -/

/-- The site across an edge, if the wafer has one there (R16, R17). Log: 27 DEDUCED. -/
def across (t e : Nat) : Option Nat :=
  match e with
  | 0 => if rowOf t = 0 then none else tileAt (rowOf t - 1) (colOf t)
  | 1 => tileAt (rowOf t) (colOf t + 1)
  | 2 => tileAt (rowOf t + 1) (colOf t)
  | _ => if colOf t = 0 then none else tileAt (rowOf t) (colOf t - 1)

/-- The site whose router receives what leaves by an edge: traffic passes straight through a bypassed site (R40). -/
def State.nextSite (s : State) (t e : Nat) : Nat → Option Nat
  | 0 => none
  | f + 1 =>
    match across t e with
    | none => none
    | some u => if (s.site u).st = .absent then s.nextSite u e f else some u

/-- Attach tile and edge of a rim die (R30). -/
def attach : List (Nat × Nat) :=
  [(44, 3), (67, 1), (1, 0), (2, 0), (109, 2), (110, 2), (0, 0), (3, 0), (21, 1), (31, 1), (43, 1), (55, 1), (79, 1), (89, 1),
   (99, 1), (111, 2), (108, 2), (90, 3), (80, 3), (68, 3), (56, 3), (32, 3), (22, 3), (12, 3)]

/-- The router that a rim die reaches: its attach tile's, or, where that is ABSENT, the one beyond its bypass (R32). -/
def State.rimSite (s : State) (r : Nat) : Option Nat :=
  match attach[r]? with
  | none => none
  | some (t, e) => if (s.site t).st = .absent then s.nextSite t ((e + 2) % 4) 12 else some t

/-- Node of a rim die (R30). -/
def rimNode (r : Nat) : Nat := 112 + r

/-- The rim die attached to an outward edge of a tile, if one is (R30). -/
def rimAt (t e : Nat) : Option Nat := (List.range 24).find? (fun r => decide (attach[r]? = some (t, e)))

/-- The rim dies in the order of the ring, clockwise from the die north of T000 (R30, R31). Log: 113 DEDUCED. -/
def ringOrder : List Nat := [6, 2, 3, 7, 8, 9, 10, 11, 1, 12, 13, 14, 15, 5, 4, 16, 17, 18, 19, 20, 0, 21, 22, 23]

/-- Place of a rim die in the ring. -/
def ringPlace (r : Nat) : Nat := ringOrder.findIdx (fun x => x == r)

/-- The neighbour of a rim die in the ring: edge 1 leads clockwise, edge 2 the other way (R31). Log: 113 DEDUCED. -/
def ringNext (r e : Nat) : Option Nat :=
  match e with
  | 1 => ringOrder[(ringPlace r + 1) % 24]?
  | 2 => ringOrder[(ringPlace r + 23) % 24]?
  | _ => none

/-- The edge by which a message goes round the ring: the shorter way, clockwise where both are equal (R31).
Log: 113 DESIGN CHOICE. -/
def ringEdge (r goal : Nat) : Nat := if (ringPlace goal + 24 - ringPlace r) % 24 ≤ 12 then 1 else 2

/-- The node that receives what leaves a node by an edge. A tile's outward edge ends at the rim die attached to it; a rim die has
edge 0 towards its attach tile, and edges 1 and 2 into the ring; traffic passes straight through a bypassed site (R30 to R32, R40). -/
def State.nextNode (s : State) (n e : Nat) : Nat → Option Nat
  | 0 => none
  | f + 1 =>
    if 112 ≤ n then (if e = 0 then s.rimSite (n - 112) else (ringNext (n - 112) e).map rimNode)
    else match across n e with
      | none => (rimAt n e).map rimNode
      | some u => if (s.site u).st = .absent then s.nextNode u e f else some u

/-- Whether a node takes no part: an ABSENT site has no router (R24). -/
def State.nodeDown (s : State) (n : Nat) : Bool := decide (n < 112) && (s.site n).st == .absent

/-- Whether a node's router is held with its tile (R64). -/
def State.nodeHeld (s : State) (n : Nat) : Bool := decide (n < 112) && (s.site n).held.isSome

/-- The agents of a site (R29, R30, R45): each tile's five; the Reeve, the Constable and two Drovers of a host die; the Steward of an
Ethernet die; port engine 0 of a host die, and two port engines of an Ethernet or Ferry die. Log: 114 DEDUCED. -/
def agentOn (site code : Nat) : Bool :=
  if site < 112 then decide (code ≤ 4)
  else if 128 ≤ site ∧ site < 130 then (decide (0x10 ≤ code) && decide (code ≤ 0x13)) || code == 0x15
  else if 130 ≤ site ∧ site < 134 then decide (0x14 ≤ code) && decide (code ≤ 0x16)
  else if 134 ≤ site ∧ site < 152 then code == 0x15 || code == 0x16
  else false

/-- The quadrant of a tile: 0 north-west, 1 north-east, 2 south-west, 3 south-east, by the cuts between columns 5 and 6 and between rows 5
and 6 (R17). -/
def quadrant (t : Nat) : Nat := (if 6 ≤ colOf t then 1 else 0) + (if 6 ≤ rowOf t then 2 else 0)

/-- The endpoint of the Steward of a quadrant, which sits on an Ethernet die: rim dies 02 to 05 (R29, R30, R45). -/
def stewardEndpoint (q : Nat) : Nat := 0x8000 + (0x82 + q) * 128 + 0x14

/-- The node of an endpoint (R45): looms are logical, agents physical; a reserved code, and an agent that the site does not have,
name no endpoint, and an ABSENT site has no router that reaches its agents (R24). -/
def State.siteOf (s : State) (e : Nat) : Option Nat :=
  if bit e 15 then
    (let x := bits e 14 7
     if agentOn x (bits e 6 0) = false then none
     else if x < 112 then (if (s.site x).st = .absent then none else some x)
     else some (rimNode (x - 128)))
  else match endpointLoom e with
    | some n => s.physOf (n / 20)
    | none => none

/-- The tile router through which a node is reached from the tiles (R32). -/
def State.gate (s : State) (n : Nat) : Option Nat := if n < 112 then some n else s.rimSite (n - 112)

/-- Sites of the row of a tile. -/
def rowLen (t : Nat) : Nat := (waferRows.getD (rowOf t) (0, 0, 0)).2.1

/-- R39: X-first when the source row has at least as many sites as the destination row. Sets: 1 XY, 2 YX. -/
def orderSet (src dst : Nat) : Nat := if rowLen dst ≤ rowLen src then 1 else 2

/-- Next edge of a dimension-ordered leg towards a site (R39). -/
def legEdge (set t goal : Nat) : Option Nat :=
  let dx := compare (colOf t) (colOf goal)
  let dy := compare (rowOf t) (rowOf goal)
  let x : Option Nat := match dx with | .lt => some 1 | .gt => some 3 | .eq => none
  let y : Option Nat := match dy with | .lt => some 2 | .gt => some 0 | .eq => none
  if set = 2 then (match y with | some e => some e | none => x) else (match x with | some e => some e | none => y)

/-- The site where a dimension-ordered route turns, if it turns (R39). -/
def turnSite (set src dst : Nat) : Option Nat :=
  if rowOf src = rowOf dst ∨ colOf src = colOf dst then none
  else if set = 2 then tileAt (rowOf dst) (colOf src) else tileAt (rowOf src) (colOf dst)

/-- The set and the detour tile with which a message starts a dimension-ordered route; at the detour tile itself only the second leg
is left (R39, R41). Log: 24 DESIGN CHOICE. -/
def State.startOrder (s : State) (src dst : Nat) : Nat × Option Nat :=
  let set := orderSet src dst
  match turnSite set src dst with
  | none => (set, none)
  | some u =>
    if (s.site u).st = .absent then
      (let v := Config.detour src dst (s.cell 0x7021 1)
       if v = src then (2, none) else if v < 112 ∧ (s.site v).st ≠ .absent then (1, some v) else (set, none))
    else (set, none)

/-! ### Channels and credits -/

/-- Key of an output channel: node, edge, channel. Log: 27 DEDUCED. -/
def chanKey (t e c : Nat) : Nat := t * 64 + e * 16 + c

/-- A channel. -/
def State.chan (s : State) (k : Nat) : Chan := Tab.get {} s.fabric.chans k

/-- Change a channel. -/
def State.updChan (s : State) (k : Nat) (f : Chan → Chan) : State :=
  { s with fabric := { s.fabric with chans := Tab.upd {} s.fabric.chans k f } }

/-- Transfers of the buffer set of a class (R36). -/
def capacity (cls set : Nat) : Nat :=
  match cls, set with
  | 0, 0 => 66 | 1, 0 => 66 | 0, _ => 34 | 1, _ => 34
  | 2, 0 => 0 | 2, _ => 66
  | _, 0 => 0
  | _, _ => 8

/-- Transfers of a message: a header alone takes the first transfer's header lane (R36, R44). Log: 25 DEDUCED. -/
def Transit.len (m : Transit) : Nat := max 1 ((m.msg.payload.length + 127) / 128)

/-- Whether the downstream set has credit for the whole message (R35). -/
def Chan.credit (c : Chan) (m : Transit) : Bool :=
  decide (Tab.get 0 c.used (m.msg.cls.val * 3 + m.set) + m.len ≤ capacity m.msg.cls.val m.set)

/-- Owner of a channel for VC0 and VC1 (R38). -/
def State.chanPlot (s : State) (k : Nat) : Option Nat :=
  let v := Tab.get 0 s.fabric.chanOwner k
  if v = 0 then none else some (v - 1)

/-- The sixteen channels of an edge. -/
def edgeChans (t e : Nat) : List Nat := (List.range 16).map (fun c => chanKey t e c)

/-- Assign a channel of an edge to a plot (R38, R188): one that the plot has there, else an unassigned one, which it then has; none
when the edge has neither. Log: 23 DESIGN CHOICE, 42 DESIGN CHOICE. -/
def State.takeChan (s : State) (plot t e : Nat) : Option Nat × State :=
  match (edgeChans t e).find? (fun k => s.chanPlot k == some plot) with
  | some k => (some k, s)
  | none =>
    match (edgeChans t e).find? (fun k => s.chanPlot k == none) with
    | some k => (some k, { s with fabric := { s.fabric with chanOwner := Tab.set 0 s.fabric.chanOwner k (plot + 1) } })
    | none => (none, s)

/-- A message joins the queue of an output channel of a node. VC0 and VC1 go on a channel assigned to their plot, and wait for one
where the edge has none (R38); on VC2 and VC3 the channel follows from the sender; the ring has one channel each way.
Log: 23 DESIGN CHOICE, 113 DESIGN CHOICE. -/
def State.enqueue (s : State) (t e : Nat) (m : Transit) : State :=
  if m.msg.cls.val < 2 then
    match s.takeChan m.msg.plot.toNat t e with
    | (some k, s') => s'.updChan k (fun c => { c with waiting := c.waiting ++ [m] })
    | (none, s') => { s' with fabric := { s'.fabric with waitChan := s'.fabric.waitChan ++ [(t * 4 + e, m)] } }
  else
    s.updChan (chanKey t e (if 112 ≤ t ∧ e ≠ 0 then 0 else m.msg.src.toNat % 16)) (fun c => { c with waiting := c.waiting ++ [m] })

/-- Channels have been released: the messages that wait for one look again (R38). -/
def State.retryChans (s : State) : State :=
  s.fabric.waitChan.foldl (fun s x => s.enqueue (x.1 / 4) (x.1 % 4) x.2) { s with fabric := { s.fabric with waitChan := [] } }

/-- The logical tile of a loom endpoint. -/
def tileOfEndpoint (e : Nat) : Nat := bits e 14 8

/-- Whether a message belongs to a flow: its endpoints are looms of the flow's logical tiles (R45, R189). -/
def flowOf (plot cls src dst : Nat) (m : Msg) : Bool :=
  plot == m.plot.toNat && cls == m.cls.val && !bit m.src.toNat 15 && !bit m.dest.toNat 15 &&
    src == tileOfEndpoint m.src.toNat && dst == tileOfEndpoint m.dest.toNat

/-- The route entry of a message at a router (R189). -/
def State.routeAt (s : State) (t : Nat) (m : Msg) : Option RouteEntry :=
  s.fabric.routes.find? (fun r => r.site == t && flowOf r.plot r.cls r.src r.dst m)

/-- Count a message on a fallback route, for its plot and its loom (R189, R201). -/
def State.countFallback (s : State) (m : Msg) : State :=
  if 16 ≤ m.plot.toNat then s
  else
    let s1 := s.bump 64 (0x3300 + m.plot.toNat) 6 1
    match endpointLoom m.src.toNat with
    | some n => s1.updLoom n (fun l => { l with ctr := Tab.set 0 l.ctr 5 (satAdd 32 (Tab.get 0 l.ctr 5) 1) })
    | none => s1

/-- Freed transfers of the buffer that a message leaves (R34). -/
def State.release (s : State) (m : Transit) : State :=
  match m.holds with
  | none => s
  | some h => s.updChan h.1 (fun c => { c with freed := Tab.upd 0 c.freed (m.msg.cls.val * 3 + h.2) (· + m.len) })

/-- A message has reached its endpoint. -/
def State.deliver (s : State) (m : Msg) : State :=
  { s with fabric := { s.fabric with inbox := Tab.upd [] s.fabric.inbox m.dest.toNat (· ++ [m]) } }

/-- A message on a dimension-ordered route at tile `t`, towards the tile `aim` through which its goal is reached: the next edge of its
leg, or, at the end of it, out to the rim die or in to the tile's endpoint (R30, R39). -/
def State.dimension (s : State) (t aim goal : Nat) (m : Transit) : State :=
  match legEdge m.set t (m.via.getD aim) with
  | some e => s.enqueue t e m
  | none => if 112 ≤ goal then s.enqueue t ((attach.getD (goal - 112) (0, 0)).2) m else (s.release m).deliver m.msg

/-- A message at a tile's router: on its compiler route while it has one; without an entry it goes on in the fallback sets and is
counted (R189). The detour's second leg is Y-first (R41). A goal that no router reaches takes the message out of the fabric.
Log: 26 DEDUCED. -/
def State.placeTile (s : State) (t goal : Nat) (m : Transit) : State :=
  match s.gate goal with
  | none => s.release m
  | some aim =>
    if m.set = 0 then
      match s.routeAt t m.msg with
      | some r => s.updChan (chanKey t r.edge r.chan) (fun c => { c with waiting := c.waiting ++ [m] })
      | none =>
        let o := s.startOrder t aim
        (s.countFallback m.msg).dimension t aim goal { m with set := o.1, via := o.2 }
    else s.dimension t aim goal (if m.via = some t then { m with via := none, set := 2 } else m)

/-- Put a message that stands at a node on its next output channel, or deliver it. Every router translates the destination
through the defect map (R45); a message whose destination no site serves any more leaves the fabric. Between rim dies VC3 goes
round the ring (R31); everything else goes through the attach tile (R30). Log: 23 DESIGN CHOICE, 26 DEDUCED, 113 DEDUCED. -/
def State.place (s : State) (t : Nat) (m : Transit) : State :=
  match s.siteOf m.msg.dest.toNat with
  | none => s.release m
  | some goal =>
    if goal = t ∧ m.via = none then (s.release m).deliver m.msg
    else if 112 ≤ t then
      s.enqueue t (if 112 ≤ goal ∧ m.msg.cls.val = 3 then ringEdge (t - 112) (goal - 112) else 0) m
    else s.placeTile t goal m

/-- Whether a derived route is that of a message's flow (R189). -/
def Derived.carries (d : Derived) (m : Msg) : Bool := flowOf d.plot d.route.cls d.route.src d.route.dst m

/-- Whether a message waits at its source: an edge of its flow's derived route has no channel, or earlier messages of the flow
wait (R188). Log: 28 DEDUCED. -/
def State.waitsAtSource (s : State) (m : Msg) : Bool :=
  s.fabric.derived.any (fun d => d.carries m && (d.missing != [] || s.fabric.parked.any (fun x => d.carries x)))

/-- The firewall at injection (R46, R47). The destination is an endpoint of R45. A plot's tag comes from a loom of the plot or from
an agent that acts for it, and goes to the plot's own looms and, on VC2 and VC3 as on VC1 to a Drover, to agents; the engine tag is
for what no plot's loom sends, on VC2 and VC3. Log: 26 DEDUCED. -/
def State.mayInject (s : State) (m : Msg) : Bool :=
  (s.siteOf m.dest.toNat).isSome && (
    let owner := (endpointLoom m.src.toNat).bind (fun n => s.ownerOf n)
    if m.plot.toNat = 0x1F then decide (2 ≤ m.cls.val) && owner.isNone
    else decide (m.plot.toNat < 16) && (owner == some m.plot.toNat || bit m.src.toNat 15) &&
      (match endpointLoom m.dest.toNat with
        | some n => s.ownerOf n == some m.plot.toNat
        | none => decide (1 ≤ m.cls.val)))

/-- The set and detour tile with which a message of VC2 or VC3 starts between two nodes; round the ring it uses the XY set.
Log: 113 DESIGN CHOICE. -/
def State.startSet (s : State) (t g : Nat) (cls : Nat) : Nat × Option Nat :=
  if 112 ≤ t ∧ 112 ≤ g ∧ cls = 3 then (1, none)
  else match s.gate t, s.gate g with
    | some a, some b => s.startOrder a b
    | _, _ => (1, none)

/-- A message enters the fabric at its sender's node, unless it fails the firewall's check (R47): VC0 and VC1 on the compiler-route
set, unless the flow waits at its source (R188); the others on their dimension-ordered route. Log: 28 DEDUCED. -/
def State.inject (s : State) (m : Msg) : State :=
  if s.mayInject m = false then { s with fabric := { s.fabric with refused := s.fabric.refused + 1 } }
  else match s.siteOf m.src.toNat, s.siteOf m.dest.toNat with
    | some t, some g =>
      if s.waitsAtSource m then { s with fabric := { s.fabric with parked := s.fabric.parked ++ [m] } }
      else
        let o := if m.cls.val < 2 then (0, none) else s.startSet t g m.cls.val
        s.place t { msg := m, set := o.1, via := o.2, holds := none }
    | _, _ => s

/-! ### Messages of the Cellar on VC2 (R34, R158, R163, R171, R218) -/

/-- The endpoint of a tile's Cellar controller (R45). -/
def ctrl (t : Nat) : Nat := 0x8000 + t * 128 + 2

/-- Bytes padded with zeros to whole transfers (R103). -/
def padded (bs : List Byte) : List Byte := bs ++ List.replicate ((128 - bs.length % 128) % 128) 0

/-- Payload of a read request: address and bytes wanted (R34). Log: 110 DESIGN CHOICE. -/
def readPayload (a n : Nat) : List Byte := padded (toLe 8 a ++ toLe 8 n)

/-- A VC2 message with a reference to what it belongs to. Log: 110 DESIGN CHOICE. -/
def State.vc2 (s : State) (src dest : Nat) (plot : Nat) (kind : BitVec 3) (ref : Nat) (data : List Byte) : Msg :=
  { epoch := BitVec.ofNat 16 (s.epoch dest), dest := BitVec.ofNat 16 dest, src := BitVec.ofNat 16 src, plot := BitVec.ofNat 5 plot,
    cls := 2, kind, payload := padded data, ref }

/-- Whether a message is the VC2 message of a kind with a plot tag and a reference. -/
def isVc2 (plot : Nat) (kind : BitVec 3) (ref : Nat) (m : Msg) : Bool :=
  m.cls == 2 && m.plot.toNat == plot && m.kind == kind && m.ref == ref

/-- Take the first element that satisfies `p` out of a list. -/
def dropFirst {α : Type} (p : α → Bool) : List α → List α
  | [] => []
  | x :: xs => if p x then xs else x :: dropFirst p xs

/-- Whether an endpoint has accepted a message that satisfies `want`. -/
def State.arrived (s : State) (e : Nat) (want : Msg → Bool) : Bool := (Tab.get [] s.fabric.taken e).any want

/-- The first such message is taken from the endpoint. -/
def State.takeMsg (s : State) (e : Nat) (want : Msg → Bool) : State :=
  { s with fabric := { s.fabric with taken := Tab.upd [] s.fabric.taken e (dropFirst want) } }

/-- The logical tile of the parity unit of a write's row (R155). -/
def CWrite.parityTile (w : CWrite) : Nat := w.lt / 12 * 12 + w.row % 12

/-- The controllers between which a write's delta and its acknowledgement travel; none where one of the two logical tiles has no tile. -/
def State.deltaPath (s : State) (w : CWrite) : Option (Nat × Nat) :=
  match s.physOf w.lt, s.physOf w.parityTile with
  | some a, some b => some (ctrl a, ctrl b)
  | _, _ => none

/-- The delta of a write goes to the parity member with the engine tag (R158). Log: 110 DESIGN CHOICE. -/
def State.sendDelta (s : State) (w : CWrite) : State :=
  match s.deltaPath w with
  | some x => s.inject (s.vc2 x.1 x.2 0x1F 2 w.id w.delta)
  | none => s

/-- A write to a unit, with its delta on its way (R158); `parcel` names the Parcel it belongs to. -/
def State.writeUnit (s : State) (lt r off plot parcel : Nat) (data : List Byte) : State :=
  let s1 := s.unitWrite lt r off plot data
  match s1.cellar.writes.getLast? with
  | some w =>
    if w.id = s.cellar.nextId ∧ s1.cellar.nextId = s.cellar.nextId + 1 then
      { s1 with cellar := { s1.cellar with writes := s1.cellar.writes.dropLast ++ [{ w with parcel }] } }.sendDelta w
    else s1
  | none => s1

/-- A message with one endpoint's part taken over by another (R50). -/
def Msg.redirect (old new epoch : Nat) (m : Msg) : Msg :=
  let m1 := if m.dest.toNat = old then { m with dest := BitVec.ofNat 16 new, epoch := BitVec.ofNat 16 epoch } else m
  if m1.src.toNat = old then { m1 with src := BitVec.ofNat 16 new } else m1

/-- Apply a change to every message of a channel. -/
def Chan.mapMsg (f : Msg → Msg) (c : Chan) : Chan :=
  { c with waiting := c.waiting.map (fun t => { t with msg := f t.msg }),
           sending := c.sending.map (fun e => (e.1, e.2.map (fun x => ({ x.1 with msg := f x.1.msg }, x.2)))) }

/-- What was kept for one endpoint is kept for another. -/
def moveBox (old new : Nat) (f : Msg → Msg) (t : Tab (List Msg)) : Tab (List Msg) :=
  let all := t.map (fun e => (e.1, e.2.map f))
  Tab.set [] (Tab.upd [] all new (fun x => x ++ Tab.get [] all old)) old []

/-- A promoted tile's Cellar controller takes over from that of the failed tile: the messages between it and the Cellar's fill, drain and
rebuild engines are those of its new tile (R50, R161, R401). Log: 110 DESIGN CHOICE. -/
def State.redirect (s : State) (old new : Nat) : State :=
  let f := fun (m : Msg) => if m.cls = 2 then Msg.redirect old new (s.epoch new) m else m
  let x := s.fabric
  { s with fabric := { x with
      chans := x.chans.map (fun e => (e.1, e.2.mapMsg f)), lost := x.lost.map f, parked := x.parked.map f,
      waitChan := x.waitChan.map (fun e => (e.1, { e.2 with msg := f e.2.msg })),
      inbox := moveBox old new f x.inbox, taken := moveBox old new f x.taken } }

/-- The messages of flows that wait for no route any more enter the fabric (R188). Log: 28 DEDUCED. -/
def State.unpark (s : State) : State :=
  let waits := fun (m : Msg) => s.fabric.derived.any (fun d => d.carries m)
  (s.fabric.parked.filter (fun m => !waits m)).foldl (fun s m => s.inject m)
    { s with fabric := { s.fabric with parked := s.fabric.parked.filter waits } }

/-! ### Derived routes -/

/-- The hops of one leg on the actual map: sites and edges from `t` to `g` by the rule of R39; `fuel` bounds them. -/
def State.legHops (s : State) (set t g : Nat) : Nat → List (Nat × Nat)
  | 0 => []
  | f + 1 =>
    match legEdge set t g with
    | none => []
    | some e =>
      match s.nextSite t e 12 with
      | none => []
      | some u => (t, e) :: s.legHops set u g f

/-- The sites and edges of a derived leg between two logical tiles (R39 to R41, R187). -/
def State.legBetween (s : State) (src dst : Nat) : List (Nat × Nat) :=
  match s.physOf src, s.physOf dst with
  | some t, some g =>
    let o := s.startOrder t g
    match o.2 with
    | none => s.legHops o.1 t g 24
    | some v => s.legHops 1 t v 24 ++ s.legHops 2 v g 24
  | _, _ => []

/-- The legs of a route, tile by tile: from its source through its waypoints to its destination (R184). -/
def State.legsOf (s : State) : Nat → List Nat → List (Nat × Nat)
  | _, [] => []
  | t, u :: us => s.legBetween t u ++ s.legsOf u us

/-- The sites and edges of a route derived on the present map, leg by leg (R184, R187). -/
def State.deriveHops (s : State) (r : Route) : List (Nat × Nat) :=
  s.legsOf r.src (r.waypoints ++ [r.dst])

/-- The hops of a route as (site, edge, channel). -/
def hopsOf (xs : List (Nat × Nat × Nat)) : List (Phys × Fin 4 × Fin 16) :=
  xs.filterMap (fun x => if h : x.1 < 112 then some (⟨x.1, h⟩, Fin.ofNat 4 x.2.1, Fin.ofNat 16 x.2.2) else none)

/-- The sites and edges of a route's path in use. -/
def routePath (r : Route) : List (Nat × Nat) := r.hops.map (fun h => (h.1.val, h.2.1.val))

/-- Derive one flow again (R187, R188): its entries leave the routers, and its new path, with the channels it gets, waits to be
checked and loaded. An edge without a channel raises E-3104. Log: 27 DEDUCED. -/
def State.rederive (s : State) (p : Nat) (r : Route) : State :=
  let s1 := { s with fabric := { s.fabric with routes := s.fabric.routes.filter (fun x =>
    !(x.plot == p && x.cls == r.cls && x.src == r.src && x.dst == r.dst)) } }
  let step := fun (a : State × List (Nat × Nat × Nat) × List Nat) (h : Nat × Nat) =>
    match a.1.takeChan p h.1 h.2 with
    | (some k, s') => (s', a.2.1 ++ [(h.1, h.2, k % 16)], a.2.2)
    | (none, s') => (s'.raise 0x3104 p [p, h.1 * 4 + h.2], a.2.1 ++ [(h.1, h.2, 0)], a.2.2 ++ [h.1 * 4 + h.2])
  let a := (s1.deriveHops r).foldl step (s1, [], [])
  let d : Derived := { plot := p, route := { r with hops := hopsOf a.2.1 }, missing := a.2.2 }
  let keep := a.1.fabric.derived.filter (fun x =>
    !(x.plot == p && x.route.cls == r.cls && x.route.src == r.src && x.route.dst == r.dst))
  { a.1 with fabric := { a.1.fabric with derived := keep ++ [d] } }

/-- ROUTE_REDERIVE (R187): every flow whose path on the present map is another than on the map of `old`. The image's record keeps the
path in use. -/
def State.rederiveAll (s old : State) : State :=
  s.plotsNow.foldl (fun s p =>
    match (s.plot p).image with
    | none => s
    | some im =>
      let rs := im.routes.filter (fun r => s.deriveHops r != old.deriveHops r)
      if rs = [] then s
      else (rs.foldl (fun s r => s.rederive p r) s).setCell (0x3100 + p) 4 (s.cell 0x7021 1)) s

/-- The router entries of a route (R189). Log: 42 DESIGN CHOICE. -/
def routeEntries (p : Nat) (r : Route) : List RouteEntry :=
  r.hops.map (fun h => { plot := p, cls := r.cls, src := r.src, dst := r.dst, site := h.1.val, edge := h.2.1.val,
                         chan := h.2.2.val })

/-- Load entries into their routers: each holds up to 4,096, and an entry that finds no room is not there, so that its messages go
on in the fallback sets (R189). Log: 42 DESIGN CHOICE. -/
def holdEntries (rs es : List RouteEntry) : List RouteEntry :=
  es.foldl (fun rs e => if (rs.filter (fun x => x.site == e.site)).length < 4096 then rs ++ [e] else rs) rs

/-- The buffer sets that a flow enters, hop by hop: one per channel (R190). -/
def routeVertices (r : Route) : List Nat := r.hops.map (fun h => chanKey h.1.val h.2.1.val h.2.2.val)

/-- The dependencies of a flow: from the set it leaves to the set it enters (R190). -/
def routeEdges (r : Route) : List (Nat × Nat) := (routeVertices r).zip (routeVertices r).tail

/-- One round of R190 after another: take the vertices that no remaining edge enters away, until none is left to take; what
stays are the cyclic vertices. -/
def cyclicOf : Nat → List Nat → List (Nat × Nat) → List Nat
  | 0, vs, _ => vs
  | f + 1, vs, es =>
    let ready := vs.filter (fun v => !es.any (fun e => e.2 == v))
    if ready = [] then vs
    else cyclicOf f (vs.filter (fun v => !ready.contains v)) (es.filter (fun e => !ready.contains e.1))

/-- The routes of one plot and class that lie on a cycle (R190): those with a hop into a cyclic vertex. -/
def onCycle (rs : List Route) : List Route :=
  let vs := (rs.flatMap routeVertices).dedup
  let cy := cyclicOf (vs.length + 1) vs (rs.flatMap routeEdges)
  rs.filter (fun r => (routeVertices r).any (fun v => cy.contains v))

/-- ACYCLICITY_CHECK (R190) of one plot: flows on a cycle lose their entries, raise E-3102 and count in 3100+p:05. -/
def State.checkCycles (s : State) (p : Nat) (rs : List Route) : State × List Route :=
  let bad := onCycle (rs.filter (fun r => r.cls == 0)) ++ onCycle (rs.filter (fun r => r.cls == 1))
  let s1 := bad.foldl (fun s r =>
    ({ s with fabric := { s.fabric with routes := s.fabric.routes.filter (fun x =>
        !(x.plot == p && x.cls == r.cls && x.src == r.src && x.dst == r.dst)) } }.bump 32 (0x3100 + p) 5 1).raise
      0x3102 p [p, r.cls, r.src, r.dst]) s
  (s1, rs.filter (fun r => !bad.contains r))

/-! ### Ferry ports (R310, R314) -/

/-- A Ferry port. -/
def State.ferryAt (s : State) (x : Nat) : Ferry := Tab.get {} s.ferry x

/-- Change a Ferry port. -/
def State.updFerry (s : State) (x : Nat) (f : Ferry → Ferry) : State := { s with ferry := Tab.upd {} s.ferry x f }

/-- The class of a frame: bits [10:9] of its message header (R44, R314). -/
def frameClass (bs : List Byte) : Fin 4 := ⟨bits (field bs 0 8) 10 9, by
  unfold bits; exact Nat.mod_lt _ (by decide)⟩

/-- The flits of a frame: 240 bytes of payload each; TYPE 4 for a whole frame, else 1 start, 2 continue, 3 end (R310).
Log: 81 DEDUCED. -/
def frameFlits (cls : Fin 4) (bs : List Byte) : List Flit :=
  let n := (bs.length + 239) / 240
  (List.range n).map (fun k =>
    { type := if n = 1 then 4 else if k = 0 then 1 else if k + 1 = n then 3 else 2, cls, seq := 0, ack := 0, crClass := 0,
      crCount := 0, jobTag := 0, payload := (bs.drop (240 * k)).take 240 })

/-- A frame's flits join those that wait at a port (R313, R314). -/
def State.enqueueFrame (s : State) (x loom ticket attempt : Nat) (bs : List Byte) : State :=
  let c := frameClass bs
  s.updFerry x (fun f => { f with queue := Tab.upd [] f.queue c.val (fun q =>
    q ++ (frameFlits c bs).map (fun y => { flit := y, loom, ticket, attempt })) })

/-- The Ferry port that a port engine's endpoint serves (R30, R45). -/
def engineFerry (e : Nat) : Option Nat :=
  (List.range 36).find? (fun x => e == 32768 + (0x86 + x / 2) * 128 + 0x15 + x % 2)

/-- The header of a message (R44). -/
def headerWord (epoch dest src plot cls len kind : Nat) : Nat :=
  epoch * 2 ^ 48 + dest * 2 ^ 32 + src * 2 ^ 16 + plot * 2 ^ 11 + cls * 2 ^ 9 + len * 2 ^ 3 + kind

/-- An EPOCH_STALE reply that a Ferry port engine accepts goes back over the link by which the message came (R314): to the endpoint that had
sent it, whose role epoch in its own engine the spec does not let this one know. Log: 81 DEDUCED. -/
def State.staleOut (s : State) (x : Nat) (m : Msg) : State :=
  let r := s.draw
  r.2.enqueueFrame x 2160 0 0 (toLe 8 (headerWord (r.1 % 65536) (Tab.get 0 (s.ferryAt x).sources m.src.toNat) m.src.toNat
    m.plot.toNat 3 0 6))

end Sys2Proof.Machine
end

