-- ==== Sys2Proof/Machine/FaultOps.lean ====
section
/-!
DEFINITION. Repairs that several commands make: the row spare, the failure of a tile with promotion and what is lost, degraded
groups (R22 to R28, R161 to R167, R187, R396 to R409).
-/

namespace Sys2Proof.Machine

/-- Cause codes of E-7110 (R424). Log: 18 DEDUCED. -/
def causeCode : TileCause → Nat
  | .liveness => 0 | .localHold => 1 | .tooFewPhases => 2 | .cellarDie => 3 | .loomNoSpare => 4 | .digest => 5 | .softStart => 6

/-- Whether a stripe group is degraded: a member's units are not all there (R165). -/
def State.degraded (s : State) (g : Nat) : Bool :=
  s.cellar.orphans.any (fun m => m / 12 == g) || s.cellar.unbuilt.any (fun e => e.1 / 12 == g && e.2.isSome)

/-- Group bits of 6020:04. -/
def State.groupBits (s : State) : State :=
  s.setCell 0x6020 4 (((List.range 9).filter (fun g => s.degraded g)).map (fun g => 2 ^ g)).sum

/-- The first condition of R397 that is false, as the cause of E-7130; `own` is the one that belongs to the fault's class.
Log: 88 DEDUCED, 91 DEDUCED. -/
def State.lapseOf (s : State) (own : Option Nat) : Option Nat :=
  if s.power.vbusIn = false ∨ s.power.auxOk = false then some 0
  else if s.cell 0x4050 4 ≠ 0 then some 1
  else match own with
    | some c => some c
    | none => if 0 < s.procs.running then some 5 else none

/-- The condition for a tile fault (R397); `reserve` says a RESERVE tile remains. Log: 91 DEDUCED. -/
def State.lapse (s : State) (lt : Nat) (reserve : Bool) : Option Nat :=
  s.lapseOf (if reserve = false then some 2 else if s.degraded (lt / 12) then some 3 else none)

/-- Raise and count a lapse of the single-fault guarantee (R397). Log: 91 DEDUCED. -/
def State.noteLapse (s : State) : Option Nat → State
  | none => s
  | some c => (s.bump 32 0x7100 4 1).raise 0x7130 0xFF [c]

/-- The lowest-numbered RESERVE tile (R26). -/
def State.reserveTile (s : State) : Option Nat := (List.range 112).find? (fun t => (s.site t).st == .reserve)

/-- The looms of a logical tile. -/
def tileLooms (lt : Nat) : List Nat := (List.range 20).map (fun i => lt * 20 + i)

/-- The plots that own a loom of a logical tile. -/
def State.plotsOn (s : State) (lt : Nat) : List Nat :=
  s.plotsNow.filter (fun p => (s.plot p).looms.any (fun n => n / 20 == lt))

/-- The plots whose VC0 or VC1 routes pass a site (R401). -/
def State.plotsThrough (s : State) (t : Nat) : List Nat :=
  s.plotsNow.filter (fun p => s.fabric.routes.any (fun r => r.plot == p && r.site == t))

/-- What stands at a channel: the messages that wait, and those of which transfers have gone. -/
def Chan.load (c : Chan) : List Transit := c.waiting ++ c.sending.filterMap (fun e => e.2.map Prod.fst)

/-- An emptied channel: the credit that a message of which transfers have gone had taken is free again (R35). -/
def Chan.emptied (c : Chan) : Chan :=
  { c with waiting := [], sending := [],
           used := c.sending.foldl (fun u e => match e.2 with
             | some x => Tab.upd 0 u (e.1 * 3 + x.1.set) (· - x.1.len)
             | none => u) c.used }

/-- Messages in a failed tile's buffers: VC0 and VC1 go with their discarded steps; VC2 and VC3 are issued again (R401). The
transfers that they held are free. -/
def State.spillTile (s : State) (t : Nat) : State :=
  let keys := (List.range 4).flatMap (fun e => edgeChans t e)
  let here := fun (x : Nat × Transit) => x.1 / 4 == t
  let lost := keys.flatMap (fun k => (s.chan k).load) ++ (s.fabric.waitChan.filter here).map Prod.snd
  let s0 := { s with fabric := { s.fabric with waitChan := s.fabric.waitChan.filter (fun x => !here x) } }
  let s1 := keys.foldl (fun s k => s.updChan k Chan.emptied) s0
  let s2 := lost.foldl (fun s m => s.release m) s1
  (lost.filter (fun m => decide (2 ≤ m.msg.cls.val))).foldl (fun s m => s.inject m.msg) s2

/-- The looms of a logical tile stand on a new die: Bench, weight registers and accumulators hold nothing of the old one.
Log: 75 DEDUCED. -/
def State.freshLooms (s : State) (lt : Nat) : State :=
  (tileLooms lt).foldl (fun s n => s.updLoom n (fun l =>
    { l.lose n [] with fg := {}, bg := {}, bgReady := false, accs := [], pending := [], step := none, stall := none })) s

/-- The data units that are lost when `lt` fails while `m` is not rebuilt: in every row whose unit of `m` is not there, the data units of
both (R167). -/
def State.lostUnits (s : State) (lt m : Nat) : List (Nat × Nat) :=
  ((List.range stripeRows).filter (fun r => !s.built m r)).flatMap (fun r =>
    [(lt, r), (m, r)].filter (fun u => u.2 % 12 != u.1 % 12))

/-- Pages with a frame that has a poisoned unit become LOST (R226, R229). -/
def State.losePages (s : State) (p : Nat) : State :=
  match (s.plot p).image with
  | none => s
  | some im =>
    (s.obOf p).foldl (fun s i =>
      (s.obAt i).pages.foldl (fun s e =>
        let o := s.obAt i
        let w := o.page e.1 e.2
        if pgState w = 4 ∨ pgState w = 6 then s
        else match (s.poolSlot p o.mslot e.1).bind (fun m => s.pool p m) with
          | none => s
          | some x => if (frameUnits im x.desc (pgFrame w)).any (fun u => s.poisoned u.1 u.2) then
              s.updOb i (fun o => o.setPage e.1 e.2 (pgWord 6 (pgFrame w))) else s) s) s

/-- R167: the data units that both failures together take are poisoned, E-6205 says how many and whose, and the plots that own one go
FAULTED. -/
def State.loseBoth (s : State) (lt m : Nat) : State :=
  let us := s.lostUnits lt m
  if us = [] then s
  else
    let s1 := us.foldl (fun s u => s.poison u.1 u.2) s
    let owners := (List.range 16).filter (fun p => us.any (fun u => s.unitPlot u.1 u.2 == some p))
    let s2 := s1.raise 0x6205 0xFF [lt / 12, us.length, (owners.map (fun p => 2 ^ p)).sum]
    owners.foldl (fun s p => (s.losePages p).faultPlot p (fun _ => false)) s2

/-- The members of a group other than `lt` whose units are not all there. -/
def State.otherLost (s : State) (lt : Nat) : List Nat :=
  (others lt).filter (fun m => s.cellar.orphans.contains m || (Tab.get none s.cellar.unbuilt m).isSome)

/-- One write that a failed member had taken and whose parity was not acknowledged is issued again, in full (R158, R401): the unit is
rebuilt on demand, then written, with a delta of its own. -/
def State.reissueOne (s : State) (w : CWrite) (data : List Byte) : State :=
  let s1 := if s.built w.lt w.row then s else (s.settleRow w.lt w.row).rebuildUnit w.lt w.row
  let a := unitAddr w.lt w.row + w.offset
  let w1 : CWrite := { w with id := s1.cellar.nextId, delta := xorBytes (s1.cbytes a data.length) data, applied := false }
  let s2 := s1.cstore a data
  { s2 with cellar := { s2.cellar with
      nextId := s2.cellar.nextId + 1,
      writes := s2.cellar.writes.map (fun (x : CWrite) => if x.id = w.id then w1 else x) } }.sendDelta w1

/-- Every such write. -/
def State.reissue (s : State) (ws : List (CWrite × List Byte)) : State := ws.foldl (fun s w => s.reissueOne w.1 w.2) s

/-- 6020:01 and 6020:02 as the rebuild that runs, those that wait and the unassigned numbers say (R165, R176). -/
def State.rebuildState (s : State) : State :=
  let st := if s.cellar.rebuild.isSome then 1 else if s.cellar.waiting ≠ [] then 2 else if s.cellar.orphans ≠ [] then 3 else 0
  (s.setCell 0x6020 1 st).setCell 0x6020 2 (match s.cellar.rebuild with | some (x, _) => x | none => 0xFF)

/-- The logical tile's Cellar is a new one that holds nothing of value (R162): its old bytes are gone; a
poisoned unit stays poisoned (R152). -/
def State.newCellar (s : State) (lt : Nat) : State :=
  { s with cellar := { s.cellar with
      mem := Tab.keep (fun a => !(decide (lt * tileBytes ≤ a) && decide (a < (lt + 1) * tileBytes))) s.cellar.mem,
      unbuilt := Tab.set none s.cellar.unbuilt lt (some { since := s.now }),
      rebuild := match s.cellar.rebuild with
        | some (x, t) => if x = lt then none else some (x, t)
        | none => none,
      waiting := s.cellar.waiting.filter (fun x => x != lt) ++ [lt] } }

/-- The state a failed site falls to: RETIRED while its router and power are sound, else ABSENT with its bypass engaged (R24, R26,
R40). Log: 18 DEDUCED. -/
def Site.fail (c : Site) (sound : Bool) : Site :=
  { c with st := if sound then .retired else .absent, logical := 0x7F, missed := 0, held := none, bypass := !sound }

/-- A recovery that changes the map begins (7100:01, 7100:03). -/
def State.beginRecovery (s : State) : State :=
  let s1 := (s.setCell 0x7100 3 s.now).setCell 0x7100 1 (if 0 < s.procs.running then 2 else 1)
  { s1 with procs := { s1.procs with running := s1.procs.running + 1 } }

/-- A recovery has ended (7100:01, 7100:02). Log: 90 DEDUCED. -/
def State.endRecovery (s : State) : State :=
  let n := s.procs.running - 1
  ({ s with procs := { s.procs with running := n } }.bump 32 0x7100 2 1).setCell 0x7100 1
    (if n = 0 then 0 else s.cell 0x7100 1)

/-- What both ends of a tile failure share: the steps of the plots on the tile or through it are discarded (R401). -/
def State.discardOn (s : State) (t lt : Nat) : State :=
  (s.plotsOn lt ++ s.plotsThrough t).dedup.foldl (fun s p => s.discardAll p) s

/-- TILE_PROMOTION (R26, R161, R162): the reserve `r` takes the logical number `lt` of the failed tile `t`. -/
def State.promote (s : State) (t lt r cause kind : Nat) (sound : Bool) : State :=
  let s1 := (s.updSite t (fun c => c.fail sound)).updSite r (fun c => { c with st := .active, logical := lt })
  let s2 := (s1.newEpochs (tileLooms lt)).mapChanged
  let s3 := (s2.logDefect kind t 0 r 0x7110).raise 0x7110 0xFF [t, lt, cause]
  let ws := (s3.cellar.writes.filter (fun w => w.lt == lt)).map (fun w =>
    (w, s3.cbytes (unitAddr w.lt w.row + w.offset) w.delta.length))
  let s4 := (s3.otherLost lt).foldl (fun s m => s.loseBoth lt m) s3
  let s5 := ((s4.newCellar lt).freshLooms lt).groupBits
  let s6 := ((s5.redirect (ctrl t) (ctrl r)).spillTile t).reissue ws
  let s7 := (s6.rederiveAll s).rebuildState
  if s7.cellar.rebuild.isSome ∨ s7.cellar.waiting ≠ [lt] then s7.raise 0x6203 0xFF [lt] else s7

/-- No RESERVE tile remains (R166): the logical number stays unassigned, the plots with a loom on it fault, the group stays
degraded. -/
def State.orphan (s : State) (t lt cause kind : Nat) (sound : Bool) : State :=
  let s1 := s.updSite t (fun c => c.fail sound)
  let s2 := (s1.newEpochs (tileLooms lt)).mapChanged
  let s3 := (s2.logDefect kind t 0 0xFF 0x7110).raise 0x7110 0xFF [t, lt, cause + 0x80]
  let s4 := (s3.otherLost lt).foldl (fun s m => s.loseBoth lt m) s3
  let s5 := (s4.plotsOn lt).foldl (fun s p => s.faultPlot p (fun _ => false)) s4
  let s6 := { s5 with cellar := { s5.cellar with
      orphans := s5.cellar.orphans ++ [lt],
      unbuilt := Tab.set none s5.cellar.unbuilt lt none,
      waiting := s5.cellar.waiting.filter (fun x => x != lt),
      rebuild := match s5.cellar.rebuild with
        | some (x, u) => if x = lt then none else some (x, u)
        | none => none } }
  let s7 := ((s6.freshLooms lt).groupBits).raise 0x6204 0xFF [lt / 12]
  let s8 := (s7.spillTile t).rederiveAll s
  s8.rebuildState.endRecovery

/-- A tile's hold ends with the tile: its time is added to the total (R61). DESIGN CHOICE: no E-4102 is raised, for R66 does not say
whether such a hold is released. Log: 31 DESIGN CHOICE. -/
def State.endHold (s : State) (t : Nat) : State :=
  match (s.site t).held with
  | none => s
  | some since => (s.updSite t (fun c => { c with held := none })).bump 64 0x4010 5 (s.now - since)

/-- A tile without a logical number falls to the state that it is left with; where it is lost as a router the paths through it
change (R24, R187). -/
def State.failIdle (s : State) (t kind cause : Nat) (sound : Bool) : State :=
  (((s.updSite t (fun c => c.fail sound)).mapChanged.logDefect kind t 0 0xFF 0x7110).raise 0x7110 0xFF [t, 0x7F, cause]).rederiveAll s

/-- TILE_FAIL (R401, R26, R166), agreed with the active Reeve (R29). A RESERVE or RETIRED tile has no logical number to pass on; an
ABSENT one cannot fail. Log: 18 DEDUCED, 89 DEDUCED. -/
def State.failNow (s : State) (t : Nat) (cause : TileCause) (sound : Bool) : State :=
  let s0 := s.endHold t
  let c := s0.site t
  let kind := if sound then 2 else 3
  match c.st with
  | .absent => s0
  | .retired => if sound then s0 else s0.failIdle t 3 (causeCode cause) false
  | .reserve => s0.failIdle t kind (causeCode cause) sound
  | .active =>
    let s1 := (s0.noteLapse (s0.lapse c.logical s0.reserveTile.isSome)).beginRecovery.discardOn t c.logical
    match s1.reserveTile with
    | some r => s1.promote t c.logical r (causeCode cause) kind sound
    | none => s1.orphan t c.logical (causeCode cause) kind sound

/-- A tile is declared failed: at once while a Reeve is active; else the Tinkers wait for one (R29). Log: 89 DEDUCED. -/
def State.failTile (s : State) (t : Nat) (cause : TileCause) (sound : Bool) : State :=
  if s.procs.reeveLost = false then s.failNow t cause sound
  else if s.procs.waitFail.any (fun x => x.1 == t) then s
  else { s with procs := { s.procs with waitFail := s.procs.waitFail ++ [(t, cause, sound)] } }

/-- A Reeve is active again: the failures that waited for it are carried out (R29). -/
def State.failWaiting (s : State) : State :=
  s.procs.waitFail.foldl (fun s x => s.failNow x.1 x.2.1 x.2.2) { s with procs := { s.procs with waitFail := [] } }

/-- ROW_SPARE_REPLACE (R22): the spare takes over position `pos` of row `row`, with a new role epoch; E-7111 names the slot.
Log: 75 DEDUCED. -/
def State.useSpare (s : State) (x : Slot) (n event : Nat) : State :=
  let s1 := s.updSite x.tile.val (fun c => { c with spareFor := Tab.set none c.spareFor x.row.val (some x.pos.val) })
  let s2 := ((s1.newEpoch (loomEndpoint n 0)).mapChanged.logDefect 1 x.tile.val (x.row.val * 8 + x.pos.val) 0xFF event).raise
    0x7111 0xFF [x.code]
  s2.updLoom n (fun l => { l.lose n [] with fg := {}, bg := {}, bgReady := false, accs := [], pending := [] })

/-- A loom slot has failed (R22, R23): the spare takes it over, or, where the spare is in use or failed itself, the tile fails.
A slot that serves no loom has nothing to replace. -/
def State.failSlot (s : State) (x : Slot) (event : Nat) : State :=
  match s.loomAt x with
  | none => s
  | some n =>
    let c := s.site x.tile.val
    if (Tab.get none c.spareFor x.row.val).isSome ∨ Tab.get false c.spareBad x.row.val then
      s.failTile x.tile.val .loomNoSpare true
    else
      let s1 := match (s.loom n).step with
        | some id => s.discard id
        | none => s
      (s1.noteLapse (s1.lapseOf none)).useSpare x n event

/-- The decision for an orderly warm shutdown and its phase Stop (R363): no step is formed, every step in flight is discarded,
E-4602 gives the cause. -/
def State.startShutdown (s : State) (cause : Nat) : State :=
  if s.power.shutdown = 0 ∧ s.rst.ready then
    let s1 := s.plotsNow.foldl (fun s p => s.discardAll p) s
    { s1 with power := { s1.power with shutdown := 1 } }.raise 0x4602 0xFF [cause]
  else s

end Sys2Proof.Machine
end

