-- ==== Sys2Proof/Machine/Timing.lean ====
section
/-! DEFINITION. Canaries and trims (R67 to R72, R444), undervoltage holds (R62 to R66), the timebase and the Bell (R77 to R83). -/

namespace Sys2Proof.Machine

/-! ### Canaries and trims -/

/-- Whether a slot is watched: it serves an active loom, or it is a row spare, on any tile with power, that is unused and has not
failed (R24, R67, R444). -/
def State.watched (s : State) (x : Slot) : Bool :=
  let c := s.site x.tile.val
  (s.loomAt x).isSome || (c.st != .absent && x.pos.val == 5 && (Tab.get none c.spareFor x.row.val).isNone &&
    !Tab.get false c.spareBad x.row.val)

/-- Whether the loom of a slot is in a beat: it runs a step, waits for nothing and is not held (R69). Log: 29 DEDUCED. -/
def State.inBeat (s : State) (x : Slot) : Bool :=
  match s.loomAt x with
  | some n => (s.loom n).step.isSome && (s.loom n).stall.isNone && (s.site x.tile.val).held.isNone
  | none => false

/-- E-9101, when the lowest headroom of a slot falls below 8 (R71). -/
def State.noteHeadroom (s : State) (x : Slot) (old : Nat) : State :=
  if 8 ≤ old ∧ (s.slot x.n).headroom < 8 then s.raise 0x9101 0xFF [x.code] else s

/-- Raise a tap by one: TRIM_COUNT counts it, and the time of the rise is kept (R68, R69, R71). -/
def State.raiseTap (s : State) (x : Slot) (d : Nat) : State :=
  ((s.updSlot x.n (fun y => { y with taps := Tab.upd 0 y.taps d (· + 1), trims := Tab.set false y.trims d false,
                                     rose := Tab.set 0 y.rose d (s.now + 1) })).bump 32 0x9100 3 1).noteHeadroom x (s.slot x.n).headroom

/-- A canary failed at tap 63 (R71, R444). -/
def State.canaryDead (s : State) (x : Slot) : State :=
  let s1 := s.raise 0x9102 0xFF [x.code]
  match s1.loomAt x with
  | some _ => s1.failSlot x 0x9102
  | none =>
    let s2 := s1.updSite x.tile.val (fun c => { c with spareBad := Tab.set false c.spareBad x.row.val true })
    s2.mapChanged.logDefect 8 x.tile.val (x.row.val * 8 + 5) 0xFF 0x9102

/-- A canary of datapath d did not settle (R67, R68, R69): its tap rises, at most once in 10 ms, between two beats. -/
def State.canaryFail (s : State) (x : Slot) (d : Nat) : State :=
  let y := s.slot x.n
  let rose := Tab.get 0 y.rose d
  if Tab.get false y.trims d ∨ (rose ≠ 0 ∧ s.now < rose - 1 + 10000000) then s
  else if s.inBeat x then s.updSlot x.n (fun y => { y with trims := Tab.set false y.trims d true })
  else s.raiseTap x d

/-- CANARY_TEST (R67). Log: 30 DEDUCED. -/
def execCanaryTest (slot : Slot) (settled : BitVec 3) (s : State) : Host.Outcome State Fault Refusal :=
  .next (
    if s.watched slot then
      let bad := (List.range 3).filter (fun d => !settled.getLsbD d)
      if bad.any (fun d => Tab.get 0 (s.slot slot.n).taps d == 63) then s.canaryDead slot
      else bad.foldl (fun s d => s.canaryFail slot d) s
    else s)

/-- TRIM_APPLY (R69): the beat has ended, and the trims that waited take effect. -/
def execTrimApply (slot : Slot) (s : State) : Host.Outcome State Fault Refusal :=
  .next (((s.slot slot.n).trims.map Prod.fst).foldl (fun s d => s.raiseTap slot d) s)

/-! ### Holds -/

/-- A list of readings in rising order. -/
def sortReadings (xs : List Nat) : List Nat :=
  xs.foldr (fun x ys => ys.takeWhile (fun y => decide (y < x)) ++ x :: ys.dropWhile (fun y => decide (y < x))) []

/-- Twice the median of the sensors of a tile: of sixteen readings, the mean of the two in the middle (R335). Log: 129 DEDUCED. -/
def median2 (x : Sensed) : Nat :=
  let ys := sortReadings (x.readings.toList.map BitVec.toNat)
  ys.getD 7 0 + ys.getD 8 0

/-- Whether sensor `i` is plausible (R335): between 0.40 V and 1.10 V, within 40 mV of the median, updated within 10 µs. -/
def plausible (x : Sensed) (i : Nat) : Bool :=
  let r := (x.readings.toList.getD i 0).toNat
  decide (4000 ≤ r) && decide (r ≤ 11000) && decide (2 * r ≤ median2 x + 800) && decide (median2 x ≤ 2 * r + 800)
    && !x.stale.getLsbD i

/-- The plausible sensors of a tile. -/
def goodSensors (x : Sensed) : List Nat := (List.range 16).filter (plausible x)

/-- The least of a list of numbers. -/
def least : List Nat → Option Nat
  | [] => none
  | x :: xs => some (match least xs with | some y => min x y | none => x)

/-- The reading that the hold comparison uses (R62, R335): the minimum over the plausible sensors, or in remote-sense fallback the
remote-sense reading less 20 mV. Log: 129 DEDUCED. -/
def Reg.sensed (r : Reg) (x : Sensed) : Nat :=
  match if r.fallback then none else least ((goodSensors x).map (fun i => (x.readings.toList.getD i 0).toNat)) with
  | some v => v
  | none => x.remote.toNat - 200

/-- HOLD_ASSERT (R62, R66, R335): the sensed minimum lies below 0.610 V. -/
def execHoldAssert (tile : Phys) (sensed : Sensed) (s : State) : Host.Outcome State Fault Refusal :=
  .next (
    if (s.reg tile.val).sensed sensed < 6100 ∧ (s.site tile.val).held = none ∧ (s.site tile.val).st ≠ .absent then
      ((s.updSite tile.val (fun c => { c with held := some s.now, heldSeen := true })).bump 32 0x4010 4 1).raise 0x4101 0xFF [tile.val]
    else s)

/-- HOLD_RELEASE (R65, R66): the sensed minimum has stayed at or above 0.630 V for 10 µs. -/
def execHoldRelease (tile : Phys) (lowest : Sensed) (s : State) : Host.Outcome State Fault Refusal :=
  .next (
    match (s.site tile.val).held with
    | none => s
    | some since =>
      if 6300 ≤ (s.reg tile.val).sensed lowest ∧ since + 10000 ≤ s.now then
        ((s.updSite tile.val (fun c => { c with held := none })).bump 64 0x4010 5 (s.now - since)).raise 0x4102 0xFF [tile.val]
      else s)

/-- Whether VBUS lies within its range (R330). -/
def State.vbusOk (s : State) : Bool := s.power.vbusIn

/-- HOLD_TIMEOUT (R66, R400): a hold confined to one tile while VBUS is in range is a tile fault after 2 ms; any other hold that
lasts longer than 20 ms starts the orderly warm shutdown. A hold that ends with its tile raises no E-4102 (State.endHold).
Log: 31 DESIGN CHOICE. -/
def execHoldTimeout (tile : Phys) (s : State) : Host.Outcome State Fault Refusal :=
  .next (
    match (s.site tile.val).held with
    | none => s
    | some since =>
      if s.vbusOk ∧ (List.range 112).all (fun t => t == tile.val || (s.site t).held.isNone) then
        (if since + 2000000 ≤ s.now then s.failTile tile.val .localHold false else s)
      else if since + 20000000 < s.now then s.startShutdown 0 else s)

/-! ### The timebase and the Bell -/

/-- One nanosecond of the count (R77), with what slewing adds or holds back in FREE and HOLDOVER: at most 1 ns in 10 µs
(R78, R79). Log: 3 DESIGN CHOICE, 4 DEDUCED. -/
def State.passNs (s : State) : State :=
  let b := s.bell
  if (b.st = .free ∨ b.st = .holdover) ∧ b.corr ≠ 0 ∧ b.lastSlew + 10000 ≤ s.now then
    (if 0 < b.corr then { s with now := s.now + 2, bell := { b with corr := b.corr - 1, lastSlew := s.now } }
     else { s with bell := { b with corr := b.corr + 1, lastSlew := s.now } })
  else { s with now := s.now + 1 }

/-- BELL_REF_EDGE (R77, R78, R79). The first edge after none was present takes the count as it is, without a step; each later one
adds 40, slewed by at most 1 ns in 10 µs; the count never goes back. Log: 4 DEDUCED. -/
def execBellRefEdge (phaseError : BitVec 32) (s : State) : Host.Outcome State Fault Refusal :=
  .next (
    let b := s.bell
    let err := phaseError.toInt
    let present : Bool := decide (b.st = .acquiring ∨ b.st = .locked)
    let slew : Int := if present ∧ b.corr ≠ 0 ∧ b.lastSlew + 10000 ≤ s.now then (if 0 < b.corr then 1 else -1) else 0
    let base : Nat := if present then ((b.edgeBase : Int) + 40 + slew).toNat else s.now
    let st : BellState := if err.natAbs ≤ 10 then .locked else .acquiring
    let b1 : Bell := { b with st := st, edgeBase := base, corr := -err - slew,
                              lastSlew := if slew = 0 then b.lastSlew else s.now }
    let s1 : State := { s with bell := b1, now := max s.now base }
    if st = .locked ∧ b.st ≠ .locked then s1.raise 0x5802 0xFF [] else s1)

/-- BELL_REF_LOSS (R79): no edge for 200 ns after LOCKED or ACQUIRING. A correction that was being slewed in ACQUIRING is used up;
the on-module oscillator goes on without a step. DESIGN CHOICE: on a loss in LOCKED what is left of the last correction is dropped; the
spec speaks of a loss in ACQUIRING only. Log: 115 DESIGN CHOICE. -/
def execBellRefLoss (s : State) : Host.Outcome State Fault Refusal :=
  .next (
    let b := s.bell
    if (b.st = .acquiring ∨ b.st = .locked) ∧ b.edgeBase + 200 ≤ s.now then
      { s with bell := { b with st := .holdover, corr := if b.st = BellState.acquiring then b.corr else 0 } }.raise 0x5801 0xFF []
    else s)

/-- The expected instant nearest to the present time (R80). Log: 6 DEDUCED. -/
def State.nearInstant (s : State) : Nat := (s.now + s.bell.period / 2) / s.bell.period * s.bell.period

/-- Whether a time lies within 1 µs of an instant (R80). -/
def inWindow (t e : Nat) : Bool := decide (e ≤ t + 1000) && decide (t ≤ e + 1000)

/-- A tick is counted: the watch is armed, and a period written to 5800:03 takes effect (R80, R83). Log: 70 DEDUCED. -/
def State.countTick (s : State) (instant : Option Nat) (corr : Int) : State :=
  let s1 := s.bump 64 0x5800 6 1
  { s1 with bell := { s1.bell with lastCounted := instant, watch := true, missRaised := false, corr := corr,
                                   tickNo := s1.bell.tickNo + 1, tickAt := some s1.now, period := s1.cell 0x5800 3 } }

/-- TICK_EDGE (R80, R81). The first edge at least 1 µs after a time load was written carries the load; else the first edge in a
window is counted, and any other edge raises E-5804. DESIGN CHOICES, on which the spec is silent: a tick counted in HOLDOVER replaces
what is left of the correction of ACQUIRING; with the reference present a load begins a new edge interval, so that the next edge
gives the loaded value + 40; records of elapsed time (a hold's beginning, a tap's last rise) are not shifted by a load.
Log: 6 DEDUCED, 32 DEDUCED, 115 DESIGN CHOICE. -/
def execTickEdge (s : State) : Host.Outcome State Fault Refusal :=
  .next (
    match s.bell.load with
    | some (v, t) =>
      if t + 1000 ≤ s.now then
        let s1 : State := { s with now := v, bell := { s.bell with load := none, edgeBase := v, lastSlew := v } }
        s1.countTick (some (if inWindow v s1.nearInstant then s1.nearInstant else v)) 0
      else if inWindow s.now s.nearInstant ∧ s.bell.lastCounted ≠ some s.nearInstant then
        s.countTick (some s.nearInstant)
          (if s.bell.st = .free ∨ s.bell.st = .holdover then (s.nearInstant : Int) - s.now else s.bell.corr)
      else s.raise 0x5804 0xFF []
    | none =>
      if inWindow s.now s.nearInstant ∧ s.bell.lastCounted ≠ some s.nearInstant then
        s.countTick (some s.nearInstant)
          (if s.bell.st = .free ∨ s.bell.st = .holdover then (s.nearInstant : Int) - s.now else s.bell.corr)
      else s.raise 0x5804 0xFF [])

/-- TICK_MISSING (R80, R327): an expected instant has passed by more than 1 µs and no tick was counted for it. The Drovers take
the instant as the tick; E-5803 is raised once the watch is armed, and not again before a tick is counted. Log: 32 DEDUCED. -/
def execTickMissing (s : State) : Host.Outcome State Fault Refusal :=
  .next (
    let e := (s.now - 1001) / s.bell.period * s.bell.period
    let seen : Bool := match s.bell.lastCounted with | some k => decide (e ≤ k) | none => false
    if s.now ≤ 1000 ∨ seen then s
    else
      let s1 : State := { s with bell := { s.bell with lastCounted := some e, tickNo := s.bell.tickNo + 1, tickAt := some s.now } }
      if s.bell.watch ∧ s.bell.missRaised = false then
        { s1 with bell := { s1.bell with missRaised := true } }.raise 0x5803 0xFF []
      else s1)

/-- TIME_LOAD (R81): accepted only while no plot exists; a second write replaces the first. -/
def execTimeLoad (f : Sender) (body : List Byte) (s : State) : Host.Outcome State Fault Refusal :=
  .next (s.serveWrite f 0x5800 4 body
    (fun s => if s.plotsNow = [] then none else some .denied)
    (fun s => { s with bell := { s.bell with load := some (ofLe body, s.now) } }))

/-- TICK_PERIOD (R83): the value is stored; it takes effect at the next counted tick. -/
def execTickPeriod (f : Sender) (body : List Byte) (s : State) : Host.Outcome State Fault Refusal :=
  .next (s.serveWrite f 0x5800 3 body (fun _ => none) (fun s => s.setCell 0x5800 3 (ofLe body)))

end Sys2Proof.Machine
end

