-- ==== Sys2Proof/Machine/Fabric.lean ====
section
/-! DEFINITION. Messages in the fabric: forwarding, credits, acceptance at an endpoint, stale epochs and re-runs (R33 to R50). -/

namespace Sys2Proof.Machine

/-- The rotation of eight opportunities (R37). -/
def rotation (k : Nat) : Nat :=
  match k with
  | 0 => 0 | 1 => 1 | 2 => 0 | 3 => 2 | 4 => 0 | 5 => 1 | 6 => 3 | _ => 2

/-- Whether a message is the oldest of its class, set and, on VC2 and VC3, plot tag among those that wait (R37, R38). -/
def sameQueue (x y : Transit) : Bool :=
  x.msg.cls == y.msg.cls && x.set == y.set && (decide (x.msg.cls.val < 2) || x.msg.plot == y.msg.plot)

/-- The heads of the queues of a class at an output, each with the messages before it in another queue. -/
def headsOf (cls : Nat) : List Transit → List Transit → List Transit
  | _, [] => []
  | seen, m :: rest =>
    if m.msg.cls.val = cls ∧ seen.all (fun y => !sameQueue m y) then m :: headsOf cls (m :: seen) rest
    else headsOf cls (m :: seen) rest

/-- How far a value lies behind the one served last, going round `n`. -/
def behind (n last v : Nat) : Nat := (v + n - last - 1) % n

/-- The one among several that comes first after the one served last. -/
def nextInTurn (n last : Nat) (f : Transit → Nat) : List Transit → Option Transit
  | [] => none
  | m :: rest =>
    match nextInTurn n last f rest with
    | none => some m
    | some y => if behind n last (f y) < behind n last (f m) then some y else some m

/-- The message with which an opportunity of a class begins: among the eligible heads the plot tags take turns, so that a message
waits behind at most one of every other tag (R38), and within a tag the sets take turns (R35, R37). Before anything has been served
the turns start after plot tag 0 and set 0, so that tag 1 and set 1 come first: the spec names no start.
Log: 111 DESIGN CHOICE. -/
def Chan.pick (c : Chan) (cls : Nat) : Option Transit :=
  let el := (headsOf cls [] c.waiting).filter (fun m => c.credit m)
  match nextInTurn 32 (Tab.get 0 c.lastTag cls) (fun m => m.msg.plot.toNat) el with
  | none => none
  | some m => nextInTurn 3 (Tab.get 0 c.lastSet (cls * 32 + m.msg.plot.toNat)) (fun x => x.set)
      (el.filter (fun x => x.msg.plot == m.msg.plot))

/-- Take the first occurrence of a message out of a list. -/
def takeOut (m : Transit) : List Transit → List Transit
  | [] => []
  | x :: xs => if x = m then xs else x :: takeOut m xs

/-- One transfer of a message that goes from a channel to node `u`, `left` transfers before it. The downstream set takes the message as
a whole when its last transfer has come, and only then is its buffer here free (R35). -/
def State.sendTransfer (s : State) (k u : Nat) (m : Transit) (left : Nat) : State :=
  let s1 := s.updChan k (fun c => { c with
    sending := Tab.set none c.sending m.msg.cls.val (if left ≤ 1 then none else some (m, left - 1)) })
  if left ≤ 1 then (s1.release m).place u { m with holds := some (k, m.set) } else s1

/-- A message begins to go: it leaves the queue, and the credit for all of it is taken (R35). -/
def Chan.start (c : Chan) (m : Transit) : Chan :=
  let cls := m.msg.cls.val
  { c with waiting := takeOut m c.waiting, used := Tab.upd 0 c.used (cls * 3 + m.set) (· + m.len),
           lastTag := Tab.set 0 c.lastTag cls m.msg.plot.toNat,
           lastSet := Tab.set 0 c.lastSet (cls * 32 + m.msg.plot.toNat) m.set }

/-- MESSAGE_FORWARD (R34, R35, R37, R38): one opportunity of an output channel grants one transfer to its class, of the message that is
going or of the next one. A held router takes no part (R64). -/
def execMessageForward (site : Node) (edge : Fin 4) (chan : Fin 16) (s : State) : Host.Outcome State Fault Refusal :=
  .next (
    let k := chanKey site.val edge.val chan.val
    if s.nodeHeld site.val ∨ s.nodeDown site.val then s
    else
      let c := s.chan k
      let cls := rotation c.turn
      let s1 := s.updChan k (fun c => { c with turn := (c.turn + 1) % 8 })
      match s.nextNode site.val edge.val 12 with
      | none => s1
      | some u =>
        if s.nodeHeld u then s1
        else match Tab.get none c.sending cls with
          | some x => s1.sendTransfer k u x.1 x.2
          | none =>
            match c.pick cls with
            | some m => (s1.updChan k (fun c => c.start m)).sendTransfer k u m m.len
            | none => s1)

/-- CREDIT_RETURN (R34): the credits of the transfers that the downstream set has freed come back on the credit wires. -/
def execCreditReturn (site : Node) (edge : Fin 4) (chan : Fin 16) (cls : Fin 4) (set : Fin 3) (s : State) :
    Host.Outcome State Fault Refusal :=
  .next (
    let j := cls.val * 3 + set.val
    s.updChan (chanKey site.val edge.val chan.val) (fun c => { c with
      used := Tab.set 0 c.used j (Tab.get 0 c.used j - Tab.get 0 c.freed j), freed := Tab.set 0 c.freed j 0 }))

/-- Whether a plot tag is accepted at an endpoint (R46, R48): a loom takes its owner's tag and, on VC2 and VC3, the engine tag; an
agent takes the engine tag and every plot that exists. Log: 26 DEDUCED. -/
def State.tagAccepted (s : State) (e : Nat) (m : Msg) : Bool :=
  match endpointLoom e with
  | some n => s.ownerOf n == some m.plot.toNat || (m.plot.toNat == 0x1F && decide (2 ≤ m.cls.val))
  | none => (s.siteOf e).isSome &&
      (m.plot.toNat == 0x1F || (decide (m.plot.toNat < 16) && s.plotExists m.plot.toNat))

/-- The plot tag of what an endpoint sends by itself (R46, R47). -/
def State.replyTag (s : State) (e : Nat) : BitVec 5 :=
  match (endpointLoom e).bind (fun n => s.ownerOf n) with
  | some p => BitVec.ofNat 5 p
  | none => 0x1F

/-- The status reply EPOCH_STALE to a message (R48): KIND 6 on VC3, with the tag of the plot that owns the loom that answers, else
the engine tag (R46, R47). Log: 48 DEDUCED. -/
def State.staleReply (s : State) (m : Msg) : Msg :=
  { epoch := BitVec.ofNat 16 (s.epoch m.src.toNat), dest := m.src, src := m.dest, plot := s.replyTag m.dest.toNat, cls := 3, kind := 6,
    payload := [] }

/-- Key of a destination-table entry. -/
def staleKey (sender dest : Nat) : Nat := sender * 65536 + dest

/-- The program of a loom in its plot's image. -/
def State.programOf (s : State) (n : Nat) : Option Program :=
  (s.ownerOf n).bind (fun p => (s.plot p).image.bind (fun im => im.looms.find? (fun x => x.loom.n == n)))

/-- Systolic passing (R43): the loom forwards an operand that it has received to the next loom of its chain, with that loom's present
epoch; not on a destination-table entry that is stale, whose step runs again (R50). Log: 109 DESIGN CHOICE. -/
def State.passOn (s : State) (n : Nat) (m : Msg) : State :=
  match (s.programOf n).bind Program.passTo with
  | none => s
  | some k =>
    let d := loomEndpoint k.n 0
    if Tab.get false s.fabric.stale (staleKey (loomEndpoint n 0) d) then s
    else s.inject { m with epoch := BitVec.ofNat 16 (s.epoch d), dest := BitVec.ofNat 16 d, src := BitVec.ofNat 16 (loomEndpoint n 0) }

/-- Where a stream of a loom lands. -/
def State.windowOf (s : State) (n stream : Nat) : Option Window :=
  (s.programOf n).bind (fun x => (x.windows.find? (fun w => w.1.val == stream)).map Prod.snd)

/-- Scaling blocks in the next message of a narrow vector of `n` blocks of which `pos` have come: as many as fit in 32 transfers with a
scale byte each (R103). -/
def blocksIn (fmt block n pos : Nat) : Nat := min (4096 / (8 * blockWords fmt block + 1)) (n - pos)

/-- The pieces of the Bench, address and bytes, that a message fills, and the stream's next place: in a raw region the next byte, for a
narrow vector the next block, its codes and scales each in their own region (R55, R103, R115). Log: 109 DESIGN CHOICE. -/
def landing (pos : Nat) (bs : List Byte) : Window → List (Nat × List Byte) × Nat
  | .raw base n => ([(base.toNat + pos, bs)], (pos + bs.length) % max 1 n)
  | .narrow codes fmt block64 scales n =>
    let c := 8 * blockWords fmt.toNat (if block64 then 64 else 32)
    let k := blocksIn fmt.toNat (if block64 then 64 else 32) n pos
    ([(codes.toNat + c * pos, bs.take (c * k)), (scales.toNat + pos, (bs.drop (c * k)).take k)], (pos + k) % max 1 n)

/-- The payload of an accepted message goes into the Bench at the stream's place (R55, R103, R115), unless the fabric may not write
there: the weight partition takes read returns only (R137). Log: 109 DESIGN CHOICE. -/
def State.land (s : State) (n stream : Nat) (w : Window) (m : Msg) : State :=
  let x := landing (Tab.get 0 (s.loom n).inPos stream) m.payload w
  match s.ownerOf n with
  | none => s
  | some p =>
    if x.1.any (fun e => !s.partOk p .fabricIn m.kind.toNat e.1 e.2.length) then s.partFault p
    else s.updLoom n (fun l => { x.1.foldl (fun l e => l.store e.1 e.2) l with inPos := Tab.set 0 l.inPos stream x.2 })

/-- An endpoint accepts a message: an EPOCH_STALE reply at a Ferry port engine leaves by its link (R314); an operand is passed on (R43); what has a place in the Bench lands there, and everything else, read
returns among it, is kept for whoever waits for it. Log: 109 DESIGN CHOICE, 110 DESIGN CHOICE. -/
def State.accept (s : State) (e : Nat) (m : Msg) : State :=
  let keep : State := { s with fabric := { s.fabric with taken := Tab.upd [] s.fabric.taken e (· ++ [m]) } }
  match (if m.kind = 4 then none else endpointLoom e) with
  | none =>
    if m.cls = 3 ∧ m.kind = 6 then
      match engineFerry e with
      | some x => s.staleOut x m
      | none => keep
    else keep
  | some n =>
    match s.windowOf n (e % 8) with
    | none => if e % 8 = 0 then keep.passOn n m else keep
    | some w => if e % 8 = 0 then (s.land n 0 w m).passOn n m else s.land n (e % 8) w m

/-- MESSAGE_RECEIVE (R48): PLOT is checked first and EPOCH second; a dropped message is never acted on. Log: 48 DEDUCED. -/
def execMessageReceive (endpoint : U16) (s : State) : Host.Outcome State Fault Refusal :=
  .next (
    let e := endpoint.toNat
    match Tab.get [] s.fabric.inbox e with
    | [] => s
    | m :: rest =>
      let s1 := { s with fabric := { s.fabric with inbox := Tab.set [] s.fabric.inbox e rest } }
      if s.tagAccepted e m = false then
        { s1 with fabric := { s1.fabric with droppedPlot := s1.fabric.droppedPlot + 1 } }.faultPlot m.plot.toNat (fun _ => false)
      else if m.epoch.toNat ≠ s.epoch e then
        { s1 with fabric := { s1.fabric with droppedEpoch := s1.fabric.droppedEpoch + 1, lost := s1.fabric.lost ++ [m] } }.inject
          (s1.staleReply m)
      else s1.accept e m)

/-- The reply is counted for the sender's loom and plot (R199, R201). Log: 48 DEDUCED. -/
def State.countStale (s : State) (sender : Nat) : State :=
  match endpointLoom sender with
  | none => s
  | some n =>
    let s1 := s.updLoom n (fun l => { l with ctr := Tab.set 0 l.ctr 6 (satAdd 32 (Tab.get 0 l.ctr 6) 1) })
    match s.ownerOf n with
    | some p => s1.bump 64 (0x3300 + p) 7 1
    | none => s1

/-- The Reeve has rewritten the destination-table entries of what waits on VC2 and VC3: each such message is issued again, with its
destination's present epoch (R50). Nothing is rewritten while no Reeve is active (R29). Log: 48 DEDUCED. -/
def State.reissueStale (s : State) : State :=
  if s.procs.reeveLost then s
  else
    let waits := fun (m : Msg) => Tab.get false s.fabric.stale (staleKey m.src.toNat m.dest.toNat) && decide (2 ≤ m.cls.val)
    let again := s.fabric.lost.filter waits
    let s1 := { s with fabric := { s.fabric with
      lost := s.fabric.lost.filter (fun m => !waits m),
      stale := again.foldl (fun t m => Tab.set false t (staleKey m.src.toNat m.dest.toNat) false) s.fabric.stale } }
    again.foldl (fun s m => s.inject { m with epoch := BitVec.ofNat 16 (s.epoch m.dest.toNat) }) s1

/-- EPOCH_STALE_REPLY (R50). The sender has received the reply: the destination-table entry is marked stale, and the sender waits on it
until the Reeve has rewritten it. For VC0 and VC1 the loom waits for the re-run of its step; a message of VC2 or VC3 waits to be
issued again. Log: 48 DEDUCED. -/
def execEpochStaleReply (sender dest : U16) (s : State) : Host.Outcome State Fault Refusal :=
  .next (
    let isReply := fun (m : Msg) => m.cls == 3 && m.kind == 6 && m.src == dest
    if (Tab.get [] s.fabric.taken sender.toNat).any isReply then
      let left := Tab.upd [] s.fabric.taken sender.toNat (dropFirst isReply)
      let s1 := { s with fabric := { s.fabric with taken := left } }
      let mine := fun (m : Msg) => m.src == sender && m.dest == dest
      match s1.fabric.lost.find? mine with
      | none => s1.countStale sender.toNat
      | some m =>
        let marked := Tab.set false s1.fabric.stale (staleKey sender.toNat dest.toNat) true
        let s2 := ({ s1 with fabric := { s1.fabric with stale := marked } }).countStale sender.toNat
        if 2 ≤ m.cls.val then s2.reissueStale
        else
          let s3 := { s2 with fabric := { s2.fabric with lost := dropFirst mine s2.fabric.lost } }
          match endpointLoom sender.toNat with
          | some n => s3.updLoom n (fun l => { l with stall := some (.stale dest.toNat) })
          | none => s3
    else s)

/-- Whether a loom waits on a stale entry. -/
def LoomSt.staleWait (l : LoomSt) : Bool := match l.stall with | some (.stale _) => true | _ => false

/-- The Reeve has rewritten the destination-table entries of a list of looms, on which VC0 and VC1 waited (R50). -/
def State.rewriteStale (s : State) (ls : List Nat) : State :=
  let others := fun (k : Nat) => match endpointLoom (k / 65536) with
    | some n => !ls.contains n
    | none => true
  { s with fabric := { s.fabric with stale := Tab.keep others s.fabric.stale } }

/-- STEP_RERUN (R50, R124, R153, R196, R197, R401): a discarded step, or one that waits on a stale entry, runs again from its
inputs with a new attempt tag; samples of the old attempt are discarded. -/
def execStepRerun (step : Nat) (s : State) : Host.Outcome State Fault Refusal :=
  .next (
    match s.stepAt step with
    | none => s
    | some x =>
      let waits := (s.footprint x.plot).any (fun n => (s.loom n).step == some step && (s.loom n).staleWait)
      if s.power.shutdown ≠ 0 ∨ (x.st = .running ∧ (waits = false ∨ s.procs.reeveLost)) then s
      else
        let s1 := (s.discard step).rewriteStale (s.footprint x.plot)
        let t := s1.newTag x.plot
        let s2 := t.2.updStep step (fun x => { x with st := .running, attempt := t.1 })
        (s2.footprint x.plot).foldl (fun s n => s.pickStep n) s2)

end Sys2Proof.Machine
end

