-- ==== Sys2Proof/Machine/Elementary.lean ====
section
/-!
DEFINITION. The Fuller's six functions (R113): the correctly rounded value, from exact binary fixed-point arithmetic with many guard
bits, and within 2 units in the last place of it the open value of the reference algorithm. Log: 10 DESIGN CHOICE.
-/

namespace Sys2Proof.Machine

/-- Fraction bits of the fixed-point arithmetic. -/
def fixBits : Nat := 640

/-- ln 2 as a fixed-point number: the sum of 1 / (k 2^k). -/
def ln2Fix : Nat := (List.range fixBits).foldl (fun a k => a + 2 ^ (fixBits - (k + 1)) / (k + 1)) 0

/-- The arc tangent of 1 / n, fixed-point. -/
def atanInv (n : Nat) : Int :=
  (List.range 160).foldl (fun a k =>
    let t : Int := Int.ofNat (2 ^ fixBits / ((2 * k + 1) * n ^ (2 * k + 1)))
    if k % 2 = 0 then a + t else a - t) 0

/-- Half of pi, fixed-point, by Machin's formula. -/
def halfPi : Nat := (8 * atanInv 5 - 2 * atanInv 239).toNat

/-- e to the power of a fixed-point number from 0 to 1. -/
def expFix (y : Nat) : Nat :=
  ((List.range 160).foldl (fun (a : Nat × Nat) k => (a.1 * y / 2 ^ fixBits / (k + 1), a.2 + a.1)) (2 ^ fixBits, 0)).2

/-- The alternating series from term `t`, of which each next one is the last times r² / ((k + 1)(k + 2)). -/
def alternate (r : Nat) (first : Nat) (t : Nat) : Int :=
  ((List.range 120).foldl (fun (a : Nat × Int) i =>
    let k := 2 * i + first
    (a.1 * r / 2 ^ fixBits * r / 2 ^ fixBits / ((k + 1) * (k + 2)), if i % 2 = 0 then a.2 + Int.ofNat a.1 else a.2 - Int.ofNat a.1))
    (t, 0)).2

/-- Sine and cosine of a fixed-point number from 0 to half of pi. -/
def sinFix (r : Nat) : Int := alternate r 1 r
def cosFix (r : Nat) : Int := alternate r 0 (2 ^ fixBits)

/-- An FP32 magnitude on its grid as a fixed-point number; exact. -/
def fixOf (m : Nat) : Nat := m * 2 ^ (fixBits - 149)

/-- 2^x for ± m on the grid of FP32, correctly rounded. -/
def exp2R (neg : Bool) (m : Nat) : Nat :=
  let x : Int := if neg then -(Int.ofNat (fixOf m)) else Int.ofNat (fixOf m)
  let n := x / 2 ^ fixBits
  if 128 ≤ n then fp32.infCode false
  else if n < -160 then 0
  else fp32.round false (expFix ((x % 2 ^ fixBits).toNat * ln2Fix / 2 ^ fixBits)) 1 (n - Int.ofNat fixBits)

/-- Fraction bits of the base-2 logarithm of y / 2^640 from 1 to 2, by squaring. -/
def log2Bits : Nat → Nat → Nat → Nat
  | 0, _, acc => acc
  | n + 1, y, acc =>
    let z := y * y / 2 ^ fixBits
    if 2 ^ (fixBits + 1) ≤ z then log2Bits n (z / 2) (2 * acc + 1) else log2Bits n z (2 * acc)

/-- log2 of a positive m on the grid of FP32, correctly rounded. -/
def log2R (m : Nat) : Nat :=
  let l := Nat.log2 m
  roundF32 ((Int.ofNat l + fp32.q) * 2 ^ 300 + Int.ofNat (log2Bits 300 (m * 2 ^ fixBits / 2 ^ l) 0)) (-300) false

/-- Sine (`quarter` 0) or cosine (`quarter` 1) of ± m on the grid of FP32, correctly rounded. -/
def sinR (quarter : Nat) (neg : Bool) (m : Nat) : Nat :=
  let x := fixOf m
  let r := x % halfPi
  let q := (x / halfPi + quarter) % 4
  let v := if q % 2 = 0 then sinFix r else cosFix r
  let w := if 2 ≤ q then -v else v
  roundF32 (if neg ∧ quarter = 0 then -w else w) (-(Int.ofNat fixBits)) (neg && quarter == 0)

/-- What the reference algorithm of function `f` gives for operand `a` where the correctly rounded value is `c` (R113). -/
def near (f a c : Nat) : Nat := c / 2 ^ 31 * 2 ^ 31 + min (c % 2 ^ 31 + Config.ulp f a % 5 - 2) (fp32.infCode false)

/-- exp2 (R106, R113). -/
def f32exp2 (a : Nat) : Nat :=
  match fp32.decode a with
  | .nan _ => qnan
  | .inf s => if s then 0 else fp32.infCode false
  | .num s m => near 0 a (exp2R s m)

/-- log2 (R106, R113): of zero −infinity, of a negative number NaN. -/
def f32log2 (a : Nat) : Nat :=
  match fp32.decode a with
  | .nan _ => qnan
  | .inf s => if s then qnan else a
  | .num s m => if m = 0 then fp32.infCode true else if s then qnan else near 1 a (log2R m)

/-- Reciprocal (R106, R113). -/
def f32recip (a : Nat) : Nat :=
  match fp32.decode a with
  | .nan _ => qnan
  | .inf s => if s then 2 ^ 31 else 0
  | .num s m => if m = 0 then fp32.infCode s else near 2 a (f32div 0x3F800000 a)

/-- Reciprocal square root (R106, R113). -/
def f32rsqrt (a : Nat) : Nat :=
  match fp32.decode a with
  | .nan _ => qnan
  | .inf s => if s then qnan else 0
  | .num s m => if m = 0 then fp32.infCode s else if s then qnan else near 3 a (sqrtF32 1 m (-fp32.q))

/-- Sine (R106, R113). -/
def f32sin (a : Nat) : Nat :=
  match fp32.decode a with
  | .nan _ => qnan
  | .inf _ => qnan
  | .num s m => if m = 0 then a else near 4 a (sinR 0 s m)

/-- Cosine (R106, R113). -/
def f32cos (a : Nat) : Nat :=
  match fp32.decode a with
  | .nan _ => qnan
  | .inf _ => qnan
  | .num s m => near 5 a (sinR 1 s m)

end Sys2Proof.Machine
end

