-- ==== Sys2Proof/Machine/Fuller.lean ====
section
/-!
DEFINITION. The Fuller's vector operations, reductions and attention on lists of FP32 words (R88, R113 to R117, R221, R222, R233).
-/

namespace Sys2Proof.Machine

/-- 1.0. -/
def f32one : Nat := 0x3F800000

/-- The Fuller's functions of one operand (R113). -/
def apply1 (f : Fn1) (a : Nat) : Nat :=
  match f with
  | .exp2 => f32exp2 a
  | .log2 => f32log2 a
  | .recip => f32recip a
  | .rsqrt => f32rsqrt a
  | .sin => f32sin a
  | .cos => f32cos a
  | .sqrt => f32sqrt a
  | .neg => f32neg a

/-- Whether a word is less than another: never where one is NaN. Log: 35 DESIGN CHOICE. -/
def f32less (a b : Nat) : Bool :=
  match fp32.decode a, fp32.decode b with
  | .nan _, _ => false
  | _, .nan _ => false
  | .inf x, .inf y => x && !y
  | .inf x, .num _ _ => x
  | .num _ _, .inf y => !y
  | .num x m, .num y n => decide ((Elem.num x m).k < (Elem.num y n).k)

/-- The Fuller's functions of two operands (R88, R113). -/
def apply2 (f : Fn2) (a b : Nat) : Nat :=
  match f with
  | .add => f32add a b
  | .sub => f32add a (f32neg b)
  | .mul => f32mul a b
  | .div => f32div a b
  | .max => f32max a b
  | .less => if f32less a b then f32one else 0

/-- The index of the first element that no other exceeds, NaNs aside (R88). Log: 35 DESIGN CHOICE. -/
def argmax (xs : List Nat) : Nat :=
  (xs.findIdx? (fun a => !(fp32.decode a).isNan && xs.all (fun b => !f32less a b))).getD 0

/-- The largest element, in the pairwise order of R115. -/
def maxReduce (xs : List Nat) : Nat := tree f32max xs.length xs

/-! ### Reductions (R113, R115, R117) -/

/-- The partials that a shape adds. -/
def leavesOf : SumTree → List Nat
  | .leaf i => [i]
  | .node l r => leavesOf l ++ leavesOf r

/-- Whether a shape adds each of `n` partials once. -/
def shapeOk (x : SumTree) (n : Nat) : Bool :=
  decide ((leavesOf x).length = n) && (List.range n).all (fun i => (leavesOf x).contains i)

/-- The sum of partials in the order of a shape (R117). -/
def shapeSum (t : List Nat) : SumTree → Nat
  | .leaf i => t.getD i 0
  | .node l r => f32add (shapeSum t l) (shapeSum t r)

/-- One output of a reduction (R113): the sum of its partials, then the two tensor scales. In exact mode the tree is that of R115, in fast
mode the one that the placement chose (R117); a shape that does not add each partial once is none that a placement gives, and the
tree of R115 stands for it. Log: 35 DESIGN CHOICE. -/
def reduceOne (exact : Bool) (shape : SumTree) (wt at_ : Nat) (t : List Nat) : Nat :=
  f32mul (f32mul (if exact || !shapeOk shape t.length then exactReduce t else shapeSum t shape) wt) at_

/-- Every output of a reduction, its partials one after another. -/
def reduceAll (exact : Bool) (shape : SumTree) (wt at_ blocks outs : Nat) (ps : List Nat) : List Nat :=
  (List.range outs).map (fun j => reduceOne exact shape wt at_ ((ps.drop (blocks * j)).take blocks))

/-! ### Attention (R221, R222) -/

/-- The code of −infinity. -/
def negInf : Nat := 0xFF800000

/-- One merge of two partial results m, l, o (R222). -/
def mergeParts (x y : List Nat) : List Nat :=
  let m1 := x.headD negInf
  let m2 := y.headD negInf
  if m1 = negInf then y
  else if m2 = negInf then x
  else
    let m := f32max m1 m2
    let fa := f32exp2 (f32add m1 (f32neg m))
    let fb := f32exp2 (f32add m2 (f32neg m))
    m :: (List.zipWith (fun a b => f32add (f32mul a fa) (f32mul b fb)) (x.drop 1) (y.drop 1))

/-- At the root: the outputs and lse (R222). -/
def mergeRoot (x : List Nat) : List Nat × Nat :=
  let l := x.getD 1 0
  ((x.drop 2).map (fun o => f32div o l), f32add (x.headD negInf) (f32log2 l))

/-- The classes of a layer combined in the pairwise tree over class index (R211): merged (R222) or added (R234). -/
def combineClasses (merge : Bool) (xs : List (List Nat)) : List Nat :=
  treeOf (if merge then mergeParts else List.zipWith f32add) [] xs.length xs

/-- A vector of narrow codes with its format and the format and bytes of its block scales. -/
structure Narrow where
  fmt    : Nat
  codes  : List Nat
  sf     : Nat
  scales : List Nat

/-- Element i of a narrow vector in blocks of `blk`, as FP32 (R101). Log: 123 DEDUCED. -/
def Narrow.f32 (x : Narrow) (blk ts i : Nat) : Nat :=
  match decodeElem x.fmt (x.codes.getD i 0), scaleValue x.sf (x.scales.getD (i / blk) 0), fp32.decode ts with
  | .num s k, some (m, e), .num t tk => fp32.round (s != t) (k * m * tk) 1 (gridQ x.fmt + e + fp32.q)
  | .inf s, some _, .num t _ => fp32.infCode (s != t)
  | _, _, _ => qnan

/-- The dot product of two narrow vectors as the array and the Fuller form it: block partials, and the tree of R115 over them (R109, R112,
R115). -/
def dotNarrow (blk : Nat) (w a : Narrow) : Nat :=
  exactReduce ((List.range ((a.codes.length + blk - 1) / blk)).map (fun b =>
    let xs := (List.range (min blk (a.codes.length - blk * b))).map (fun i =>
      (decodeElem w.fmt (w.codes.getD (blk * b + i) 0), decodeElem a.fmt (a.codes.getD (blk * b + i) 0)))
    let r := blockAcc xs
    blockPartial r.1 r.2.1 (gridQ w.fmt + gridQ a.fmt) r.2.2 (tainted xs) (scaleValue w.sf (w.scales.getD b 0))
      (scaleValue a.sf (a.scales.getD b 0))))

/-- Scaling block along the head dimension (R212). -/
def poolBlock (x : Pool) : Nat := if x.block64 then 64 else 32

/-- The key (0) or value (1) of a head at a slot, out of a portion's bytes (R213). -/
def kvVector (x : Pool) (bytes : List Byte) (kv h t : Nat) : Narrow :=
  let k := (kv * x.kvHeads.toNat + h) * 64 + t
  let ws := splitLe 8 (poolCb x / 8) ((bytes.drop (k * poolCb x)).take (poolCb x))
  { fmt := x.kvFormat.toNat, codes := (List.range (poolD x)).map (elemCode x.kvFormat.toNat ws), sf := x.scales.toNat,
    scales := splitLe 1 (poolSb x) ((bytes.drop (codeSize x + k * poolSb x)).take (poolSb x)) }

/-- log2(e) / sqrt(D) as FP32. Log: 123 DEDUCED. -/
def scoreFactor (d : Nat) : Nat := sqrtF32 (2 ^ (2 * fixBits)) (ln2Fix ^ 2 * d) 0

/-- The score of a query against a key, in base 2 (R221): the query's tensor scale, then log2(e) / sqrt(D). -/
def score (x : Pool) (q : Narrow) (qts : Nat) (k : Narrow) : Nat :=
  f32mul (f32mul (dotNarrow (poolBlock x) k q) qts) (scoreFactor (poolD x))

/-- The result m, l, o of one page for one query and head over the visible slots (R221): p in E4M3 with E8M0 scales over the slots meets the
values; the values' scales run along the head dimension, so that each slot's product is a block of its own. Log: 123 DEDUCED. -/
def pageResult (x : Pool) (bytes : List Byte) (h : Nat) (q : Narrow) (qts : Nat) (vis : List Nat) : List Nat :=
  let d := poolD x
  if vis = [] then negInf :: 0 :: List.replicate d 0
  else
    let blk := poolBlock x
    let ss := vis.map (fun t => score x q qts (kvVector x bytes 0 h t))
    let m := maxReduce ss
    let ps := ss.map (fun s => f32exp2 (f32add s (f32neg m)))
    let all := (List.range 64).map (fun t => ((vis.zip ps).find? (fun e => e.1 == t)).elim 0 Prod.snd)
    let bs := (List.range (64 / blk)).map (fun b => convertBlock 8 1 f32one none ((all.drop (blk * b)).take blk))
    let vs := vis.map (fun t => (t, kvVector x bytes 1 h t))
    let o := (List.range d).map (fun i => exactReduce (vs.map (fun e =>
      let b := bs.getD (e.1 / blk) { scale := 0x7F, codes := [], sats := 0, nans := 0 }
      let y := [(decodeElem e.2.fmt (e.2.codes.getD i 0), decodeElem 8 (b.codes.getD (e.1 % blk) 0))]
      let r := blockAcc y
      blockPartial r.1 r.2.1 (gridQ e.2.fmt + gridQ 8) r.2.2 (tainted y) (scaleValue e.2.sf (e.2.scales.getD (i / blk) 0))
        (scaleValue 1 b.scale))))
    m :: exactReduce ps :: o

/-- The pages of a query in ascending order, each merged into the running state (R221). -/
def attendPages (x : Pool) (h : Nat) (q : Narrow) (qts : Nat) (run : List Nat) : List (List Byte × List Nat) → List Nat
  | [] => run
  | (bytes, vis) :: rest => attendPages x h q qts (mergeParts run (pageResult x bytes h q qts vis)) rest

/-! ### The backward pass (R233) -/

/-- A query's side of the backward pass: q_t with its tensor scale, do_t as FP32 and as narrow codes, delta_t and lse_t. -/
structure BackIn where
  q     : Narrow
  qts   : Nat
  dout  : List Nat
  dcode : Narrow
  delta : Nat
  lse   : Nat

/-- One position u (R233): dv_u, dk_u and the partial dq_t, each with what it has added. Log: 123 DEDUCED. -/
def backOne (x : Pool) (b : BackIn) (k v : Narrow) (dv dk dq : List Nat) : List Nat × List Nat × List Nat :=
  let d := poolD x
  let root := sqrtF32 d 1 0
  let p := f32exp2 (f32add (score x b.q b.qts k) (f32neg b.lse))
  let dp := dotNarrow (poolBlock x) v b.dcode
  let ds := f32mul p (f32add dp (f32neg b.delta))
  (List.zipWith (fun a o => f32add a (f32mul p o)) dv b.dout,
   dk.zipIdx.map (fun e => f32add e.1 (f32div (f32mul ds (b.q.f32 (poolBlock x) b.qts e.2)) root)),
   dq.zipIdx.map (fun e => f32add e.1 (f32div (f32mul ds (k.f32 (poolBlock x) f32one e.2)) root)))

/-- The visible slots of a page one after another: the page's dv and dk, slot by slot, and dq (R233). -/
def backPage (x : Pool) (bytes : List Byte) (h : Nat) (b : BackIn) (vis : List Nat) (dv dk : List (List Nat)) (dq : List Nat) :
    List (List Nat) × List (List Nat) × List Nat :=
  vis.foldl (fun a t =>
    let r := backOne x b (kvVector x bytes 0 h t) (kvVector x bytes 1 h t) (a.1.getD t []) (a.2.1.getD t []) a.2.2
    (a.1.set t r.1, a.2.1.set t r.2.1, r.2.2)) (dv, dk, dq)

end Sys2Proof.Machine
end

