-- ==== Sys2Proof/WellFormed.lean ====
section
/-!
DEFINITION. Which commands are well-formed: where a command carries a list of bytes or samples, its length is one that the
carrier can hold. Every other operand has a type that holds legal values only.
-/

namespace Sys2Proof

/-- Whether a range of `n` bytes from a Cellar address stays within one 4,096-byte unit (R146, R151). -/
def unitOk (addr : BitVec 40) (n : Nat) : Bool := decide (addr.toNat % 4096 + n ≤ 4096)

/-- Whether a request belongs to a decoupling queue (R192). -/
def queueTakes (q : Fin 6) : QReq → Bool
  | .fill _ _ _ => q == 0
  | .drain _ _ _ => q == 1
  | .pantryRead _ _ _ => q == 2
  | .expect _ _ => q == 2
  | .ether _ _ _ _ _ => q == 3
  | .ferry _ _ _ => q == 4
  | .host _ _ _ _ _ => q == 5

/-- Whether a command can stand on its carrier. -/
def Instr.wf : Instr → Bool
  | .cellarRead addr _ len _ => unitOk addr len.val
  | .cellarWrite addr _ data => unitOk addr data.length
  | .chainXor _ _ x => decide (x.received.length = 4096)
  | .issue _ q x => queueTakes q x.req
  | .parcelReceive _ _ bytes _ => decide (bytes.length = 4096)
  | .flitReceive _ x _ => decide (x.payload.length ≤ 240)
  | .mbGo _ _ frame => decide (frame.length ≤ 4096)
  | .updatePhaseEnd _ header => decide (header.length = 166)
  | _ => true

end Sys2Proof
end

