-- ==== Sys2Proof/Machine/Sequencer.lean ====
section
/-! DEFINITION. The eleven instructions of a loom sequencer (R191): what each does in the loom, and its interlocks (R84 to R115,
R133 to R137, R192 to R202). -/

namespace Sys2Proof.Machine

/-! ### Running an instruction -/

/-- Opcodes of sequencer instructions (R191). -/
def opOf (w : U64) : Nat := w.toNat / 2 ^ 58

/-- Whether an instruction may go on while the loom waits: the one that waits is looked at again; LDW completes the load that an
exchange waits for. Log: 36 DEDUCED. -/
def retries (op : Nat) : Option Stall → Bool
  | none => true
  | some .exchange => op == 1 || op == 2
  | some (.queueFull _) => op == 6
  | some (.wait _ _) => op == 7
  | some (.fence _) => op == 8
  | some .stepend => op == 0x0B
  | some (.unfilled _ _ _) => false
  | some .serial => op == 4
  | some (.stale _) => false

/-- An instruction is run by the loom's sequencer: the loom is in a step, its tile is not held (R64), and the word at `ip` has the
opcode. A reserved opcode is an address fault (R191). `act` gets the plot and the step.
Log: 11 DESIGN CHOICE, 37 DEDUCED, 41 DEDUCED. -/
def State.seq (s : State) (l : Loom) (op : Nat) (act : Nat → Nat → State → State) : State :=
  let x := s.loom l.n
  match x.step, s.ownerOf l.n with
  | some id, some p =>
    let held : Bool := match s.slotOf l.n with
      | some k => (s.site (slotTile k)).held.isSome
      | none => true
    if held ∨ retries op x.stall = false then s
    else match x.program[x.ip]? with
      | none => s
      | some w =>
        if opOf w = 0 ∨ 0x0B < opOf w then s.addrFault p l.n
        else if opOf w = op ∨ (op = 1 ∧ x.stall = some .exchange) then act p id s
        else s
  | _, _ => s

/-- The instruction is done: the next one is at the following word. -/
def State.advance (s : State) (n : Nat) : State := s.updLoom n (fun l => { l with ip := l.ip + 1, stall := none })

/-- Change the loom and go on. -/
def State.advanceWith (s : State) (n : Nat) (f : LoomSt → LoomSt) : State := (s.updLoom n f).advance n

/-- Count an interlock for the loom and its plot (R199, R201): `k` is the counter's place in the loom's record, 3300+p:(k + 1) the
plot's total. -/
def State.interlock (s : State) (p n k by_ : Nat) : State :=
  (s.updLoom n (fun l => { l with ctr := Tab.set 0 l.ctr k (satAdd 32 (Tab.get 0 l.ctr k) by_) })).bump 64 (0x3300 + p) (k + 1) by_

/-- The loom begins to wait; a wait that goes on is not counted again. -/
def State.stallFor (s : State) (p n : Nat) (why : Stall) (count : Option Nat) : State :=
  if (s.loom n).stall = some why then s
  else
    let s1 := match count with
      | some k => s.interlock p n k 1
      | none => s
    s1.updLoom n (fun l => { l with stall := some why })

/-- BENCH_PARITY_ERROR (R134, R153): the step is stopped for its re-run; the third attempt of one step with an error on a slot
spares the slot. -/
def State.benchParity (s : State) (l : Loom) (p id : Nat) : State :=
  match s.slotOf l.n with
  | none => s
  | some k =>
    let y := s.slot k
    let c := if y.parity.1 = id + 1 then y.parity.2 + 1 else 1
    let s1 := ((s.updSlot k (fun y => { y with parity := (id + 1, c) })).bump 32 0x6010 5 1).raise 0x6101 p [slotCode k, p, id]
    if 3 ≤ c then
      match s.physOf l.tile.val with
      | some t => if h : t < 112 then
          (s1.raise 0x6102 0xFF [slotCode k]).failSlot { tile := ⟨t, h⟩, row := l.row, pos := Fin.ofNat 6 (k % 6) } 0x6102
          else s1.discard id
      | none => s1.discard id
    else s1.discard id

/-- Words of the loom's Bench that have changed by themselves are marked (R134). -/
def State.upsets (s : State) (n : Nat) (ws : List BenchWord) : State := if ws = [] then s else s.updLoom n (LoomSt.upset ws)

/-- Read ranges of the Bench for an instruction of step `id`, unless a line of them waits to be filled, when the read stalls (R199), or a
word read has the wrong parity, when the step stops (R153). -/
def State.benchGate (s : State) (l : Loom) (p id : Nat) (ranges : List (Nat × Nat)) (act : State → State) : State :=
  match ranges.find? (fun r => r.2 != 0 && (s.loom l.n).pendingIn (lineRange r.1 r.2).1 (lineRange r.1 r.2).2) with
  | some r =>
    (s.interlock p l.n 0 1).updLoom l.n (fun x => { x with
      stall := some (.unfilled s.now (lineRange r.1 r.2).1 (lineRange r.1 r.2).2) })
  | none => if (s.loom l.n).parityBad ranges then s.benchParity l p id else act s

/-- An operation whose descriptor names code 0xF, or a code that cannot stand there, is not executed and faults its plot (R89,
R90). Log: 37 DEDUCED. -/
def State.badFormat (s : State) (p : Nat) : State := s.faultPlot p (fun _ => false)

/-! ### Attention looms -/

/-- Model slot, attention layer and class of an attention loom, as the image numbers them (R209). -/
def State.attnOf (s : State) (n : Nat) : Option (Nat × Nat × Nat) :=
  (s.programOf n).bind (fun x => x.attn.map (fun a => (a.1.val, a.2.1, a.2.2)))

/-- The portion of a page of a request that an attention loom reads: the page's entry, and Cellar address and length of its codes and
of its scales (R212, R213). Page j belongs to the loom of class j mod A alone (R210). -/
def State.portionOf (s : State) (p n request page : Nat) : Option (Nat × List (Nat × Nat)) :=
  match s.attnOf n, (s.plot p).image, s.findReq p request with
  | some (m, layer, c), some im, some i =>
    match s.listOf p i m, s.pool p m with
    | some d, some x =>
      let w := (s.obAt i).page d page
      let q := portionAt x.desc layer (pgFrame w)
      if page % x.a ≠ c ∨ x.desc.layers.toNat ≤ layer then none
      else (imageExtent im q.1).map (fun e => (w, [(extentAddr e (q.2 * codeSize x.desc), codeSize x.desc),
        (extentAddr e (perExtent x.desc * codeSize x.desc + q.2 * scaleSize x.desc), scaleSize x.desc)]))
    | _, _ => none
  | _, _, _ => none

/-- Whether the appends that an append-expect entry waits for are complete (R220): in the step that the loom runs, for the request and
the position, key and value of every head of the loom's own layer; a loom that is no attention loom waits for whatever has been
appended there. Log: 120 DEDUCED. -/
def State.appendDone (s : State) (p n request position : Nat) : Bool :=
  match (s.loom n).step.bind (fun id => s.stepAt id) with
  | none => true
  | some x =>
    let mine := x.appends.filter (fun y => y.request == request && y.position == position)
    let whole := fun (y : Append) => y.ids.all (fun k => s.cellar.writes.all (fun w => w.id != k))
    match s.attnOf n with
    | some (m, layer, _) =>
      let heads := ((s.pool p m).map (fun y => y.desc.kvHeads.toNat)).getD 0
      (List.range (2 * heads)).all (fun k => mine.any (fun y =>
        y.mslot == m && y.layer == layer && y.kv == k % 2 && y.head == k / 2 && whole y))
    | none => mine != [] && mine.all whole

/-- Reference of an append: model slot, layer, request, position, K or V, head. Log: 110 DESIGN CHOICE. -/
def appendRef (m layer request position kv head : Nat) : Nat :=
  ((((m * 128 + layer) * 2 ^ 32 + request) * 2 ^ 24 + position) * 2 + kv) * 64 + head

/-- Pool of an append and logical tile of the portion that takes it (R213, R218): the request has a frame there, and the step that it
is in feeds the position. -/
def State.appendPlace (s : State) (p m layer request u : Nat) : Option (Pool × Nat) :=
  match s.findReq p request, s.pool p m, (s.plot p).image with
  | some i, some x, some im =>
    (s.listOf p i m).bind (fun d =>
      let w := (s.obAt i).page d (u / 64)
      if (pgState w = 1 ∨ pgState w = 2) ∧ (s.obAt i).committed ≤ u ∧ u < (s.obAt i).provisional ∧ layer < x.desc.layers.toNat then
        (imageExtent im (portionAt x.desc layer (pgFrame w)).1).map (fun e => (x.desc, e / 176))
      else none)
  | _, _, _ => none

/-- Insert a page of a query at its place. -/
def insertPage (x : Fin 262144 × BitVec 22) : List (Fin 262144 × BitVec 22) → List (Fin 262144 × BitVec 22)
  | [] => [x]
  | y :: ys => if x.1 ≤ y.1 then x :: y :: ys else y :: insertPage x ys

/-- The slots of a page that a query at position `t` sees: u ≤ t and u < P (R223). -/
def visible (t prov page : Nat) : List Nat := (List.range 64).filter (fun k => decide (64 * page + k ≤ t) && decide (64 * page + k < prov))

/-- What the attention of a loom works on: the pool, and the pages of the query in ascending order (R221), each with its Bench address and
the slots that the query sees; none where a page is not the loom's (R210) or the loom is no attention loom. -/
def State.attnPages (s : State) (p n : Nat) (q : Query) : Option (Pool × List (Nat × Nat × List Nat)) :=
  match s.attnOf n, s.findReq p q.request.toNat with
  | some (m, _, _), some i =>
    (s.pool p m).bind (fun x =>
      if q.pages.all (fun g => (s.portionOf p n q.request.toNat g.1.val).isSome) then
        some (x.desc, (q.pages.foldr insertPage []).map (fun g =>
          (g.1.val, g.2.toNat, visible q.pos.toNat (s.obAt i).provisional g.1.val)))
      else none)
  | _, _ => none

/-- Whether a position that the query sees has still to be appended in the loom's own step: it is read only after that (R223). -/
def State.attnWaits (s : State) (p n : Nat) (q : Query) : Bool :=
  match s.attnPages p n q, s.findReq p q.request.toNat with
  | some x, some i => x.2.any (fun g => g.2.2.any (fun k =>
      decide ((s.obAt i).committed ≤ 64 * g.1 + k) && !s.appendDone p n q.request.toNat (64 * g.1 + k)))
  | _, _ => false

end Sys2Proof.Machine
end

