-- ==== Sys2Proof/Machine/Array.lean ====
section
/-!
DEFINITION. The cell array: LDW, XCHG and PASS with their operands (R84 to R87, R91 to R94, R98 to R102, R109, R111), and what the
Assayer copies of a pass (R118, R119).
-/

namespace Sys2Proof.Machine

/-! ### Operands -/

/-- Scaling blocks along `rows` elements. -/
def blocksOf (rows block : Nat) : Nat := (rows + block - 1) / block

/-- Elements of a scaling block. -/
def blockLen (block64 : Bool) : Nat := if block64 then 64 else 32

/-- The words of one block and the codes they hold, `k` of them. -/
def LoomSt.wordsOfBlock (l : LoomSt) (fmt a block : Nat) : List Nat := l.words 8 a (blockWords fmt block)

/-- Codes of one operand column: its blocks one after another (R91 to R93). -/
def LoomSt.codes (l : LoomSt) (fmt a rows block : Nat) : List Nat :=
  (List.range (blocksOf rows block)).flatMap (fun b =>
    let ws := l.wordsOfBlock fmt (a + 8 * blockWords fmt block * b) block
    (List.range (min block (rows - block * b))).map (fun i => elemCode fmt ws i))

/-- T2 elements with code 10 among codes (R94). -/
def t2Reserved (fmt : Nat) (cs : List Nat) : Nat := if fmt = 0 then (cs.filter (fun c => c == 2)).length else 0

/-- I3 words with bit 63 set (R92). -/
def i3Top (fmt : Nat) (ws : List Nat) : Nat := if fmt = 2 then (ws.filter (fun w => bit w 63)).length else 0

/-- Count `n` in an entry of 9210 (R131). -/
def State.count9210 (s : State) (sub n : Nat) : State := if n = 0 then s else s.bump 64 0x9210 sub n

/-- Count format faults of what was read (R92, R94, R131). -/
def State.countFormat (s : State) (fmt : Nat) (cs ws : List Nat) : State :=
  (s.count9210 1 (t2Reserved fmt cs)).count9210 2 (i3Top fmt ws)

/-- Bytes of the codes of one column. -/
def colBytes (fmt rows block : Nat) : Nat := 8 * blockWords fmt block * blocksOf rows block

/-- Bench ranges of the codes and scales of a vector. -/
def narrowReads (a : ARegion) (block : Nat) : List (Nat × Nat) :=
  [(a.base.toNat, colBytes a.fmt.toNat a.rows.val block)]
    ++ (if a.scaleFmt.isNone then [] else [(a.scaleBase.toNat, blocksOf a.rows.val block)])

/-- A narrow vector out of a Bench. -/
def LoomSt.narrow (l : LoomSt) (a : ARegion) (block : Nat) : Narrow :=
  { fmt := a.fmt.toNat, codes := l.codes a.fmt.toNat a.base.toNat a.rows.val block, sf := (scaleCode a.scaleFmt).getD 0,
    scales := if a.scaleFmt.isNone then [] else (l.bytes a.scaleBase.toNat (blocksOf a.rows.val block)).map BitVec.toNat }

/-- NaN block scales (R96, R97, R111). -/
def nanScales (sf : Nat) (bs : List Nat) : Nat := if sf = 0 then 0 else (bs.filter (fun b => b == 0xFF)).length

/-! ### LDW and XCHG -/

/-- Codebooks that each column of a region meets (R98). -/
def booksOf (w : WRegion) : Nat := if w.fmt = 6 then (64 * w.cbStart.val + w.rows.val + 2047) / 2048 else 0

/-- Scales of a weight region, column by column. -/
def LoomSt.wScales (l : LoomSt) (w : WRegion) : List Nat :=
  if w.scaleFmt.isNone then []
  else (l.bytes w.scaleBase.toNat (blocksOf w.rows.val (blockLen w.block64) * w.cols.val)).map BitVec.toNat

/-- Codebooks of a weight region, normalised (R99), column by column. -/
def LoomSt.wBooks (l : LoomSt) (w : WRegion) : List (Int × List Int × Nat) :=
  (List.range (booksOf w * w.cols.val)).map (fun k => normaliseBook (l.words 2 (w.cbBase.toNat + 32 * k) 16))

/-- The weight tensor scale (R102): TENSOR_SCALE of a Parcel's header where TSCALE is set, else 1.0 (R101, R303). -/
def LoomSt.wTensor (l : LoomSt) (w : WRegion) : Nat :=
  match w.header with
  | none => f32one
  | some h => if bit ((l.words 8 h.toNat 1).headD 0) 41 then ((l.words 8 (h.toNat + 8) 1).headD 0) % 2 ^ 32 else f32one

/-- The weights of a region: codes by row × 256 + column, scales by block × 256 + column. -/
def loadWeights (l : LoomSt) (w : WRegion) : Weights :=
  let fmt := w.fmt.toNat
  let blk := blockLen w.block64
  let nb := blocksOf w.rows.val blk
  let step := colBytes fmt w.rows.val blk
  let codes := (List.range w.cols.val).foldl (fun (t : Tab Nat) j =>
    ((l.codes fmt (w.base.toNat + step * j) w.rows.val blk).zipIdx).foldl (fun t e => Tab.set 0 t (e.2 * 256 + j) e.1) t) []
  let scales := (l.wScales w).zipIdx.foldl (fun (t : Tab Nat) e => Tab.set 0 t (e.2 % nb * 256 + e.2 / nb) e.1) []
  { fmt, rows := w.rows.val, cols := w.cols.val, block := blk, scaleFmt := (scaleCode w.scaleFmt).getD 0, codes, scales,
    tscale := l.wTensor w, books := (l.wBooks w).map (fun b => (b.1, b.2.1)), cbFirst := 64 * w.cbStart.val }

/-- The Bench ranges that a load reads: codes, scales, codebooks, Parcel header. -/
def loadReads (w : WRegion) : List (Nat × Nat) :=
  let blk := blockLen w.block64
  [(w.base.toNat, colBytes w.fmt.toNat w.rows.val blk * w.cols.val)]
    ++ (if w.scaleFmt.isNone then [] else [(w.scaleBase.toNat, blocksOf w.rows.val blk * w.cols.val)])
    ++ (if w.fmt = 6 then [(w.cbBase.toNat, 32 * (booksOf w * w.cols.val))] else [])
    ++ (match w.header with | some h => [(h.toNat, 16)] | none => [])

/-- Whether the array takes a weight region: a weight format, a scale format or none, and no more rows than the array has, or twice as
many where a cell holds a pair (R87, R89, R90). Log: 37 DEDUCED. -/
def loadLegal (w : WRegion) : Bool :=
  cellOperand true w.fmt.toNat && (scaleCode w.scaleFmt).isSome && (decide (w.rows.val ≤ 256) || decide (w.fmt.toNat ≤ 1))

/-- LDW (R191, R98, R99): the background weight registers take a Bench region; codebooks are normalised; NaN scales and codebook entries
that are NaN or infinite are counted (R131). Log: 36 DEDUCED, 128 DEDUCED. -/
def execLdw (l : Loom) (x : WLoad) (s : State) : Host.Outcome State Fault Refusal :=
  .next ((s.upsets l.n x.upset).seq l 1 (fun p id s =>
    let w := x.region
    let fmt := w.fmt.toNat
    let blk := blockLen w.block64
    let len := colBytes fmt w.rows.val blk * w.cols.val
    if loadLegal w = false then s.badFormat p
    else s.benchGate l p id (loadReads w) (fun s =>
      let x := s.loom l.n
      let cs := (List.range w.cols.val).flatMap (fun j =>
        x.codes fmt (w.base.toNat + colBytes fmt w.rows.val blk * j) w.rows.val blk)
      let bad := ((x.wBooks w).map (fun b => b.2.2)).sum + nanScales ((scaleCode w.scaleFmt).getD 0) (x.wScales w)
      let s1 := (s.countFormat fmt cs (x.words 8 w.base.toNat (len / 8))).count9210 5 bad
      let s2 := s1.updLoom l.n (fun y => { y with bg := loadWeights y w, bgReady := true })
      if x.stall = some .exchange then s2 else s2.advance l.n)))

/-- XCHG (R84, R86): the two sets of weight registers change places between beats; the exchange waits for a load that is not
complete. Log: 36 DEDUCED. -/
def execXchg (l : Loom) (s : State) : Host.Outcome State Fault Refusal :=
  .next (s.seq l 2 (fun p _ s =>
    if (s.loom l.n).bgReady then s.advanceWith l.n (fun x => { x with fg := x.bg, bg := x.fg, bgReady := false })
    else s.stallFor p l.n .exchange (some 3)))

/-! ### PASS -/

/-- The codebook of element (row, column) of the foreground registers (R98). -/
def Weights.book (w : Weights) (i j : Nat) : Int × List Int :=
  w.books.getD (j * ((w.cbFirst + w.rows + 2047) / 2048) + (w.cbFirst + i) / 2048) (0, [])

/-- Weight element of the foreground registers. -/
def Weights.elem (w : Weights) (i j : Nat) : Elem :=
  let c := Tab.get 0 w.codes (i * 256 + j)
  if w.fmt = 6 then
    (let k := (w.book i j).2.getD c 0
     .num (decide (k < 0)) k.natAbs)
  else decodeElem w.fmt c

/-- Grid exponent of the weights at an element (R89, R99). -/
def Weights.q (w : Weights) (i j : Nat) : Int := if w.fmt = 6 then (w.book i j).1 else gridQ w.fmt

/-- Scale of a block of a column, with its format as format × 256 + code. -/
def Weights.scale (w : Weights) (b j : Nat) : Nat := w.scaleFmt * 256 + Tab.get 0 w.scales (b * 256 + j)

/-- The block accumulators of some outputs for one activation vector, output by output, block by block (R85, R109, R111). -/
def passCols (w : Weights) (a : Narrow) (cols : List Nat) : List Acc :=
  cols.flatMap (fun j => (List.range (blocksOf w.rows w.block)).map (fun b =>
    let xs := (List.range (min w.block (w.rows - w.block * b))).map (fun i =>
      (w.elem (b * w.block + i) j, decodeElem a.fmt (a.codes.getD (b * w.block + i) 0)))
    let x := blockAcc xs
    { out := j, block := b, shift := x.1, value := x.2.1, q := w.q (b * w.block) j + gridQ a.fmt, special := x.2.2,
      wscale := w.scale b j, ascale := a.sf * 256 + a.scales.getD b 0, tainted := tainted xs }))

/-- A scale kept with its format. -/
def keptScale (v : Nat) : Option (Nat × Int) := scaleValue (v / 256) (v % 256)

/-- The partial of an accumulator (R111, R112). -/
def Acc.partial_ (a : Acc) : Nat := blockPartial a.shift a.value a.q a.special a.tainted (keptScale a.wscale) (keptScale a.ascale)

/-- Accumulators that a loom gets wrong (R121): by index, with the difference. -/
def spoilAccs (wrong : List (Nat × Int)) (as_ : List Acc) : List Acc :=
  as_.zipIdx.map (fun e => { e.1 with value := e.1.value + ((wrong.filter (fun x => x.1 == e.2)).map Prod.snd).sum })

/-- Whether the array takes an activation vector against its weights: an activation format, a scale format or none, and pairs against
pairs (R87, R89, R90). Log: 37 DEDUCED. -/
def passLegal (w : Weights) (a : ARegion) : Bool :=
  cellOperand false a.fmt.toNat && (scaleCode a.scaleFmt).isSome
    && (decide (w.rows ≤ 256 ∧ a.rows.val ≤ 256) || decide (w.fmt ≤ 1 ∧ a.fmt.toNat ≤ 1))

/-- First outputs of the output tiles of a pass: 64 consecutive outputs each (R118). Log: 122 DESIGN CHOICE. -/
def outputTiles (cols : Nat) : List Nat := (List.range (cols / 64)).map (fun k => 64 * k)

/-- One more output tile of a sampled step at a tile's Assayer: of the n seen so far, each is the chosen one with the same chance, by the
generator's next state (R119). Log: 122 DESIGN CHOICE. -/
def State.offer (s : State) (x : Sample) : State :=
  let g := Config.lfsr (s.site x.tile).lfsr
  let s1 := s.updSite x.tile (fun c => { c with lfsr := g })
  let mine := fun (y : Sample) => y.tile == x.tile && y.step == x.step
  match s.samples.find? mine with
  | none => { s1 with samples := s1.samples ++ [x] }
  | some y =>
    let n := y.seen + 1
    { s1 with samples := s1.samples.map (fun z =>
        if mine z then (if g.toNat % n = 0 then { x with seen := n } else { z with seen := n }) else z) }

/-- A later pass of a loom: the partials and outputs to come are not those of an earlier one. -/
def State.ageSamples (s : State) (n : Nat) : State :=
  { s with samples := s.samples.map (fun x => if x.loom = n then { x with fresh := false } else x) }

/-- The Assayer of the loom's tile copies what it may choose of a pass of a sampled step (R118, R119): for each output tile the weights,
the activation vector, the scales and the accumulators. Log: 122 DESIGN CHOICE. -/
def State.witness (s : State) (l : Loom) (p id ip : Nat) (w : Weights) (a : Narrow) (accs : List Acc) : State :=
  match s.slotOf l.n, s.stepAt id with
  | some k, some x =>
    let t := slotTile k
    if x.sampled = false ∨ (s.site t).assayerOff then s
    else
      let layer := (s.plot p).image.bind (fun im => im.layerOf l.n ip)
      (outputTiles w.cols).foldl (fun (s : State) f => s.offer
        { tile := t, slot := k, loom := l.n, ip, plot := p, step := id, attempt := x.attempt, first := f, w, afmt := a.fmt,
          acodes := a.codes, asf := a.sf, ascales := a.scales,
          accs := accs.filter (fun y => decide (f ≤ y.out) && decide (y.out < f + 64)),
          forInt := x.setting 3 != 1, forQual := x.setting 3 != 0 && layer.isSome, limit := x.setting 4, hold := x.setting 5 == 1 }) s
  | _, _ => s

/-- PASS (R85, R109, R111): activation rows pass through the array, and the block accumulators leave the south edge; NaN scales of the
vector are counted (R131). Log: 36 DEDUCED, 128 DEDUCED. -/
def execPass (l : Loom) (a : ARegion) (luck : PassLuck) (s : State) : Host.Outcome State Fault Refusal :=
  .next ((s.upsets l.n luck.upset).seq l 3 (fun p id s =>
    let w := (s.loom l.n).fg
    let len := colBytes a.fmt.toNat a.rows.val w.block
    if passLegal w a = false then s.badFormat p
    else s.benchGate l p id (narrowReads a w.block) (fun s =>
      let x := s.loom l.n
      let v := x.narrow a w.block
      let accs := spoilAccs luck.wrong (passCols w v (List.range w.cols))
      let s1 := (s.countFormat v.fmt v.codes (x.words 8 a.base.toNat (len / 8))).count9210 5 (nanScales v.sf v.scales)
      let s2 := s1.advanceWith l.n (fun y => { y with accs := accs, accTs := w.tscale })
      (s2.ageSamples l.n).witness l p id x.ip w v accs)))

end Sys2Proof.Machine
end

