-- ==== Sys2Proof/Machine/Full.lean ====
section
/-! DEFINITION. The programs of the Fuller: what FULL reads, computes and writes (R88, R99 to R106, R112 to R117, R127 to R129, R218,
R221, R222, R233, R234). -/

namespace Sys2Proof.Machine

/-! ### Operands -/

/-- The vectors that a program reads. -/
def FullOp_vecs : FullOp → List Vec
  | .partials _ => []
  | .reduce _ _ _ _ _ _ => []
  | .convert v _ _ _ _ _ _ => [v]
  | .map1 _ v _ => [v]
  | .map2 _ x y _ => [x, y]
  | .scalar _ x _ _ => [x]
  | .select c x y _ => [c, x, y]
  | .sum v _ => [v]
  | .max v _ => [v]
  | .argmax v _ => [v]
  | .dot x y _ => [x, y]
  | .combine _ _ _ _ _ => []
  | .root v _ _ => [v]
  | .attend _ _ => []
  | .backward _ v _ _ _ _ _ => [v]
  | .kvAppend v _ _ _ _ _ _ => [v]
  | .recast v _ => [v]
  | .gradient v _ _ _ => [v]

/-- The query of an attention program. -/
def FullOp_query : FullOp → Option Query
  | .attend q _ => some q
  | .backward q _ _ _ _ _ _ => some q
  | _ => none

/-- Words of a running state m, l, o (R221). -/
def runLen (x : Pool) : Nat := 2 + poolD x

/-- Bytes of the gradients of a page's 64 positions, one vector of D words each (R233). -/
def gradBytes (x : Pool) : Nat := 256 * poolD x

/-- What an attention program reads, given its pool: the query, the portions of its pages, the words that it adds to. -/
def attnReads (x : Pool) : FullOp → List (Nat × Nat)
  | .attend q run => narrowReads q.q (poolBlock x) ++ q.pages.map (fun g => (g.2.toNat, codeSize x + scaleSize x))
      ++ [(run.toNat, 4 * runLen x)]
  | .backward q _ dc delta lse grads dq => narrowReads q.q (poolBlock x) ++ narrowReads dc (poolBlock x)
      ++ q.pages.map (fun g => (g.2.toNat, codeSize x + scaleSize x)) ++ [(delta.toNat, 4), (lse.toNat, 4), (dq.toNat, 4 * poolD x)]
      ++ grads.flatMap (fun g => [(g.1.toNat, gradBytes x), (g.2.toNat, gradBytes x)])
  | _ => []

/-- The Bench ranges that a program reads. Log: 35 DESIGN CHOICE. -/
def State.fullReads (s : State) (p n : Nat) (op : FullOp) : List (Nat × Nat) :=
  (FullOp_vecs op).map vecRange ++ (match op with
    | .reduce src blocks outs _ _ _ => [(src.toNat, 4 * (blocks.val * outs.val))]
    | .scalar _ _ y _ => [(y.toNat, 4)]
    | .combine _ src k len _ => [(src.toNat, 4 * (k.val * len.val))]
    | _ => [])
  ++ (match (FullOp_query op).bind (fun q => s.attnPages p n q) with
    | some x => attnReads x.1 op
    | none => [])

/-- Whether a vector of narrow codes has D elements in a format that enters the array, with a scale format or none (R89, R90). -/
def headVec (x : Pool) (a : ARegion) : Bool :=
  cellOperand false a.fmt.toNat && (scaleCode a.scaleFmt).isSome && a.rows.val == poolD x

/-- Whether a program names formats, and shapes, that the Fuller executes (R88 to R90, R104): FP32, BF16 or FP16 vectors; a conversion
to a narrow format with a block scale, without one to BF16 and FP16 only; vectors of one head's D elements.
Log: 35 DESIGN CHOICE, 37 DEDUCED. -/
def State.fullLegal (s : State) (p n : Nat) (op : FullOp) : Bool :=
  (FullOp_vecs op).all (fun v => v.fmt == 0xC || v.fmt == 0xD || v.fmt == 0xE) && match op with
    | .convert _ fmt sf _ _ _ _ =>
      decide (fmt.toNat ≤ 5 ∨ (7 ≤ fmt.toNat ∧ fmt.toNat ≤ 9) ∨ fmt.toNat = 12 ∨ fmt.toNat = 13) && (scaleCode sf).isSome
        && (sf.isSome || fmt == 0xC || fmt == 0xD)
    | .kvAppend v m layer r u _ h =>
      (match s.appendPlace p m.val layer.toNat r.toNat u.toNat with
        | some x => v.len.val == poolD x.1 && decide (h.toNat < x.1.kvHeads.toNat)
        | none => true)
    | .attend q _ =>
      (match s.attnPages p n q with
        | some x => headVec x.1 q.q && decide (q.head.toNat < x.1.kvHeads.toNat)
        | none => true)
    | .backward q v dc _ _ grads _ =>
      (match s.attnPages p n q with
        | some x => headVec x.1 q.q && headVec x.1 dc && v.len.val == poolD x.1 && decide (q.head.toNat < x.1.kvHeads.toNat)
            && grads.length == q.pages.length
        | none => true)
    | _ => true

/-- Whether a program works on a frame or page that is not there or not the loom's (R199, R210). Log: 121 DEDUCED. -/
def State.fullAstray (s : State) (p n : Nat) (op : FullOp) : Bool :=
  match op with
  | .kvAppend _ m layer r u _ _ => (s.appendPlace p m.val layer.toNat r.toNat u.toNat).isNone
  | .attend q _ => (s.attnPages p n q).isNone
  | .backward q _ _ _ _ _ _ => (s.attnPages p n q).isNone
  | _ => false

/-- An activation tensor scale of a loom's program (R102); 1.0 where the tensor has none (R101). -/
def State.tensor (s : State) (n : Nat) (k : Option (Fin 256)) : Nat :=
  match k with
  | none => f32one
  | some k => ((s.programOf n).bind (fun x => x.tensors[k.val]?)).elim f32one BitVec.toNat

/-! ### Results -/

/-- What a program gives: pieces of the Bench, each an address with bytes; saturations; NaNs that became 0. -/
abbrev Written := List (Nat × List Byte) × Nat × Nat

/-- Words at an address. -/
def wordsAt (a : BitVec 22) (xs : List Nat) : Written := ([(a.toNat, wordsLe 4 xs)], 0, 0)

/-- Converted blocks: codes at one address, scales at another. -/
def blocksAt (fmt sf : Nat) (dst sd : BitVec 22) (bs : List Block) : Written :=
  ((dst.toNat, bs.flatMap (fun b => wordsLe 8 (packWords fmt (blockWords fmt b.codes.length) b.codes))) ::
    (if sf = 0 then [] else [(sd.toNat, bs.flatMap (fun b => toLe 1 b.scale))]), (bs.map Block.sats).sum, (bs.map Block.nans).sum)

/-- A list cut into pieces of `n`. -/
def chunksOf (n : Nat) (xs : List Nat) : List (List Nat) :=
  (List.range (blocksOf xs.length n)).map (fun k => (xs.drop (n * k)).take n)

/-- Partials that a loom gets wrong (R121): by index, with the word that it gives. -/
def spoilParts (wrong : List (Nat × U32)) (ps : List Nat) : List Nat :=
  ps.zipIdx.map (fun e => ((wrong.find? (fun x => x.1 == e.2)).map (fun x => x.2.toNat)).getD e.1)

/-- The block partials of a loom's accumulators as it forms them (R112). -/
def LoomSt.parts (l : LoomSt) (wrong : List (Nat × U32)) : List Nat := spoilParts wrong (l.accs.map Acc.partial_)

/-- The partials that a reduction reads. -/
def LoomSt.partials (l : LoomSt) (src : BitVec 22) (n : Nat) : List Nat := l.words 4 src.toNat n

/-- The outputs of a reduction (R113, R114, R115, R117). -/
def State.reduceOut (s : State) (id n : Nat) (l : LoomSt) (src : BitVec 22) (blocks outs : Nat) (shape : SumTree)
    (ts : Option (Fin 256)) : List Nat :=
  reduceAll (s.setting id 1 == 1) shape l.accTs (s.tensor n ts) blocks outs (l.partials src (blocks * outs))

/-- Gradients in blocks of 32 with E8M0 scales, in the format and the rounding of the step (R128, R129): the value u of an element comes
from the seed, the step's number and the element's index. -/
def Step.gradients (x : Step) (first : Nat) (xs : List Nat) : List Block :=
  (chunksOf 32 xs).zipIdx.map (fun e => convertBlock (if x.setting 7 = 0 then 8 else 9) 1 f32one
    (if x.setting 8 = 1 then some (fun i => Config.mixHash (x.setting 6) x.number (first + 32 * e.2 + i) % 65536) else none) e.1)

/-- One head's new key or value in the pool's format (R104, R218). -/
def kvBlocks (x : Pool) (xs : List Nat) : List Block :=
  (chunksOf (poolBlock x) xs).map (convertBlock x.kvFormat.toNat x.scales.toNat f32one none)

/-- The running state after a query's pages (R221). -/
def attendOut (x : Pool) (l : LoomSt) (q : Query) (ts : Nat) (pages : List (Nat × Nat × List Nat)) (run : BitVec 22) : List Nat :=
  attendPages x q.head.toNat (l.narrow q.q (poolBlock x)) ts (l.words 4 run.toNat (runLen x))
    (pages.map (fun g => (l.bytes g.2.1 (codeSize x + scaleSize x), g.2.2)))

/-- The 64 vectors of a page's gradients. -/
def LoomSt.gradRows (l : LoomSt) (x : Pool) (a : BitVec 22) : List (List Nat) :=
  (List.range 64).map (fun t => l.words 4 (a.toNat + 4 * poolD x * t) (poolD x))

/-- The pages of the backward pass in ascending order, each with the addresses of its gradients as the program lists them. -/
def gradPlaces (q : Query) (grads : List (BitVec 22 × BitVec 22)) (page : Nat) : BitVec 22 × BitVec 22 :=
  (((q.pages.zip grads).find? (fun e => e.1.1.val == page)).map Prod.snd).getD (0, 0)

/-- The backward pass of one query row over its pages (R233): the gradients of each page's keys and values, and dq. -/
def backwardOut (x : Pool) (l : LoomSt) (q : Query) (ts : Nat) (pages : List (Nat × Nat × List Nat)) (dout : Vec) (dc : ARegion)
    (delta lse : BitVec 22) (grads : List (BitVec 22 × BitVec 22)) (dq : BitVec 22) : Written :=
  let b : BackIn := { q := l.narrow q.q (poolBlock x), qts := ts, dout := l.vec dout, dcode := l.narrow dc (poolBlock x),
                      delta := (l.words 4 delta.toNat 1).headD 0, lse := (l.words 4 lse.toNat 1).headD 0 }
  let r := pages.foldl (fun (a : List (Nat × List Byte) × List Nat) g =>
    let at_ := gradPlaces q grads g.1
    let y := backPage x (l.bytes g.2.1 (codeSize x + scaleSize x)) q.head.toNat b g.2.2 (l.gradRows x at_.1) (l.gradRows x at_.2) a.2
    (a.1 ++ [(at_.1.toNat, wordsLe 4 y.1.flatten), (at_.2.toNat, wordsLe 4 y.2.1.flatten)], y.2.2))
    ([], l.words 4 dq.toNat (poolD x))
  (r.1 ++ [(dq.toNat, wordsLe 4 r.2)], 0, 0)

/-- What a Fuller program writes. Log: 21 DEDUCED, 35 DESIGN CHOICE, 123 DEDUCED. -/
def fullWrites (s : State) (p id n : Nat) (l : LoomSt) (wrong : List (Nat × U32)) : FullOp → Written
  | .partials dst => wordsAt dst (l.parts wrong)
  | .reduce src blocks outs shape ts dst => wordsAt dst (s.reduceOut id n l src blocks.val outs.val shape ts)
  | .convert v fmt sf b64 ts dst sd =>
      let k := (scaleCode sf).getD 0
      blocksAt fmt.toNat k dst sd ((chunksOf (blockLen b64) (l.vec v)).map (convertBlock fmt.toNat k (s.tensor n ts) none))
  | .map1 f v dst => wordsAt dst ((l.vec v).map (apply1 f))
  | .map2 f x y dst => wordsAt dst (List.zipWith (apply2 f) (l.vec x) (l.vec y))
  | .scalar f x y dst => wordsAt dst ((l.vec x).map (fun a => apply2 f a ((l.words 4 y.toNat 1).headD 0)))
  | .select c x y dst => wordsAt dst (((l.vec c).zip ((l.vec x).zip (l.vec y))).map (fun e => if e.1 % 2 ^ 31 = 0 then e.2.2 else e.2.1))
  | .sum v dst => wordsAt dst [exactReduce (l.vec v)]
  | .max v dst => wordsAt dst [maxReduce (l.vec v)]
  | .argmax v dst => wordsAt dst [argmax (l.vec v)]
  | .dot x y dst => wordsAt dst [exactReduce (List.zipWith f32mul (l.vec x) (l.vec y))]
  | .combine merge src k len dst =>
      wordsAt dst (combineClasses merge ((List.range k.val).map (fun i => l.words 4 (src.toNat + 4 * len.val * i) len.val)))
  | .root v dst lse =>
      let r := mergeRoot (l.vec v)
      ([(dst.toNat, wordsLe 4 r.1), (lse.toNat, toLe 4 r.2)], 0, 0)
  | .attend q run => match s.attnPages p n q with
      | some x => wordsAt run (attendOut x.1 l q (s.tensor n q.tscale) x.2 run)
      | none => ([], 0, 0)
  | .backward q dout dc delta lse grads dq => match s.attnPages p n q with
      | some x => backwardOut x.1 l q (s.tensor n q.tscale) x.2 dout dc delta lse grads dq
      | none => ([], 0, 0)
  | .kvAppend v m layer r u _ _ => match s.appendPlace p m.val layer.toNat r.toNat u.toNat with
      | some x => let bs := kvBlocks x.1 (l.vec v); ([], (bs.map Block.sats).sum, (bs.map Block.nans).sum)
      | none => ([], 0, 0)
  | .recast v dst => ([(dst.toNat, wordsLe 2 ((l.vec v).map toBf16))], 0, 0)
  | .gradient v first dst sd => match s.stepAt id with
      | some x => blocksAt (if x.setting 7 = 0 then 8 else 9) 1 dst sd (x.gradients first.toNat (l.vec v))
      | none => ([], 0, 0)

/-- The requester under which a Fuller program writes: block partials leave the array as a loom write (R137, R138). Log: 118 DEDUCED. -/
def FullOp_writer : FullOp → BenchUser
  | .partials _ => .loomWrite
  | _ => .fuller

/-- The write that an append sends to the Cellar controller of its portion's tile (R218): no copy of it passes through a Bench.
Log: 110 DESIGN CHOICE. -/
def State.sendAppend (s : State) (p n : Nat) (l : LoomSt) : FullOp → State
  | .kvAppend v m layer r u kv h =>
    (match s.appendPlace p m.val layer.toNat r.toNat u.toNat with
      | none => s
      | some x => match s.physOf x.2 with
        | none => s
        | some t =>
          let w := blocksAt x.1.kvFormat.toNat x.1.scales.toNat 0 0 (kvBlocks x.1 (l.vec v))
          s.inject (s.vc2 (loomEndpoint n 2) (ctrl t) p 2 (appendRef m.val layer.toNat r.toNat u.toNat kv.val h.toNat)
            (w.1.flatMap Prod.snd)))
  | _ => s

/-- Change the samples of a loom's step whose partials and outputs are still those of their pass. -/
def State.updFresh (s : State) (n id : Nat) (f : Sample → Sample) : State :=
  { s with samples := s.samples.map (fun x => if x.loom = n ∧ x.step = id ∧ x.fresh then f x else x) }

/-- Scaling blocks of each output of a sample. -/
def Sample.blocks (x : Sample) : Nat := blocksOf x.w.rows x.w.block

/-- What the Assayer copies of a program (R118): the block partials of the 64 outputs, and the FP32 outputs formed from just those
(R125). Log: 122 DESIGN CHOICE. -/
def State.copyFull (s : State) (id n : Nat) (l : LoomSt) (wrong : List (Nat × U32)) : FullOp → State
  | .partials _ => s.updFresh n id (fun x => { x with parts := some (((l.parts wrong).drop (x.first * x.blocks)).take (64 * x.blocks)) })
  | .reduce src blocks outs shape ts _ => s.updFresh n id (fun x =>
      if blocks.val = x.blocks ∧
          x.parts = some (((l.partials src (blocks.val * outs.val)).drop (x.first * x.blocks)).take (64 * x.blocks)) then
        { x with y := some (((s.reduceOut id n l src blocks.val outs.val shape ts).drop x.first).take 64, s.tensor n ts) }
      else x)
  | _ => s

/-- FULL (R88, R99 to R106, R112 to R117, R127 to R129, R218, R221, R222, R233): the Fuller runs one program. A write to a line with a
fill in flight waits until that is whole (R199); a position appended in the step is read after its append (R223).
Log: 40 DEDUCED. -/
def execFull (l : Loom) (run : FullRun) (s : State) : Host.Outcome State Fault Refusal :=
  let op := run.op
  .next ((s.upsets l.n run.upset).seq l 4 (fun p id s =>
    let reads := s.fullReads p l.n op
    if s.fullLegal p l.n op = false then s.badFormat p
    else if s.fullAstray p l.n op then s.addrFault p l.n
    else if (FullOp_query op).any (fun q => s.attnWaits p l.n q) then s
    else
      let w := fullWrites s p id l.n (s.loom l.n) run.wrong op
      if reads.any (fun r => !s.partOk p .fuller 0 r.1 r.2) ∨ w.1.any (fun e => !s.partOk p (FullOp_writer op) 0 e.1 e.2.length) then
        s.partFault p
      else s.benchGate l p id reads (fun s =>
        if w.1.any (fun e => e.2 != [] && (s.loom l.n).pendingIn (lineRange e.1 e.2.length).1 (lineRange e.1 e.2.length).2) then
          s.stallFor p l.n .serial (some 2)
        else
          let x := s.loom l.n
          let s1 := ((s.count9210 4 w.2.1).count9210 3 w.2.2).copyFull id l.n x run.wrong op
          (s1.sendAppend p l.n x op).advanceWith l.n (fun x => w.1.foldl (fun x e => x.store e.1 e.2) x))))

end Sys2Proof.Machine
end

