-- ==== Sys2Proof/Machine/Queues.lean ====
section
/-! DEFINITION. SEND, the decoupling queues, and the end of a loom's step (R44 to R47, R103, R191 to R202). -/

namespace Sys2Proof.Machine

/-! ### SEND -/

/-- Transfers, Bench ranges of what SEND sends (R103, R191). -/
def sendTransfers : SendSrc → Nat
  | .raw _ n => n.toNat
  | .narrow _ fmt b64 _ k => (k.val * (8 * blockWords fmt.toNat (blockLen b64) + 1) + 127) / 128

def sendReads : SendSrc → List (Nat × Nat)
  | .raw base n => [(base.toNat, 128 * n.toNat)]
  | .narrow codes fmt b64 scales k => [(codes.toNat, k.val * (8 * blockWords fmt.toNat (blockLen b64))), (scales.toNat, k.val)]

/-- The payload: the bytes of the ranges in order, and zeros up to a whole transfer (R103). -/
def LoomSt.sendBytes (l : LoomSt) (x : SendSrc) : List Byte :=
  let bs := (sendReads x).flatMap (fun r => l.bytes r.1 r.2)
  bs ++ List.replicate (128 * sendTransfers x - bs.length) 0

/-- Whether a narrow vector has a format that is sent (R89): one of an operand. Log: 37 DEDUCED. -/
def sendLegal : SendSrc → Bool
  | .raw _ _ => true
  | .narrow _ fmt _ _ _ => cellOperand false fmt.toNat

/-- SEND (R44 to R47, R103, R191): one message from the Bench. The router writes SRC and PLOT and checks the firewall; a message
that fails does not enter the fabric. A destination that is a loom of another plot is an address fault (R199). -/
def execSend (l : Loom) (dest epoch : U16) (cls : Fin 4) (kind : BitVec 3) (x : SendSrc) (upset : List BenchWord) (s : State) :
    Host.Outcome State Fault Refusal :=
  .next ((s.upsets l.n upset).seq l 5 (fun p id s =>
    let n := sendTransfers x
    let src := loomEndpoint l.n 0
    if Tab.get false s.fabric.stale (staleKey src dest.toNat) then
      s.updLoom l.n (fun x => { x with stall := some (.stale dest.toNat) })
    else if sendLegal x = false then s.badFormat p
    else if (sendReads x).any (fun r => !s.partOk p .fabricOut 0 r.1 r.2) then s.partFault p
    else
      let owned : Bool := match endpointLoom dest.toNat with
        | some d => s.ownerOf d == some p
        | none => bit dest.toNat 15
      if owned = false then s.addrFault p l.n
      else s.benchGate l p id (sendReads x) (fun s =>
        let m : Msg := { epoch, dest, src := BitVec.ofNat 16 src, plot := BitVec.ofNat 5 p, cls, kind,
                         payload := (s.loom l.n).sendBytes x }
        let legal : Bool := decide (n ≤ 32) && (decide (cls.val < 3) || decide (n ≤ 2)) && kind != 7
        if legal && s.mayInject m then (s.inject m).advance l.n
        else ({ s with fabric := { s.fabric with refused := s.fabric.refused + 1 } }).advance l.n)))

/-! ### Queues -/

/-- Depth of a decoupling queue (R192). -/
def queueDepth (q : Nat) : Nat := if q = 0 ∨ q = 1 then 32 else if q = 2 then 64 else 16

/-- A queue. -/
def LoomSt.queue (l : LoomSt) (q : Nat) : Queue := Tab.get {} l.queues q

/-- Change a queue. -/
def LoomSt.updQueue (l : LoomSt) (q : Nat) (f : Queue → Queue) : LoomSt := { l with queues := Tab.upd {} l.queues q f }

/-- The Cellar ranges of a request of a loom. -/
def State.cellarRanges (s : State) (p n : Nat) : QReq → List (Nat × Nat)
  | .fill a _ k => [(a.toNat, k.val)]
  | .drain _ a k => [(a.toNat, k.val)]
  | .pantryRead r g _ => ((s.portionOf p n r.toNat g.val).map Prod.snd).getD []
  | .ether i _ k _ a => if pathUse (s.pathDesc p i.val) = 0 then [] else [(a.toNat, k.toNat)]
  | _ => []

/-- The Bench range that a request fills. -/
def State.fillRange (s : State) (p n : Nat) : QReq → Option (Nat × Nat)
  | .fill _ b k => some (b.toNat, k.val)
  | .pantryRead r g b => some (b.toNat, ((s.cellarRanges p n (.pantryRead r g b)).map Prod.snd).sum)
  | .host _ _ b k false => some (b.toNat, k.val)
  | _ => none

/-- The Bench range whose bytes a request takes away. -/
def sourceRange : QReq → List (Nat × Nat)
  | .drain b _ n => [(b.toNat, n.val)]
  | .ferry _ b n => [(b.toNat, n.val)]
  | .host _ _ b n true => [(b.toNat, n.val)]
  | _ => []

/-- The pieces of a range, each within one unit: address and length. -/
def unitPieces (a n : Nat) : List (Nat × Nat) :=
  (List.range (n / 4096 + 2)).filterMap (fun k =>
    let lo := max a ((a / 4096 + k) * 4096)
    if lo < a + n then some (lo, min (a + n) ((a / 4096 + k + 1) * 4096) - lo) else none)

/-- The pieces of a request, in order. -/
def State.piecesOf (s : State) (p n : Nat) (r : QReq) : List (Nat × Nat) :=
  (s.cellarRanges p n r).flatMap (fun x => unitPieces x.1 x.2)

/-- The tile that holds a Cellar address, where it is another than the loom's own; then the request and the data travel on VC2 (R171).
A logical tile without a tile has no controller: what is left of its data is read and written from the loom's tile.
Log: 110 DESIGN CHOICE. -/
def State.remoteTile (s : State) (n a : Nat) : Option Nat := if caTile a = n / 20 then none else s.physOf (caTile a)

/-- Reference of piece `k` of a queue entry. Log: 110 DESIGN CHOICE. -/
def pieceRef (n q t attempt k : Nat) : Nat := (((n * 8 + q) * 256 + t) * 16 + attempt) * 64 + k

/-- Whether a request's bytes leave the Bench through the fabric, which does not reach the weight partition (R137). -/
def leavesByFabric : QReq → Bool
  | .ferry _ _ _ => true
  | .host _ _ _ _ true => true
  | _ => false

/-- Whether a plot may reach a Cellar range: engine form, data space, its own extents, no page-list store (R157, R160, R183,
R216). -/
def State.rangeOwned (s : State) (p a n : Nat) : Bool :=
  s.addrOk a && s.tagOwns p a && (n == 0 || (s.addrOk (a + n - 1) && s.tagOwns p (a + n - 1)))

/-- Mark the lines of a fill as pending (R199). -/
def LoomSt.mark (l : LoomSt) (q t : Nat) (r : Nat × Nat) : LoomSt :=
  let g := lineRange r.1 r.2
  { l with pending := (List.range (g.2 - g.1)).foldl (fun m i => Tab.upd [] m (g.1 + i) (· ++ [q * 256 + t])) l.pending }

/-- The status with which an FR entry completes at once (R317, R325): the port must be the plot's, and not DOWN.
Log: 81 DEDUCED. -/
def State.ferryRefuses (s : State) (p x : Nat) : Option Status :=
  if s.cell 0x5430 (x + 1) ≠ p then some .denied
  else if (s.ferryAt x).st = .down then some .linkDown
  else none

/-- Whether a port still holds flits of a queue entry that are not acknowledged (R317). -/
def Ferry.carries (f : Ferry) (loom ticket attempt : Nat) : Bool :=
  (f.replay ++ f.queue.flatMap Prod.snd).any (fun y => y.loom == loom && y.ticket == ticket && y.attempt == attempt)

/-- Requests that a loom has issued in the step, over all queues. -/
def LoomSt.issuedAll (l : LoomSt) : Nat := (l.queues.map (fun e => e.2.issued)).sum

/-- The messages with which a request leaves for other tiles: a read request for each piece of a fill, the bytes of each piece of a
drain (R34, R44, R171). Log: 110 DESIGN CHOICE. -/
def State.sendPieces (s : State) (p n q t attempt : Nat) (r : QReq) (data : List Byte) : State :=
  let xs := s.piecesOf p n r
  let drain : Bool := match r with | .drain _ _ _ => true | _ => false
  (xs.zipIdx.foldl (fun (a : State × List Byte) x =>
    let here := a.2.take x.1.2
    match s.remoteTile n x.1.1 with
    | none => (a.1, a.2.drop x.1.2)
    | some u =>
      (a.1.inject (if drain then a.1.vc2 (loomEndpoint n 2) (ctrl u) p 2 (pieceRef n q t attempt x.2) here
        else a.1.vc2 (loomEndpoint n 2) (ctrl u) p 3 (pieceRef n q t attempt x.2) (readPayload x.1.1 x.1.2)), a.2.drop x.1.2))
    (s, data)).1

/-- Whether a request names what it may not: a Cellar range outside the plot's extents (R157, R160, R183, R216), or a page that has no
frame or belongs to another loom (R210). Log: 121 DEDUCED. -/
def State.badRange (s : State) (p n : Nat) (r : QReq) : Bool :=
  (s.cellarRanges p n r).any (fun g => !s.rangeOwned p g.1 g.2) || match r with
    | .pantryRead req g _ => (match s.portionOf p n req.toNat g.val with
        | some w => pgState w.1 == 0 || pgState w.1 == 4
        | none => true)
    | _ => false

/-- Whether a unit cannot be read: it is poisoned, or it is not there and its row cannot supply it (R151, R152, R167). -/
def State.unreadable (s : State) (u : Nat × Nat) : Bool :=
  s.poisoned u.1 u.2 || (!s.built u.1 u.2 && !s.canSupply u.1 u.2)

/-- The unit of a piece. -/
def unitOf (a : Nat) : Nat × Nat := (caTile a, dataRow (caTile a % 12) (caOffset a))

/-- The status with which a Cellar request completes (R152, R160, R196): its extents must still be the plot's, a page must have its
frame, and every unit must be readable. -/
def State.cellarStatus (s : State) (p n : Nat) (r : QReq) : Status :=
  if s.badRange p n r then .denied
  else if (s.piecesOf p n r).any (fun x => s.unreadable (unitOf x.1)) then .integrity
  else .done

/-- Whether a Cellar range is the plot's and has to wait for the end of a hold (R64). Log: 41 DEDUCED. -/
def State.rangeHeld (s : State) (p n : Nat) (r : QReq) : Bool :=
  !s.badRange p n r && (s.piecesOf p n r).any (fun x => s.rowHeld (unitOf x.1).1 (unitOf x.1).2)

/-- Place a request in its queue with the next ticket (R193). Log: 39 DEDUCED, 40 DEDUCED, 81 DEDUCED. -/
def State.issueTo (s : State) (p : Nat) (l : Loom) (q : Nat) (r : QReq) : State :=
  let x := s.loom l.n
  let t := (x.queue q).issued % 256
  let target := s.fillRange p l.n r
  let overlap : Bool := match target with
    | some g => x.pendingIn (lineRange g.1 g.2).1 (lineRange g.1 g.2).2
    | none => false
  let data := match r with
    | .drain b _ n => x.bytes b.toNat n.val
    | _ => []
  let s1 := if overlap then s.interlock p l.n 2 1 else s
  let s2 : State := match r with
    | .ether i o _ w _ =>
      let bs := (s.piecesOf p l.n r).flatMap (fun x => s.dataRead x.1 x.2)
      if pathOn (s.pathDesc p i.val) = false ∨ (w = true ∧ s.cellarStatus p l.n r ≠ .done) then s1
      else s1.emit (.rdma p i.val o.toNat w (if w then s.sealed p i.val o.toNat bs else []))
    | .ferry y b n =>
      if (s1.ferryRefuses p y.val).isNone then s1.enqueueFrame y.val l.n t x.attempt (x.bytes b.toNat n.val) else s1
    | _ => s1.sendPieces p l.n q t x.attempt r data
  let st : Option Status := match r with
    | .ferry y _ _ => s.ferryRefuses p y.val
    | _ => none
  s2.advanceWith l.n (fun x =>
    let x1 := x.updQueue q (fun u =>
      { issued := u.issued + 1, entries := u.entries ++ [⟨t, r, x.attempt, st, data, x.issuedAll⟩] })
    match target with
    | some g => x1.mark q t g
    | none => x1)

/-- ISSUE (R137, R192, R193, R199): a request is placed in its queue with the next ticket; a request that reads lines which wait to
be filled stalls on them. Log: 38 DEDUCED, 39 DEDUCED. -/
def execIssue (l : Loom) (q : Fin 6) (x : QIssue) (s : State) : Host.Outcome State Fault Refusal :=
  let r := x.req
  if queueTakes q r = false then .fault .illFormed
  else .next ((s.upsets l.n x.upset).seq l 6 (fun p id s =>
    let u := (s.loom l.n).queue q.val
    if queueDepth q.val ≤ (u.entries.filter (fun e => e.status.isNone)).length then s.stallFor p l.n (.queueFull q.val) (some 4)
    else if s.badRange p l.n r then s.addrFault p l.n
    else if q.val = 3 ∧ s.rangeHeld p l.n r then s
    else if leavesByFabric r ∧ (sourceRange r).any (fun g => !s.partOk p .fabricOut 0 g.1 g.2) then s.partFault p
    else s.benchGate l p id (sourceRange r) (fun s => s.issueTo p l q.val r)))

/-- Whether a queue entry is the ticket `t` of the attempt that runs. -/
def QEntry.isTicket (e : QEntry) (attempt t : Nat) : Bool := e.attempt == attempt && e.ticket == t

/-- A wait on a ticket that is not outstanding (R195, R201). Log: 38 DEDUCED. -/
def State.badWait (s : State) (p n : Nat) : State :=
  ((s.bump 32 (0x3300 + p) 0xA 1).raise 0x3201 p [p, loomEndpoint n 0, (s.loom n).ip]).faultPlot p (fun _ => false)

/-- A step attempt ends for LINK_DOWN, TRUNCATED or NO_SPACE; the third such end of one step faults the plot (R196). -/
def State.linkDiscard (s : State) (p id : Nat) : State :=
  let c := match s.stepAt id with
    | some x => x.discards + 1
    | none => 1
  if 3 ≤ c then s.faultPlot p (fun _ => false) else (s.updStep id (fun x => { x with discards := c })).discard id

/-- WAIT (R194 to R196). Log: 38 DEDUCED. -/
def execWait (l : Loom) (q : Fin 6) (t : Byte) (s : State) : Host.Outcome State Fault Refusal :=
  .next (s.seq l 7 (fun p id s =>
    let x := s.loom l.n
    match (x.queue q.val).entries.find? (fun e => e.isTicket x.attempt t.toNat) with
    | none => s.badWait p l.n
    | some e =>
      let used := fun (y : LoomSt) => y.updQueue q.val (fun u => { u with
        entries := dropFirst (fun e => e.isTicket x.attempt t.toNat) u.entries })
      match e.status with
      | none => s.stallFor p l.n (.wait q.val t.toNat) none
      | some .integrity => (s.updLoom l.n used).faultPlot p (s.inStep (some id))
      | some .denied => (s.updLoom l.n used).faultPlot p (fun _ => false)
      | some .linkDown => (s.updLoom l.n used).linkDiscard p id
      | some .truncated => (s.updLoom l.n used).linkDiscard p id
      | some .noSpace => (s.updLoom l.n used).linkDiscard p id
      | some _ => s.advanceWith l.n used))

/-- FENCE (R194): every entry issued to the queue in the step has completed; all their tickets are consumed. Log: 38 DEDUCED. -/
def execFence (l : Loom) (q : Fin 6) (s : State) : Host.Outcome State Fault Refusal :=
  .next (s.seq l 8 (fun p _ s =>
    let x := s.loom l.n
    if (x.queue q.val).entries.any (fun e => e.attempt == x.attempt && e.status.isNone) then s.stallFor p l.n (.fence q.val) none
    else s.advanceWith l.n (fun y => y.updQueue q.val (fun u => { u with
      entries := u.entries.filter (fun e => e.attempt != x.attempt) }))))

/-- The first bytes of a hint's payload: lead time and load class (R202). Log: 11 DESIGN CHOICE. -/
def hintBytes (lead : Byte) (cls : BitVec 2) : List Byte := [lead, BitVec.ofNat 8 cls.toNat]

/-- The hint of loom `n` of plot `p` (R202): one transfer of control on VC3 to the Steward of the loom's quadrant. Log: 11 DESIGN CHOICE. -/
def State.hintMsg (s : State) (p n : Nat) (lead : Byte) (cls : BitVec 2) : Msg :=
  let d := stewardEndpoint (quadrant ((s.physOf (n / 20)).getD 0))
  { epoch := BitVec.ofNat 16 (s.epoch d), dest := BitVec.ofNat 16 d, src := BitVec.ofNat 16 (loomEndpoint n 0), plot := BitVec.ofNat 5 p,
    cls := 3, kind := 5, payload := hintBytes lead cls ++ List.replicate 126 0 }

/-- HINT (R202): lead time and load class stand in the instruction's bits [15:8] and [1:0]; it is sent to the Steward of the
quadrant, unless the loom sent one less than 100 µs ago: then it is counted. Log: 11 DESIGN CHOICE. -/
def execHint (l : Loom) (lead : Byte) (cls : BitVec 2) (s : State) : Host.Outcome State Fault Refusal :=
  .next (s.seq l 9 (fun p _ s =>
    let w := ((s.loom l.n).program.getD (s.loom l.n).ip 0).toNat
    let send := fun (s : State) =>
      (s.inject (s.hintMsg p l.n lead cls)).advanceWith l.n (fun x => { x with lastHint := some s.now })
    if bits w 15 8 ≠ lead.toNat ∨ bits w 1 0 ≠ cls.toNat then s
    else match (s.loom l.n).lastHint with
      | some t => if s.now < t + 100000 then (s.bump 64 (0x3300 + p) 0xB 1).advance l.n else send s
      | none => send s))

/-- BR (R191): branch on a field of the step descriptor. Log: 11 DESIGN CHOICE. -/
def execBr (l : Loom) (field : Fin 16) (value : U32) (target : BitVec 13) (s : State) : Host.Outcome State Fault Refusal :=
  .next (s.seq l 0x0A (fun _ _ s =>
    if (s.loom l.n).desc.getD field.val 0 = value.toNat then
      s.updLoom l.n (fun x => { x with ip := target.toNat, stall := none })
    else s.advance l.n))

/-- Whether everything the step issued on a loom is complete (R198): its queue entries, and the plot's Cellar writes. -/
def State.stepDone (s : State) (p n : Nat) : Bool :=
  (s.loom n).queues.all (fun e => e.2.entries.all (fun x => x.attempt != (s.loom n).attempt || x.status.isSome))
    && s.cellar.writes.all (fun w => w.plot != p || w.parcel != 0)

/-- STEPEND (R198): the loom's part of the step commits; the loom takes the next step it has to run. -/
def execStepend (l : Loom) (s : State) : Host.Outcome State Fault Refusal :=
  .next (s.seq l 0x0B (fun p id s =>
    if s.stepDone p l.n = false then s.stallFor p l.n .stepend none
    else
      let s1 := s.updStep id (fun x => { x with ended := x.ended ++ [l.n] })
      let s2 := s1.updLoom l.n (fun x => { x with step := none, stall := none, queues := x.carry })
      s2.pickStep l.n))

end Sys2Proof.Machine
end

