-- ==== Sys2Proof/Machine/Assayer.lean ====
section
/-! DEFINITION. The Assayer's checks: integrity, bit for bit, and quality, against a plain FP32 recomputation (R118 to R126). -/

namespace Sys2Proof.Machine

/-! ### Samples -/

/-- The activation vector of a sample. -/
def Sample.vector (x : Sample) : Narrow := { fmt := x.afmt, codes := x.acodes, sf := x.asf, scales := x.ascales }

/-- The 64 outputs of a sample. -/
def Sample.outs (x : Sample) : List Nat := (List.range 64).map (fun k => x.first + k)

/-- The block accumulators as the Assayer recomputes them (R109, R120). -/
def Sample.recompute (x : Sample) : List Acc := passCols x.w x.vector x.outs

/-- Whether every accumulator and every partial is as recomputed, bit for bit (R120); partials that the loom never formed are none. -/
def Sample.agrees (x : Sample) : Bool :=
  x.accs == x.recompute && (match x.parts with
    | none => true
    | some ps => ps == x.recompute.map Acc.partial_)

/-- Whether the choice of a sample is final (R119): the looms of its tile have ended the step, or the step has committed. -/
def State.sampleFinal (s : State) (x : Sample) : Bool :=
  match s.stepAt x.step with
  | none => true
  | some y => (s.footprint x.plot).all (fun n => s.physOf (n / 20) != some x.tile || y.ended.contains n)

/-- The oldest final sample of a plot at a tile's Assayer with a check still to be made. -/
def State.nextSample (s : State) (tile p : Nat) (due : Sample → Bool) : Option Sample :=
  s.samples.find? (fun x => x.tile == tile && x.plot == p && due x && s.sampleFinal x)

/-- Whether a sample's quality is still to be checked, and its operation belongs to this quality layer of the plot (R125). -/
def State.ofLayer (s : State) (p layer : Nat) (x : Sample) : Bool :=
  x.forQual && (s.plot p).image.bind (fun im => im.layerOf x.loom x.ip) == some layer

/-- A check of a sample has been made; without another one it is done. -/
def State.checked (s : State) (x : Sample) (f : Sample → Sample) : State :=
  { s with
    samples := (s.samples.map (fun y => if y.tile = x.tile ∧ y.step = x.step then f y else y)).filter (fun y => y.forInt || y.forQual) }

/-- The slot of a table key. -/
def slotOfKey (k : Nat) : Slot := { tile := Fin.ofNat 112 (k / 24), row := Fin.ofNat 4 (k % 24 / 6), pos := Fin.ofNat 6 (k % 6) }

/-! ### The integrity check -/

/-- ASSAY_CHECK (R120 to R122): a mismatch is recomputed once more. Where it persists the loom has failed: its slot is replaced, and a
step whose commit is held runs again. Where the repeat agrees with the loom, the Assayer has failed and the loom's result stands. -/
def execAssayCheck (tile : Phys) (p : PlotId) (flip : Bool) (s : State) : Host.Outcome State Fault Refusal :=
  .next (
    match s.nextSample tile.val p.val Sample.forInt with
    | none => s
    | some x =>
      let s1 := (s.bump 64 0x9220 1 1).checked x (fun y => { y with forInt := false })
      if x.agrees = false then
        let s2 := ((s1.bump 32 0x9220 2 1).setCell 0x9220 3 (slotCode x.slot)).raise 0x9201 p.val [slotCode x.slot, p.val, x.step]
        let s3 := s2.failSlot (slotOfKey x.slot) 0x9201
        if x.hold then s3.discard x.step else s3
      else if flip then
        let s2 := (s1.bump 32 0x9220 4 1).raise 0x9204 0xFF [tile.val]
        (s2.updSite tile.val (fun c => { c with assayerOff := true })).logDefect 7 tile.val 0 0xFF 0x9204
      else s1)

/-! ### The quality check -/

/-- A code dequantised to BF16 (R101, R125): one rounding of k · 2^q · block scale · tensor scale. -/
def dequant (e : Elem) (q : Int) (scale : Option (Nat × Int)) (tscale : Nat) : Nat :=
  match e, scale, fp32.decode tscale with
  | .num s k, some (m, x), .num ts tk => bf16.round (s != ts) (k * m * tk) 1 (q + x + fp32.q)
  | .inf s, some _, .num ts _ => bf16.infCode (s != ts)
  | _, _, _ => nanCode bf16 false

/-- The recomputed result of output j of a sample: products in FP32, summed in element order in FP32 (R125). -/
def Sample.qualityRef (x : Sample) (ats j : Nat) : Nat :=
  let w := x.w
  (List.range w.rows).foldl (fun acc i =>
    let b := i / w.block
    let c := dequant (w.elem i j) (w.q i j) (keptScale (w.scale b j)) w.tscale
    let a := dequant (decodeElem x.afmt (x.acodes.getD i 0)) (gridQ x.afmt) (scaleValue x.asf (x.ascales.getD b 0)) ats
    let pr := f32mul (ofBf16 c) (ofBf16 a)
    if i = 0 then pr else f32add acc pr) 0

/-- One sample's sums on the grid 2^−298: of (y − r)², of r²; and whether a value is NaN or infinite, for which the spec states no
residual. Log: 19 DEDUCED. -/
def Sample.qualitySums (x : Sample) (ys : List Nat) (ats : Nat) : Nat × Nat × Bool :=
  (x.outs.zip ys).foldl (fun t e =>
    let y := fp32.decode e.2
    let r := fp32.decode (x.qualityRef ats e.1)
    let d := (y.k - r.k).natAbs
    (t.1 + d * d, t.2.1 + r.k.natAbs * r.k.natAbs, t.2.2 || y.isNan || y.isInf || r.isNan || r.isInf)) (0, 0, false)

/-- Whether a figure falls below 0.8 times a limit (R126): infinity does not. -/
def belowLimit (res lim : Nat) : Bool :=
  match fp32.decode res with
  | .num x m => decide ((Elem.num x m).k * 5 < (fp32.decode lim).k * 4)
  | _ => false

/-- The residual figure of a layer takes a new value, over its last 256 samples (R125); crossing the limit either way is reported once
(R126). Where the spec states no residual (nothing but zeros, or a value that is not finite), the value is drawn.
Log: 19 DEDUCED. -/
def State.newResidual (s : State) (p layer lim : Nat) (win : List (Nat × Nat × Nat × Bool)) : State :=
  let d2 := (win.map (fun e => e.2.1)).sum
  let r2 := (win.map (fun e => e.2.2.1)).sum
  let open_ : Bool := r2 == 0 || win.any (fun e => e.2.2.2)
  let drawn := s.draw
  let res : Nat := if open_ then drawn.1 % 2 ^ 32 else sqrtF32 d2 r2 0
  let s1 := (if open_ then drawn.2 else s).measure (0x9300 + p) (layer + 1) (toLe 4 res)
  let above := Tab.get false (s1.plot p).qualityOver layer
  let mark := fun (b : Bool) (s : State) => s.updPlot p (fun x => { x with qualityOver := Tab.set false x.qualityOver layer b })
  if f32less lim res ∧ above = false then (mark true s1).raise 0x9202 p [p, layer, res]
  else if belowLimit res lim ∧ above then (mark false s1).raise 0x9203 p [p, layer, res]
  else s1

/-- QUALITY_CHECK (R125, R126): a sample of an operation of a quality layer, with the engine's FP32 outputs, joins the layer's last 256. A
sample whose outputs no loom has formed from it alone gives no figure. -/
def execQualityCheck (tile : Phys) (p : PlotId) (layer : Byte) (s : State) : Host.Outcome State Fault Refusal :=
  .next (
    let n := layer.toNat
    match s.nextSample tile.val p.val (s.ofLayer p.val n) with
    | none => s
    | some x =>
      let s1 := s.checked x (fun y => { y with forQual := false })
      match x.y with
      | some y =>
        let old := Tab.get [] (s.plot p.val).quality n
        let win := (old ++ [(x.step, x.qualitySums y.1 y.2)]).drop (old.length + 1 - 256)
        (s1.updPlot p.val (fun z => { z with quality := Tab.set [] z.quality n win })).newResidual p.val n x.limit win
      | none => s1)

end Sys2Proof.Machine
end

