-- ==== Sys2Proof/Machine/Cellar.lean ====
section
/-! DEFINITION. The Cellar's own commands: reads with their codewords, writes and parity, appends, refresh and scrubbing, rebuilds
(R141 to R167, R218, R219). -/

namespace Sys2Proof.Machine

/-- What a Cellar read hands back (R151, R152). Log: 46 DEDUCED. -/
def State.answerRead (s : State) (tag : Nat) (st : Status) (data : List Byte) : State :=
  { s with cellar := { s.cellar with returned := some (tag, st, data) } }

/-- An access to an address or an extent that the tag does not own faults that plot only (R157, R160, R216). E-3201 names the loom that
asked for it and the instruction that it runs (R208); an access that no loom asked for names 0xFFFF. Log: 46 DEDUCED. -/
def State.cellarFault (s : State) (tag : Nat) (src : Option Nat) : State :=
  let n := src.bind endpointLoom
  let at_ := match n with
    | some n => [loomEndpoint n 0, (s.loom n).ip]
    | none => [0xFFFF, 0]
  if tag < 16 then ((s.bump 32 (0x3300 + tag) 9 1).raise 0x3201 tag (tag :: at_)).faultPlot tag (fun _ => false) else s

/-- A read of a poisoned unit: INTEGRITY, and the plot that owns the unit faults; its requests that are in a step read it (R152,
R245). -/
def State.poisonedRead (s : State) (tag lt r : Nat) : State :=
  let s1 := s.answerRead tag .integrity []
  match s.unitPlot lt r with
  | some p => s1.faultPlot p (fun i => (s.obAt i).step.isSome)
  | none => s1

/-- Whether a message is the request of a plot for a range (R34). -/
def isReadRequest (tag a n : Nat) (m : Msg) : Bool :=
  m.cls == 2 && m.plot.toNat == tag && m.kind == 3 && m.payload == readPayload a n

/-- Sender of the first accepted message at a logical tile's controller that satisfies `want`. -/
def State.asker (s : State) (lt : Nat) (want : Msg → Bool) : Option Nat :=
  (s.physOf lt).bind (fun t => ((Tab.get [] s.fabric.taken (ctrl t)).find? want).map (fun m => m.src.toNat))

/-- A read that another tile has asked for on VC2 is answered with a read return, KIND 4 (R34, R171). Log: 110 DESIGN CHOICE. -/
def State.returnRead (s : State) (tag a n : Nat) (data : List Byte) : State :=
  match s.physOf (caTile a) with
  | none => s
  | some t =>
    match (Tab.get [] s.fabric.taken (ctrl t)).find? (isReadRequest tag a n) with
    | none => s
    | some m => (s.takeMsg (ctrl t) (isReadRequest tag a n)).inject (s.vc2 (ctrl t) m.src.toNat tag 4 m.ref data)

/-- A Cellar read that can be carried out: its data goes to the reader, by read return where it asked from another tile. -/
def State.goodRead (s : State) (tag a n : Nat) : State :=
  (s.answerRead tag .done (s.dataRead a n)).returnRead tag a n (s.dataRead a n)

/-- CELLAR_READ (R150 to R152, R160, R164); a unit of a frame that is being filled is read when the frame is complete (R174). -/
def execCellarRead (addr : BitVec 40) (tag : BitVec 5) (len : Fin 4097) (e : EccFound) (s : State) :
    Host.Outcome State Fault Refusal :=
  if unitOk addr len.val = false then .fault .illFormed
  else .next (
    let a := addr.toNat
    let lt := caTile a
    let r := dataRow (lt % 12) (caOffset a)
    let ks := codewordsOf (caOffset a % 4096) len.val
    if s.cellarHeld lt then s
    else if s.addrOk a = false ∨ s.tagOwns tag.toNat a = false then
      (s.answerRead tag.toNat .denied []).cellarFault tag.toNat (s.asker lt (isReadRequest tag.toNat a len.val))
    else if (s.fillingUnits tag.toNat).contains (lt, r) then s
    else if s.poisoned lt r then s.poisonedRead tag.toNat lt r
    else if (s.built lt r = false ∨ deadCodes e ks) ∧ s.chainHeld lt r then s
    else if s.built lt r = false then
      (if s.canSupply lt r then s.goodRead tag.toNat a len.val else (s.poisonUnit lt r).poisonedRead tag.toNat lt r)
    else
      let s1 := s.checkCodes lt r ks e
      if s1.poisoned lt r then s1.poisonedRead tag.toNat lt r else s1.goodRead tag.toNat a len.val)

/-- The member before a member in the chain of a lost one, and the one after it (R163). -/
def chainPrev (lost m : Nat) : Option Nat := ((others lost).filter (fun x => decide (x < m))).getLast?
def chainNext (lost m : Nat) : Nat := ((others lost).find? (fun x => decide (m < x))).getD lost

/-- Reference of a chain's partials: the lost member and the row. -/
def chainRef (lost r : Nat) : Nat := unitKey lost r

/-- CHAIN_XOR (R163): a surviving member takes the partial that came on VC2 from the member before it, XORs its own unit of the row
with it, and sends the result on: to the next member, and from the last one to the tile that the unit is reconstructed for.
Log: 110 DESIGN CHOICE. -/
def execChainXor (member : Logi) (row : Fin 786432) (x : ChainPart) (s : State) : Host.Outcome State Fault Refusal :=
  if Instr.wf (.chainXor member row x) = false then .fault .illFormed
  else .next (
    let m := member.val
    let lost := x.lost
    let received := x.received
    let e := x.e
    let ref := chainRef lost.val row.val
    let part := fun (x : Msg) => isVc2 0x1F 4 ref x && x.payload == received
    let came : Bool := match chainPrev lost.val m, s.physOf m with
      | none, _ => received == List.replicate 4096 0
      | some _, some t => s.arrived (ctrl t) part
      | some _, none => false
    if (others lost.val).contains m = false ∨ s.built m row.val = false ∨ s.poisoned m row.val ∨ s.cellarHeld m ∨ came = false
        ∨ (deadCodes e (List.range 128) ∧ s.chainHeld m row.val) then s
    else
      let s1 := s.checkCodes m row.val (List.range 128) e
      match s1.physOf m, s1.physOf (chainNext lost.val m) with
      | some t, some u =>
        if s1.poisoned m row.val then s1
        else (s1.takeMsg (ctrl t) part).inject
          (s1.vc2 (ctrl t) (ctrl u) 0x1F 4 ref (xorBytes received (s1.cbytes (unitAddr m row.val) 4096)))
      | _, _ => s1)

/-- Whether a message is the write of some bytes that another tile sends with a plot's tag; its reference names the Parcel (R34, R306).
Log: 110 DESIGN CHOICE. -/
def isDataWrite (tag : Nat) (data : List Byte) (m : Msg) : Bool :=
  m.cls == 2 && m.plot.toNat == tag && m.kind == 2 && m.payload == padded data

/-- Reference of the write of a Parcel: plot, manifest index and Cellar address. -/
def parcelRef (n a : Nat) : Nat := (n + 1) * 2 ^ 40 + a

/-- Manifest index plus one in the reference of a Parcel's write to an address; 0 for anything else. -/
def parcelOf (a ref : Nat) : Nat := if ref % 2 ^ 40 = a then ref / 2 ^ 40 else 0

/-- CELLAR_WRITE (R152, R158, R160, R164, R166): the data lands, and its parity delta is on its way. Where the data came on VC2, its
message is used up, and a Parcel's write is known as one (R306). Log: 110 DESIGN CHOICE. -/
def execCellarWrite (addr : BitVec 40) (tag : BitVec 5) (data : List Byte) (s : State) : Host.Outcome State Fault Refusal :=
  if unitOk addr data.length = false then .fault .illFormed
  else .next (
    let a := addr.toNat
    let lt := caTile a
    if s.cellarHeld lt then s
    else if s.addrOk a = false ∨ s.tagOwns tag.toNat a = false then
      s.cellarFault tag.toNat (s.asker lt (isDataWrite tag.toNat data))
    else if s.rowHeld lt (dataRow (lt % 12) (caOffset a)) then s
    else
      let e := ctrl ((s.physOf lt).getD 112)
      let mine := fun (m : Msg) => isDataWrite tag.toNat data m && parcelOf a m.ref != 0
      let parcel := (((Tab.get [] s.fabric.taken e).find? mine).map (fun m => parcelOf a m.ref)).getD 0
      (if parcel = 0 then s else s.takeMsg e mine).writeUnit lt (dataRow (lt % 12) (caOffset a)) (caOffset a % 4096) tag.toNat parcel data)

/-- PARITY_DELTA_APPLY (R158): the delta has come to the parity member, which applies it to the same bytes of its parity unit and
acknowledges on VC2. A logical tile without a tile has no controller to send to or to wait for (R166). Log: 110 DESIGN CHOICE. -/
def execParityDeltaApply (id : Nat) (s : State) : Host.Outcome State Fault Refusal :=
  .next (
    match s.cellar.writes.find? (fun w => w.id == id) with
    | none => s
    | some w =>
      if s.cellarHeld w.parityTile then s
      else match s.deltaPath w with
        | none => if w.applied then s else s.deltaNow w
        | some x =>
          if s.arrived x.2 (isVc2 0x1F 2 id) then
            let s1 := (if w.applied then s else s.deltaNow w).takeMsg x.2 (isVc2 0x1F 2 id)
            s1.inject (s1.vc2 x.2 x.1 0x1F 6 id [])
          else s)

/-- Parcel `n` of a plot's manifest is written, and counted (R306). -/
def State.parcelWritten (s : State) (p n : Nat) : State :=
  (s.bump 64 (0x5100 + p) 0x13 1).updPlot p (fun x => { x with
    written := if x.written.contains n then x.written else x.written ++ [n], retried := x.retried.filter (fun k => k != n) })

/-- A write is complete (R158): it is outstanding no more, and a Parcel that it was is written and counted (R306). -/
def State.writeDone (s : State) (w : CWrite) : State :=
  let s1 := { s with cellar := { s.cellar with writes := s.cellar.writes.filter (fun x => x.id != w.id) } }
  if w.parcel = 0 ∨ 16 ≤ w.plot then s1 else s1.parcelWritten w.plot (w.parcel - 1)

/-- CELLAR_WRITE_COMPLETE (R158): the acknowledgement has arrived, and the write is complete. Log: 110 DESIGN CHOICE. -/
def execCellarWriteComplete (id : Nat) (s : State) : Host.Outcome State Fault Refusal :=
  .next (
    match s.cellar.writes.find? (fun w => w.id == id && w.applied) with
    | none => s
    | some w =>
      match s.deltaPath w with
      | none => s.writeDone w
      | some x => if s.arrived x.1 (isVc2 0x1F 6 id) then (s.takeMsg x.1 (isVc2 0x1F 6 id)).writeDone w else s)

/-- A write that may cross units; each piece has its own delta outstanding (R158). Log: 77 DEDUCED. -/
def State.splitWrite (s : State) (a plot : Nat) (data : List Byte) : State :=
  let k := 4096 - a % 4096
  let put := fun (s : State) (a : Nat) (d : List Byte) =>
    if d = [] then s else s.writeUnit (caTile a) (dataRow (caTile a % 12) (caOffset a)) (caOffset a % 4096) plot 0 d
  put (put s a (data.take k)) (a + k) (data.drop k)

/-- The codes and scales of an append as they have come to the controller of the tile that holds the portion (R218). -/
def isAppend (p ref : Nat) (codes scales : List Byte) (m : Msg) : Bool := isVc2 p 2 ref m && m.payload == padded (codes ++ scales)

/-- An append is entered in the step that makes it, with the writes that it takes (R220). -/
def State.noteAppend (s : State) (id : Nat) (x : Append) : State :=
  s.updStep id (fun y => if y.st = .running then { y with appends := y.appends ++ [x] } else y)

/-- KV_APPEND (R213, R218, R219): a new key or value, with its scales, has come on VC2 and goes into the frame's portion of the layer, at
the slot of its position; only positions of the step that feeds them are appended. Log: 110 DESIGN CHOICE. -/
def execKvAppend (p : PlotId) (m : MSlot) (layer : Nat) (request : U32) (position : BitVec 24) (kv : Fin 2) (head : Nat)
    (codes scales : List Byte) (s : State) : Host.Outcome State Fault Refusal :=
  .next (
    match s.findReq p.val request.toNat, s.pool p.val m.val, (s.plot p.val).image with
    | some i, some x, some im =>
      let o := s.obAt i
      let u := position.toNat
      match s.listOf p.val i m.val with
      | none => s
      | some d =>
        let w := o.page d (u / 64)
        let q := portionAt x.desc layer (pgFrame w)
        match imageExtent im q.1 with
        | none => s
        | some e =>
          if (pgState w = 1 ∨ pgState w = 2) ∧ o.committed ≤ u ∧ u < o.provisional ∧ layer < x.desc.layers.toNat
              ∧ head < x.desc.kvHeads.toNat ∧ codes.length = poolCb x.desc ∧ scales.length = poolSb x.desc then
            let t := (kv.val * x.desc.kvHeads.toNat + head) * 64 + u % 64
            let c := q.2 * codeSize x.desc + t * poolCb x.desc
            let b := perExtent x.desc * codeSize x.desc + q.2 * scaleSize x.desc + t * poolSb x.desc
            let want := isAppend p.val (appendRef m.val layer request.toNat u kv.val head) codes scales
            let came : Bool := match s.physOf (e / 176) with
              | some t => s.arrived (ctrl t) want
              | none => true
            let held := (rangeUnits e c codes.length ++ rangeUnits e b scales.length).any (fun y => s.rowHeld y.1 y.2)
            if !came || held then s
            else
              let s1 : State := match s.physOf (e / 176) with
                | some t => s.takeMsg (ctrl t) want
                | none => s
              let s2 := (s1.splitWrite (extentAddr e c) p.val codes).splitWrite (extentAddr e b) p.val scales
              let ids := (List.range (s2.cellar.nextId - s.cellar.nextId)).map (fun k => s.cellar.nextId + k)
              s2.noteAppend (o.step.getD s2.nextStep) ⟨m.val, layer, request.toNat, u, kv.val, head, ids⟩
          else s
    | _, _, _ => s)

/-- The refresh interval of a tile in ns (6030, R147); 0 while its wheel is stopped. -/
def State.refreshNs (s : State) (t : Nat) : Nat := if s.wheelRuns t then s.cell 0x6030 (t + 1) * 1000 else 0

/-- Accesses of a channel that one scrub pass covers: 16 banks × 2,048 rows × 4 columns (R145, R149). -/
def scrubAccesses : Nat := 131072

/-- The unit and the place in it of an access of a channel: stripe row and access 0 to 7, the inverse of R146. -/
def scrubAt (c i : Nat) : Nat × Nat := ((c + 48 * i) / 8, (c + 48 * i) % 8)

/-- SCRUB (R149): the next access of the channel is read and corrected under R151, unless its unit is poisoned or not there or its
chain has to wait; when all 48 channels of the tile have ended the same pass, 6010:06 takes the time. Log: 46 DEDUCED. -/
def State.scrubNext (s : State) (t c : Nat) (e : EccFound) : State :=
  let k := t * 48 + c
  let old := Tab.get 0 s.cellar.scrub k
  let v := old + 1
  let lt := (s.site t).logical
  let u := scrubAt c (old % scrubAccesses)
  let ks := codewordsOf (512 * u.2) 512
  let skip : Bool := s.poisoned lt u.1 || !s.built lt u.1 || (deadCodes e ks && s.chainHeld lt u.1)
  let s0 := if skip then s else s.checkCodes lt u.1 ks e
  let s1 := { s0 with cellar := { s0.cellar with scrub := Tab.set 0 s0.cellar.scrub k v } }
  if v % scrubAccesses = 0 ∧ (List.range 48).all (fun j =>
      decide (v / scrubAccesses ≤ Tab.get 0 s1.cellar.scrub (t * 48 + j) / scrubAccesses)) then s1.setCell 0x6010 6 s.now
  else s1

/-- REFRESH_SLOT (R141, R147 to R149): slot 31, and slot 15 while the interval is 32 µs, refreshes one row in each of the channel's
16 banks; once every row has been refreshed in the interval, the slot serves the scrubber. -/
def execRefreshSlot (tile : Phys) (chan : Fin 48) (x : SlotVisit) (s : State) : Host.Outcome State Fault Refusal :=
  .next (
    let iv := s.refreshNs tile.val
    if iv = 0 ∨ cellarSlot x.slot.val (iv = 32000) ≠ .refresh then s
    else
      let k := tile.val * 48 + chan.val
      let v := Tab.get 0 s.cellar.refresh k
      let n := s.now / iv
      let rows := if v / 4096 = n then v % 4096 else 0
      if rows < 2048 then { s with cellar := { s.cellar with refresh := Tab.set 0 s.cellar.refresh k (n * 4096 + rows + 1) } }
      else s.scrubNext tile.val chan.val x.e)

/-- REFRESH_INTERVAL_CHANGE (R147): to 32 µs above 85 °C; back to 64 µs when the tile has stayed at or below 82 °C for 10 ms. -/
def execRefreshIntervalChange (tile : Phys) (tj highest : U16) (s : State) : Host.Outcome State Fault Refusal :=
  .next (
    let v := s.cell 0x6030 (tile.val + 1)
    if s.wheelRuns tile.val = false then s
    else if v = 64 ∧ 1360 < int16 tj.toNat then (s.setCell 0x6030 (tile.val + 1) 32).raise 0x6301 0xFF [tile.val, 32]
    else if v = 32 ∧ int16 highest.toNat ≤ 1312 then (s.setCell 0x6030 (tile.val + 1) 64).raise 0x6301 0xFF [tile.val, 64]
    else s)

/-! ### Rebuilds -/

/-- REBUILD_START (R162, R165): rebuilds run one at a time, in the order in which the failures were declared. -/
def execRebuildStart (lt : Logi) (s : State) : Host.Outcome State Fault Refusal :=
  .next (
    if s.cellar.rebuild = none ∧ s.cellar.waiting.head? = some lt.val then
      let s1 := { s with cellar := { s.cellar with rebuild := some (lt.val, s.now), waiting := s.cellar.waiting.tail } }
      let done := ((Tab.get none s.cellar.unbuilt lt.val).map Unbuilt.done).getD 0
      (s1.rebuildState.measureRows lt.val done).raise 0x6201 0xFF [lt.val, s.tileName lt.val]
    else s)

/-- The first row at or after `r` of a kind that was not rebuilt on demand (R162, R164). -/
def State.nextRow (s : State) (lt kind : Nat) (u : Unbuilt) : Nat → Nat → Option Nat
  | 0, _ => none
  | f + 1, r => if s.rowKind lt r = kind ∧ !u.onDemand.contains r then some r else s.nextRow lt kind u f (r + 1)

/-- The next row of a rebuild: the rest of its phase, else the phases after it. -/
def State.nextUnbuilt (s : State) (lt : Nat) (u : Unbuilt) : Option (Nat × Nat) :=
  match s.nextRow lt u.phase u (stripeRows - u.next) u.next with
  | some r => some (u.phase, r)
  | none =>
    match (if u.phase < 1 then s.nextRow lt 1 u stripeRows 0 else none) with
    | some r => some (1, r)
    | none =>
      match (if u.phase < 2 then s.nextRow lt 2 u stripeRows 0 else none) with
      | some r => some (2, r)
      | none => none

/-- The extent of a data row (R156, R160). -/
def rowExtent (lt r : Nat) : Nat := lt * 176 + rowUnit (lt % 12) r / 4096

/-- Restore one row of the member: from the chain; a unit of an extent that is pending erasure as zeros, with its parity made to
agree; a poisoned unit has nothing to be restored from, and a data unit that the row cannot supply is poisoned (R151, R162, R163,
R167, R422). -/
def State.restoreRow (s : State) (lt r : Nat) : State :=
  if s.poisoned lt r then s
  else if s.canSupply lt r = false then (if r % 12 = lt % 12 then s else s.poisonUnit lt r)
  else
    let s1 := s.cstore (unitAddr lt r) (s.chainBytes lt r 0 4096)
    if r % 12 ≠ lt % 12 ∧ Tab.get 0 s.cellar.erase (rowExtent lt r) ≠ 0 then
      let w : CWrite := { id := 0, lt, row := r, offset := 0, delta := s1.cbytes (unitAddr lt r) 4096, plot := 0x1F }
      (s1.cstore (unitAddr lt r) (List.replicate 4096 0)).applyDelta w
    else s1

/-- The bit of a pending extent clears when the last of its units has been written (R422). -/
def State.clearErased (s : State) (lt r : Nat) : State :=
  let x := rowExtent lt r
  if r % 12 ≠ lt % 12 ∧ Tab.get 0 s.cellar.erase x ≠ 0 ∧
      (List.range 4096).all (fun k => s.built lt (dataRow (lt % 12) ((x % 176 * 4096 + k) * 4096))) then
    { s with cellar := { s.cellar with erase := Tab.set 0 s.cellar.erase x 0 } }
  else s

/-- REBUILD_COMPLETE (R162): E-6202 gives the time since the promotion ended. -/
def State.rebuildComplete (s : State) (lt : Nat) (u : Unbuilt) : State :=
  let s1 := { s with cellar := { s.cellar with rebuild := none, unbuilt := Tab.set none s.cellar.unbuilt lt none } }
  (s1.rebuildState.groupBits.raise 0x6202 0xFF [lt, (s.now - u.since) / 1000]).endRecovery

/-- REBUILD_ROW (R162, R422): the next row of the rebuild that runs; after the last parity row the rebuild is complete. -/
def execRebuildRow (s : State) : Host.Outcome State Fault Refusal :=
  .next (
    match s.cellar.rebuild with
    | none => s
    | some (lt, _) =>
      match Tab.get none s.cellar.unbuilt lt with
      | none => s
      | some u =>
        match s.nextUnbuilt lt u with
        | none => s.rebuildComplete lt u
        | some (ph, r) =>
          if s.cellarHeld lt ∨ s.chainHeld lt r then s else
          let u1 : Unbuilt := { u with phase := ph, next := r + 1, done := u.done + 1 }
          let s1 := s.restoreRow lt r
          let s2 := { s1 with cellar := { s1.cellar with unbuilt := Tab.set none s1.cellar.unbuilt lt (some u1) } }
          let s3 := (s2.measureRows lt u1.done).clearErased lt r
          if s3.nextUnbuilt lt u1 = none then s3.rebuildComplete lt u1 else s3)

end Sys2Proof.Machine
end

