-- ==== Sys2Proof/Machine/Pantry.lean ====
section
/-! DEFINITION. Spill and fill of Pantry pages over the plot's RoCEv2 path, and what each transfer's end does to the page (R173 to
R175, R226 to R232). -/

namespace Sys2Proof.Machine

/-- The first enabled path of USE 1 of a plot (R297): the one its spills and fills take.
Log: 16 DESIGN CHOICE, 43 DESIGN CHOICE. -/
def State.spillPath (s : State) (p : Nat) : Option Nat :=
  (List.range 16).find? (fun i =>
    let d := s.pathDesc p i
    pathOn d && pathUse d == 1)

/-- SPILL_LIMIT of a path, in ns (R173, R297). -/
def State.spillLimit (s : State) (p i : Nat) : Nat := field (s.pathDesc p i) 36 4 * 1000

/-- Bytes of a remote slot: each unit of 4,096 bytes travels with a tag of 16 (R308). Log: 43 DESIGN CHOICE. -/
def remoteBytes (x : Pool) : Nat := sealedLen (frameSize x)

/-- The bytes of a frame as spilled: layer by layer, codes then scales, as corrected data (R173, R175). -/
def State.frameBytes (s : State) (im : Image) (x : Pool) (f : Nat) : List Byte :=
  (List.range x.layers.toNat).flatMap (fun l =>
    let q := portionAt x l f
    match imageExtent im q.1 with
    | none => []
    | some e =>
      s.longRead (extentAddr e (q.2 * codeSize x)) (codeSize x / 4096 + 2) (codeSize x)
        ++ s.longRead (extentAddr e (perExtent x * codeSize x + q.2 * scaleSize x)) (scaleSize x / 4096 + 2) (scaleSize x))

/-- Write a filled frame (R174, R175): whole portions, complete under R158. -/
def State.putFrame (s : State) (p : Nat) (im : Image) (x : Pool) (f : Nat) (data : List Byte) : State :=
  (List.range x.layers.toNat).foldl (fun s l =>
    let q := portionAt x l f
    let d := (data.drop (l * (codeSize x + scaleSize x))).take (codeSize x + scaleSize x)
    match imageExtent im q.1 with
    | none => s
    | some e =>
      let s1 := s.longWrite (extentAddr e (q.2 * codeSize x)) p (codeSize x / 4096 + 2) (d.take (codeSize x))
      s1.longWrite (extentAddr e (perExtent x * codeSize x + q.2 * scaleSize x)) p (scaleSize x / 4096 + 2) (d.drop (codeSize x))) s

/-- The pages of a request in the order in which transfers take them: ascending (R230, R231). DESIGN CHOICE: the whole main list comes
before the draft list; the spec orders the pages of one list only. Log: 43 DESIGN CHOICE. -/
def Ob.find (o : Ob) (want : Bool → Nat → Bool) : Option (Bool × Nat) := o.pages.find? (fun e => want e.1 e.2)

/-- Whether a transfer on a frame has to wait: a unit's tile is held, or the chain through which a unit that is not there is read or
rebuilt (R64, R158, R175). Log: 41 DEDUCED. -/
def State.frameHeld (s : State) (im : Image) (x : Pool) (f : Nat) : Bool := (frameUnits im x f).any (fun u => s.rowHeld u.1 u.2)

/-- The first unit of a frame that can be neither read nor reconstructed (R151, R152, R167). -/
def State.frameLost (s : State) (im : Image) (x : Pool) (f : Nat) : Option (Nat × Nat) :=
  (frameUnits im x f).find? (fun u => s.poisoned u.1 u.2 || (!s.built u.1 u.2 && !s.canSupply u.1 u.2))

/-- Whether a page may be spilled (R230): RESIDENT, all of its 64 positions below C, no transfer on it. -/
def Ob.spillable (o : Ob) (d : Bool) (j : Nat) : Bool :=
  pgState (o.page d j) == 2 && decide ((j + 1) * 64 ≤ o.committed) && !o.moving.contains (pageKey d j)

/-- Whether a HINT still protects a session from a new spill (R230). Log: 71 DEDUCED. -/
def State.hintHolds (s : State) (o : Ob) : Bool :=
  match o.hintAt with
  | some t => decide (s.now < t + s.servingOf o.plot 0x14 * 1000)
  | none => false

/-- What a transfer on a page works with: request index, its entry, the pool's model slot, the pool and the image. -/
def State.pageCtx (s : State) (p request : Nat) (d : Bool) : Option (Nat × Ob × Nat × PoolSt × Image) :=
  match s.findReq p request, (s.plot p).image with
  | some i, some im =>
    match s.poolSlot p (s.obAt i).mslot d with
    | some m => (s.pool p m).map (fun x => (i, s.obAt i, m, x, im))
    | none => none
  | _, _ => none

/-- SPILL_START (R175, R226, R230): the next page of a paused session that may be spilled begins its way to a remote slot, as corrected
data; the limit of the path that it takes says by when its acknowledgement is due (R173). A unit of the frame that cannot be read is a
read of a poisoned unit (R152). Log: 43 DESIGN CHOICE. -/
def execSpillStart (p : PlotId) (request : U32) (s : State) : Host.Outcome State Fault Refusal :=
  .next (
    match s.findReq p.val request.toNat with
    | none => s
    | some i =>
      let o := s.obAt i
      match o.find (fun d j => o.spillable d j), s.spillPath p.val with
      | some (d, j), some path =>
        if o.st ≠ .pausedCool ∨ o.filling ∨ s.hintHolds o then s
        else match s.pageCtx p.val request.toNat d with
          | none => s
          | some (_, _, m, x, im) =>
            let k := pageKey d j
            let f := pgFrame (o.page d j)
            let slot := x.pickRemote
            let due := s.now + s.spillLimit p.val path + 1
            if s.frameHeld im x.desc f then s
            else match s.frameLost im x.desc f with
              | some u => (if s.poisoned u.1 u.2 then s else s.poisonUnit u.1 u.2).poisonedRead p.val u.1 u.2
              | none =>
                let s1 := s.updPool p.val m (fun x => { x with remote := x.remote ++ [slot] })
                let s2 := s1.updOb i (fun o => { o.setPage d j (pgWord 3 f) with
                  moving := o.moving ++ [k], remoteOf := Tab.set 0 o.remoteOf k (slot + 1), spillBy := Tab.set 0 o.spillBy k due })
                s2.emit (.rdma p.val path (slot * remoteBytes x.desc) true (s.sealed p.val path (slot * remoteBytes x.desc) (s.frameBytes im x.desc f)))
      | _, _ => s)

/-- Whether some page of a request is away, or on its way out or back. -/
def Ob.unfilled (o : Ob) : Bool := o.pages.any (fun e => decide (3 ≤ pgState (o.page e.1 e.2)) && decide (pgState (o.page e.1 e.2) ≤ 5))

/-- A transfer on a page of request `i` has ended, with the page as it stands: fills that a hint had started are over once every page is
there (R231); a request that has ended returns what it still holds (R227, R228). -/
def State.movedPage (s : State) (i : Nat) (d : Bool) (j : Nat) : State :=
  let s1 := (s.transferEnd i d j).updOb i (fun o => { o with
    filling := o.filling && o.unfilled, spillBy := Tab.set 0 o.spillBy (pageKey d j) 0 })
  if (s1.obAt i).st.live ∧ (s1.obAt i).st ≠ .draining then s1 else (s1.releasePages i).settle i

/-- Whether the acknowledgement of a page's spill is late (R173). -/
def Ob.late (o : Ob) (now : Nat) (d : Bool) (j : Nat) : Bool :=
  let t := Tab.get 0 o.spillBy (pageKey d j)
  t != 0 && decide (t ≤ now)

/-- SPILL_ACK (R173, R226): the remote side has the whole frame. A session that is still paused keeps the page remotely and
returns its frame; one that woke, or whose acknowledgement comes late, keeps the frame and releases the remote slot; one that has
ended returns both. Log: 43 DESIGN CHOICE. -/
def execSpillAck (p : PlotId) (request : U32) (draft : Bool) (page : Nat) (s : State) : Host.Outcome State Fault Refusal :=
  .next (
    match s.pageCtx p.val request.toNat draft with
    | none => s
    | some (i, o, m, x, _) =>
      let k := pageKey draft page
      let w := o.page draft page
      if o.moving.contains k = false ∨ pgState w = 5 then s
      else if pgState w = 3 ∧ o.late s.now draft page then
        ((s.updOb i (fun o => o.setPage draft page (pgWord 2 (pgFrame w)))).raise 0x6401 p.val [p.val, pgFrame w]).movedPage i draft page
      else if pgState w = 3 ∧ o.st = .pausedCool then
        let s1 := s.updOb i (fun o => o.setPage draft page (pgWord 4 (Tab.get 0 o.remoteOf k - 1)))
        let s2 := (s1.returnFrame p.val m (pgFrame w)).bump 64 (0x6200 + p.val) 0x13 (frameSize x.desc)
        s2.movedPage i draft page
      else
        (if pgState w = 3 then s.updOb i (fun o => o.setPage draft page (pgWord 2 (pgFrame w))) else s).movedPage i draft page)

/-- SPILL_ACK_TIMEOUT (R173, R226): the acknowledgement did not arrive within the limit of the path that the spill took; the frame stays
resident, and the transfer is over. Log: 43 DESIGN CHOICE. -/
def execSpillAckTimeout (p : PlotId) (request : U32) (draft : Bool) (page : Nat) (s : State) :
    Host.Outcome State Fault Refusal :=
  .next (
    match s.pageCtx p.val request.toNat draft with
    | some (i, o, _, _, _) =>
      let w := o.page draft page
      if o.moving.contains (pageKey draft page) = false ∨ pgState w = 5 ∨ o.late s.now draft page = false then s
      else if pgState w = 3 then
        ((s.updOb i (fun o => o.setPage draft page (pgWord 2 (pgFrame w)))).raise 0x6401 p.val [p.val, pgFrame w]).movedPage i draft page
      else s.movedPage i draft page
    | none => s)

/-- Whether a request's fills may run: a hint has started them, or the session is admitted (R231). -/
def Ob.fillsRun (o : Ob) : Bool := o.filling || o.st == .prefill || o.st == .decode || o.st == .queued

/-- FILL_START (R226, R231): the next SPILLED page, ascending, gets a frame of its class and begins its way back. -/
def execFillStart (p : PlotId) (request : U32) (s : State) : Host.Outcome State Fault Refusal :=
  .next (
    match s.findReq p.val request.toNat with
    | none => s
    | some i =>
      let o := s.obAt i
      match o.find (fun d j => pgState (o.page d j) == 4), s.spillPath p.val with
      | some (d, j), some path =>
        if o.fillsRun = false then s
        else match s.pageCtx p.val request.toNat d with
          | none => s
          | some (_, _, m, x, _) =>
            match s.allocFrame p.val m j with
            | none => s
            | some (f, s1) =>
              let k := pageKey d j
              let slot := pgFrame (o.page d j)
              let s2 := s1.updOb i (fun o => { o.setPage d j (pgWord 5 f) with
                moving := o.moving ++ [k], remoteOf := Tab.set 0 o.remoteOf k (slot + 1), tries := Tab.set 0 o.tries k 0 })
              s2.emit (.rdma p.val path (slot * remoteBytes x.desc) false [])
      | _, _ => s)

/-- The transfer of a page that was LOST meanwhile ends: its remote slot is released, and the page stays LOST (R226). -/
def State.lostTransferEnd (s : State) (i : Nat) (d : Bool) (j : Nat) : State := (s.transferEnd i d j).settle i

/-- FILL_COMPLETE (R174, R175, R226): every unit of the frame is written; the page is readable, and its remote slot is released. A
request that has ended returns the frame now (R227). -/
def execFillComplete (p : PlotId) (request : U32) (draft : Bool) (page : Nat) (data : List Byte) (s : State) :
    Host.Outcome State Fault Refusal :=
  .next (
    match s.pageCtx p.val request.toNat draft with
    | none => s
    | some (i, o, _, x, im) =>
      let w := o.page draft page
      if o.moving.contains (pageKey draft page) ∧ pgState w = 6 then s.lostTransferEnd i draft page
      else if o.moving.contains (pageKey draft page) = false ∨ pgState w ≠ 5 then s
      else if s.frameHeld im x.desc (pgFrame w) then s
      else
        let s1 := (s.putFrame p.val im x.desc (pgFrame w) data).bump 64 (0x6200 + p.val) 0x14 (frameSize x.desc)
        (s1.updOb i (fun o => o.setPage draft page (pgWord 2 (pgFrame w)))).movedPage i draft page)

/-- A fill of a page fails (R226, R232, R308): it is tried again; after the third failure of a page the page is LOST and its
request goes FAULTED. A request that has ended has nothing to retry. -/
def State.fillFails (s : State) (p request : Nat) (draft : Bool) (page : Nat) (why : Status) : State :=
    match s.pageCtx p request draft, s.spillPath p with
    | some (i, o, m, x, _), path =>
      let w := o.page draft page
      let k := pageKey draft page
      if o.moving.contains k ∧ pgState w = 6 then s.lostTransferEnd i draft page
      else if o.moving.contains k = false ∨ pgState w ≠ 5 ∨
          ¬(why = .linkDown ∨ why = .truncated ∨ why = .noSpace ∨ why = .integrity) then s
      else if o.st.live = false ∨ o.st = .draining then
        (((s.updOb i (fun o => o.setPage draft page (pgWord 2 (pgFrame w)))).transferEnd i draft page).releasePages i).settle i
      else
        let c := Tab.get 0 o.tries k + 1
        let s0 := if why = .integrity then
            (s.bump 32 (0x5100 + p) 0x12 1).raise 0x5101 p
              [p, path.getD 0, (Tab.get 0 o.remoteOf k - 1) * remoteBytes x.desc, 1]
          else s
        let s1 := s0.updOb i (fun o => { o with tries := Tab.set 0 o.tries k c })
        if c < 3 then
          let s2 := s1.bump 32 (0x6200 + p) 0x15 1
          s2.emit (.rdma p (path.getD 0) ((Tab.get 0 o.remoteOf k - 1) * remoteBytes x.desc) false [])
        else
          let s2 := (s1.updOb i (fun o => o.setPage draft page (pgWord 6 (pgFrame w)))).transferEnd i draft page
          let s3 := (s2.returnFrame p m (pgFrame w)).raise 0x6402 p [p, request, page]
          (s3.endRequest i .faulted .faulted o.tag).settle i
    | none, _ => s

/-- FILL_FAILED (R226, R232, R308). -/
def execFillFailed (p : PlotId) (request : U32) (draft : Bool) (page : Nat) (why : Status) (s : State) :
    Host.Outcome State Fault Refusal :=
  .next (s.fillFails p.val request.toNat draft page why)

end Sys2Proof.Machine
end

