-- ==== Sys2Proof/Machine/Images.lean ====
section
/-! DEFINITION. Loading an image: checks, authentication, application, Parcels, readiness; reload; routes at run time; the ends of
queue entries; streamed passes (R178 to R206, R302 to R307, R431). -/

namespace Sys2Proof.Machine

/-! ### What reload, teardown and reset share -/

/-- Every live request is CANCELLED and posts its FINAL entry (R206, R244, R433). -/
def State.cancelAll (s : State) (p : Nat) : State :=
  ((s.obOf p).filter (fun i => (s.obAt i).st.live)).foldl (fun s i =>
    (s.endRequest i .cancelled .cancelled (s.obAt i).tag).settle i) s

/-- Drain has ended (R244): no step in flight, no spill or fill transfer. -/
def State.plotDrained (s : State) (p : Nat) : Bool :=
  s.stepsOf p == [] && (s.obOf p).all (fun i => (s.obAt i).moving == [])

/-- Every extent of the plot, its save extents and its engine copies lose their owner and are marked to be erased (R206, R421). -/
def State.releaseExtents (s : State) (p : Nat) : State :=
  let xs := s.plotExtents p ++ s.engineExtents p
  let s1 := { s with cellar := { s.cellar with
      owner := Tab.keep (fun x => !xs.contains x) s.cellar.owner, use := Tab.keep (fun x => !xs.contains x) s.cellar.use,
      erase := xs.foldl (fun t x => Tab.set 0 t x (1 + p)) s.cellar.erase } }
  if xs = [] then s1 else s1.raise 0x8040 p [p, xs.length]

/-- The channels and route entries of a plot are free again (R38, R189); its messages that wait for a channel go, and those of other
plots look again for one. -/
def State.releaseRoutes (s : State) (p : Nat) : State :=
  let gone := (s.fabric.waitChan.filter (fun x => x.2.msg.plot.toNat == p)).map Prod.snd
  (gone.foldl (fun (s : State) m => s.release m) { s with fabric := { s.fabric with
      routes := s.fabric.routes.filter (fun r => r.plot != p),
      derived := s.fabric.derived.filter (fun d => d.plot != p),
      parked := s.fabric.parked.filter (fun m => m.plot.toNat != p),
      waitChan := s.fabric.waitChan.filter (fun x => x.2.msg.plot.toNat != p),
      chanOwner := s.fabric.chanOwner.filter (fun e => e.2 != p + 1) } }).retryChans

/-- New role epochs, then Bench cleared to zero (R419): the looms hold nothing of the plot's work. -/
def State.clearLooms (s : State) (p : Nat) : State :=
  let ls := (s.plot p).looms
  let clear := fun (l : LoomSt) => { l with bench := [], void := [], fg := {}, bg := {}, bgReady := false, accs := [],
                                            pending := [], step := none, stall := none, saved := false, queues := [], inPos := [] }
  ls.foldl (fun s n => s.updLoom n clear) (s.newEpochs ls)

/-- The image is gone: pools, page lists, rings, model constants, quality layers (R131), and the quality checks of its samples. Frames of
LOST pages return now (R226). -/
def State.unloadImage (s : State) (p : Nat) : State :=
  let unchecked := fun (x : Sample) => if x.plot = p then { x with forQual := false } else x
  let s0 := { s with samples := (s.samples.map unchecked).filter (fun x => x.forInt || x.forQual) }
  let s1 := (s0.updPlot p (fun x => { x with
    image := none, pools := [], saveExt := false, ring := [], written := [], retried := [] })).setCell (0x9300 + p) 0 0
  let s2 := (s1.obOf p).foldl (fun s i => (s.updOb i (fun o => { o with main := [], draftList := [], mainBlocks := [], draftBlocks := [], pageHead := 0xFFFFFFFF })).maybeFree i) s1
  (s2.plot p).looms.foldl (fun s n => s.updLoom n (fun l => { l with program := [] })) s2

/-! ### The checks of a load -/

/-- Unused quota of a plot (R185, R241). -/
def State.unusedQuota (s : State) (p : Nat) : Nat := s.cell (0x3000 + p) 4 - (s.plotExtents p).length

/-- The logical tiles of a plot's looms, ascending. -/
def State.plotTiles (s : State) (p : Nat) : List Nat :=
  (List.range 108).filter (fun t => (s.plot p).looms.any (fun n => n / 20 == t))

/-- Free extents of a logical tile, ascending. -/
def State.freeOn (s : State) (lt : Nat) : List Nat := ((List.range 176).map (fun e => lt * 176 + e)).filter (fun x => s.extentFree x)

/-- Extents that the engine's copies of an image take (R431): its loom-program section, its route records and its Bench configuration,
at most nine. -/
def copyExtents (im : Image) : Nat :=
  min 9 ((8 + im.programsAt + (im.looms.map (fun x => 8 * x.words.length)).sum + 16 * im.routes.length + (2 ^ 24 - 1)) / 2 ^ 24)

/-- Bench bytes of a loom that an image marks resident (R169). -/
def residentBytes (im : Image) : Nat := (im.resident.map Prod.snd).sum

/-- Save extents that a plot needs on a tile (R169). -/
def State.saveNeed (s : State) (p lt : Nat) (im : Image) : Nat :=
  (residentBytes im * ((s.plot p).looms.filter (fun n => n / 20 == lt)).length + (2 ^ 24 - 1)) / 2 ^ 24

/-- Whether every tile of a plot has room for its save extents beside the extents `taken` by the load; else the load takes none and
completes without (R169). Log: 73 DEDUCED. -/
def State.saveFits (s : State) (p : Nat) (im : Image) (taken : List Nat) : Bool :=
  (s.plotTiles p).all (fun t => decide (s.saveNeed p t im ≤ ((s.freeOn t).filter (fun x => !taken.contains x)).length))

/-- All save extents of a plot. -/
def State.saveTotal (s : State) (p : Nat) (im : Image) : Nat := ((s.plotTiles p).map (fun t => s.saveNeed p t im)).sum

/-- The engine extent that an extent record takes. -/
def recExtent (e : ExtentRec) : Nat := e.toTile.val * 176 + e.toExt.val

/-- Whether an extent is one of a page-list store by a pool descriptor (R212, R216). -/
def inListStore (im : Image) (image : Nat) : Bool :=
  im.poolList.any (fun x => decide (x.listFirst.toNat ≤ image) && decide (image < x.listFirst.toNat + x.listCount.toNat))

/-- A pool descriptor that the engine refuses (R212). -/
def badPool (x : Pool) : Bool :=
  let a := x.stripe.toNat
  let f := x.kvFormat.toNat
  decide (a = 0 ∨ 16 < a ∨ x.layers = 0 ∨ x.kvHeads = 0 ∨ x.headDim = 0 ∨ x.scales = 3 ∨ x.listCount = 0 ∨ x.reserved ≠ 0)
    || decide (x.frames.toNat % max 1 a ≠ 0)
    || !(([0, 1, 3, 4, 5, 7, 8, 9, 0xC, 0xD] : List Nat).contains f)
    || (x.scales == 0 && !(f == 0xC || f == 0xD))
    || (x.scales != 0 && x.block64 && x.headDim.toNat % 2 == 1)

/-- The edges that a route uses for its class: channels as keys. -/
def routeChans (im : Image) : List Nat := (im.routes.flatMap routeVertices).dedup

/-- After a load every edge keeps at least 4 of its 16 channels unassigned, and no tile has looms of more than 4 plots (R186). -/
def State.headroomOk (s : State) (p : Nat) (im : Image) : Bool :=
  let taken := routeChans im
  (s.plotTiles p).all (fun t => decide ((s.plotsOn t).length ≤ 4)) &&
  ((taken.map (fun k => k / 16)).dedup).all (fun e =>
    decide (4 ≤ ((List.range 16).filter (fun c => !taken.contains (e * 16 + c) && (s.chanPlot (e * 16 + c)).isNone)).length))

/-- R136, R180, R181, R182, R212, R306: what the image itself must be. Log: 108 DEDUCED. -/
def State.imageBad (s : State) (p : Nat) (im : Image) : Option Status :=
  if im.magic ≠ 0x4E435733 ∨ im.format ≠ 1 ∨ im.headerZero = false ∨ im.counts ≠ im.counted
      ∨ im.sections.any (fun t => t.type.toNat == 0 || decide (0x0A < t.type.toNat))
      ∨ im.looms = [] ∨ 2160 < im.looms.length ∨ 254 < im.quality.length ∨ im.badPreamble
      ∨ im.poolN ≠ im.pools.length ∨ im.poolList.any badPool ∨ im.looms.any (fun x => decide (8192 < x.words.length))
      ∨ im.fDecl < 0x3FCCCCCD ∨ 0x7F800000 ≤ im.fDecl ∨ (im.split ∧ 64 < im.weightPart.toNat + im.actPart.toNat)
      ∨ im.manifest.any (fun e => e.zero != 0)
      ∨ im.patches.any badPatch ∨ im.routes.any badRoute ∨ im.extents.any badExtent then
    some .badValue
  else if im.looms.any (fun x => !(s.plot p).looms.contains x.loom.n || s.cellar.orphans.contains x.loom.tile.val) then
    some .badIndex
  else none

/-- R179: the class word. -/
def State.classMatches (s : State) (im : Image) : Bool :=
  im.klass / 2 ^ 16 == s.classWord / 2 ^ 16 && decide (im.klass % 2 ^ 16 ≤ s.level)

/-- The checks of R185 and R186 and of the streams (R203), in the table's order. After a warm reset nothing is assigned before the
pending erasure is done (R422). Log: 73 DEDUCED. -/
def State.planBad (s : State) (p : Nat) (im : Image) (gen : Nat) : Option Status :=
  let xs := im.extents.map recExtent
  let copies := (((s.plotTiles p).flatMap (fun t => s.freeOn t)).filter (fun x => !xs.contains x)).take (copyExtents im)
  let need := xs.length + copyExtents im + (if s.saveFits p im (xs ++ copies) then s.saveTotal p im else 0)
  let others := ((s.plotsNow.filter (fun q => q != p)).map (fun q => s.unusedQuota q)).sum
  if gen ≠ s.cell 0x7021 1 ∨ (s.cellar.eraseFirst ∧ s.cellar.erase ≠ []) then some .busy
  else if xs.any (fun x => !s.extentFree x) ∨ xs.dedup.length ≠ xs.length
      ∨ im.extents.any (fun e => match e.tile with | some t => t != e.toTile.val | none => false) then some .busy
  else if (routeChans im).any (fun k => (s.chanPlot k).isSome) then some .busy
  else if im.patched.any (fun a => !s.addrOk a || !xs.contains (extentOf a)) then some .denied
  else if im.patched.any (fun a => im.extents.any (fun e => recExtent e == extentOf a && inListStore im e.image)) then
    some .denied
  else if s.headroomOk p im = false then some .noSpace
  else if s.cell (0x3000 + p) 4 < (s.plotExtents p).length + xs.length ∨ s.freeExtents < need + others
      ∨ copies.length < copyExtents im then some .noSpace
  else if im.streams.any (fun x => decide (s.inboundOf p < x.rIn)) then some .noSpace
  else none

/-- A load that is refused, or fails in a phase, reads REFUSED, and the plot stays CREATED (R242). What it had taken is given back;
extents into which Parcels may have been written are erased first. -/
def State.failLoad (s : State) (p : Nat) : State :=
  let s1 := ((s.noteBusy p).releaseRoutes p).updPlot p (fun x => { x with loading := none, abandon := false })
  let s2 := if 4 ≤ s.cell (0x3100 + p) 3 then s1.releaseExtents p else
    { s1 with cellar := { s1.cellar with
        owner := s1.cellar.owner.filter (fun e => e.2 != 1 + p), use := Tab.keep (fun x => Tab.get 0 s.cellar.owner x != 1 + p)
          s1.cellar.use } }
  (((s2.unloadImage p).setCell (0x3100 + p) 1 0).setCell (0x3100 + p) 2 0).setCell (0x3100 + p) 3 6

/-- The plan is applied as a whole (R185): extents and channels are the plot's. -/
def State.takePlan (s : State) (p : Nat) (im : Image) : State :=
  { s with
    cellar := { s.cellar with
      owner := im.extents.foldl (fun t e => Tab.set 0 t (recExtent e) (1 + p)) s.cellar.owner,
      use := im.extents.foldl (fun t e => Tab.set 0 t (recExtent e) (if inListStore im e.image then 5 else e.use + 1))
        s.cellar.use },
    fabric := { s.fabric with chanOwner := (routeChans im).foldl (fun t k => Tab.set 0 t k (p + 1)) s.fabric.chanOwner } }

/-- The Check phase (R205): PLAN_CHECK accepts the plan and the fetch begins, or the load is refused with a status. -/
def State.checkLoad (s : State) (p : Nat) (im : Image) (gen : Nat) (x : Port) : State × Status :=
  let refuse := fun (s : State) (st : Status) =>
    ((s.updPlot p (fun y => { y with loading := none, abandon := false })).setCell (0x3100 + p) 3 6, st)
  if s.classMatches im = false then refuse (s.raise 0x3101 p [p, im.klass]) .denied
  else match s.imageBad p im with
    | some st => refuse s st
    | none =>
      match s.planBad p im gen with
      | some st => refuse s st
      | none =>
        (((s.takePlan p im).updPlot p (fun y => { y with loading := some (im, gen, x), abandon := false })).setCell (0x3100 + p) 3 2,
          .done)

/-- LOAD_REQUEST (R205, R206, R428). A first load is checked at once; a load into a plot in SERVING or FAULTED stops and drains it
first, and is checked when the drain has ended. -/
def execLoadRequest (f : Sender) (p : PlotId) (body : List Byte) (img : Image) (s : State) : Host.Outcome State Fault Refusal :=
  .next (s.serve f { cmd := .write, idx := 0x3100 + p.val, sub := 0x10, body } (fun s =>
    match s.writeCheck f.who .write (0x3100 + p.val) 0x10 body with
    | some st => (s, { status := st })
    | none =>
      let gen := field body 12 4
      let x : Port := if bit (field body 16 1) 0 then .b else .a
      let ls := s.cell (0x3100 + p.val) 3
      if field body 16 16 / 2 ≠ 0 then (s, { status := .badValue })
      else if s.plotState p.val = 3 ∨ s.plotState p.val = 4 ∨ (s.plot p.val).drain.isSome ∨ (1 ≤ ls ∧ ls ≤ 4) then
        (s, { status := .busy })
      else if s.plotState p.val = 1 then
        let a := (s.trigger p.val).checkLoad p.val img gen x
        (a.1, { status := a.2 })
      else
        let s1 := (s.trigger p.val).updPlot p.val (fun y => { y with drain := some .reload, loading := some (img, gen, x) })
        ((s1.setCell (0x3000 + p.val) 1 3).cancelAll p.val, { status := .done })))

/-- RELOAD_DRAIN_END (R206): the old image's extents are released and marked to be erased, the looms are cleared, the plot reads
CREATED, and the load runs from Check. -/
def execReloadDrainEnd (p : PlotId) (s : State) : Host.Outcome State Fault Refusal :=
  .next (
    match (s.plot p.val).drain, (s.plot p.val).loading with
    | some .reload, some (im, gen, x) =>
      if s.plotDrained p.val = false then s
      else
        let s1 := ((s.releaseExtents p.val).setCell (0x3100 + p.val) 1 0).setCell (0x3100 + p.val) 2 0
        let s2 := ((s1.releaseRoutes p.val).clearLooms p.val).unloadImage p.val
        let s3 := (s2.updPlot p.val (fun y => { y with drain := none })).setCell (0x3000 + p.val) 1 1
        (s3.checkLoad p.val im gen x).1
    | _, _ => s)

/-- Whether a Constable takeover makes authentication, firewall changes and erasure wait (R404). -/
def State.constableBusy (s : State) : Bool := s.procs.constableLost

/-- IMAGE_AUTHENTICATED (R205, R411, R416): the signature verifies under the key whose fingerprint is the plot's image key; else
E-8010 and the load is refused. -/
def execImageAuthenticated (p : PlotId) (verifies : Bool) (s : State) : Host.Outcome State Fault Refusal :=
  .next (
    match (s.plot p.val).loading with
    | none => s
    | some (im, _, _) =>
      if s.cell (0x3100 + p.val) 3 ≠ 2 ∨ s.constableBusy then s
      else if (s.plot p.val).abandon then s.failLoad p.val
      else
        let key := s.blobAt (0x8100 + p.val) 1
        if verifies ∧ im.signer = key ∧ key.any (fun b => b != 0) then s.setCell (0x3100 + p.val) 3 3
        else (s.raise 0x8010 p.val [p.val]).failLoad p.val)

/-- The first `n` free extents of a plot's tiles, ascending. -/
def State.firstFree (s : State) (p n : Nat) : List Nat := ((s.plotTiles p).flatMap (fun t => s.freeOn t)).take n

/-- Extents become the engine's for a plot, with a USE of the engine's own (R169, R431). Log: 16 DESIGN CHOICE. -/
def State.takeEngine (s : State) (p use : Nat) (xs : List Nat) : State :=
  { s with cellar := { s.cellar with
      owner := xs.foldl (fun t x => Tab.set 0 t x (17 + p)) s.cellar.owner,
      use := xs.foldl (fun t x => Tab.set 0 t x use) s.cellar.use } }

/-- Save extents on each of the plot's tiles; a load that cannot allocate them completes without them (R169). -/
def State.takeSave (s : State) (p : Nat) (im : Image) : State :=
  if residentBytes im = 0 then s
  else if s.saveFits p im [] then
    ((s.plotTiles p).foldl (fun s t => s.takeEngine p 6 ((s.freeOn t).take (s.saveNeed p t im))) s).updPlot p
      (fun x => { x with saveExt := true })
  else s

/-- IMAGE_APPLIED (R205): firewall, Bench configuration, route tables with the check of R190, programs, page-list stores and the
engine's copies are in place. Without room for the copies the load is refused (R431). -/
def execImageApplied (p : PlotId) (s : State) : Host.Outcome State Fault Refusal :=
  .next (
    match (s.plot p.val).loading with
    | none => s
    | some (im, gen, _) =>
      let copies := s.firstFree p.val (copyExtents im)
      if s.cell (0x3100 + p.val) 3 ≠ 3 ∨ s.constableBusy then s
      else if (s.plot p.val).abandon ∨ copies.length < copyExtents im then s.failLoad p.val
      else
        let s1 := (s.takeEngine p.val 0 copies).takeSave p.val im
        let s2 := im.looms.foldl (fun s x => s.updLoom x.loom.n (fun l => { l with program := x.words, ip := 0, ctr := [] })) s1
        let w := im.weightPart.toNat
        let a := im.actPart.toNat
        let s3 := (((s2.setCell (0x6100 + p.val) 1 (if im.split then 1 else 0)).setCell (0x6100 + p.val) 2
          (if im.split then w else 0)).setCell (0x6100 + p.val) 3 (if im.split then a else 0)).setCell (0x6100 + p.val) 4
          (if im.split then 64 - w - a else 0)
        let s4 := ((s3.setCell (0x3100 + p.val) 1 im.klass).setCell (0x3100 + p.val) 2 im.imageId).setCell
          (0x9300 + p.val) 0 im.quality.length
        let s5 := { s4 with meas := s4.meas.map (fun (e : Nat × Meas) => if e.1 / 256 = 0x9300 + p.val then (e.1, { e.2 with ready := false }) else e),
                            fabric := { s4.fabric with routes := holdEntries s4.fabric.routes (im.routes.flatMap (routeEntries p.val)) } }
        let s6 := s5.updPlot p.val (fun x => { x with
          image := some im, pools := im.poolList.map (fun (d : Pool) => (d.slot.val, ({ desc := d } : PoolSt))), written := [], retried := [],
          quality := [], qualityOver := [], formed := 0 })
        let c := s6.checkCycles p.val im.routes
        let s7 := (c.1.setCell (0x3100 + p.val) 4 gen).setCell (0x3100 + p.val) 3 4
        if gen = s7.cell 0x7021 1 then s7
        else ((im.routes.filter (fun r => s7.deriveHops r != routePath r)).foldl (fun s r => s.rederive p.val r) s7).setCell
          (0x3100 + p.val) 4 (s7.cell 0x7021 1))

/-- LOAD_READY (R205, R242): every Parcel of the manifest is written (R158); the plot serves. -/
def execLoadReady (p : PlotId) (s : State) : Host.Outcome State Fault Refusal :=
  .next (
    let y := s.plot p.val
    match y.loading with
    | none => s
    | some (im, _, _) =>
      if s.cell (0x3100 + p.val) 3 ≠ 4 then s
      else if y.abandon then s.failLoad p.val
      else if (List.range im.manifest.length).all (fun n => y.written.contains n)
          && s.cellar.writes.all (fun w => w.plot != p.val) then
        let s1 := ((s.noteBusy p.val).updPlot p.val (fun x => { x with loading := none })).setCell (0x3100 + p.val) 3 5
        if s1.plotState p.val = 1 then s1.setCell (0x3000 + p.val) 1 2 else s1
      else s)

/-! ### Parcels (R302 to R307) -/

/-- Header word k of a Parcel. -/
def hdr (bs : List Byte) (k : Nat) : Nat := field bs (8 * k) 8

/-- MAGIC, FORMAT, SCALE_FMT, NCB and the reserved fields are legal, and the three areas fit (R303, R304). -/
def parcelLegal (bs : List Byte) : Bool :=
  let h0 := hdr bs 0
  let fmt := bits h0 35 32
  let sf := bits h0 39 36
  let blk := if bit h0 40 then 64 else 32
  let ncb := bits h0 44 42
  let nblk := bits h0 63 48
  let codes := nblk * 8 * blockWords fmt blk
  let scales := if sf = 0 then 0 else (nblk + 7) / 8 * 8
  decide (bits h0 31 0 = 0x4E504C33) && !(([0xA, 0xB, 0xE, 0xF] : List Nat).contains fmt)
    && decide (sf ≤ 2) && (sf != 0 || fmt == 0xC || fmt == 0xD) && decide (ncb ≤ 4) && (ncb == 0 || fmt == 6)
    && decide (bits h0 47 45 = 0) && decide (1 ≤ nblk) && decide (hdr bs 2 / 2 ^ 40 = 0) && decide (hdr bs 4 / 2 ^ 32 = 0)
    && decide (hdr bs 6 / 2 ^ 33 = 0) && decide (hdr bs 7 = 0) && decide (codes + scales + 32 * ncb ≤ 4016)

/-- The first check of R306 that a Parcel fails, as E-5101 codes it. -/
def parcelFails (bs : List Byte) (tagOk keyThere : Bool) (imageId n : Nat) : Option Nat :=
  if parcelLegal bs = false then some 0
  else if tagOk = false ∨ keyThere = false then some 1
  else if hdr bs 3 ≠ imageId then some 2
  else if bits (hdr bs 4) 31 0 ≠ n then some 3
  else none

/-- Key of a ring unit: image extent and unit. -/
def ringKey (e : ManifestEntry) : Nat := e.extent.toNat * 4096 + e.unit.toNat

/-- Looms that read a ring extent (R172). -/
def ringReaders (im : Image) (x : Nat) : List Nat :=
  (im.streams.filter (fun y => y.ring.any (fun k => k.val == x))).flatMap (fun y => y.readers.map Loom.n)

/-- Whether a ring unit may be written: it holds no Parcel that a loom of the current pass has still to fill (R172). -/
def State.ringFree (s : State) (p : Nat) (im : Image) (e : ManifestEntry) : Bool :=
  match Tab.get none (s.plot p).ring (ringKey e) with
  | none => true
  | some ls => (ringReaders im e.extent.toNat).all (fun n => ls.contains n)

/-- A ring unit takes a new Parcel. -/
def State.ringTake (s : State) (p : Nat) (im : Image) (e : ManifestEntry) : State :=
  if ringReaders im e.extent.toNat = [] then s
  else s.updPlot p (fun x => { x with ring := Tab.set none x.ring (ringKey e) (some []) })

/-- Loom `n` has filled a range of engine addresses: of the ring units that the range reaches, it is done with their Parcels (R172).
Log: 119 DESIGN CHOICE. -/
def State.ringFilled (s : State) (p n : Nat) (range : Nat × Nat) : State :=
  match (s.plot p).image with
  | none => s
  | some im =>
    let here := (unitPieces range.1 range.2).filterMap (fun x =>
      (im.extents.find? (fun e => recExtent e == extentOf x.1)).map (fun e => e.image * 4096 + caOffset x.1 % 2 ^ 24 / 4096))
    s.updPlot p (fun x => { x with ring := x.ring.map (fun e =>
      if here.contains e.1 then (e.1, e.2.map (fun ls => if ls.contains n then ls else ls ++ [n])) else e) })

/-- The endpoint of the port engine of an Ethernet port: two on each Ethernet die (R29, R30, R45). Log: 114 DEDUCED. -/
def etherEngine (port : Nat) : Nat := 0x8000 + (130 + port / 2) * 128 + 0x15 + port % 2

/-- An accepted Parcel leaves its port for the Cellar controller of the tile that holds its unit, with the plot's tag, on VC2 (R34,
R306). Where no tile holds the logical number any more it goes to the parity at once (R166). Log: 110 DESIGN CHOICE. -/
def State.sendParcel (s : State) (p n port a : Nat) (bytes : List Byte) : State :=
  match s.physOf (caTile a) with
  | some t => s.inject (s.vc2 (etherEngine port) (ctrl t) p 2 (parcelRef n a) bytes)
  | none =>
    (s.writeUnit (caTile a) (dataRow (caTile a % 12) (caOffset a)) 0 p (n + 1) bytes).parcelWritten p n

/-- PARCEL_RECEIVE (R172, R306, R307): an accepted Parcel goes on its way to its unit, under the extent firewall; a ring unit waits for
the looms that read it; one that fails is read once more, and a second failure refuses the load. -/
def execParcelReceive (p : PlotId) (n : Nat) (bytes : List Byte) (tagOk : Bool) (s : State) : Host.Outcome State Fault Refusal :=
  if Instr.wf (.parcelReceive p n bytes tagOk) = false then .fault .illFormed
  else .next (
    let y := s.plot p.val
    match y.image with
    | none => s
    | some im =>
      match im.manifest[n]? with
      | none => s
      | some e =>
        let d := s.blobAt (0x5100 + p.val) (e.path.val + 1)
        let usable : Bool := bit (field d 8 8) 61 && bits (field d 8 8) 60 59 == 0
        let key := Tab.get [] y.keys (hdr bytes 6 / 2 ^ 32 % 2)
        if s.constableBusy ∨ usable = false ∨ ¬(s.cell (0x3100 + p.val) 3 = 4 ∨ s.cell (0x3100 + p.val) 3 = 5) then s
        else match parcelFails bytes tagOk (key != []) im.imageId n with
          | some why =>
            if y.retried.contains n then
              let s1 := (s.bump 32 (0x5100 + p.val) 0x12 1).raise 0x5101 p.val [p.val, e.path.val, n, why]
              let s2 := s1.updPlot p.val (fun x => { x with retried := x.retried.filter (fun k => k != n) })
              if s.cell (0x3100 + p.val) 3 = 4 then s2.failLoad p.val else s2
            else s.updPlot p.val (fun x => { x with retried := x.retried ++ [n] })
          | none =>
            match imageExtent im e.extent.toNat with
            | none => s.cellarFault p.val none
            | some x =>
              let a := extentAddr x (e.unit.toNat * 4096)
              if s.tagOwns p.val a = false then s.cellarFault p.val none
              else if s.ringFree p.val im e = false ∨ s.rowHeld (caTile a) (dataRow (caTile a % 12) (caOffset a)) then s
              else (s.ringTake p.val im e).sendParcel p.val n (pathPort d) a bytes)

/-! ### Routes at run time (R187, R188, R190) -/

/-- Replace the path of a route record by a derived one. -/
def newPath (ds : List Derived) (r : Route) : Route :=
  match ds.find? (fun d => d.route.cls == r.cls && d.route.src == r.src && d.route.dst == r.dst) with
  | some d => d.route
  | none => r

/-- ROUTE_LOAD (R187, R190): the derived routes of a plot that have every channel are checked and loaded in place of the fallback;
E-3103 names the plot, and messages that waited at their source for a channel go on (R188). Log: 28 DEDUCED. -/
def execRouteLoad (p : PlotId) (s : State) : Host.Outcome State Fault Refusal :=
  .next (
    let ds := s.fabric.derived.filter (fun d => d.plot == p.val && d.missing == [])
    match (s.plot p.val).image with
    | none => s
    | some im =>
      if ds = [] then s
      else
        let rs := im.routes.map (newPath ds)
        let loaded := ds.flatMap (fun d => routeEntries p.val d.route)
        let s1 := { s with fabric := { s.fabric with
            routes := holdEntries s.fabric.routes loaded, derived := s.fabric.derived.filter (fun d => !ds.contains d) } }
        let s2 := s1.updPlot p.val (fun x => { x with image := some { im with routes := rs } })
        let inForce := rs.filter (fun r => s2.fabric.routes.any (fun e =>
          e.plot == p.val && e.cls == r.cls && e.src == r.src && e.dst == r.dst))
        ((s2.checkCycles p.val inForce).1.raise 0x3103 p.val [p.val, s.cell 0x7021 1]).unpark)

/-- Give a flow the channel that it missed on an edge, everywhere it crosses that edge (R188). -/
def Derived.give (d : Derived) (edge chan : Nat) : Derived :=
  { d with missing := d.missing.filter (fun e => e != edge),
           route := { d.route with hops := d.route.hops.map (fun h =>
             if h.1.val * 4 + h.2.1.val = edge then (h.1, h.2.1, Fin.ofNat 16 chan) else h) } }

/-- CHANNEL_RELEASE_ROUTE (R188): a channel of an edge has been released. It goes to the plot of the first flow that waits for one
there, and every flow of that plot that waits on the edge uses it; where no derived flow waits, the messages of fallback flows
look again (R38). -/
def execChannelReleaseRoute (site : Phys) (edge : Fin 4) (chan : Fin 16) (s : State) : Host.Outcome State Fault Refusal :=
  .next (
    let k := chanKey site.val edge.val chan.val
    let e := site.val * 4 + edge.val
    if (s.chanPlot k).isSome then s
    else match s.fabric.derived.find? (fun d => d.missing.contains e) with
      | none => s.retryChans
      | some d => { s with fabric := { s.fabric with
          chanOwner := Tab.set 0 s.fabric.chanOwner k (d.plot + 1),
          derived := s.fabric.derived.map (fun x => if x.plot = d.plot ∧ x.missing.contains e then x.give e chan.val else x) } })

/-! ### The ends of queue entries -/

/-- What a read of several units finds in piece `k`. -/
def EccFound.piece (e : EccFound) (k : Nat) : EccFound :=
  { wrong := e.wrong.filterMap (fun x => if 128 * k ≤ x.1 ∧ x.1 < 128 * (k + 1) then some (x.1 - 128 * k, x.2) else none), stray := e.stray }

/-- The pieces of a request that the loom's own tile serves, with their place in the request. -/
def State.ownPieces (s : State) (p n : Nat) (r : QReq) : List ((Nat × Nat) × Nat) :=
  (s.piecesOf p n r).zipIdx.filter (fun x => (s.remoteTile n x.1.1).isNone)

/-- The controller checks the codewords of the pieces that it reads for a fill (R151); a unit that is not there and cannot be supplied is
poisoned. -/
def State.checkPieces (s : State) (p n : Nat) (r : QReq) (e : EccFound) : State :=
  (s.ownPieces p n r).foldl (fun s x =>
    let u := unitOf x.1.1
    if s.poisoned u.1 u.2 then s
    else if s.built u.1 u.2 then s.checkCodes u.1 u.2 (codewordsOf (caOffset x.1.1 % 4096) x.1.2) (EccFound.piece e x.2)
    else if s.canSupply u.1 u.2 then s else s.poisonUnit u.1 u.2) s

/-- Whether the chain of a piece with an uncorrectable codeword has to wait (R64, R158). -/
def State.piecesHeld (s : State) (p n : Nat) (r : QReq) (e : EccFound) : Bool :=
  (s.ownPieces p n r).any (fun x =>
    deadCodes (EccFound.piece e x.2) (codewordsOf (caOffset x.1.1 % 4096) x.1.2) && s.chainHeld (unitOf x.1.1).1 (unitOf x.1.1).2)

/-- The message that a piece served by another tile brings or brought: a read return for a fill, at the loom; the bytes of a drain, at
the controller. An Ethernet transfer is the port engine's. -/
def State.pieceAt (s : State) (p n q t attempt : Nat) (r : QReq) (x : (Nat × Nat) × Nat) : Option (Nat × (Msg → Bool)) :=
  match r with
  | .ether _ _ _ _ _ => none
  | .drain _ _ _ => (s.remoteTile n x.1.1).map (fun u => (ctrl u, isVc2 p 2 (pieceRef n q t attempt x.2)))
  | _ => (s.remoteTile n x.1.1).map (fun _ => (loomEndpoint n 2, isVc2 p 4 (pieceRef n q t attempt x.2)))

/-- Whether every piece that another tile serves has come. -/
def State.piecesHere (s : State) (p n q t attempt : Nat) (r : QReq) : Bool :=
  (s.piecesOf p n r).zipIdx.all (fun x => match s.pieceAt p n q t attempt r x with
    | none => true
    | some y => s.arrived y.1 y.2)

/-- The bytes of a request piece by piece, read or taken out of the messages that brought them. -/
def State.takePieces (s : State) (p n q t attempt : Nat) (r : QReq) : State × List Byte :=
  (s.piecesOf p n r).zipIdx.foldl (fun a x => match a.1.pieceAt p n q t attempt r x with
    | none => (a.1, a.2 ++ a.1.dataRead x.1.1 x.1.2)
    | some y => (a.1.takeMsg y.1 y.2, a.2 ++ ((((Tab.get [] a.1.fabric.taken y.1).find? y.2).map Msg.payload).getD []).take x.1.2))
    (s, [])

/-- The status of an EN transfer (R301): the path must be enabled, the range inside the region, the port's link up. -/
def State.etherStatus (s : State) (p i off len : Nat) (st : Status) : Status :=
  let d := s.pathDesc p i
  if pathOn d = false then .denied
  else if pathWord d 5 < off + len then .noSpace
  else if s.cell 0x5000 (0x11 + pathPort d) ≠ 2 then .linkDown
  else st

/-- Whether a host port's link is up (2000:01, 2000:11). -/
def State.portUp (s : State) (x : Port) : Bool := s.cell 0x2000 (if x = .a then 1 else 0x11) == 2

/-- Clear the pending lines of a ticket (R199): a line stays pending while another ticket writes it. -/
def LoomSt.unmark (l : LoomSt) (q t : Nat) : LoomSt :=
  { l with pending := (l.pending.map (fun e => (e.1, e.2.filter (fun k => k != q * 256 + t)))).filter (fun e => e.2 != []) }

/-- Set the status of a ticket. -/
def LoomSt.finish (l : LoomSt) (q t attempt : Nat) (st : Status) : LoomSt :=
  l.updQueue q (fun u => { u with entries := u.entries.map (fun e =>
    if e.isTicket attempt t && e.status.isNone then { e with status := some st } else e) })

/-- The effect of an entry that completes (R192): what is written, the status, and whether data has come back for the Bench, where it is
written unless the attempt is a discarded one (R197). A drain writes what it took from the Bench; a fill of a ring unit is done with it
(R172). Log: 39 DEDUCED. -/
def State.entryEffect (s : State) (p n q : Nat) (e : QEntry) (st : Status) (data : List Byte) (ecc : EccFound) (stale : Bool) :
    State × Status × Bool :=
  let put := fun (s : State) (b : Nat) (bs : List Byte) => if stale then s else s.updLoom n (fun l => l.store b bs)
  let load := fun (b : Nat) =>
    let s1 := s.checkPieces p n e.req ecc
    let st' := s1.cellarStatus p n e.req
    if st' = .done then
      (let r := s1.takePieces p n q e.ticket e.attempt e.req
       (if stale then r.1 else (s1.cellarRanges p n e.req).foldl (fun s g => s.ringFilled p n g) (put r.1 b r.2), st', true))
    else (s1, st', false)
  match e.req with
  | .fill _ b _ => load b.toNat
  | .pantryRead _ _ b => load b.toNat
  | .drain _ a len =>
    if s.rangeOwned p a.toNat len.val then
      ((s.takePieces p n q e.ticket e.attempt e.req).1.longWrite a.toNat p 3 e.data, .done, false)
    else (s, .denied, false)
  | .expect _ _ => (s, .done, false)
  | .ether i off len w a =>
    let sealed_ : Bool := pathUse (s.pathDesc p i.val) != 0
    let st1 := s.etherStatus p i.val off.toNat (if sealed_ then sealedLen len.toNat else len.toNat) st
    let st' := if w = true ∧ st1 = .done then s.cellarStatus p n e.req else st1
    let s1 := if st1 = .integrity then (s.bump 32 (0x5100 + p) 0x12 1).raise 0x5101 p [p, i.val, off.toNat, 1] else s
    (if w = false ∧ st' = .done ∧ sealed_ = true ∧ stale = false then
      s1.longWrite a.toNat p (len.toNat / 4096 + 2) (data.take len.toNat) else s1, st', !w && st' == .done)
  | .ferry _ _ _ => (s, st, false)
  | .host x _ b len w =>
    if s.portUp x = false then (s, .linkDown, false)
    else if w = false ∧ st = .done then (put s b.toNat (data.take len.val), st, true)
    else (s, st, false)

/-- Whether the tile of a loom is held, so that nothing is written into its Bench (R64). -/
def State.loomHeld (s : State) (n : Nat) : Bool :=
  match s.physOf (n / 20) with
  | some t => (s.site t).held.isSome
  | none => false

/-- Whether a fill still waits for one that the same requester issued before it to a line of its own: such writes take effect in
issue order (R200). Cellar fills and Pantry reads come from one requester, host reads from another. Log: 40 DEDUCED. -/
def LoomSt.fillBehind (l : LoomSt) (target : QReq → Option (Nat × Nat)) (q : Nat) (e : QEntry) : Bool :=
  match target e.req with
  | none => false
  | some g => l.queues.any (fun u => (u.1 == 5) == (q == 5) && u.2.entries.any (fun x =>
      x.attempt == e.attempt && x.status.isNone && decide (x.order < e.order) && match target x.req with
        | some h => decide ((lineRange h.1 h.2).1 < (lineRange g.1 g.2).2) && decide ((lineRange g.1 g.2).1 < (lineRange h.1 h.2).2)
        | none => false))

/-- Whether an entry cannot complete yet: its appends, its flits, its messages or its frame are not there, or a tile is held (R64, R171,
R174, R220, R317). Log: 41 DEDUCED, 110 DESIGN CHOICE. -/
def State.entryWaits (s : State) (p n q : Nat) (e : QEntry) (st : Status) (ecc : EccFound) (stale : Bool) : Bool :=
  (match e.req with
    | .expect r u => !stale && !s.appendDone p n r.toNat u.toNat
    | .ferry x _ _ => !stale && st == .done && (Tab.get {} s.ferry x.val).carries n e.ticket e.attempt
    | _ => false)
  || s.rangeHeld p n e.req || s.piecesHeld p n e.req ecc
  || ((s.fillRange p n e.req).isSome && (s.loomHeld n || (s.piecesOf p n e.req).any (fun x => (s.fillingUnits p).contains (unitOf x.1))))
  || (s.cellarStatus p n e.req == .done && !s.piecesHere p n q e.ticket e.attempt e.req)
  || (!stale && (s.loom n).fillBehind (s.fillRange p n) q e)

/-- QUEUE_ENTRY_COMPLETE (R192, R197, R220): an entry of the running attempt takes effect and gets its status; one of a discarded
attempt completes too, but data that it returns is dropped and counted. -/
def execQueueEntryComplete (l : Loom) (q : Fin 6) (t : Byte) (attempt : BitVec 4) (st : Status) (back : Returned) (s : State) :
    Host.Outcome State Fault Refusal :=
  .next (
    let data := back.data
    let e := back.e
    let x := s.loom l.n
    let a := attempt.toNat
    match (x.queue q.val).entries.find? (fun e => e.isTicket a t.toNat && e.status.isNone), s.ownerOf l.n with
    | some y, some p =>
      let stale : Bool := x.step.isNone || a != x.attempt
      if s.entryWaits p l.n q.val y st e stale then s
      else if stale then
        let r := (s.noteBusy p).entryEffect p l.n q.val y st data e true
        let s1 := r.1.updLoom l.n (fun z => z.updQueue q.val (fun u => { u with
          entries := dropFirst (fun e => e.isTicket a t.toNat && e.status.isNone) u.entries }))
        if r.2.2 then s1.interlock p l.n 7 1 else s1
      else
        let r := (s.noteBusy p).entryEffect p l.n q.val y st data e false
        r.1.updLoom l.n (fun z => (z.unmark q.val t.toNat).finish q.val t.toNat a r.2.1)
    | _, _ => s)

/-- UNFILLED_READ_RESUME (R199): the lines are filled, and the read goes on; the time it stalled is counted. -/
def execUnfilledReadResume (l : Loom) (s : State) : Host.Outcome State Fault Refusal :=
  .next (
    let x := s.loom l.n
    match x.stall, s.ownerOf l.n with
    | some (.unfilled since lo hi), some p =>
      if x.pendingIn lo hi then s
      else (s.interlock p l.n 1 (s.now - since)).updLoom l.n (fun y => { y with stall := none })
    | _, _ => s)

/-- STREAM_PASS_END (R204): a pass whose load took longer than its compute counts once; E-3301 at most once per second per layer. -/
def execStreamPassEnd (p : PlotId) (layer : Nat) (loadNs computeNs : Nat) (s : State) : Host.Outcome State Fault Refusal :=
  .next (
    match (s.plot p.val).image with
    | none => s
    | some im =>
      if im.streams.any (fun x => x.layer == layer) ∧ computeNs < loadNs then
        (s.bump 64 (0x3300 + p.val) 0xC 1).raiseLimited 0x3301 (p.val * 65536 + layer) second p.val [p.val, layer, loadNs, computeNs]
      else s)

end Sys2Proof.Machine
end

