-- ==== Sys2Proof/Machine/Plots.lean ====
section
/-! DEFINITION. The life of a plot (create, resize, teardown, reset) and its steps: formation and commit (R224 to R229, R237 to R245,
R251 to R263, R419, R421, R433). -/

namespace Sys2Proof.Machine

/-! ### Turns and due times (R251, R253, R257) -/

/-- Input words of the turn in progress that are not fed yet: those of R251 and R258, which an APPEND in DECODE joins at the end of the
turn. -/
def Ob.toFeed (o : Ob) : Nat := ((o.inputs.filter Input.joined).map Input.count).sum

/-- INPUT_REMAINING: input words not yet fed, those that wait for the turn's end with them (R250). -/
def Ob.remaining (o : Ob) : Nat := (o.inputs.map Input.count).sum

/-- INPUT_ADDR: host address of the next input word (R250). -/
def Ob.inputAddr (o : Ob) : Nat := (o.inputs.head?.map Input.addr).getD 0

/-- The eight words of an Order Book entry (R250). -/
def Ob.words (o : Ob) : List Nat :=
  [o.request + o.plot * 2 ^ 32 + o.mslot * 2 ^ 36 + o.st.code * 2 ^ 40 + o.priority * 2 ^ 44 + (if o.dropOnMiss then 2 ^ 47 else 0)
     + o.latClass * 2 ^ 48 + o.depth * 2 ^ 52 + (if o.interrupt then 2 ^ 56 else 0),
   o.committed + o.provisional * 2 ^ 24,
   o.pageHead + o.qp * 2 ^ 32,
   o.deadline,
   o.budget + o.coolDelay * 2 ^ 32,
   o.pendingTok.getD 0 + o.remaining * 2 ^ 32,
   o.inputAddr,
   o.lastPost + o.turn * 2 ^ 48]

/-- Consume `k` words of the inputs, in order. Log: 66 DEDUCED. -/
def feed : Nat → List Input → List Input
  | _, [] => []
  | k, x :: xs =>
    if x.joined = false then x :: xs
    else if x.count ≤ k then feed (k - x.count) xs
    else { x with addr := x.addr + 4 * k, count := x.count - k } :: xs

/-- A turn starts (R250, R257): every input that waited joins it, and the first gives it its DEADLINE and TAG. -/
def Ob.startTurn (o : Ob) : Ob :=
  match o.inputs with
  | [] => o
  | x :: _ => { o with tag := x.tag, deadline := x.deadline, turnStart := x.at_, turn := (o.turn + 1) % 65536, turnOpen := true,
                       posted := false, missed := false, interrupt := false,
                       inputs := o.inputs.map (fun y => { y with joined := true }) }

/-- Engine time in µs, as the 48-bit fields hold it (R82). -/
def State.usNow (s : State) : Nat := s.now / 1000 % 2 ^ 48

/-- The signed 48-bit difference of a due time and the present time, both in µs (R82): negative once the due time has passed. -/
def dueIn (due now : Nat) : Int := (BitVec.ofNat 48 due - BitVec.ofNat 48 now).toInt

/-- Due time of a request in µs, if it has one (R257). -/
def State.dueOf (s : State) (o : Ob) : Option Nat :=
  let iv := s.servingOf o.plot (o.latClass + 1)
  if o.turnOpen = false ∨ ¬(o.st = .queued ∨ o.st = .prefill ∨ o.st = .decode) then none
  else if o.posted = false then (if o.deadline = 0 then none else some o.deadline)
  else if iv = 0xFFFFFFFF then none
  else some ((o.lastPost + iv) % 2 ^ 48)

/-- A request moves to PAUSED_COOL and posts its STATE entry (R251, R261), with STATUS DONE, which the spec does not state; no HINT
protects it any more (R230). Log: 124 DESIGN CHOICE. -/
def State.toCool (s : State) (i : Nat) : State :=
  let s1 := s.updOb i (fun o => { o with st := .pausedCool, hintAt := none, filling := false })
  let o := s1.obAt i
  s1.post o.qp [o.entry .done kState o.tag [ReqState.pausedCool.code]]

/-! ### STEP_FORM (R224, R225, R258 to R261, R327) -/

/-- What a step would feed for a request (R258): positions, drafts, input words. Log: 66 DEDUCED. -/
def stepNeed (mdl : Model) (maxDepth : Nat) (o : Ob) : Nat × Nat × Nat :=
  if 0 < o.toFeed then
    (let n := min (o.toFeed + 1) mdl.chunk
     (n, 0, if o.pendingTok.isSome then n - 1 else min o.toFeed n))
  else
    (let d := min o.depth (min maxDepth (o.budget - 1))
     (1 + d, d, 0))

/-- Whether a request is a candidate, its ring apart (R258): it takes part in no step, and every page of both lists is RESIDENT.
Log: 66 DEDUCED. -/
def Ob.placeable (o : Ob) (p m : Nat) : Bool :=
  o.plot == p && o.mslot == m && (o.st == .queued || o.st == .prefill || o.st == .decode) && o.step.isNone
    && o.pages.all (fun e => pgState (o.page e.1 e.2) == 2)

/-- Whether `x` comes before `y` (R82, R258): urgent first, by due time; then by priority, due time and order of admission.
Log: 69 DEDUCED. -/
def before (now window : Nat) (x y : Ob × Option Nat) : Bool :=
  let ux : Bool := x.2.any (fun d => decide (dueIn d now ≤ Int.ofNat window))
  let uy : Bool := y.2.any (fun d => decide (dueIn d now ≤ Int.ofNat window))
  let dx := (x.2.map (fun d => dueIn d now)).getD (2 ^ 48)
  let dy := (y.2.map (fun d => dueIn d now)).getD (2 ^ 48)
  if ux != uy then ux
  else if ux then decide (dx < dy) || (dx == dy && decide (x.1.admitted ≤ y.1.admitted))
  else if x.1.priority != y.1.priority then decide (y.1.priority < x.1.priority)
  else decide (dx < dy) || (dx == dy && decide (x.1.admitted ≤ y.1.admitted))

/-- Insert a candidate at its place. Log: 69 DEDUCED. -/
def insertCand (now window : Nat) (x : Nat × Ob × Option Nat) : List (Nat × Ob × Option Nat) → List (Nat × Ob × Option Nat)
  | [] => [x]
  | y :: ys => if before now window x.2 y.2 then x :: y :: ys else y :: insertCand now window x ys

/-- The candidates of a model slot, in the order in which a step takes them. -/
def State.candidates (s : State) (p m : Nat) : List (Nat × Ob × Option Nat) :=
  ((s.ob.filter (fun e => e.2.placeable p m)).map (fun e => (e.1, e.2, s.dueOf e.2))).foldr
    (insertCand s.usNow (s.servingOf p 0x11)) []

/-- TOKENS entries that the requests in steps may still post in a ring: what a step reserves (R260). Log: 68 DEDUCED. -/
def State.reserved (s : State) (n : Nat) : Nat :=
  (s.steps.map (fun e => match e.2 with
    | none => 0
    | some x => ((x.reqs.filter (fun r => (s.obAt r.ob).qp == n)).map (fun r => (r.drafts + 5) / 5)).sum)).sum

/-- Allocate PROVISIONAL frames for the pages of one list that positions up to `hi` reach (R224, R225); none where a class has no
free frame, with that class (R217), or where the page-list store is full (R214). Log: 15 DEDUCED. -/
def State.allocPages (s : State) (p i m : Nat) (d : Bool) (hi : Nat) : Option State × Nat :=
  (List.range (hi / 64 + 1)).foldl (fun t j =>
    match t.1 with
    | none => t
    | some s =>
      if (s.obAt i).page d j ≠ 0 then t
      else match (s.holdPage i d j).bind (fun s => s.allocFrame p m j), s.pool p m with
        | some (f, s1), _ => (some (s1.updOb i (fun o => o.setPage d j (pgWord 1 f))), t.2)
        | none, some x => (none, j % x.a)
        | none, none => t) (some s, 0)

/-- Frames for both lists of a request; where they are not free, the model slot and class. -/
def State.allocFor (s : State) (p i : Nat) (o : Ob) (hi : Nat) : Option State × Nat × Nat :=
  let a := match s.pool p o.mslot with
    | some _ => s.allocPages p i o.mslot false hi
    | none => (some s, 0)
  match a.1, s.poolSlot p o.mslot true with
  | none, _ => (none, o.mslot, a.2)
  | some s1, none => (some s1, 0, 0)
  | some s1, some dm =>
    match s1.pool p dm with
    | none => (some s1, 0, 0)
    | some _ =>
      let b := s1.allocPages p i dm true hi
      (b.1, dm, b.2)

/-- One turn of the loop of R258: the state, the requests chosen, streams and positions so far. Log: 69 DEDUCED. -/
def State.consider (p : Nat) (mdl : Model) (t : State × List StepReq × Nat × Nat) (c : Nat × Ob × Option Nat) :
    State × List StepReq × Nat × Nat :=
  let s := t.1
  let o := c.2.1
  let taken := ((t.2.1.filter (fun r => (s.obAt r.ob).qp == o.qp)).map (fun r => (r.drafts + 5) / 5)).sum
  if (s.qp o.qp).room < 3 + (s.qp o.qp).waiting.length + s.reserved o.qp + taken then
    ((s.bump 64 (0xA100 + p) 7 1).raiseLimited 0x3405 o.qp second p [p, o.qp], t.2)
  else
    let n := stepNeed mdl (s.servingOf p 0x13) o
    if mdl.stepStreams < t.2.2.1 + 1 ∨ mdl.stepPositions < t.2.2.2 + n.1 ∨ n.1 = 0 then t
    else
      let a := s.allocFor p c.1 o (o.committed + n.1 - 1)
      match a.1 with
      | none => ((s.bump 64 (0x6200 + p) 0x11 1).raiseLimited 0x6403 p second p [p, a.2.1, a.2.2], t.2)
      | some s1 => (s1, t.2.1 ++ [{ ob := c.1, need := n.1, drafts := n.2.1, input := n.2.2 }], t.2.2.1 + 1, t.2.2.2 + n.1)

/-- Frames of a class of one pool that a paused session gives up once the pages of its list in it are spilled (R230, R261).
Log: 69 DEDUCED. -/
def Ob.spillGain (o : Ob) (d : Bool) (x : PoolSt) (c : Nat) : Nat :=
  ((if d then o.draftList else o.main).filter
    (fun e => e.1 % x.a == c && pgState e.2 == 2 && decide ((e.1 + 1) * 64 ≤ o.committed))).length

/-- Insert by idle time, longest first. -/
def insertIdle (x : Nat × Ob) : List (Nat × Ob) → List (Nat × Ob)
  | [] => [x]
  | y :: ys => if x.2.since ≤ y.2.since then x :: y :: ys else y :: insertIdle x ys

/-- COOL_LOWWATER_MOVE for one class (R261): idle requests move, longest idle first, until the class stands at the mark with the
frames that their spills will return. -/
def State.coolClass (mark m c : Nat) (x : PoolSt) (s : State) : Nat → List (Nat × Ob) → State
  | _, [] => s
  | free, (i, o) :: rest =>
    if mark ≤ free then s
    else State.coolClass mark m c x (s.toCool i) (free + o.spillGain (o.mslot != m) x c) rest

/-- COOL_LOWWATER_MOVE for one pool (R261): the requests that wait for input and have a list in it. Log: 69 DEDUCED. -/
def State.coolPool (s : State) (p m : Nat) : State :=
  match s.pool p m with
  | none => s
  | some x =>
    (List.range x.a).foldl (fun s c =>
      let idle := (s.ob.filter (fun e => e.2.plot == p && (s.listOf p e.1 m).isSome && e.2.st == .waitInput)).foldr insertIdle []
      State.coolClass (s.servingOf p 0x12) m c x s (x.freeOf c) idle) s

/-- COOL_LOWWATER_MOVE (R261): the pool of a model slot, and that of its draft model. Log: 69 DEDUCED. -/
def State.coolLow (s : State) (p m : Nat) : State :=
  let s1 := s.coolPool p m
  match s1.poolSlot p m true with
  | some dm => if dm = m then s1 else s1.coolPool p dm
  | none => s1

/-- The arithmetic settings that a step takes over at its boundary, and keeps (R114, R130). -/
def State.arithNow (s : State) (p : Nat) : Tab Nat :=
  (List.range 9).foldl (fun t k => Tab.set (entryDefault (0x3200 + p) k) t k (s.cell (0x3200 + p) k)) []

/-- The serving settings take effect at a step formation (R267). Log: 69 DEDUCED. -/
def State.takeServing (s : State) (p : Nat) : State :=
  s.updPlot p (fun x => { x with serving := (List.range 0x15).foldl (fun t k =>
    Tab.set (entryDefault (0x3400 + p) k) t k (s.cell (0x3400 + p) k)) x.serving })

/-- Whether the n-th step of a plot is sampled (R119): one in 2^rate, none at 0xFF. Log: 34 DESIGN CHOICE. -/
def sampledStep (p rate n : Nat) : Bool := rate != 0xFF && n % 2 ^ rate == Config.assayPhase p rate % 2 ^ rate

/-- Whether a model slot may form a step now (R258, R327, R345, R363), by a Drover that lives (R403).
Log: 70 DEDUCED, 90 DEDUCED. -/
def State.mayForm (s : State) (p m : Nat) (im : Image) (mdl : Model) : Bool :=
  s.plotState p == 2 && (s.plot p).drain.isNone && s.cell (0x3100 + p) 3 == 5 && s.cell (0x4200 + p) 2 == 0
    && s.rst.ready && decide (s.power.shutdown = 0) && !s.power.p4
    && !Tab.get false s.procs.droverLost (s.cell (0x3000 + p) 0xB)
    && decide (((s.stepsOf p).filter (fun id => match s.stepAt id with
        | some x => x.mslot == m | none => false)).length < mdl.stepDepth)
    && !im.models.any (fun x => match x.draft with | some d => d.val == m | none => false)
    && (s.cell 0x5700 (p + 1) != 1 || (s.bell.tickAt == some s.now && decide (Tab.get 0 (s.plot p).tickUsed m < s.bell.tickNo)))

/-- The gap before a step (R342): it begins when the step could be formed, and is counted then; the step is formed once it is over. -/
def State.inGap (s : State) (p m : Nat) : Bool :=
  let e := Tab.get 0 (s.plot p).gapEnd m
  if e = 0 then decide (0 < (s.plot p).gap) else decide (s.now < e - 1)

/-- The gap begins, unless it has begun (R342, 4200+p:05, 4200+p:06). Log: 83 DEDUCED. -/
def State.startGap (s : State) (p m : Nat) : State :=
  if Tab.get 0 (s.plot p).gapEnd m ≠ 0 then s
  else
    let d := (s.plot p).gap * 1000
    ((s.bump 64 (0x4200 + p) 5 1).bump 64 (0x4200 + p) 6 d).updPlot p (fun x => { x with gapEnd := Tab.set 0 x.gapEnd m (s.now + d + 1) })

/-- STEP_FORM (R258). -/
def execStepForm (p : PlotId) (m : MSlot) (s : State) : Host.Outcome State Fault Refusal :=
  .next (
    match (s.plot p.val).image, s.model p.val m.val with
    | some im, some mdl =>
      if s.mayForm p.val m.val im mdl = false then s
      else if s.candidates p.val m.val ≠ [] ∧ s.inGap p.val m.val then s.startGap p.val m.val
      else
        let s0 := s.takeServing p.val
        let r := (s0.candidates p.val m.val).foldl (State.consider p.val mdl) (s0, [], 0, 0)
        let s1 := r.1.coolLow p.val m.val
        if r.2.1 = [] then s1
        else
          let id := s1.nextStep
          let n := (s1.plot p.val).formed
          let tag := s1.newTag p.val
          let x : Step := { plot := p.val, mslot := m.val, attempt := tag.1, reqs := r.2.1, tick := s1.nearInstant / s1.bell.period,
                            sampled := sampledStep p.val (s1.cell (0x3200 + p.val) 2) n, arith := s1.arithNow p.val, number := n }
          let s3 := tag.2.updPlot p.val (fun y => { y with
            formed := n + 1, gapEnd := Tab.set 0 y.gapEnd m.val 0, tickUsed := Tab.set 0 y.tickUsed m.val s1.bell.tickNo })
          let s4 := { s3 with steps := Tab.set none s3.steps id (some x), nextStep := id + 1 }
          let s5 := r.2.1.foldl (fun s q => s.updOb q.ob (fun o => { o with
            step := some id, provisional := o.committed + q.need, st := if o.st = .queued then .prefill else o.st })) s4
          (s5.footprint p.val).foldl (fun s k => s.pickStep k) s5
    | _, _ => s)

/-! ### STEP_COMMIT (R224, R251, R253, R255, R262, R263) -/

/-- The TOKENS entries of one request of a step: at most five tokens each (R262). Log: 68 DEDUCED. -/
def tokenEntries (o : Ob) (c : Nat) (turnEnd : Bool) (ts : List Nat) : List Result :=
  if ts = [] then []
  else if ts.length ≤ 5 then
    [{ request := o.request, status := .done, kind := kTokens, turnEnd, tag := o.tag, data := ts, length := c }]
  else
    [{ request := o.request, status := .done, kind := kTokens, more := true, tag := o.tag, data := ts.take 5, length := c },
     { request := o.request, status := .done, kind := kTokens, turnEnd, tag := o.tag, data := ts.drop 5, length := c }]

/-- PROVISIONAL pages at a step's end (R224, R226): kept where they hold a committed position, else returned. -/
def State.settlePages (s : State) (i c : Nat) : State :=
  (s.obAt i).pages.foldl (fun s e =>
    let o := s.obAt i
    let w := o.page e.1 e.2
    if pgState w ≠ 1 then s
    else if 64 * e.2 < c then s.updOb i (fun o => o.setPage e.1 e.2 (pgWord 2 (pgFrame w)))
    else match s.poolSlot o.plot o.mslot e.1 with
      | none => s
      | some m => ((s.returnFrame o.plot m (pgFrame w)).updOb i (fun o => o.setPage e.1 e.2 0)).bump 64 (0x6200 + o.plot) 0x16 1) s

/-- Whether a request posts nothing of the step: it left its turn before the commit point (R255). -/
def Ob.left (o : Ob) : Bool := !(o.st == .prefill || o.st == .decode)

/-- Whether the step samples for a request: its input is fed (R251). -/
def Ob.samples (o : Ob) (r : StepReq) : Bool := !o.left && ({ o with inputs := feed r.input o.inputs }).toFeed == 0

/-- What the looms returned for a request is complete: the drafts accepted and one more token (R224, R262). Log: 68 DEDUCED. -/
def outFits (o : Ob) (r : StepReq) (x : Option StreamOut) : Bool :=
  !o.samples r || match x with
    | some y => decide (y.accepted ≤ r.drafts) && y.tokens.length == y.accepted + 1
    | none => false

/-- Committed positions of a request after a step (R224, R258): the pending token and the input words that were fed, or the pending
token and the accepted drafts. Log: 66 DEDUCED. -/
def Ob.advance (o : Ob) (r : StepReq) (k : Nat) : Nat :=
  o.committed + (if 0 < r.input then r.input + (if o.pendingTok.isSome then 1 else 0) else 1 + k)

/-- The commits of the last second that proposed drafts (A100+p:08). -/
def Plot.recent (x : Plot) (now : Nat) : List (Nat × Nat × Nat) := x.drafts.filter (fun e => decide (now < e.1 + second))

/-- A request that has left its step goes to its end, if it can (R227, R228); the FINAL entry that it posts then. -/
def State.leave (s : State) (i : Nat) : State × List (Nat × Result) :=
  let r := (s.releasePages i).settleCore i
  (r.1.maybeFree i, r.2)

/-- What the commit of a request counts: positions returned uncommitted, input positions, tokens, draft tokens with those accepted, and the
time to the first token (R235, R268). -/
def State.countCommit (s : State) (i : Nat) (r : StepReq) (c tokens k : Nat) (smp : Bool) : State :=
  let o := s.obAt i
  let p := o.plot
  let bin := min 31 ((s.now - o.turnStart) / 1000000)
  ((((s.bump 64 (0x6200 + p) 0x17 (o.committed + r.need - c)).bump 64 (0xA100 + p) 3 r.input).bump 64 (0xA100 + p) 2 tokens).bump 64
    0xA000 2 tokens).updPlot p (fun x => { x with
      drafts := x.recent s.now ++ (if r.drafts = 0 then [] else [(s.now, r.drafts, k)]),
      hist := if smp ∧ o.posted = false then Tab.upd 0 x.hist bin (fun v => satAdd 32 v 1) else x.hist })

/-- The request after the commit: where its turn has ended it waits for input, or takes up the input that has come; where it has sampled it
decodes (R251, R253). -/
def State.turnAfter (s : State) (i : Nat) (more smp spent turnEnd : Bool) : State :=
  if turnEnd ∧ spent = false then
    (if more = false then s.updOb i (fun o => { o with st := .waitInput, turnOpen := false, interrupt := false, since := s.now })
     else s.updOb i (fun o => ({ o with st := .prefill }).startTurn))
  else if smp ∧ spent = false then s.updOb i (fun o => { o with st := .decode })
  else s

/-- What a step brings to one request: the input words left, whether it samples, the drafts accepted, the tokens, the committed length, the
budget left, whether that is spent and whether the turn ends. -/
structure StepEnd where
  inputs  : List Input
  samples : Bool
  accepted : Nat
  tokens  : List Nat
  length  : Nat
  budget  : Nat
  spent   : Bool
  turnEnd : Bool
  deriving DecidableEq, Repr

/-- The end of a step for a request (R224, R251, R258, R262). -/
def stepEnd (o : Ob) (driven : Bool) (r : StepReq) (out : Option StreamOut) : StepEnd :=
  let smp := o.samples r
  let k := if smp then (out.map StreamOut.accepted).getD 0 else 0
  let ts := if smp then ((out.map StreamOut.tokens).getD []).map BitVec.toNat else []
  let spent : Bool := smp && o.budget - ts.length == 0
  { inputs := feed r.input o.inputs, samples := smp, accepted := k, tokens := ts, length := o.advance r k, budget := o.budget - ts.length,
    spent, turnEnd := smp && (spent || (out.map StreamOut.stop).getD false || o.interrupt || driven) }

/-- A request takes what a step brought it. -/
def Ob.afterStep (o : Ob) (e : StepEnd) (us : Nat) : Ob :=
  { o with committed := e.length, provisional := e.length, inputs := e.inputs, budget := e.budget,
           pendingTok := if e.samples then (if o.interrupt then none else e.tokens.getLast?) else none,
           posted := o.posted || e.samples, lastPost := if e.samples then us else o.lastPost }

/-- The commit of a request that is still in its turn: its new state, and the entries that it posts, a FINAL entry last. `trained` says that
the step finished a backward pass (R234). -/
def State.commitWith (s : State) (r : StepReq) (e : StepEnd) (trained : Bool) : State × List (Nat × Result) :=
  let i := r.ob
  let fed := ((s.settlePages i e.length).countCommit i r e.length e.tokens.length e.accepted e.samples).updOb i (fun o => o.afterStep e s.usNow)
  let turned := fed.turnAfter i (e.inputs != []) e.samples e.spent e.turnEnd
  let freed := if trained then turned.releasePages i else turned
  let es := (tokenEntries (s.obAt i) e.length e.turnEnd e.tokens).map (fun x => ((s.obAt i).qp, x))
  if e.spent then
    let d := (freed.drainCore i).settleCore i
    (d.1.maybeFree i, es ++ d.2)
  else (freed, es)

/-- The commit of one request: one that left its turn before the commit point posts nothing of the step (R255). -/
def State.commitReq (s : State) (driven : Bool) (r : StepReq) (out : Option StreamOut) : State × List (Nat × Result) :=
  let o := s.obAt r.ob
  if o.left then
    ((s.bump 64 (0x6200 + o.plot) 0x16 o.provPages).bump 64 (0x6200 + o.plot) 0x17 r.need).leave r.ob
  else s.commitWith r (stepEnd o driven r out) ((out.map StreamOut.trained).getD false)

/-- The Drover's result for a request of a step. -/
def State.outOf (s : State) (outs : List StreamOut) (r : StepReq) : Option StreamOut :=
  outs.find? (fun x => x.request.toNat == (s.obAt r.ob).request)

/-- STEP_COMMIT: after every loom's STEPEND, and the checks that hold the commit (R122, R198, R224). -/
def execStepCommit (step : Nat) (outs : List StreamOut) (s : State) : Host.Outcome State Fault Refusal :=
  .next (
    match s.stepAt step with
    | none => s
    | some x =>
      if x.st ≠ .running ∨ s.checkDue step ∨ s.cellar.writes.any (fun w => w.plot == x.plot && w.parcel == 0)
          ∨ (s.footprint x.plot).any (fun n => !x.ended.contains n)
          ∨ x.reqs.any (fun r => !outFits (s.obAt r.ob) r (s.outOf outs r)) then s
      else
        let driven : Bool := match s.model x.plot x.mslot with | some m => m.inputDriven | none => false
        let s0 := { s with samples := s.samples.filter (fun y => y.step != step || y.forInt || y.forQual) }.dropStep step
        let r := x.reqs.foldl (fun (t : State × List (Nat × Result)) q =>
          let a := t.1.commitReq driven q (s.outOf outs q)
          (a.1, t.2 ++ a.2)) (s0, [])
        ((r.1.postAll r.2).bump 64 0xA000 1 1).bump 64 (0xA100 + x.plot) 1 1)

/-! ### Creating and resizing (R240 to R243) -/

/-- LOOM_MAP as ascending loom indexes (R240). -/
def loomMap (body : List Byte) : List Nat :=
  (List.range 2160).filter (fun i => (body.getD (i / 8) 0).getLsbD (i % 8))

/-- Whether two ranges of queue pairs meet. -/
def rangesMeet (a n b m : Nat) : Bool := decide (a < b + m) && decide (b < a + n)

/-- The other plots that exist. -/
def State.otherPlots (s : State) (p : Nat) : List Nat := s.plotsNow.filter (fun q => q != p)

/-- Range checks of a create descriptor (R240, R241, R166, R340). Log: 72 DEDUCED. -/
def State.createBad (s : State) (body : List Byte) : Bool :=
  let ls := loomMap body
  let f := field body 280 2
  let n := field body 282 2
  let va := field body 288 1
  let vb := field body 289 1
  decide (field body 270 2 ≠ 0 ∨ field body 290 6 / 8 ≠ 0 ∨ field body 290 1 % 8 = 0 ∨ ls = [])
    || ls.any (fun i => decide (20 * s.factory.grade.tiles ≤ i) || s.cellar.orphans.contains (i / 20))
    || decide (field body 276 4 = 0 ∨ 65536 < field body 276 4 ∨ 16383 < f ∨ n = 0 ∨ 16384 < f + n ∨ field body 284 4 < 100)
    || decide ((15 < va ∧ va ≠ 0xFF) ∨ (15 < vb ∧ vb ≠ 0xFF))

/-- The conditions of R241 in the table's order, bad values first (R371). Log: 72 DEDUCED. -/
def State.createRefused (s : State) (p : Nat) (body : List Byte) : Option Status :=
  let ls := loomMap body
  let qs := s.otherPlots p
  let va := field body 288 1
  let vb := field body 289 1
  if s.createBad body then some .badValue
  else if s.plotExists p then some .busy
  else if qs.any (fun q => ls.any (fun i => (s.plot q).looms.contains i)
      || rangesMeet (field body 280 2) (field body 282 2) (s.cell (0x3000 + q) 6) (s.cell (0x3000 + q) 7)
      || (va != 0xFF && s.cell (0x3000 + q) 9 == va) || (vb != 0xFF && s.cell (0x3000 + q) 0xA == vb)) then some .denied
  else if 65536 < (qs.map (fun q => s.cell (0x3000 + q) 5)).sum + field body 276 4
      ∨ s.freeExtents < field body 272 4 + (qs.map (fun q => s.unusedQuota q)).sum
      ∨ s.cell 0x4000 1 < s.shareSum + field body 284 4 then some .noSpace
  else if (ls.map (fun i => i / 20)).dedup.any (fun t =>
      decide (4 ≤ (qs.filter (fun q => (s.plot q).looms.any (fun n => n / 20 == t))).length)) then some .noSpace
  else none

/-- The Drover of a plot (R256, R403): p mod 4, or the one on the other host die while that one is lost. -/
def State.droverFor (s : State) (p : Nat) : Nat := if Tab.get false s.procs.droverLost (p % 4) then (p + 2) % 4 else p % 4

/-- PLOT_CREATE (R240, R241, R419): applied whole, or refused and nothing changed. -/
def execPlotCreate (f : Sender) (p : PlotId) (body : List Byte) (s : State) : Host.Outcome State Fault Refusal :=
  .next (s.serveWrite f (0x3000 + p.val) 0x10 body (fun s => s.createRefused p.val body) (fun s =>
    let ls := loomMap body
    let i := 0x3000 + p.val
    let rights := field body 290 1 % 8
    let y : Plot := { looms := ls, rightsA := bit rights 0, rightsB := bit rights 1, rightsM := bit rights 2, busyAt := s.now }
    let s1 := { s with plots := Tab.set {} s.plots p.val y }
    let s2 := (((s1.setCell i 1 1).setCell i 2 rights).setCell i 3 ls.length).setCell i 4 (field body 272 4)
    let s3 := (((s2.setCell i 5 (field body 276 4)).setCell i 6 (field body 280 2)).setCell i 7 (field body 282 2)).setCell i 8
      (field body 284 4)
    let s4 := ((s3.setCell i 9 (field body 288 1)).setCell i 0xA (field body 289 1)).setCell i 0xB (s3.droverFor p.val)
    let cls := match f.who with
      | .host { port := .a, .. } => 0
      | .host { port := .b, .. } => 1
      | .mgmt _ => 2
    (s4.newEpochs ls).raise 0x3401 p.val [p.val, cls]))

/-- Order Book entries of a plot that are not FREE. -/
def State.obUsed (s : State) (p : Nat) : Nat := (s.obOf p).length

/-- Whether a plot's virtual function on a port is in use: a queue pair that is not DISABLED uses it (R237, R279).
Log: 72 DEDUCED. -/
def State.vfInUse (s : State) (p : Nat) : Bool :=
  s.qps.any (fun e => s.plotOfQp e.1 == some p && e.2.st != .disabled && bit e.2.c2.toNat 20)

/-- Whether a new value of a plot's resource is refused (R237, R240, R241, R243, R340). Log: 72 DEDUCED. -/
def State.resizeRefused (s : State) (p sub v : Nat) : Option Status :=
  let i := 0x3000 + p
  let qs := s.otherPlots p
  let first := if sub = 6 then v else s.cell i 6
  let count := if sub = 7 then v else s.cell i 7
  if (sub = 5 ∧ (v = 0 ∨ 65536 < v)) ∨ ((sub = 6 ∨ sub = 7) ∧ (16383 < first ∨ count = 0 ∨ 16384 < first + count))
      ∨ (sub = 8 ∧ v < 100) ∨ (9 ≤ sub ∧ 15 < v ∧ v ≠ 0xFF) then some .badValue
  else if s.plotState p = 3 ∨ s.plotState p = 4 ∨ (s.plot p).drain.isSome then some .busy
  else if (sub = 6 ∨ sub = 7) ∧ qs.any (fun q => rangesMeet first count (s.cell (0x3000 + q) 6) (s.cell (0x3000 + q) 7)) then
    some .denied
  else if 9 ≤ sub ∧ v ≠ 0xFF ∧ qs.any (fun q => s.cell (0x3000 + q) sub == v) then some .denied
  else if sub = 5 ∧ 65536 < (qs.map (fun q => s.cell (0x3000 + q) 5)).sum + v then some .noSpace
  else if sub = 8 ∧ s.cell 0x4000 1 < (qs.map (fun q => s.cell (0x3000 + q) 8)).sum + v then some .noSpace
  else if (sub = 6 ∨ sub = 7) ∧ s.qps.any (fun e => s.plotOfQp e.1 == some p && e.2.st != .disabled
      && !(decide (first ≤ e.1) && decide (e.1 < first + count))) then some .busy
  else if sub = 5 ∧ v < s.obUsed p then some .busy
  else if 9 ≤ sub ∧ s.vfInUse p then some .busy
  else none

/-- PLOT_RESIZE (R237, R243): at once. -/
def execPlotResize (f : Sender) (p : PlotId) (sub : Fin 6) (body : List Byte) (s : State) : Host.Outcome State Fault Refusal :=
  .next (s.serveWrite f (0x3000 + p.val) (5 + sub.val) body (fun s => s.resizeRefused p.val (5 + sub.val) (ofLe body))
    (fun s => s.setCell (0x3000 + p.val) (5 + sub.val) (ofLe body)))

/-! ### Teardown, erasure, reset (R244, R421, R433) -/

/-- Whether teardown, reload or reset keeps a plot from another teardown (R244, R428). -/
def State.windingDown (s : State) (p : Nat) : Bool :=
  s.plotState p == 3 || s.plotState p == 4 || (s.plot p).drain.isSome

/-- TEARDOWN (R244, R428): Stop. A load in progress is abandoned at the end of its phase. -/
def execTeardown (f : Sender) (p : PlotId) (s : State) : Host.Outcome State Fault Refusal :=
  .next (s.serveWrite f (0x3000 + p.val) 0x11 [1] (fun s => if s.windingDown p.val then some .busy else none) (fun s =>
    let s1 := (s.trigger p.val).updPlot p.val (fun x => { x with drain := some .teardown, abandon := x.loading.isSome })
    (s1.setCell (0x3000 + p.val) 1 3).cancelAll p.val))

/-- Queue pairs of a plot are unbound: DISABLED, their waiting entries discarded (R244). Log: 73 DEDUCED. -/
def State.unbind (s : State) (p : Nat) : State :=
  let mine := (s.qps.map Prod.fst).filter (fun n => s.plotOfQp n == some p)
  mine.foldl (fun s n => s.updQp n (fun q =>
    { q with st := .disabled, c2 := BitVec.ofNat 64 (setBit (setBit q.c2.toNat 16 false) 20 false), sqTail := 0, sqHead := 0,
             rqTail := 0, rqHead := 0, phase := true, ring := [], waiting := [], rewrite := none })) s

/-- Entries that wait in the rings of a plot. -/
def State.waitingOf (s : State) (p : Nat) : Nat :=
  ((s.qps.filter (fun e => s.plotOfQp e.1 == some p)).map (fun e => e.2.waiting.length)).sum

/-- TEARDOWN_DRAIN_END (R244, R419, R421): Release. The order of R419: epochs, Bench, firewall. Log: 73 DEDUCED. -/
def execTeardownDrainEnd (p : PlotId) (s : State) : Host.Outcome State Fault Refusal :=
  .next (
    let y := s.plot p.val
    let i := 0x3000 + p.val
    if y.drain ≠ some .teardown ∨ s.plotState p.val ≠ 3 ∨ s.plotDrained p.val = false ∨ y.loading.isSome then s
    else
      let n := s.waitingOf p.val
      let s1 := ((s.clearLooms p.val).unloadImage p.val).releaseRoutes p.val
      let s2 := { (s1.unbind p.val).releaseExtents p.val with ob := s1.ob.filter (fun e => e.2.plot != p.val) }
      let s3 := [2, 3, 4, 5, 6, 7, 8].foldl (fun s k => s.setCell i k 0) s2
      let s4 := ((s3.setCell i 9 0xFF).setCell i 0xA 0xFF).setCell i 1 4
      let s5 := (List.range 36).foldl (fun s k =>
        if s.cell 0x5430 (k + 1) = p.val then s.setCell 0x5430 (k + 1) 0xFF else s) s4
      { s5 with plots := Tab.set {} s5.plots p.val { drain := some .teardown, discarded := n } }.failoverEnds)

/-- Extents of a plot whose erasure is pending, ascending (R421). -/
def State.pendingErase (s : State) (p : Nat) : List Nat := (s.cellar.erase.filter (fun e => e.2 == 1 + p)).map Prod.fst

/-- Erasure of an extent is suspended: its group rebuilds, or a Constable takeover runs (R404, R422). Log: 73 DEDUCED. -/
def State.eraseSuspended (s : State) (x : Nat) : Bool :=
  s.constableBusy || s.cellar.unbuilt.any (fun e => e.1 / 12 == x / 176 / 12 && e.2.isSome)

/-- Erasure of an extent cannot go on now: it is suspended, or a tile it needs is held (R64, R422). Log: 73 DEDUCED. -/
def State.eraseHeld (s : State) (x : Nat) : Bool :=
  s.cellarHeld (x / 176) || s.groupHeld (x / 176) || s.eraseSuspended x

/-- Units of an extent are written with zeros under R158. -/
def State.zeroUnits (s : State) (x : Nat) (us : List Nat) : State :=
  us.foldl (fun s u => s.settledWrite (extentAddr x (4096 * u)) 0x1F (List.replicate 4096 0)) s

/-- Every unit of an extent is written with zeros, and its bit is cleared. -/
def State.eraseExtent (s : State) (x : Nat) : State :=
  let s1 := s.zeroUnits x (List.range 4096)
  { s1 with cellar := { s1.cellar with erase := Tab.set 0 s1.cellar.erase x 0 } }

/-- Every entry at base + p returns to its default (R366). -/
def State.forgetPlot (s : State) (p : Nat) : State :=
  let mine := fun (k : Nat) => (entry (k / 256) (k % 256)).any (fun r => r.span == 16 && k / 256 == r.base + p)
  { s with led := Tab.keep (fun k => !mine k) s.led, blob := Tab.keep (fun k => !mine k) s.blob,
           meas := Tab.keep (fun k => !mine k) s.meas, plots := Tab.set {} s.plots p {},
           paths := Tab.keep (fun k => k / 16 != p) s.paths }

/-- ERASE_END (R244, R366, R421): the last bit of a plot clears; a plot that was torn down ends. Log: 73 DEDUCED. -/
def execEraseEnd (p : PlotId) (s : State) : Host.Outcome State Fault Refusal :=
  .next (
    let xs := s.pendingErase p.val
    if xs.any (fun x => s.eraseHeld x) then s
    else
      let s1 := xs.foldl (fun s x => s.eraseExtent x) s
      let s2 := if xs = [] then s1 else s1.raise 0x8041 p.val [p.val]
      if s2.plotState p.val = 4 then (s2.forgetPlot p.val).raise 0x3402 p.val [p.val, (s2.plot p.val).discarded] else s2)

/-- PLOT_RESET (R433): Stop. Log: 76 DEDUCED. -/
def execPlotReset (f : Sender) (p : PlotId) (s : State) : Host.Outcome State Fault Refusal :=
  .next (s.serveWrite f (0x3000 + p.val) 0x11 [2]
    (fun s => if s.windingDown p.val ∨ (s.plot p.val).loading.isSome then some .busy else none)
    (fun s =>
      let s1 := (s.trigger p.val).updPlot p.val (fun x => { x with drain := some .reset, wasCreated := s.plotState p.val == 1 })
      s1.cancelAll p.val))

/-- Poisoned units of the plot's extents of one USE, as logical tile and stripe row. -/
def State.poisonedUnits (s : State) (p use : Nat) : List (Nat × Nat) :=
  (s.cellar.poison.map (fun e => (e.1 / stripeRows, e.1 % stripeRows))).filter (fun u =>
    u.2 % 12 != u.1 % 12 && (
      let x := u.1 * 176 + rowUnit (u.1 % 12) u.2 / 4096
      Tab.get 0 s.cellar.owner x == 1 + p && Tab.get 0 s.cellar.use x == use + 1))

/-- PLOT_RESET_CLEAR (R433, R152). -/
def execPlotResetClear (p : PlotId) (s : State) : Host.Outcome State Fault Refusal :=
  .next (
    let y := s.plot p.val
    if y.drain ≠ some .reset ∨ s.plotDrained p.val = false then s
    else
      let s1 := s.clearLooms p.val
      let s2 := (s1.obOf p.val).foldl (fun s i =>
        (s.updOb i (fun o => { o with main := [], draftList := [], mainBlocks := [], draftBlocks := [], pageHead := 0xFFFFFFFF })).maybeFree i) s1
      let s3 := s2.updPlot p.val (fun x => { x with
        drain := none, pools := x.pools.map (fun e => (e.1, { e.2 with used := [], remote := [] })) })
      let s4 := (s3.poisonedUnits p.val 1).foldl (fun s u =>
        s.settledWrite (extentAddr (u.1 * 176 + rowUnit (u.1 % 12) u.2 / 4096) (rowUnit (u.1 % 12) u.2 % 4096 * 4096)) p.val
          (List.replicate 4096 0)) s3
      let s5 := { s4 with led := Tab.keep (fun k => k / 256 != 0x3300 + p.val) s4.led }
      let s6 := y.looms.foldl (fun s n => s.updLoom n (fun l => { l with ctr := [] })) s5
      if y.wasCreated then s6.setCell (0x3000 + p.val) 1 1
      else s6.setCell (0x3000 + p.val) 1 (if s6.poisonedUnits p.val 0 = [] then 2 else 5))

end Sys2Proof.Machine
end

