-- ==== Sys2Proof/Machine/Requests.lean ====
section
/-! DEFINITION. Doorbells, submissions and results: how the host drives the Order Book (R246 to R265, R274, R277). -/

namespace Sys2Proof.Machine

/-! ### Access through a function's BAR (R274, R275) -/

/-- Whether an access through a function reaches the engine: its port's link is up, and a virtual function belongs to a plot.
Log: 51 DEDUCED. -/
def State.barOpen (s : State) (fn : Func) : Bool :=
  s.portUp fn.port && match fn.vf with
    | none => true
    | some v => (s.vfPlot fn.port v.val).isSome

/-- The queue pair behind an index through a function: a virtual function counts from its plot's QP_FIRST (R275). -/
def State.qpIndex (s : State) (fn : Func) (n : Nat) : Option Nat :=
  match fn.vf with
  | none => some n
  | some v =>
    match s.vfPlot fn.port v.val with
    | none => none
    | some p => if n < s.cell (0x3000 + p) 7 then some (s.cell (0x3000 + p) 6 + n) else none

/-- An ignored doorbell is counted (R277). -/
def State.countIgnored (s : State) (n : Nat) : State :=
  match s.plotOfQp n with
  | some p => s.bump 32 (0x3000 + p) 0xC 1
  | none => s.bump 32 0x2000 0x21 1

/-- Submission entries between head and tail. -/
def Qp.sqUsed (q : Qp) : Nat := (q.sqTail + q.sqSize - q.sqHead) % q.sqSize

/-- Whether a submission tail would pass SQ_HEAD by the full ring size (R277): the entries that wait and those that it adds are more than
the ring's size less one. Log: 74 DEDUCED. -/
def Qp.overfull (q : Qp) (v : Nat) : Bool := decide (q.sqSize ≤ q.sqUsed + (v + q.sqSize - q.sqTail) % q.sqSize)

/-- SQ_TAIL_DOORBELL (R246, R247, R277). Log: 74 DEDUCED. -/
def execSqTailDoorbell (fn : Func) (n : QpId) (v : U32) (s : State) : Host.Outcome State Fault Refusal :=
  .next (
    match s.qpIndex fn n.val with
    | none => s
    | some k =>
      if s.barOpen fn = false then s
      else if (s.qp k).st ≠ .active ∨ (s.qp k).sqSize ≤ v.toNat ∨ (s.qp k).overfull v.toNat then s.countIgnored k
      else s.updQp k (fun q => { q with sqTail := v.toNat }))

/-- The FINAL entries among consumed ones: their requests become FREE when their frames are back (R251). -/
def State.consume (s : State) (n : Nat) : Nat → Nat → State
  | _, 0 => s
  | at_, k + 1 =>
    let q := s.qp n
    let s1 := s.updQp n (fun q => { q with ring := Tab.set none q.ring at_ none })
    let s2 := match Tab.get none q.ring at_ with
      | some (r, _) => if r.ob = 0 then s1 else (s1.updOb (r.ob - 1) (fun o => { o with consumed := true })).maybeFree (r.ob - 1)
      | none => s1
    s2.consume n ((at_ + 1) % q.rqSize) k

/-- RQ_HEAD_DOORBELL (R265, R277). Log: 74 DEDUCED. -/
def execRqHeadDoorbell (fn : Func) (n : QpId) (v : U32) (s : State) : Host.Outcome State Fault Refusal :=
  .next (
    match s.qpIndex fn n.val with
    | none => s
    | some k =>
      let q := s.qp k
      let steps := (v.toNat + q.rqSize - q.rqHead) % q.rqSize
      if s.barOpen fn = false then s
      else if q.st ≠ .active ∨ q.rqSize ≤ v.toNat then s.countIgnored k
      else if q.rqUsed < steps then
        let p := (s.plotOfQp k).getD 0xFF
        (s.countIgnored k).raise 0x3406 p [p, k]
      else (s.consume k q.rqHead steps).updQp k (fun q => { q with rqHead := v.toNat }))

/-- RESULT_ENTRY_WRITE (R260): the first waiting entry of a ring. Log: 74 DEDUCED. -/
def execResultEntryWrite (qp : QpId) (s : State) : Host.Outcome State Fault Refusal :=
  .next (
    let q := s.qp qp.val
    match q.waiting with
    | [] => s
    | r :: rest =>
      if q.canWrite then
        ((s.ringWrite qp.val r).updQp qp.val (fun q => { q with waiting := rest })).ringIrq qp.val
      else s)

/-! ### Submissions (R247 to R249) -/

/-- Fields of a submission entry (R248). -/
def Sub_op (e : Sub) : Nat := bits e.q0.toNat 7 0
def Sub_ack (e : Sub) : Bool := bit e.q0.toNat 8
def Sub_tag (e : Sub) : Nat := bits e.q0.toNat 31 16
def Sub_request (e : Sub) : Nat := bits e.q0.toNat 63 32
def Sub_budget (e : Sub) : Nat := bits e.q1.toNat 47 16
def Sub_depth (e : Sub) : Nat := bits e.q1.toNat 15 12
def Sub_deadline (e : Sub) : Nat := bits e.q2.toNat 47 0
def Sub_count (e : Sub) : Nat := bits e.q4.toNat 31 0

/-- A reserved opcode, a reserved field that is not zero, or a reserved value (R248, R249). Log: 64 DEDUCED. -/
def Sub_bad (e : Sub) : Bool :=
  let op := Sub_op e
  decide (op = 0 ∨ 6 < op ∨ bits e.q0.toNat 15 11 ≠ 0 ∨ bit e.q1.toNat 7 ∨ bits e.q1.toNat 63 48 ≠ 0 ∨ bits e.q2.toNat 63 48 ≠ 0
      ∨ e.q5 ≠ 0 ∨ e.q6 ≠ 0 ∨ e.q7 ≠ 0 ∨ Sub_request e = 0xFFFFFFFF)
    || ((op == 1 || op == 2) && decide (Sub_count e = 0 ∨ 1048576 < Sub_count e ∨ e.q3.toNat % 4 ≠ 0))
    || (op == 1 && decide (8 < Sub_depth e ∨ Sub_budget e = 0))

/-- What a plot in a state of its own answers to every submission, whatever it asks (R206, R244, R245, R433). Log: 64 DEDUCED. -/
def State.plotAnswers (s : State) (p op : Nat) : Option Status :=
  if s.plotState p = 4 ∨ (s.plot p).drain = some .teardown then some .denied
  else if (s.plot p).drain.isSome ∧ op ≠ 6 then some .busy
  else if s.plotState p = 5 ∧ op ≠ 6 then some .faulted
  else none

/-- A COMPLETION entry. -/
def completion (request : Nat) (st : Status) (tag length : Nat) (data : List Nat) : Result :=
  { request, status := st, kind := kCompletion, tag, data, length }

/-- The Order Book entry that a submission names. -/
def State.named (s : State) (p : Nat) (e : Sub) : Option Nat := s.findReq p (Sub_request e)

/-- Post the COMPLETION of a submission that is refused, in the submitting ring (R249, R262). Log: 64 DEDUCED, 65 DEDUCED. -/
def State.refuseSub (s : State) (n : Nat) (e : Sub) (st : Status) : State :=
  let len := match s.plotOfQp n with
    | some p => (match s.named p e with | some i => (s.obAt i).committed | none => 0)
    | none => 0
  s.post n [if Sub_op e = 1 then completion 0xFFFFFFFF st (Sub_tag e) 0 []
            else completion (Sub_request e) st (Sub_tag e) len []]

/-- The Drover that serves a ring's plot (R256). -/
def State.droverOf (s : State) (n : Nat) : Option Nat := (s.plotOfQp n).map (fun p => s.cell (0x3000 + p) 0xB)

/-- Whether ring `n` is the next from which its Drover fetches (R247): the rings of a Drover that have entries take turns, in the order
of their numbers, from ring 0 on at first. A ring that is bound to no plot has no Drover. Log: 125 DESIGN CHOICE. -/
def State.ringNext (s : State) (n : Nat) : Bool :=
  match s.droverOf n with
  | none => true
  | some d =>
    let after := fun (m : Nat) => (m + 16383 - Tab.get 16383 s.procs.ringTurn d) % 16384
    s.qps.all (fun e => !(e.2.st == .active && e.2.sqHead != e.2.sqTail && s.droverOf e.1 == some d) || decide (after n ≤ after e.1))

/-- Its Drover has fetched from a ring (R247). -/
def State.ringFetched (s : State) (n : Nat) : State :=
  match s.droverOf n with
  | none => s
  | some d => { s with procs := { s.procs with ringTurn := Tab.set 16383 s.procs.ringTurn d n } }

/-- Process the entry at SQ_HEAD (R247), if the ring is next: the plot's own state, then R249's first row, then the opcode's checks and effect. An entry
with a reserved opcode has no command of its own and is answered whichever command carries it. Log: 64 DEDUCED. -/
def State.submission (s : State) (n : Nat) (e : Sub) (op : Nat) (act : State → Nat → State × Option Status) : State :=
  let q := s.qp n
  if q.st ≠ .active ∨ q.sqHead = q.sqTail ∨ (Sub_op e ≠ op ∧ 1 ≤ Sub_op e ∧ Sub_op e ≤ 6) ∨ s.ringNext n = false then s
  else
    let s1 := (s.ringFetched n).updQp n (fun q => { q with sqHead := (q.sqHead + 1) % q.sqSize })
    match s1.plotOfQp n with
    | none => s1.refuseSub n e .denied
    | some p =>
      match s1.plotAnswers p (Sub_op e) with
      | some st => s1.refuseSub n e st
      | none =>
        if Sub_bad e then s1.refuseSub n e .badValue
        else
          let r := act s1 p
          match r.2 with
          | some st => r.1.refuseSub n e st
          | none => r.1

/-- Post the COMPLETION of an accepted submission in the request's ring, if ACK asks for it (R251). Log: 65 DEDUCED. -/
def State.ack (s : State) (i : Nat) (e : Sub) : State :=
  if Sub_ack e then
    let o := s.obAt i
    s.post o.qp [completion o.request .done (Sub_tag e) o.committed []]
  else s

/-- The lowest Order Book entry that is FREE. Log: 16 DESIGN CHOICE. -/
def State.freeOb (s : State) : Nat :=
  ((List.range (s.ob.length + 1)).find? (fun i => (s.obAt i).st == .free)).getD 0

/-- The entry that an accepted OPEN makes (R250, R251). -/
def openOb (s : State) (n p : Nat) (e : Sub) : Ob :=
  ({ request := Sub_request e, plot := p, mslot := bits e.q1.toNat 3 0, st := .queued, priority := bits e.q1.toNat 6 4,
     dropOnMiss := bit e.q0.toNat 10, latClass := bits e.q1.toNat 11 8, depth := Sub_depth e, qp := n, budget := Sub_budget e,
     coolDelay := bits e.q4.toNat 63 32, admitted := s.nextAdmit,
     inputs := [{ addr := e.q3.toNat, count := Sub_count e, deadline := Sub_deadline e, tag := Sub_tag e, at_ := s.now,
                  joined := true, append := false }] } : Ob).startTurn

/-- OPEN (R249, R251). Log: 64 DEDUCED. -/
def execOpenReq (qp : QpId) (e : Sub) (s : State) : Host.Outcome State Fault Refusal :=
  .next (s.submission qp.val e 1 (fun s p =>
    if (s.named p e).isSome then (s, some .busy)
    else if s.cell (0x3000 + p) 5 ≤ s.obUsed p then (s, some .noSpace)
    else
      match s.model p (bits e.q1.toNat 3 0) with
      | none => (s, some .badIndex)
      | some mdl =>
        if s.cell (0x3100 + p) 3 ≠ 5 then (s, some .badIndex)
        else if mdl.contextLimit < Sub_count e then (s, some .badValue)
        else
          let i := s.freeOb
          let s1 := { s with ob := Tab.set {} s.ob i (openOb s qp.val p e), nextAdmit := s.nextAdmit + 1 }
          (((s1.bump 64 0xA000 3 1).trigger p).ack i e, none)))

/-- A session that wakes keeps the frames whose spill is under way (R226). -/
def Ob.wake (o : Ob) : Ob :=
  o.pages.foldl (fun o e => let w := o.page e.1 e.2
    if pgState w = 3 then o.setPage e.1 e.2 (pgWord 2 (pgFrame w)) else o) o

/-- The state in which an accepted APPEND leaves a request (R251, R253): in DECODE it waits for the turn's end, in QUEUED and PREFILL it
joins the input; INTERRUPT is pending until the turn ends. With no turn in progress there is none to end, and the append starts one.
Log: 47 DEDUCED, 66 DEDUCED, 67 DEDUCED. -/
def Ob.takeAppend (o : Ob) (x : Input) (interrupt : Bool) : Ob :=
  match o.st with
  | .waitInput => ({ o with st := .prefill, inputs := o.inputs ++ [x] }).startTurn
  | .pausedCool => ({ o.wake with st := .prefill, inputs := o.inputs ++ [x] }).startTurn
  | .decode => { o with inputs := o.inputs ++ [x], interrupt := o.interrupt || interrupt }
  | _ => { o with inputs := o.inputs ++ [{ x with joined := true }], interrupt := o.interrupt || interrupt }

/-- APPEND (R249, R251, R253, R257). Log: 47 DEDUCED, 64 DEDUCED, 67 DEDUCED. -/
def execAppend (qp : QpId) (e : Sub) (s : State) : Host.Outcome State Fault Refusal :=
  .next (s.submission qp.val e 2 (fun s p =>
    match s.named p e with
    | none => (s, some .badIndex)
    | some i =>
      let o := s.obAt i
      if o.st.live = false ∨ o.st = .draining then (s, some .badIndex)
      else if 4 ≤ (o.inputs.filter Input.append).length then (s, some .busy)
      else
        let x : Input := { addr := e.q3.toNat, count := Sub_count e, deadline := Sub_deadline e, tag := Sub_tag e, at_ := s.now,
                           joined := false, append := true }
        (((s.updOb i (fun o => o.takeAppend x (bit e.q0.toNat 9))).trigger p).ack i e, none)))

/-- HINT (R230, R231, R251): in PAUSED_COOL the fill starts and the session is protected from a new spill. Log: 71 DEDUCED. -/
def execHintSubmission (qp : QpId) (e : Sub) (s : State) : Host.Outcome State Fault Refusal :=
  .next (s.submission qp.val e 3 (fun s p =>
    match s.named p e with
    | none => (s, some .badIndex)
    | some i =>
      if (s.obAt i).st.live = false then (s, some .badIndex)
      else
        let s1 := if (s.obAt i).st = .pausedCool then s.updOb i (fun o => { o with filling := o.unfilled, hintAt := some s.now }) else s
        (s1.wakeP4.ack i e, none)))

/-- CANCEL (R249, R254, R255). -/
def execCancel (qp : QpId) (e : Sub) (s : State) : Host.Outcome State Fault Refusal :=
  .next (s.submission qp.val e 4 (fun s p =>
    match s.named p e with
    | none => (s, some .badIndex)
    | some i =>
      let o := s.obAt i
      if o.st = .cancelled then (s, some .cancelled)
      else if o.st.live = false then (s, some (o.final.getD .done))
      else
        let s1 := s.endRequest i .cancelled .cancelled (Sub_tag e)
        let s2 := if o.qp = qp.val then s1
          else s1.post qp.val [completion o.request .done (Sub_tag e) o.committed []]
        (s2.settle i, none)))

/-- CLOSE (R228, R249, R251): the COMPLETION first, then DRAINING, then, once every frame is back, DONE. The FINAL entry carries the
TAG of the CLOSE. Log: 124 DESIGN CHOICE. -/
def execClose (qp : QpId) (e : Sub) (s : State) : Host.Outcome State Fault Refusal :=
  .next (s.submission qp.val e 5 (fun s p =>
    match s.named p e with
    | none => (s, some .badIndex)
    | some i =>
      let o := s.obAt i
      if o.st.live = false then (s, some .badIndex)
      else
        let s1 := s.post o.qp [completion o.request .done (Sub_tag e) o.committed []]
        (if o.st = .draining then s1 else (s1.updOb i (fun o => { o with tag := Sub_tag e })).startDrain i, none)))

/-- STATUS (R249, R262): answered in the submitting ring; no due time reads 0. Log: 65 DEDUCED. -/
def execStatus (qp : QpId) (e : Sub) (s : State) : Host.Outcome State Fault Refusal :=
  .next (s.submission qp.val e 6 (fun s p =>
    match s.named p e with
    | none => (s, some .badIndex)
    | some i =>
      let o := s.obAt i
      if o.st.live = false then (s, some .badIndex)
      else (s.post qp.val [completion o.request .done (Sub_tag e) o.committed
        [o.st.code, o.committed, o.provisional, ((s.dueOf o).getD 0) % 2 ^ 32]], none)))

/-! ### Time in the Order Book (R251, R257) -/

/-- COOL_DELAY_EXPIRE (R251): 0xFFFF_FFFF never elapses. -/
def execCoolDelayExpire (p : PlotId) (request : U32) (s : State) : Host.Outcome State Fault Refusal :=
  .next (
    match s.findReq p.val request.toNat with
    | none => s
    | some i =>
      let o := s.obAt i
      if o.st = .waitInput ∧ o.coolDelay ≠ 0xFFFFFFFF ∧ o.since + o.coolDelay * 1000 ≤ s.now then s.toCool i else s)

/-- DEADLINE_MISS (R82, R251, R257): the first miss of a turn is counted and posted, or ends the request under DROP_ON_MISS. -/
def execDeadlineMiss (p : PlotId) (request : U32) (s : State) : Host.Outcome State Fault Refusal :=
  .next (
    match s.findReq p.val request.toNat with
    | none => s
    | some i =>
      let o := s.obAt i
      match s.dueOf o with
      | none => s
      | some d =>
        if o.missed ∨ 0 ≤ dueIn d s.usNow then s
        else
          let recent := ((Tab.get [] s.ev.missAt p.val).filter (fun t => decide (s.now < t + second))) ++ [s.now]
          let s1 := { s.updOb i (fun o => { o with missed := true }) with ev := { s.ev with missAt := Tab.set [] s.ev.missAt p.val recent } }
          let s2 := (s1.bump 64 (0xA100 + p.val) 4 1).raiseLimited 0x3404 p.val second p.val [p.val, request.toNat, recent.length]
          if o.dropOnMiss then (s2.endRequest i .cancelled .deadlineMissed o.tag).settle i
          else s2.post o.qp [o.entry .deadlineMissed kState o.tag [o.st.code]])

end Sys2Proof.Machine
end

