-- ==== Sys2Proof/Machine/HostPorts.lean ====
section
/-! DEFINITION. The two host ports: links, functions, queue contexts, failover, mailboxes and the Key Rack (R270 to R293). -/

namespace Sys2Proof.Machine

/-! ### Keys (R282 to R287) -/

/-- Release a held key without a GIVE (R287, R292). -/
def State.releaseKey (s : State) (k cause : Nat) : State :=
  let h := s.holder k
  if h = 0 ∨ (3 ≤ k ∧ k ≤ 15) then s
  else ((s.setHolder k 0).bump 32 0x2100 4 1).raise 0x2101 0xFF [k, h, cause]

/-- Release every key of a holder (R287). -/
def State.releaseKeysOf (s : State) (h cause : Nat) : State :=
  ((s.keys.filter (fun e => e.2 == h)).map Prod.fst).foldl (fun s k => s.releaseKey k cause) s

/-- Take a key: 0 when granted, else the holder ID, and nothing changes (R282, R284). -/
def State.takeKey (s : State) (w : Requester) (k : Nat) : Nat × State :=
  if s.holder k = 0 ∨ s.holds w k then (0, s.setHolder k (holderId w)) else (s.holder k, s)

/-- Give a key: whether the giver held it (R284). -/
def State.giveKey (s : State) (w : Requester) (k : Nat) : Bool × State :=
  if s.holds w k then (true, s.setHolder k 0) else (false, s.bump 32 0x2100 3 1)

/-- A session ends (R387): its keys are released, its subscription ends, E-2302. Log: 62 DESIGN CHOICE. -/
def State.endSession (s : State) (n cause keyCause : Nat) : State :=
  match s.session n with
  | none => s
  | some _ =>
    let s1 := s.releaseKeysOf (0x3000 + n) keyCause
    { s1 with sessions := Tab.set none s1.sessions n none }.raise 0x2302 0xFF [n, cause]

/-- Sessions that exist, with their numbers. -/
def State.openSessions (s : State) : List (Nat × Session) :=
  s.sessions.filterMap (fun e => e.2.map (fun x => (e.1, x)))

/-- The sessions opened through a port's mailbox end with its link (R417); E-2302 calls it revocation (DESIGN CHOICE).
Log: 62 DESIGN CHOICE. -/
def State.endVia (s : State) (x : Port) : State :=
  (s.openSessions.filter (fun e => e.2.via == some x)).foldl (fun s e => s.endSession e.1 2 4) s

/-- TAKE (R282, R285): a virtual function reads 0xFFFF, or all ones while it belongs to no plot (R274, R275). -/
def execTake (fn : Func) (k : Fin 64) (s : State) : Host.Outcome State Fault Refusal :=
  .next (
    if s.portUp fn.port = false then s
    else match fn.vf with
      | some v => s.emit (.busRead (if (s.vfPlot fn.port v.val).isSome then 0xFFFF else 0xFFFFFFFF))
      | none =>
        let r := s.takeKey (.host fn) k.val
        r.2.emit (.busRead r.1))

/-- GIVE (R282, R284): a virtual function's write is ignored (R275). -/
def execGive (fn : Func) (k : Fin 64) (s : State) : Host.Outcome State Fault Refusal :=
  .next (
    if s.portUp fn.port = false ∨ fn.vf.isSome then s
    else (s.giveKey (.host fn) k.val).2)

/-- FORCE_RELEASE (R292): from the management network alone. -/
def execForceRelease (f : Sender) (body : List Byte) (s : State) : Host.Outcome State Fault Refusal :=
  .next (s.serveWrite f 0x2100 2 body (fun _ => none) (fun s => s.releaseKey (ofLe body) 5))

/-! ### Links (R271, R287, R288) -/

/-- Subindex 0x00 or 0x10 of a port's entries at 2000 (R292). -/
def portSub : Port → Nat
  | .a => 0
  | .b => 0x10

/-- Whether a link may stand: generation 4 to 6, width 4, 8 or 16 (R270, R271). -/
def linkOk (gen width : Nat) : Bool := (gen == 4 || gen == 5 || gen == 6) && (width == 4 || width == 8 || width == 16)

/-- The word of 2000:02 (R292): FLIT mode at generation 6 only (R270). -/
def linkWord (gen width : Nat) : Nat := gen + width * 256 + (if gen = 6 then 65536 else 0)

/-- Whether the processors' firmware runs, so that ports train (R429, R430). -/
def State.booted (s : State) : Bool := s.rst.phase != .alwaysOn && s.rst.phase != .down

/-- The host ports begin to train (R429): PORT_STATE of both (R292). -/
def State.portsTrain (s : State) : State := (s.setCell 0x2000 1 1).setCell 0x2000 0x11 1

/-- PORT_LINK_UP (R271, R293): a port that cannot train at x4 and 16 GT/s stays down. -/
def execPortLinkUp (x : Port) (gen : Fin 8) (width : Fin 17) (s : State) : Host.Outcome State Fault Refusal :=
  .next (
    if s.portUp x ∨ s.booted = false then s
    else if linkOk gen.val width.val = false then s.setCell 0x2000 (portSub x + 1) 0
    else
      let s1 := (s.setCell 0x2000 (portSub x + 1) 2).setCell 0x2000 (portSub x + 2) (linkWord gen.val width.val)
      let s2 := s1.raise 0x2001 0xFF [x.n, gen.val, width.val]
      if gen.val < 6 ∨ width.val < 16 then s2.raise 0x2003 0xFF [x.n, gen.val, width.val] else s2)

/-- PORT_RETRAIN (R271): to a lower rate or width. -/
def execPortRetrain (x : Port) (gen : Fin 8) (width : Fin 17) (s : State) : Host.Outcome State Fault Refusal :=
  .next (
    let w := s.cell 0x2000 (portSub x + 2)
    if s.portUp x = false ∨ linkOk gen.val width.val = false ∨ ¬(gen.val < bits w 7 0 ∨ width.val < bits w 15 8) then s
    else (s.setCell 0x2000 (portSub x + 2) (linkWord gen.val width.val)).raise 0x2003 0xFF [x.n, gen.val, width.val])

/-- Cause codes of E-2002 and E-2101 (R287, R293). -/
def portCauseCode : PortCause → Nat
  | .linkDown => 0 | .hotReset => 1 | .perst => 2 | .flr => 3

/-- What the functions of a port hold is gone: mailboxes and latched words (R274, R287). `one` names a single virtual function. -/
def State.clearFuncs (s : State) (x : Port) (one : Option Nat) : State :=
  let mine := fun (k : Nat) => match one with
    | some v => k == x.n * 32 + v + 1
    | none => k / 32 == x.n
  { s with mailbox := Tab.keep (fun k => !mine k) s.mailbox, latch := Tab.keep (fun k => !mine (k / 2)) s.latch }

/-- Host-memory entries outstanding on a port complete with LINK_DOWN (R288): the lines that they were to fill wait no more. -/
def LoomSt.dropHost (l : LoomSt) (x : Port) : LoomSt :=
  let gone := (l.queue 5).entries.filter (fun e => match e.req with
    | .host y _ _ _ _ => y == x && e.status.isNone
    | _ => false)
  (gone.foldl (fun l e => l.unmark 5 e.ticket) l).updQueue 5 (fun u => { u with entries := u.entries.map (fun e => match e.req with
    | .host y _ _ _ _ => if y = x ∧ e.status.isNone then { e with status := some .linkDown } else e
    | _ => e) })

/-- Where a queue pair goes when its port is lost (R288): to the other port, or it stops, with the reason of E-2202.
Log: 50 DEDUCED. -/
def State.moveOrStop (s : State) (n : Nat) (x : Port) : Option Nat :=
  if bit (s.qp n).c2.toNat 17 = false then some 0
  else if s.portUp x.other = false then some 1
  else if (s.qpFunc n x.other).isNone then some 2
  else none

/-- Whether a lost port has a queue pair without FAILOVER, or one and the other port is down (R397). -/
def State.strands (s : State) (x : Port) : Bool :=
  s.qps.any (fun e => e.2.st == .active && e.2.active == x && (s.moveOrStop e.1 x == some 0 || s.moveOrStop e.1 x == some 1))

/-- Stop queue pairs and report them by reason (R293). Log: 50 DEDUCED. -/
def State.stopQps (s : State) (ns : List Nat) (reason : Nat) : State :=
  if ns = [] then s
  else (ns.foldl (fun s n => s.updQp n (fun q => { q with st := .stopped, rewrite := none })) s).raise 0x2202 0xFF
    [ns.length, reason]

/-- Failover of the queue pairs of a lost port: Switch of those that move; the others stop (R288). Log: 50 DEDUCED. -/
def State.failover (s : State) (x : Port) : State :=
  let qs := (s.qps.filter (fun e => e.2.st == .active && e.2.active == x)).map Prod.fst
  let go := qs.filter (fun n => (s.moveOrStop n x).isNone)
  let s1 := go.foldl (fun s n => s.updQp n (fun q => { q with active := x.other, rewrite := some x })) s
  let s2 := { s1.bump 32 0x2000 0x20 go.length with moved := Tab.upd 0 s1.moved x.n (· + go.length) }
  [0, 1, 2].foldl (fun t r => t.stopQps (qs.filter (fun n => s.moveOrStop n x == some r)) r) s2

/-- PORT_STATE after a loss (R292): a port that lost its link is DOWN; one that was reset trains again once the reset ends, which the
step holds. Log: 126 DESIGN CHOICE. -/
def afterLoss : PortCause → Nat
  | .linkDown => 0 | .hotReset => 1 | .perst => 1 | .flr => 2

/-- PORT_LINK_DOWN (R274, R287, R288, R291, R293). PERST_N resets a port whose link is down too; the other causes need the link. After a
function-level reset the link itself stays up. -/
def execPortLinkDown (x : Port) (cause : PortCause) (s : State) : Host.Outcome State Fault Refusal :=
  .next (
    if s.portUp x = false ∧ (cause ≠ .perst ∨ s.booted = false) then s
    else
      let s1 := if cause = .flr then s else
        (s.setCell 0x2000 (portSub x + 1) (afterLoss cause)).setCell 0x2000 (portSub x + 2) 0
      let s2 := ((s1.bump 32 0x2000 (portSub x + 3) 1).clearFuncs x none).raise 0x2002 0xFF [x.n, portCauseCode cause]
      let s3 := s2.plotsNow.foldl (fun s p => s.noteBusy p) s2
      let s4 := (s3.looms.map Prod.fst).foldl (fun s n => s.updLoom n (fun l => l.dropHost x)) s3
      let s5 := s4.noteLapse (s4.lapseOf (if s4.strands x then some 4 else none))
      let s6 := if cause = .flr then s5 else s5.endVia x
      ((s6.releaseKeysOf (holderId (.host { port := x, vf := none })) (portCauseCode cause)).failover x).failoverEnds)

/-- VF_FLR (R287): the queue pairs that use the function stop. Log: 50 DEDUCED, 74 DEDUCED. -/
def execVfFlr (x : Port) (vf : Fin 16) (s : State) : Host.Outcome State Fault Refusal :=
  .next (
    if s.portUp x = false then s
    else
      let qs := (s.qps.filter (fun e => e.2.st == .active && e.2.active == x && bit e.2.c2.toNat 20
        && s.qpFunc e.1 x == some { port := x, vf := some vf })).map Prod.fst
      ((s.clearFuncs x (some vf.val)).stopQps qs 4).failoverEnds)

/-- Write the entries from RQ_HEAD to RQ_TAIL again, with the same contents and PHASE (R288, R290). -/
def State.rewriteRing (s : State) (n : Nat) : State :=
  let q := s.qp n
  (List.range q.rqUsed).foldl (fun s k =>
    let i := (q.rqHead + k) % q.rqSize
    match Tab.get none q.ring i with
    | some (r, ph) => s.emitResult n q.active i (r.words ph)
    | none => s) s

/-- FAILOVER_REWRITE (R288, R289): the entries are written through the other port; an IOMMU fault on it stops the queue pair.
Log: 50 DEDUCED. -/
def execFailoverRewrite (qp : QpId) (fault : Bool) (s : State) : Host.Outcome State Fault Refusal :=
  .next (
    match (s.qp qp.val).rewrite with
    | none => s
    | some x =>
      if fault then (s.stopQps [qp.val] 3).failoverEnd x
      else ((s.rewriteRing qp.val).updQp qp.val (fun q => { q with rewrite := none })).failoverEnd x)

/-! ### Queue contexts (R278, R279, R290) -/

/-- An ignored write of a queue context is counted for the queue pair's plot, if it has one (R278). Log: 49 DEDUCED. -/
def State.countContext (s : State) (n : Nat) : State :=
  match s.plotOfQp n with
  | some p => s.bump 32 (0x3000 + p) 0xC 1
  | none => s

/-- c2 without ENABLE and USE_VF. Log: 49 DEDUCED. -/
def c2Plain (v : Nat) : Nat := setBit (setBit v 16 false) 20 false

/-- QUEUE_CONTEXT_WRITE (R275, R278): c5 to c7 are reserved words, and c4 holds the engine's fields. Writes of c2 that set or clear
ENABLE are the next commands'. Log: 49 DEDUCED. -/
def execQueueContextWrite (fn : Func) (n : QpId) (word : Fin 8) (v : U64) (s : State) : Host.Outcome State Fault Refusal :=
  .next (
    match s.qpIndex fn n.val with
    | none => s
    | some k =>
      let q := s.qp k
      if s.barOpen fn = false then s
      else if word.val = 2 ∧ (bit v.toNat 16 ≠ bit q.c2.toNat 16 ∨ (bit v.toNat 16 ∧ q.st = .stopped)) then s
      else if 5 ≤ word.val then s
      else if q.st ≠ .disabled then s.countContext k
      else s.updQp k (fun q => match word.val with
        | 0 => { q with c0 := v }
        | 1 => { q with c1 := v }
        | 2 => { q with c2 := BitVec.ofNat 64 (c2Plain v.toNat) }
        | 3 => { q with c3 := v }
        | _ => q))

/-- What the engine finds wrong with a context at enable (R279): c2 as written, and the words that stand. Log: 49 DEDUCED. -/
def Qp.contextBad (q : Qp) (c2 : Nat) : Bool :=
  let a := bits c2 4 0
  let b := bits c2 12 8
  decide (a < 4 ∨ 16 < a ∨ b < 4 ∨ 16 < b ∨ q.c0.toNat % 4096 ≠ 0 ∨ q.c1.toNat % 4096 ≠ 0 ∨ bits c2 7 5 ≠ 0 ∨ bits c2 15 13 ≠ 0
    ∨ bits c2 63 21 ≠ 0 ∨ bits q.c3.toNat 15 11 ≠ 0 ∨ bits q.c3.toNat 63 27 ≠ 0)

/-- QP_ENABLE (R279). -/
def execQpEnable (fn : Func) (n : QpId) (v : U64) (s : State) : Host.Outcome State Fault Refusal :=
  .next (
    match s.qpIndex fn n.val with
    | none => s
    | some k =>
      let q := s.qp k
      if s.barOpen fn = false ∨ bit v.toNat 16 = false ∨ q.st ≠ .disabled then s
      else
        let c2 := setBit v.toNat 20 fn.vf.isSome
        let home : Port := if bit v.toNat 19 then .b else .a
        if q.contextBad (setBit v.toNat 20 false) ∨ (s.plotOfQp k).isNone then
          s.updQp k (fun q => { q with c2 := BitVec.ofNat 64 c2, st := .error })
        else
          s.updQp k (fun q => { q with c2 := BitVec.ofNat 64 c2, st := .active, active := home, sqTail := 0, sqHead := 0, rqTail := 0,
                                       rqHead := 0, phase := true, ring := [], rewrite := none }))

/-- FINAL entries that stand in a ring count as consumed when the ring goes away: no head doorbell can consume them any more.
Log: 74 DEDUCED. -/
def State.dropRing (s : State) (n : Nat) : State :=
  (s.qp n).ring.foldl (fun s e => match e.2 with
    | some (r, _) => if r.ob = 0 then s else (s.updOb (r.ob - 1) (fun o => { o with consumed := true })).maybeFree (r.ob - 1)
    | none => s) s

/-- A queue pair becomes DISABLED, its three indices zero (R279); what waits stays waiting (R260). -/
def State.disableQp (s : State) (n : Nat) : State :=
  (s.dropRing n).updQp n (fun q => { q with
    st := .disabled, c2 := BitVec.ofNat 64 (c2Plain q.c2.toNat), sqTail := 0, sqHead := 0, rqTail := 0, rqHead := 0, phase := true,
    ring := [], rewrite := none })

/-- A write of c2 whose other fields differ from what stands is ignored in them and counted (R278). -/
def State.countFields (s : State) (k : Nat) (v : U64) : State :=
  if c2Plain v.toNat = c2Plain (s.qp k).c2.toNat then s else s.countContext k

/-- QP_DISABLE (R279). Log: 50 DEDUCED, 74 DEDUCED. -/
def execQpDisable (fn : Func) (n : QpId) (v : U64) (s : State) : Host.Outcome State Fault Refusal :=
  .next (
    match s.qpIndex fn n.val with
    | none => s
    | some k =>
      if s.barOpen fn = false ∨ bit v.toNat 16 ∨ (s.qp k).st = .disabled then s else ((s.countFields k v).disableQp k).failoverEnds)

/-- The port on which a STOPPED queue pair resumes: the one it was enabled for, or the other under R288 (R290). -/
def State.resumePort (s : State) (k : Nat) : Option Port :=
  let home : Port := if bit (s.qp k).c2.toNat 19 then .b else .a
  if s.portUp home then some home
  else if (s.moveOrStop k home).isNone then some home.other
  else none

/-- QP_RESUME (R279, R290). -/
def execQpResume (fn : Func) (n : QpId) (v : U64) (s : State) : Host.Outcome State Fault Refusal :=
  .next (
    match s.qpIndex fn n.val with
    | none => s
    | some k =>
      if s.barOpen fn = false ∨ bit v.toNat 16 = false ∨ (s.qp k).st ≠ .stopped then s
      else
        let s1 := s.countFields k v
        match s1.resumePort k with
        | none => s1
        | some x => (s1.updQp k (fun q => { q with st := .active, active := x })).rewriteRing k)

/-! ### Identity and mailbox (R276, R280, R281) -/

/-- A 64-bit identity quantity (R276). -/
def State.identity (s : State) : Identity → Nat
  | .serial => s.factory.serial % 2 ^ 64
  | .timebase => s.now % 2 ^ 64

/-- Where a function's latched high word stands. -/
def latchKey (fn : Func) (r : Identity) : Nat := fn.n * 2 + (match r with | .serial => 0 | .timebase => 1)

/-- IDENTITY_LOW_READ (R276): the high word is latched for the function. -/
def execIdentityLowRead (fn : Func) (r : Identity) (s : State) : Host.Outcome State Fault Refusal :=
  .next (
    if s.portUp fn.port = false then s
    else if s.barOpen fn = false then s.emit (.busRead 0xFFFFFFFF)
    else
      let v := s.identity r
      { s with latch := Tab.set none s.latch (latchKey fn r) (some (v / 2 ^ 32)) }.emit (.busRead (v % 2 ^ 32)))

/-- HEARTBEAT_TICK (R276): by the active Reeve. -/
def execHeartbeatTick (s : State) : Host.Outcome State Fault Refusal :=
  .next (
    if s.booted = false ∨ s.procs.reeveLost then s
    else { s with procs := { s.procs with heartbeat := (s.procs.heartbeat + 1) % 2 ^ 32 } })

/-- Check 2 of R371: MAGIC, VERSION, COMMAND, LENGTH and reserved fields of a mailbox frame (R381 to R383). Log: 51 DEDUCED. -/
def frameBad (len : Nat) (b : List Byte) : Bool :=
  let cmd := field b 3 1
  decide (b.length ≠ len ∨ len < 24 ∨ 4096 < len ∨ field b 0 2 ≠ 0x474C ∨ field b 2 1 ≠ 1 ∨ cmd = 0 ∨ 8 < cmd
    ∨ field b 4 2 + 24 ≠ len ∨ (field b 8 1 ≠ 0 ∧ cmd ≠ 8) ∨ 1 < field b 9 1 ∨ (5 ≤ cmd ∧ field b 10 3 ≠ 0)
    ∨ field b 13 3 ≠ 0 ∨ field b 16 4 ≠ 0)

/-- MB_GO (R280): a frame is submitted unless one is in progress; a malformed frame is answered with BAD_VALUE (R371).
Log: 51 DEDUCED, 63 DEDUCED. -/
def execMbGo (fn : Func) (ctrl : U32) (frame : List Byte) (s : State) : Host.Outcome State Fault Refusal :=
  if Instr.wf (.mbGo fn ctrl frame) = false then .fault .illFormed
  else .next (
    let len := bits ctrl.toNat 12 0
    if s.barOpen fn = false ∨ s.serving = false ∨ bit ctrl.toNat 31 = false ∨ (s.box fn).busy then s
    else
      let b := frame.take len
      let s1 := s.updBox fn (fun m => { m with request := b, busy := true, arrived := s.arrival, newSeq := bits ctrl.toNat 23 16, status := 1, ready := false })
      if frameBad len b then
        let r : Reply := { status := .badValue }
        (s1.emit (.reply (.host fn) (field b 6 2) r)).updBox fn (fun m =>
          m.respond (field b 3 1) (field b 6 2) (field b 10 2) (field b 12 1) r)
      else s1)

end Sys2Proof.Machine
end

