-- ==== Sys2Proof/Machine/BarMap.lean ====
section
/-!
DEFINITION. What a function of a host port shows in its configuration space and in its BAR (R272, R273, R275 to R278, R280, R282): the
reads without a command of their own. A read has an effect only where TAKE or IDENTITY_LOW_READ says so.
-/

namespace Sys2Proof.Machine

/-! ### Configuration space (R272, R273) -/

/-- Class code of a physical function: processing accelerator. -/
def classCode : Nat := 0x120000

/-- Vendor ID of every function. -/
def vendorId : Nat := Config.vendorId.toNat

/-- Device ID of a function. -/
def deviceId (fn : Func) : Nat := if fn.vf.isNone then 0x0C33 else 0x0C34

/-- Device Serial Number capability of a port function: the engine serial of 1000:03. -/
def State.deviceSerial (s : State) : Nat := s.identity .serial

/-- Bytes of a function's one BAR, 64-bit and non-prefetchable. -/
def barSize (fn : Func) : Nat := if fn.vf.isNone then 64 * 2 ^ 20 else 32 * 2 ^ 20

/-! ### The regions of the BAR (R275) -/

/-- What a read returns where the map names nothing. -/
def allOnes : Nat := 0xFFFFFFFF

/-- PORT_STATUS (R276). -/
def State.portStatus (s : State) (x : Port) : Nat :=
  let w := s.cell 0x2000 (portSub x.other + 2)
  x.n + (if s.portUp x.other then 2 + bits w 7 0 % 16 * 2 ^ 4 + bits w 15 8 % 32 * 2 ^ 8 else 0)
    + (if s.cell 0x7110 1 = x.n then 2 ^ 16 else 0) + (if s.rst.ready then 2 ^ 17 else 0)

/-- The high word of an identity quantity: as the last read of the low word through the function latched it (R276). -/
def State.identityHigh (s : State) (fn : Func) (r : Identity) : Nat :=
  (Tab.get none s.latch (latchKey fn r)).getD (s.identity r / 2 ^ 32)

/-- Identity and port status (R276). -/
def State.identityWord (s : State) (fn : Func) : Nat → Nat
  | 0x0 => 0x4E435733
  | 0x4 => s.classWord
  | 0x8 => s.identity .serial % 2 ^ 32
  | 0xC => s.identityHigh fn .serial
  | 0x10 => s.portStatus fn.port
  | 0x18 => s.identity .timebase % 2 ^ 32
  | 0x1C => s.identityHigh fn .timebase
  | 0x20 => s.procs.heartbeat
  | _ => allOnes

/-- The Key Rack (R275, R282): word `off` of key k. -/
def State.rackWord (s : State) (fn : Func) (k off : Nat) : Nat :=
  if off = 0 then (if fn.vf.isSome then 0xFFFF else (s.takeKey (.host fn) k).1)
  else if off = 8 then (if fn.vf.isSome then 0xFFFF else s.holder k)
  else 0

/-- MB_STATUS (R280). -/
def Mailbox.statusWord (m : Mailbox) : Nat :=
  (if m.ready then m.status else Status.code .notReady) + m.lastSeq * 2 ^ 16 + (if m.ready then 2 ^ 24 else 0)

/-- Four bytes of a buffer, lowest first; past its end zeros. -/
def bufferWord (b : List Byte) (off : Nat) : Nat := field (b ++ List.replicate 4096 0) off 4

/-- The Ledger mailbox (R280): MB_CTRL is the host's to write, and reads zero (R275). -/
def Mailbox.word (m : Mailbox) (off : Nat) : Nat :=
  if off = 0 then 0
  else if off = 4 then m.statusWord
  else if 0x1000 ≤ off ∧ off < 0x2000 then bufferWord m.request (off - 0x1000)
  else if 0x2000 ≤ off ∧ off < 0x3000 then bufferWord m.response (off - 0x2000)
  else allOnes

/-- QP_STATE codes (R278). -/
def QpState.code : QpState → Nat
  | .disabled => 0 | .active => 1 | .stopped => 2 | .error => 3

/-- The eight 64-bit words of a queue context (R278). -/
def State.contextWord (s : State) (n w : Nat) : Nat :=
  let q := s.qp n
  match w with
  | 0 => q.c0.toNat
  | 1 => q.c1.toNat
  | 2 => q.c2.toNat
  | 3 => q.c3.toNat
  | 4 => q.sqHead + q.rqTail * 2 ^ 16 + q.rqHead * 2 ^ 32 + ((s.plotOfQp n).getD Config.noPlot.toNat) * 2 ^ 48 + q.st.code * 2 ^ 52
      + q.active.n * 2 ^ 55
  | _ => 0

/-- A 32-bit read through a function's BAR at an offset that is a multiple of four (R273, R275): TAKE and the low words of identity
change the state besides, by their commands. Log: 51 DEDUCED. -/
def State.barWord (s : State) (fn : Func) (off : Nat) : Nat :=
  if s.barOpen fn = false ∨ barSize fn ≤ off then allOnes
  else if off < 0x10000 then s.identityWord fn off
  else if off < 0x10400 then s.rackWord fn ((off - 0x10000) / 16) ((off - 0x10000) % 16)
  else if 0x20000 ≤ off ∧ off < 0x23000 then (s.box fn).word (off - 0x20000)
  else if 0x100000 ≤ off ∧ off < 0x120000 then (if (s.qpIndex fn ((off - 0x100000) / 8)).isSome then 0 else allOnes)
  else if 0x1000000 ≤ off ∧ off < 0x1100000 then
    match s.qpIndex fn ((off - 0x1000000) / 64) with
    | some n => s.contextWord n ((off - 0x1000000) % 64 / 8) / (if off % 8 = 4 then 2 ^ 32 else 1) % 2 ^ 32
    | none => allOnes
  else allOnes

end Sys2Proof.Machine
end

