-- ==== Sys2Proof/Machine/Ethernet.lean ====
section
/-! DEFINITION. Ethernet ports and the plots' RoCEv2 paths (R294 to R301, R445). -/

namespace Sys2Proof.Machine

/-- A mode of an Ethernet port (R294): rate in GbE, SerDes lanes, lane rate in Mb/s times 1,000, PAM4 or NRZ, and the codeword length of
its FEC, of which 514 symbols are data. -/
structure EthModeRow where
  rate  : Nat
  lanes : Nat
  lane  : Nat
  pam4  : Bool
  fec   : Nat
  deriving DecidableEq, Repr

/-- The modes 1 to 11; mode 0 is off (R294). -/
def ethModes : List EthModeRow :=
  [⟨800, 8, 106250000, true, 544⟩, ⟨800, 4, 212500000, true, 544⟩, ⟨400, 4, 106250000, true, 544⟩, ⟨400, 2, 212500000, true, 544⟩,
   ⟨400, 8, 53125000, true, 544⟩, ⟨200, 2, 106250000, true, 544⟩, ⟨200, 4, 53125000, true, 544⟩, ⟨200, 1, 212500000, true, 544⟩,
   ⟨100, 1, 106250000, true, 544⟩, ⟨100, 2, 53125000, true, 544⟩, ⟨100, 4, 25781250, false, 528⟩]

/-- The row of a mode. -/
def ethModeRow (mode : Nat) : Option EthModeRow := if mode = 0 then none else ethModes[mode - 1]?

/-- Lanes that a mode uses, the lowest-numbered ones (R294). -/
def ethLanes (mode : Nat) : Nat := ((ethModeRow mode).map EthModeRow.lanes).getD 0

/-- Parcel capacity of a mode, in quarters of a GB/s (R299): 98 GB/s for 800GbE, and in proportion. -/
def modeCapacity4 (mode : Nat) : Nat := ((ethModeRow mode).map EthModeRow.rate).getD 0 * 392 / 800

/-- The mode of an Ethernet port (5000:01 to 5000:08). -/
def State.ethMode (s : State) (x : Nat) : Nat := s.cell 0x5000 (x + 1)

/-- The state of an Ethernet port (5000:11 to 5000:18): 0 DOWN, 1 TRAINING, 2 UP. -/
def State.ethState (s : State) (x : Nat) : Nat := s.cell 0x5000 (0x11 + x)

/-- ETH_MODE (R296): the mode it already has changes nothing; a change while a path on the port is enabled is refused. -/
def execEthMode (f : Sender) (port : EthId) (body : List Byte) (s : State) : Host.Outcome State Fault Refusal :=
  .next (s.serveWrite f 0x5000 (port.val + 1) body
    (fun s => if ofLe body ≠ s.ethMode port.val ∧ s.pathPlots port.val ≠ [] then some .busy else none)
    (fun s =>
      if ofLe body = s.ethMode port.val then s
      else
        let s1 := (s.setCell 0x5000 (port.val + 1) (ofLe body)).setCell 0x5000 (0x11 + port.val) (if ofLe body = 0 then 0 else 1)
        if s.ethState port.val = 2 then s1.raise 0x5002 0xFF [port.val, 2] else s1))

/-- ETH_LINK_UP (R296). -/
def execEthLinkUp (port : EthId) (s : State) : Host.Outcome State Fault Refusal :=
  .next (
    if s.ethState port.val ≠ 1 ∨ s.ethMode port.val = 0 then s
    else (s.setCell 0x5000 (0x11 + port.val) 2).raise 0x5001 0xFF [port.val, s.ethMode port.val])

/-- ETH_LINK_DOWN (R296): the port keeps trying. -/
def execEthLinkDown (port : EthId) (cause : Fin 2) (s : State) : Host.Outcome State Fault Refusal :=
  .next (
    if s.ethState port.val ≠ 2 then s
    else (s.setCell 0x5000 (0x11 + port.val) 1).raise 0x5002 0xFF [port.val, cause.val])

/-! ### Paths -/

/-- A write of a path descriptor that is refused whatever its ENABLE (R297): reserved fields, USE 3, KEY_SLOT 2 or 3. -/
def pathBad (d : List Byte) : Bool :=
  bits (pathWord d 1) 63 62 != 0 || bits (pathWord d 4) 31 25 != 0 || bits (pathWord d 6) 63 50 != 0 || pathWord d 7 != 0
    || pathUse d == 3 || decide (2 ≤ bits (pathWord d 6) 49 48)

/-- A descriptor without its ENABLE bit. -/
def pathPlain (d : List Byte) : List Nat := (List.range 8).map (fun k => if k = 1 then setBit (pathWord d 1) 61 false else pathWord d k)

/-- Why a path may not be enabled (R298). -/
def State.enableBad (s : State) (p i : Nat) (d : List Byte) : Option Status :=
  if s.ethMode (pathPort d) = 0 ∨ pathWord d 5 % 4096 ≠ 0 then some .badValue
  else if pathUse d ≠ 0 then none
  else if modeCapacity4 (s.ethMode (pathPort d)) <
      4 * (s.rateSum (fun q j => pathPort (s.pathDesc q j) == pathPort d && !(q == p && j == i)) + pathRate d) then some .noSpace
  else if 784 < s.rateSum (fun q j => !(q == p && j == i)) + pathRate d then some .noSpace
  else none

/-- The conditions of a descriptor write (R297, R298): an enabled path takes no other write than one that clears ENABLE alone. -/
def State.pathRefused (s : State) (p i : Nat) (d : List Byte) : Option Status :=
  let old := s.pathDesc p i
  if pathBad d then some .badValue
  else if pathOn old then (if pathPlain d = pathPlain old then none else some .busy)
  else if pathOn d then s.enableBad p i d
  else none

/-- A path begins without congestion (R445). -/
def State.clearPath (s : State) (p i : Nat) : State := { s with paths := Tab.set {} s.paths (p * 16 + i) {} }

/-- A write of a path descriptor. -/
def State.writePath (s : State) (f : Sender) (p i : Nat) (body : List Byte) : State :=
  s.serveWrite f (0x5100 + p) (i + 1) body (fun s => s.pathRefused p i body)
    (fun s => if body = s.pathDesc p i then s else (s.setBlob (0x5100 + p) (i + 1) body).clearPath p i)

/-- PATH (R297): a write with ENABLE = 0. -/
def execPath (f : Sender) (p : PlotId) (i : Fin 16) (body : List Byte) (s : State) : Host.Outcome State Fault Refusal :=
  .next (if pathOn body then s else s.writePath f p.val i.val body)

/-- PATH_ENABLE (R298): a write with ENABLE = 1. -/
def execPathEnable (f : Sender) (p : PlotId) (i : Fin 16) (body : List Byte) (s : State) : Host.Outcome State Fault Refusal :=
  .next (if pathOn body then s.writePath f p.val i.val body else s)

/-- The PFC priorities of a port: the first two in use by its enabled paths (R295, R297). -/
def State.pfcPriorities (s : State) (port : Nat) : List Nat :=
  (((List.range 256).filter (fun k => pathOn (s.pathDesc (k / 16) (k % 16)) && pathPort (s.pathDesc (k / 16) (k % 16)) == port)).map
    (fun k => bits (pathWord (s.pathDesc (k / 16) (k % 16)) 4) 24 22)).dedup.take 2

/-! ### Congestion (R445) -/

/-- REDUCTION as a fraction, RECOVERY in ns and MIN_RATE in MB/s, from 5000:50. -/
def State.reduction (s : State) : Nat × Nat :=
  let v := field (s.blobAt 0x5000 0x50) 0 4
  (2 ^ 23 + v % 2 ^ 23, 2 ^ (150 - v / 2 ^ 23))
def State.recovery (s : State) : Nat := field (s.blobAt 0x5000 0x50) 4 4 * 1000
def State.minRate (s : State) : Nat := field (s.blobAt 0x5000 0x50) 8 4

/-- The rate in MB/s that a path has without congestion: RATE for USE 0, else what its port can carry.
Log: 44 DEDUCED. -/
def State.baseRate (s : State) (p i : Nat) : Nat :=
  let d := s.pathDesc p i
  if pathUse d = 0 then pathRate d * 1000 else modeCapacity4 (s.ethMode (pathPort d)) * 250

/-- A path's congestion state. -/
def State.pathSt (s : State) (p i : Nat) : PathSt := Tab.get {} s.paths (p * 16 + i)

/-- The issue rate of a path, in MB/s as a fraction. -/
def State.issueRate (s : State) (p i : Nat) : Nat × Nat := ((s.pathSt p i).rate).getD (s.baseRate p i, 1)

/-- Whether a time lies at least one period before now. -/
def State.since (s : State) (t : Option Nat) (period : Nat) : Bool :=
  match t with
  | none => true
  | some t => decide (t + period ≤ s.now)

/-- ECN_MARK (R445): the mark is counted; the rate is reduced at most once in each RECOVERY period, and never below MIN_RATE.
Log: 45 DEDUCED. -/
def execEcnMark (p : PlotId) (i : Fin 16) (s : State) : Host.Outcome State Fault Refusal :=
  .next (
    let d := s.pathDesc p.val i.val
    if pathOn d = false then s
    else
      let c := s.pathSt p.val i.val
      let s1 := { s with ethCtr := Tab.upd 0 s.ethCtr (pathPort d * 8 + 5) (fun v => satAdd 64 v 1) }
      let c1 : PathSt :=
        if s.since c.cutAt s.recovery then
          let r := s.issueRate p.val i.val
          let n := r.1 * s.reduction.1
          let m := r.2 * s.reduction.2
          { rate := some (if n < s.minRate * m then (min s.minRate (s.baseRate p.val i.val), 1) else (n, m)), cutAt := some s.now, since := s.now }
        else { c with since := s.now }
      { s1 with paths := Tab.set {} s1.paths (p.val * 16 + i.val) c1 })

/-- ECN_RECOVERY (R445): a whole RECOVERY period without a mark; the rate rises, up to the rate without congestion. -/
def execEcnRecovery (p : PlotId) (i : Fin 16) (s : State) : Host.Outcome State Fault Refusal :=
  .next (
    let c := s.pathSt p.val i.val
    match c.rate with
    | none => s
    | some r =>
      if s.now < c.since + s.recovery then s
      else
        let n := r.1 * s.reduction.2
        let m := r.2 * s.reduction.1
        let c1 : PathSt := { c with rate := if s.baseRate p.val i.val * m ≤ n then none else some (n, m), since := s.now }
        { s with paths := Tab.set {} s.paths (p.val * 16 + i.val) c1 })

/-- EN_IDLE_LIMIT (R301): a stopped READ response completes its transfer with TRUNCATED; one of a discarded attempt is dropped
(R197). Log: 45 DEDUCED. -/
def execEnIdleLimit (l : Loom) (t : Byte) (s : State) : Host.Outcome State Fault Refusal :=
  .next (
    let x := s.loom l.n
    let mine := fun (e : QEntry) => e.ticket == t.toNat && e.status.isNone && (match e.req with
      | .ether _ _ _ w _ => !w
      | _ => false)
    match (x.queue 3).entries.find? mine, s.ownerOf l.n with
    | some e, some p =>
      let s1 := s.noteBusy p
      if x.step = none ∨ e.attempt ≠ x.attempt then
        (s1.updLoom l.n (fun y => y.updQueue 3 (fun u => { u with entries := dropFirst mine u.entries }))).interlock p l.n 7 1
      else s1.updLoom l.n (fun y => (y.unmark 3 t.toNat).finish 3 t.toNat e.attempt .truncated)
    | _, _ => s)

end Sys2Proof.Machine
end

