-- ==== Sys2Proof/Machine/Ferry.lean ====
section
/-! DEFINITION. Ferry ports: flits, frames, training, width changes, margin sweeps and owners (R309 to R325). -/

namespace Sys2Proof.Machine

/-! ### The port -/

/-- 5410 of a port: highest generation, enable, JOB_TAG (R328). -/
def State.ferryGen (s : State) (x : Nat) : Nat := bits (s.cell 0x5410 (x + 1)) 1 0
def State.ferryOn (s : State) (x : Nat) : Bool := bit (s.cell 0x5410 (x + 1)) 2
def State.jobTag (s : State) (x : Nat) : Nat := bits (s.cell 0x5410 (x + 1)) 31 16

/-- State codes of 5400 (R328). -/
def FerryState.code : FerryState → Nat
  | .down => 0 | .training => 1 | .confirm => 2 | .active => 3

/-- FERRY_STATE (5400, R328). -/
def Ferry.word (f : Ferry) : Nat := f.st.code + f.gen * 16 + f.width * 256 + f.lanes * 65536

/-- Raise counter k of 5450 (R328). -/
def Ferry.count (f : Ferry) (k n : Nat) : Ferry := { f with ctr := Tab.upd 0 f.ctr k (fun v => satAdd 64 v n) }

/-- The rim die of a Ferry port as an agent site, and the port engine's endpoint (R30, R45). -/
def ferrySite (x : Nat) : Nat := 0x80 + 6 + x / 2
def ferryEngine (x : Nat) : Nat := 32768 + ferrySite x * 128 + 0x15 + x % 2

/-- Outstanding FR entries of a port complete with LINK_DOWN (R317, R324). -/
def LoomSt.dropFerry (l : LoomSt) (x : Nat) : LoomSt :=
  l.updQueue 4 (fun u => { u with entries := u.entries.map (fun e => match e.req with
    | .ferry y _ _ => if y.val = x ∧ e.status.isNone then { e with status := some .linkDown } else e
    | _ => e) })

/-- The same on every loom. Log: 78 DEDUCED. -/
def State.dropFerry (s : State) (x : Nat) : State :=
  (s.looms.map Prod.fst).foldl (fun s n => s.updLoom n (fun l => l.dropFerry x)) (s.plotsNow.foldl (fun s p => s.noteBusy p) s)

/-- A sweep on a port cannot be completed any more (R322). -/
def State.spoilSweep (s : State) (x : Nat) (why : Status) : State :=
  match s.sweep with
  | some w => if w.port = x ∧ w.why = none then { s with sweep := some { w with why := some why } } else s
  | none => s

/-- A port goes DOWN (R317, R329): FR entries complete with LINK_DOWN, and nothing of the link is kept but its counters.
Log: 78 DEDUCED. -/
def State.ferryDown (s : State) (x cause : Nat) : State :=
  let s1 := (s.dropFerry x).updFerry x (fun f => { ctr := f.ctr, late := f.late })
  (s1.spoilSweep x .linkDown).raise 0x5402 0xFF [x, cause]

/-- A retrain (R317): the replay buffer survives; the width may rise only where a write has asked for it (R319).
Log: 80 DEDUCED. -/
def State.ferryRetrain (s : State) (x : Nat) (rise : Bool) : State :=
  (s.updFerry x (fun f => { f with st := .training, trainAt := s.now, retrain := true, mayRise := rise, change := none,
                                   badLanes := if rise then 0 else f.badLanes })).spoilSweep x .cancelled

/-- CONFIRM begins: serial and JOB_TAG go out in a control flit (R323). -/
def State.sendConfirm (s : State) (x : Nat) : State := s.emit (.confirm ⟨x % 36, Nat.mod_lt _ (by decide)⟩ (s.jobTag x) s.factory.serial)

/-- A retrain or width-change request goes out, with the engine's serial and, for a width change, its bad lanes (R320). -/
def State.sendRequest (s : State) (x : Nat) (retrain : Bool) : State :=
  (s.updFerry x (fun f => { f with asked := some retrain })).emit
    (.widthRequest ⟨x % 36, Nat.mod_lt _ (by decide)⟩ s.factory.serial (if retrain then 256 else (s.ferryAt x).badLanes))

/-! ### Lanes (R318) -/

/-- The lane groups as masks, widest first, then lowest-numbered (R318). -/
def laneGroups : List (Nat × Nat) :=
  [(8, 0xFF), (4, 0x0F), (4, 0xF0), (2, 0x03), (2, 0x0C), (2, 0x30), (2, 0xC0), (1, 0x01), (1, 0x02), (1, 0x04), (1, 0x08),
   (1, 0x10), (1, 0x20), (1, 0x40), (1, 0x80)]

/-- The group that is chosen: the widest one, at most `cap` wide, that has no bad lane (R318, R319). Log: 80 DEDUCED. -/
def laneGroup (cap bad : Nat) : Option (Nat × Nat) := laneGroups.find? (fun g => decide (g.1 ≤ cap) && g.2 &&& bad == 0)

/-- Width of a mask of lanes that is a group. -/
def maskWidth (m : Nat) : Nat := ((laneGroups.find? (fun g => g.2 == m)).map Prod.fst).getD 0

/-! ### Sending (R311, R313) -/

/-- Receive-buffer flits of a class (R311). -/
def ferryShare (cls : Nat) : Nat :=
  match cls with
  | 0 => 3072 | 1 => 2048 | 2 => 2560 | _ => 512

/-- Whether a flit of a class waits and a credit for it is held (R311). -/
def Ferry.eligible (f : Ferry) (cls : Nat) : Bool :=
  Tab.get [] f.queue cls != [] && decide ((Tab.get 0 f.sent cls + 4096 - Tab.get 0 f.freed cls) % 4096 < ferryShare cls)

/-- Opportunities from the present one to the first that is used (R37, R311). -/
def Ferry.nextTurn (f : Ferry) : Option Nat := (List.range 8).find? (fun k => f.eligible (rotation ((f.turn + k) % 8)))

/-- The header fields that change from flit to flit: ACK, the credit count whose turn it is, JOB_TAG (R310, R311). -/
def Ferry.stamp (f : Ferry) (tag : Nat) (y : Flit) : Flit :=
  { y with ack := BitVec.ofNat 12 f.rxSeq, crClass := ⟨f.crTurn % 4, Nat.mod_lt _ (by decide)⟩,
           crCount := BitVec.ofNat 12 (Tab.get 0 f.own (f.crTurn % 4)), jobTag := BitVec.ofNat 16 tag }

/-- FLIT_SEND (R311, R313): the flit of the next used opportunity, kept in the replay buffer until ACK covers it. -/
def execFlitSend (port : FerryId) (cls : Fin 4) (s : State) : Host.Outcome State Fault Refusal :=
  .next (
    let f := s.ferryAt port.val
    match f.nextTurn, Tab.get [] f.queue cls.val with
    | some k, y :: ys =>
      if f.st ≠ .active ∨ f.change.isSome ∨ 1024 ≤ f.replay.length ∨ rotation ((f.turn + k) % 8) ≠ cls.val then s
      else
        let z : Flit := { f.stamp (s.jobTag port.val) y.flit with seq := BitVec.ofNat 12 f.txSeq }
        let g : Ferry := { f with
          queue := Tab.set [] f.queue cls.val ys, turn := (f.turn + k + 1) % 8, txSeq := (f.txSeq + 1) % 4096,
          replay := f.replay ++ [{ y with flit := z }], crTurn := (f.crTurn + 1) % 4,
          sent := Tab.upd 0 f.sent cls.val (fun v => (v + 1) % 4096) }
        (s.updFerry port.val (fun _ => g.count 0 1)).emit (.flit port z)
    | _, _ => s)

/-- The flits of the replay buffer are sent again, in order; the sixteenth resend of one flit retrains the port (R313).
Log: 79 DEDUCED. -/
def State.resend (s : State) (x : FerryId) : State :=
  let f := s.ferryAt x.val
  if f.replay = [] then s
  else
    let ys := f.replay.map (fun y => { y with flit := f.stamp (s.jobTag x.val) y.flit })
    let s1 := s.updFerry x.val (fun f => { f.count 3 ys.length with replay := ys, resends := f.resends + 1 })
    let s2 := ys.foldl (fun s y => s.emit (.flit x y.flit)) s1
    if 16 ≤ f.resends + 1 then (s2.updFerry x.val (fun f => { f with resends := 0 })).ferryRetrain x.val false else s2

/-- Flits that an ACK covers leave the replay buffer (R313). -/
def Ferry.acked (f : Ferry) (a : Nat) : Ferry :=
  match f.replay with
  | [] => f
  | y :: _ =>
    let k := (a + 4096 + 1 - y.flit.seq.toNat) % 4096
    if k = 0 ∨ f.replay.length < k then f else { f with replay := f.replay.drop k, resends := 0 }

/-- RETRY_REQUEST (R313): it acknowledges every flit up to the one named. Log: 79 DEDUCED. -/
def execRetryRequest (port : FerryId) (seq : BitVec 12) (s : State) : Host.Outcome State Fault Refusal :=
  .next (
    if (s.ferryAt port.val).st ≠ .active then s
    else (s.updFerry port.val (fun f => f.acked seq.toNat)).resend port)

/-! ### Receiving (R313 to R315, R324) -/

/-- ACK and the credit count of a received flit are taken (R310, R311). -/
def Ferry.heed (f : Ferry) (x : Flit) : Ferry :=
  { f.acked x.ack.toNat with freed := Tab.set 0 f.freed x.crClass.val x.crCount.toNat }

/-- Flits of the receive buffer are freed (R310). -/
def Ferry.free (f : Ferry) (cls n : Nat) : Ferry := { f with own := Tab.upd 0 f.own cls (fun v => (v + n) % 4096) }

/-- The message of a whole frame, if the frame passes its checks: header, length, class (R44, R314). Log: 81 DEDUCED. -/
def frameMsg (x owner : Nat) (cls : Fin 4) (flits : Nat) (bs : List Byte) : Option Msg :=
  let h := field bs 0 8
  let n := 128 * bits h 8 3
  if bs.length < 8 + n ∨ 4096 < n ∨ flits ≠ (8 + n + 239) / 240 ∨ bits h 10 9 ≠ cls.val ∨ bits h 2 0 = 7 then none
  else some { epoch := BitVec.ofNat 16 (bits h 63 48), dest := BitVec.ofNat 16 (bits h 47 32),
              src := BitVec.ofNat 16 (ferryEngine x), plot := BitVec.ofNat 5 owner, cls, kind := BitVec.ofNat 3 (bits h 2 0),
              payload := (bs.drop 8).take n }

/-- FRAME_INJECT (R314, R325): the whole frame enters the fabric with the owner's tag; a port without an owner injects nothing.
Its flits are freed. A frame to a plot's loom is a trigger of R347. Log: 81 DEDUCED. -/
def State.frameIn (s : State) (x : Nat) (cls : Fin 4) (flits : Nat) (bs : List Byte) : State :=
  let s1 := s.updFerry x (fun f => { f.free cls.val flits with parts := Tab.set {} f.parts cls.val {} })
  let owner := s.cell 0x5430 (x + 1)
  match frameMsg x owner cls flits bs with
  | none => s1
  | some m =>
    if 16 ≤ owner then s1
    else
      let s2 := (s1.updFerry x (fun f => { f with sources := Tab.set 0 f.sources m.dest.toNat (bits (field bs 0 8) 31 16) })).inject m
      match (endpointLoom m.dest.toNat).bind (fun n => s.ownerOf n) with
      | some p => s2.trigger p
      | none => s2

/-- A flit of a frame in SEQ order (R310, R314, R315): a start begins a frame, a continuation of no frame is dropped and counted.
Log: 79 DEDUCED. -/
def State.flitIn (s : State) (x : Nat) (y : Flit) : State :=
  let c := y.cls
  let f := s.ferryAt x
  let p := Tab.get {} f.parts c.val
  if y.type.toNat = 1 ∨ y.type.toNat = 4 then
    let s1 := if p.active then s.updFerry x (fun f => f.free c.val p.flits) else s
    if y.type.toNat = 4 then s1.frameIn x c 1 y.payload
    else s1.updFerry x (fun f => { f with
      parts := Tab.set {} f.parts c.val { bytes := y.payload, flits := 1, lastAt := s.now, active := true } })
  else if p.active = false then s.updFerry x (fun f => { f.free c.val 1 with late := f.late + 1 })
  else if y.type.toNat = 3 then s.frameIn x c (p.flits + 1) (p.bytes ++ y.payload)
  else s.updFerry x (fun f => { f with
    parts := Tab.set {} f.parts c.val { p with bytes := p.bytes ++ y.payload, flits := p.flits + 1, lastAt := s.now } })

/-- A retry request that names the last good SEQ (R313). Log: 79 DEDUCED. -/
def State.askRetry (s : State) (port : FerryId) : State :=
  (s.updFerry port.val (fun f => { f with retryOut := true })).emit (.retry port (s.ferryAt port.val).rxSeq)

/-- FLIT_RECEIVE (R310, R313, R314, R324): CRC, then JOB_TAG, then SEQ. What is discarded is discarded whole. -/
def execFlitReceive (port : FerryId) (x : Flit) (crcOk : Bool) (s : State) : Host.Outcome State Fault Refusal :=
  if Instr.wf (.flitReceive port x crcOk) = false then .fault .illFormed
  else .next (
    let f := s.ferryAt port.val
    if f.st ≠ .active then s
    else
      let s1 := s.updFerry port.val (fun f => f.count 1 1)
      if crcOk = false then (s1.updFerry port.val (fun f => f.count 2 1)).askRetry port
      else if x.jobTag.toNat ≠ s.jobTag port.val then (s1.updFerry port.val (fun f => f.count 7 1)).ferryRetrain port.val false
      else if 8 ≤ x.type.toNat then s1
      else if x.type = 0 ∨ 5 ≤ x.type.toNat then s1.updFerry port.val (fun f => f.heed x)
      else if x.seq.toNat ≠ (f.rxSeq + 1) % 4096 then (if f.retryOut then s1 else s1.askRetry port)
      else (s1.updFerry port.val (fun f => { f.heed x with rxSeq := x.seq.toNat, retryOut := false })).flitIn port.val x)

/-- PARTIAL_FRAME_TIMEOUT (R315): the frame is discarded, its credits are returned, the sender is told. -/
def execPartialFrameTimeout (port : FerryId) (cls : Fin 4) (s : State) : Host.Outcome State Fault Refusal :=
  .next (
    let p := Tab.get {} (s.ferryAt port.val).parts cls.val
    if p.active = false ∨ s.now ≤ p.lastAt + s.cell 0x5440 (port.val + 1) * 1000 then s
    else
      let s1 := s.updFerry port.val (fun f =>
        { (f.free cls.val p.flits).count 6 1 with parts := Tab.set {} f.parts cls.val {} })
      (s1.emit (.truncated port cls.val)).raise 0x5406 0xFF [port.val, cls.val, p.flits])

/-! ### Training (R317, R323, R324) -/

/-- FERRY_DETECT (R317): first training begins. -/
def execFerryDetect (port : FerryId) (s : State) : Host.Outcome State Fault Refusal :=
  .next (
    if (s.ferryAt port.val).st ≠ .down ∨ s.ferryOn port.val = false ∨ s.booted = false then s
    else s.wakeP4.updFerry port.val (fun f => { f with st := .training, trainAt := s.now, retrain := false, mayRise := true }))

/-- FERRY_TRAINING_END (R309, R317 to R319): a generation that this end supports, the widest group of lanes that trained. -/
def execFerryTrainingEnd (port : FerryId) (gen : Fin 4) (lanes : BitVec 8) (s : State) : Host.Outcome State Fault Refusal :=
  .next (
    let f := s.ferryAt port.val
    let bad := (255 - lanes.toNat) ||| f.badLanes
    match laneGroup (if f.mayRise then 8 else f.width) bad with
    | none => s
    | some g =>
      if f.st ≠ .training ∨ gen.val = 0 ∨ s.ferryGen port.val < gen.val then s
      else
        let f1 := if f.retrain then f.count 4 1 else f
        let f2 : Ferry := { f1 with st := .confirm, gen := gen.val, width := g.1, lanes := g.2, badLanes := bad, asked := none, again := false }
        (s.updFerry port.val (fun _ => f2)).sendConfirm port.val)

/-- FERRY_RETRAIN_TIMEOUT (R317): a retrain has 5 ms to reach ACTIVE. -/
def execFerryRetrainTimeout (port : FerryId) (s : State) : Host.Outcome State Fault Refusal :=
  .next (
    let f := s.ferryAt port.val
    if f.retrain = false ∨ f.st = .active ∨ f.st = .down ∨ s.now ≤ f.trainAt + 5000000 then s else s.ferryDown port.val 1)

/-- The two parameters of a serial, low word first (R329). -/
def serialParams (v : Nat) : List Nat := [v % 2 ^ 32, v / 2 ^ 32]

/-- FERRY_CONFIRM (R323): ACTIVE on a match; what waits in the replay buffer is sent again. -/
def execFerryConfirm (port : FerryId) (jobTag : U16) (serial : U64) (s : State) : Host.Outcome State Fault Refusal :=
  .next (
    let f := s.ferryAt port.val
    if f.st ≠ .confirm then s
    else
      let s1 := s.setCell 0x5460 (port.val + 1) serial.toNat
      let want := s.cell 0x5420 (port.val + 1)
      if s.jobTag port.val = 0 ∨ jobTag.toNat ≠ s.jobTag port.val ∨ (want ≠ 0 ∧ want ≠ serial.toNat) then
        s1.raise 0x5405 0xFF (port.val :: jobTag.toNat :: serialParams serial.toNat)
      else
        let s2 := s1.updFerry port.val (fun f => { f with st := .active, retrain := false })
        (s2.raise 0x5401 0xFF (port.val :: (f.gen * 16 + f.width) :: serialParams serial.toNat)).resend port)

/-- What a new JOB_TAG does to an ACTIVE port (R324): CONFIRM, with nothing outstanding and the link's counts afresh.
Log: 78 DEDUCED. -/
def State.newJob (s : State) (x : Nat) : State :=
  let s1 := (s.dropFerry x).updFerry x (fun f =>
    { st := .confirm, gen := f.gen, width := f.width, lanes := f.lanes, badLanes := f.badLanes, ctr := f.ctr, late := f.late })
  (s1.spoilSweep x .cancelled).sendConfirm x

/-- The effect of a write to 5410 apart from its bit 3 (R317, R324). -/
def State.configure (s : State) (x v : Nat) : State :=
  let s1 := s.setCell 0x5410 (x + 1) (setBit v 3 false)
  let f := s.ferryAt x
  if bit v 2 = false ∧ f.st ≠ .down then s1.ferryDown x 0
  else if bits v 31 16 = s.jobTag x then s1
  else if f.st = .active then s1.newJob x
  else if f.st = .confirm then s1.sendConfirm x
  else s1

/-- FERRY_CONFIG (R324): a write to 5410 with bit 3 clear. -/
def execFerryConfig (f : Sender) (port : FerryId) (body : List Byte) (s : State) : Host.Outcome State Fault Refusal :=
  .next (
    if bit (ofLe body) 3 then s
    else s.serveWrite f 0x5410 (port.val + 1) body (fun _ => none) (fun s => s.configure port.val (ofLe body)))

/-- FERRY_RETRAIN_REQUEST (R319, R320): a write to 5410 with bit 3 set; an ACTIVE port, or one in CONFIRM, retrains.
Log: 80 DEDUCED. -/
def execFerryRetrainRequest (f : Sender) (port : FerryId) (body : List Byte) (s : State) : Host.Outcome State Fault Refusal :=
  .next (
    if bit (ofLe body) 3 = false then s
    else s.serveWrite f 0x5410 (port.val + 1) body (fun _ => none) (fun s =>
      let s1 := s.configure port.val (ofLe body)
      let st := (s1.ferryAt port.val).st
      if st = .active ∨ st = .confirm then (s1.ferryRetrain port.val true).sendRequest port.val true else s1))

/-! ### Width (R318 to R320) -/

/-- The group that avoids every bad lane becomes the width change in progress; none is left: the port retrains. Log: 80 DEDUCED. -/
def State.chooseWidth (s : State) (x : Nat) (peer : Bool) : State :=
  let f := s.ferryAt x
  match laneGroup f.width f.badLanes with
  | none => (s.updFerry x (fun f => { f with asked := none })).ferryRetrain x false
  | some g => (s.updFerry x (fun f => { f with change := some (g.2, peer) })).spoilSweep x .cancelled

/-- LANE_BAD (R318, R320, R398, R407): logged; where the lane is in use, a width change is requested. Log: 80 DEDUCED. -/
def execLaneBad (port : FerryId) (lane : Fin 8) (s : State) : Host.Outcome State Fault Refusal :=
  .next (
    let f := s.ferryAt port.val
    if f.st ≠ .active ∨ bit f.badLanes lane.val then s
    else
      let s1 := (s.updFerry port.val (fun f => { f with badLanes := setBit f.badLanes lane.val true })).logDefect 6
        (ferrySite port.val) (port.val % 2 * 8 + lane.val) 0xFF 0x5403
      let used := match f.change with
        | some c => c.1
        | none => f.lanes
      if bit used lane.val = false then s1
      else
        let peer := match f.change with
          | some c => c.2
          | none => false
        let s2 := s1.chooseWidth port.val peer
        if (s2.ferryAt port.val).st = .active then s2.sendRequest port.val false else s2)

/-- This engine follows the peer (R320). -/
def State.follow (s : State) (x : Nat) (retrain : Bool) (bad : Nat) : State :=
  let mine := (s.ferryAt x).asked
  let s1 := s.updFerry x (fun f => { f with asked := none })
  if retrain then s1.ferryRetrain x true
  else
    (s1.updFerry x (fun f => { f with st := .active, retrain := false, badLanes := f.badLanes ||| bad,
                                      again := mine == some true })).chooseWidth x true

/-- WIDTH_CHANGE_REQUEST (R320): of two requests that cross, the one of the engine with the higher serial is carried out. -/
def execWidthChangeRequest (port : FerryId) (serial : U64) (retrain : Bool) (bad : BitVec 8) (s : State) :
    Host.Outcome State Fault Refusal :=
  .next (
    let f := s.ferryAt port.val
    match f.asked with
    | none => if f.st = .active then s.follow port.val retrain bad.toNat else s
    | some own =>
      if f.st ≠ .active ∧ f.st ≠ .training then s
      else if s.factory.serial < serial.toNat then s.follow port.val retrain bad.toNat
      else if own ∨ retrain then s.updFerry port.val (fun f => { f with asked := none })
      else (s.updFerry port.val (fun f => { f with asked := none, badLanes := f.badLanes ||| bad.toNat })).chooseWidth port.val false)

/-- WIDTH_CHANGE_DONE (R319): the link runs on the new group and waiting flits are sent again; a retrain that was withdrawn is
requested again. -/
def execWidthChangeDone (port : FerryId) (s : State) : Host.Outcome State Fault Refusal :=
  .next (
    let f := s.ferryAt port.val
    match f.change with
    | none => s
    | some c =>
      let w := maskWidth c.1
      let s1 := s.updFerry port.val (fun f =>
        { f.count 5 1 with width := w, lanes := c.1, change := none, asked := none, again := false })
      let s2 := (s1.raise 0x5403 0xFF [port.val, f.width * 16 + w, c.1, if c.2 then 1 else 0]).resend port
      if f.again ∧ (s2.ferryAt port.val).st = .active then (s2.ferryRetrain port.val true).sendRequest port.val true else s2)

/-! ### Owners and sweeps (R321, R322, R325) -/

/-- FERRY_OWNER (R325). -/
def execFerryOwner (f : Sender) (port : FerryId) (body : List Byte) (s : State) : Host.Outcome State Fault Refusal :=
  .next (s.serveWrite f 0x5430 (port.val + 1) body
    (fun s => if (s.ferryAt port.val).st = .active then some .busy else none)
    (fun s => s.setCell 0x5430 (port.val + 1) (ofLe body)))

/-- The sweep that a request of R321 names; none where a field is outside its range. -/
def sweepOf (b : List Byte) : Option Sweep :=
  let v := field b 0 8
  if bits v 7 6 ≠ 0 ∨ bits v 31 24 ≠ 0 ∨ field b 8 8 ≠ 0 ∨ 35 < bits v 5 0 ∨ bits v 15 8 = 0 ∨ bits v 23 17 < 8 ∨ 32 < bits v 23 17
    ∨ bits v 63 32 = 0 then none
  else some { port := bits v 5 0, lanes := bits v 15 8, far := bit v 16, n := bits v 23 17 }

/-- SWEEP_REQUEST (R321). -/
def execSweepRequest (f : Sender) (body : List Byte) (s : State) : Host.Outcome State Fault Refusal :=
  .next (s.serveWrite f 0x5600 1 body
    (fun s => match sweepOf body with
      | none => some .badValue
      | some w => if s.sweep.isSome ∨ (s.ferryAt w.port).st ≠ .active then some .busy else none)
    (fun s => match sweepOf body with
      | none => s
      | some w => { s with sweep := some w }.setCell 0x5600 2 Status.notReady.code))

/-- Lanes in a mask. -/
def laneCount (m : Nat) : Nat := ((List.range 8).filter (fun i => bit m i)).length

/-- The header of 5600:03 (R328): port, lanes, end and n as in the request; bit 31 marks a partial result. Log: 82 DEDUCED. -/
def Sweep.header (w : Sweep) (part : Bool) : Nat :=
  w.port + w.lanes * 2 ^ 8 + (if w.far then 2 ^ 16 else 0) + w.n * 2 ^ 17 + (if part then 2 ^ 31 else 0)

/-- SWEEP_END (R322): DONE with every point, or LINK_DOWN or CANCELLED, as it came about, with the points measured so far. -/
def execSweepEnd (st : Status) (counts : List U32) (s : State) : Host.Outcome State Fault Refusal :=
  .next (
    match s.sweep with
    | none => s
    | some w =>
      let total := w.n * w.n * laneCount w.lanes
      if st ≠ w.why.getD .done ∨ (st = .done ∧ counts.length ≠ total) ∨ total < counts.length then s
      else
        let v := toLe 4 (w.header (st != .done)) ++ wordsLe 4 (counts.map BitVec.toNat)
        (({ s with sweep := none }.setCell 0x5600 2 st.code).measure 0x5600 3 v).raise 0x5501 0xFF [w.port, st.code])

end Sys2Proof.Machine
end

