-- ==== Sys2Proof/Machine/Power.lean ====
section
/-! DEFINITION. Regulators, telemetry, budgets, hints, power states, pacing, cooling and low input (R330 to R365, R447). -/

namespace Sys2Proof.Machine

/-! ### Regulators (R332 to R336) -/

/-- Codes of the domains, as events and the defect log name them. Log: 84 DEDUCED. -/
def domainCode : Domain → Nat
  | .vcore => 0 | .vmem => 1 | .vio => 2

/-- Phases of a domain, and its share per phase in 10 mA (R332). -/
def phases : Domain → Nat
  | .vcore => 7 | .vmem => 3 | .vio => 4
def phaseShare : Domain → Nat
  | .vcore => 3700 | .vmem => 2000 | .vio => 2250

/-- Whether a site has a domain: VCORE and VMEM at tiles, VIO at rim dies (R332). -/
def hasDomain : RegSite → Domain → Bool
  | .tile _, .vio => false
  | .tile _, _ => true
  | .rim _, .vio => true
  | .rim _, _ => false

/-- Key of a phase in a regulator's tables. -/
def phaseKey (d : Domain) (i : Nat) : Nat := domainCode d * 8 + i

/-- Phases of a domain that work, and whether one of its senses has failed (R357, R358). -/
def Reg.working (r : Reg) (d : Domain) : Nat := ((List.range (phases d)).filter (fun i => !Tab.get false r.opens (phaseKey d i))).length
def Reg.senseBad (r : Reg) (d : Domain) : Bool := (List.range (phases d)).any (fun i => Tab.get false r.senses (phaseKey d i))

/-- Domain cap in 10 mA (R357 to R359). -/
def Reg.domainCap (r : Reg) (d : Domain) : Nat :=
  let c := r.working d * phaseShare d
  if r.senseBad d then c * 85 / 100 else c

/-- The fewest phases that run (R333). -/
def minPhases : Domain → Nat
  | .vcore => 2 | .vmem => 1 | .vio => 1

/-- Phases that run. Log: 85 DEDUCED. -/
def Reg.running (r : Reg) (d : Domain) : Nat := r.working d - Tab.get 0 r.shed (domainCode d)

/-- Below 40 % of the cap the controller runs as many phases as the current needs, but no fewer than the least; otherwise, and while
a hint is in force, all of them (R333, R343). Log: 85 DEDUCED. -/
def Reg.shedAt (r : Reg) (d : Domain) (current : Nat) : Reg :=
  let need := max (minPhases d) ((current + phaseShare d - 1) / phaseShare d)
  let n := if r.allPhases = false ∧ current * 100 < 40 * r.domainCap d then r.working d - need else 0
  { r with shed := Tab.set 0 r.shed (domainCode d) n }

/-- PHASE_ADD (R333): one more phase, while one that works is switched off. -/
def execPhaseAdd (tile : Phys) (d : Domain) (s : State) : Host.Outcome State Fault Refusal :=
  .next (
    if Tab.get 0 (s.reg tile.val).shed (domainCode d) = 0 then s
    else s.updReg tile.val (fun r => { r with shed := Tab.upd 0 r.shed (domainCode d) (· - 1) }))

/-- The sensors that are excluded, as a mask of sixteen. -/
def excluded (x : Sensed) : Nat := 65535 - ((goodSensors x).map (fun i => 2 ^ i)).sum

/-- SENSOR_FALLBACK (R335): five or more sensors are implausible. Log: 85 DEDUCED. -/
def execSensorFallback (tile : Phys) (sensed : Sensed) (s : State) : Host.Outcome State Fault Refusal :=
  .next (
    if (s.reg tile.val).fallback ∨ 11 < (goodSensors sensed).length then s
    else (s.updReg tile.val (fun r => { r with fallback := true, badSensors := excluded sensed })).raise 0x4505 0xFF
      [tile.val, excluded sensed])

/-- SENSOR_FALLBACK_EXIT (R335): at least twelve sensors have been plausible for 100 ms. -/
def execSensorFallbackExit (tile : Phys) (sensed : Sensed) (s : State) : Host.Outcome State Fault Refusal :=
  .next (
    if (s.reg tile.val).fallback = false ∨ (goodSensors sensed).length < 12 then s
    else s.updReg tile.val (fun r => { r with fallback := false, badSensors := excluded sensed }))

/-- Whether every loom of a tile belongs to a plot in a power state of at least `d`, or to no plot (R336). -/
def State.tileEased (s : State) (lt d : Nat) : Bool :=
  (tileLooms lt).all (fun n => match s.ownerOf n with
    | some p => decide (d ≤ s.cell (0x4200 + p) 2)
    | none => true)

/-- The VCORE setpoint that the Steward computes for a tile, in µV (R336). -/
def State.target (s : State) (t : Nat) : Nat :=
  let c := s.site t
  let r := s.reg t
  if c.st ≠ .active ∨ s.tileEased c.logical 2 then 620000
  else
    let base := if s.tileEased c.logical 1 then 620000 else f32Scaled (s.cell 0x4000 6) 1000000
    min (max (base + r.raise * 1000 - r.tileCut * 1000 - s.power.engineCut * 1000) 620000) 900000

/-- The setpoint that the regulator follows (R334 to R336): 15 mV more in remote-sense fallback; 0 where VCORE is off. -/
def State.setpoint (s : State) (t : Nat) : Nat :=
  if (s.site t).st = .absent ∨ s.power.vcoreOff ∨ s.power.p4 then 0 else s.target t + (if (s.reg t).fallback then 15000 else 0)

/-! ### Faults of regulators (R356 to R359) -/

/-- A VCORE domain with fewer than 5 working phases, or a VMEM domain with fewer than 2, is a failure of the tile (R359). -/
def State.checkPhases (s : State) (site : RegSite) : State :=
  match site with
  | .rim _ => s
  | .tile t =>
    let r := s.reg t.val
    if r.working .vcore < 5 ∨ r.working .vmem < 2 then s.failTile t.val .tooFewPhases false else s

/-- Whether a regulator fault can be found at a site: it has the phase, and a tile's regulator is on. -/
def State.regLive (s : State) (site : RegSite) (d : Domain) (i : Nat) : Bool :=
  hasDomain site d && decide (i < phases d) && match site with
    | .rim _ => true
    | .tile t => (s.site t.val).st != .absent

/-- PHASE_OPEN (R357, R359, R407). Log: 84 DEDUCED. -/
def execPhaseOpen (site : RegSite) (d : Domain) (phase : Fin 7) (s : State) : Host.Outcome State Fault Refusal :=
  .next (
    let k := siteKey site
    if s.regLive site d phase.val = false ∨ Tab.get false (s.reg k).opens (phaseKey d phase.val) then s
    else
      let s1 := s.updReg k (fun r => { r with opens := Tab.set false r.opens (phaseKey d phase.val) true })
      ((s1.logDefect 4 k (domainCode d * 16 + phase.val) 0xFF 0x4503).raise 0x4503 0xFF [k, domainCode d, phase.val]).checkPhases site)

/-- SENSE_FAIL (R358, R359, R407). -/
def execSenseFail (site : RegSite) (d : Domain) (phase : Fin 7) (s : State) : Host.Outcome State Fault Refusal :=
  .next (
    let k := siteKey site
    if s.regLive site d phase.val = false ∨ Tab.get false (s.reg k).senses (phaseKey d phase.val) then s
    else
      let s1 := s.updReg k (fun r => { r with senses := Tab.set false r.senses (phaseKey d phase.val) true })
      (s1.logDefect 5 k (domainCode d * 16 + phase.val) 0xFF 0x4504).raise 0x4504 0xFF [k, domainCode d, phase.val])

/-- At cold start no Cellar data exists yet, so a promotion needs no rebuild (R356). -/
def State.noRebuild (s : State) (lt : Nat) : State :=
  if s.rst.phase ≠ .booting then s
  else
    ({ s with cellar := { s.cellar with unbuilt := Tab.set none s.cellar.unbuilt lt none,
                                        waiting := s.cellar.waiting.filter (fun x => x != lt) } }.rebuildState).groupBits

/-- SHORT_DETECT (R356): during a soft start the site latches off, is ABSENT, and a reserve takes its number. -/
def execShortDetect (tile : Phys) (d : Domain) (s : State) : Host.Outcome State Fault Refusal :=
  .next (
    let ramping : Bool := match s.power.rampAt with
      | some t => decide (s.now ≤ t + 2210000)
      | none => false
    if ramping = false ∨ d = .vio ∨ (s.reg tile.val).latched ∨ (s.site tile.val).st = .absent then s
    else
      let lt := (s.site tile.val).logical
      let s1 := (s.updReg tile.val (fun r => { r with latched := true, latchedAt := s.now })).raise 0x4501 0xFF
        [tile.val, domainCode d, (s.reg tile.val).retries]
      (s1.failTile tile.val .softStart false).noRebuild lt)

/-- SOFT_START_RETRY (R356): a retry that reaches its target leaves the site RETIRED; the third that fails ends the retries.
Log: 84 DEDUCED. -/
def execSoftStartRetry (tile : Phys) (d : Domain) (reached : Bool) (s : State) : Host.Outcome State Fault Refusal :=
  .next (
    let r := s.reg tile.val
    if r.latched = false ∨ 3 ≤ r.retries ∨ s.now < r.latchedAt + 100000000 then s
    else if reached then
      ((s.updReg tile.val (fun r => { r with latched := false, retries := r.retries + 1 })).updSite tile.val
        (fun c => { c with st := .retired, bypass := false })).mapChanged
    else
      let s1 := (s.updReg tile.val (fun r => { r with retries := r.retries + 1, latchedAt := s.now })).raise 0x4501 0xFF
        [tile.val, domainCode d, r.retries + 1]
      if r.retries + 1 < 3 then s1
      else (s1.logDefect 3 tile.val 0 0xFF 0x4502).raise 0x4502 0xFF [tile.val, domainCode d])

/-! ### Hints (R343, R344) -/

/-- The newest sample of a domain: key domain × 112 + place. -/
def State.newest (s : State) (k : Nat) : Nat := (Tab.get [] s.power.hist k).headD 0

/-- Further VCORE power of a tile at a raise of `mv`, in µW: current grows with the square of the voltage (R344).
Log: 85 DEDUCED. -/
def raiseCost (rec mv : Nat) : Nat :=
  let i := bits rec 15 0
  let v := bits rec 31 16
  let w := v + 10 * mv
  i * w * w * w / (v * v) - i * v

/-- A plot's attributed power of the last sample, in µW. -/
def State.plotPower (s : State) (p : Nat) : Nat := (s.plot p).power10.headD 0

/-- Whether a raise is granted (R344). -/
def State.grants (s : State) (t p mv : Nat) : Bool :=
  let c := s.site t
  let extra := raiseCost (s.newest t) mv
  c.st == .active && (tileLooms c.logical).all (fun n => (s.plot p).looms.contains n) && decide (0 < mv)
    && decide (s.power.inputW.getD 0 * 1000000 + extra ≤ s.effectiveCap * 1000000)
    && decide (s.plotPower p + extra ≤ s.effectiveShare p * 1000000)

/-- Whether a message is the hint of a loom of plot `p` on tile `t`, with this lead time and load class (R202). -/
def State.isHint (s : State) (t p : Nat) (lead : Byte) (cls : BitVec 2) (m : Msg) : Bool :=
  m.cls == 3 && m.kind == 5 && m.plot.toNat == p && m.payload.take 2 == hintBytes lead cls &&
    (s.site t).st == .active && (match endpointLoom m.src.toNat with
      | some n => n / 20 == (s.site t).logical
      | none => false)

/-- HINT_RECEIVED (R343, R344): the Steward of the tile's quadrant takes a hint that has reached it (R29, R202). Log: 85 DEDUCED. -/
def execHintReceived (tile : Phys) (p : PlotId) (lead : Byte) (cls : BitVec 2) (s : State) : Host.Outcome State Fault Refusal :=
  .next (
    let e := stewardEndpoint (quadrant tile.val)
    let isHint := s.isHint tile.val p.val lead cls
    if (Tab.get [] s.fabric.taken e).any isHint = false then s
    else
      let mv := 10 * cls.toNat
      let stop := s.now + lead.toNat * 1000 + 200000
      let ok := s.grants tile.val p.val mv
      let s0 : State := { s with fabric := { s.fabric with taken := Tab.upd [] s.fabric.taken e (dropFirst isHint) } }
      let s1 := s0.updReg tile.val (fun r =>
        { r with allPhases := true, shed := [], raise := if ok then max r.raise mv else r.raise, raiseEnd := max r.raiseEnd stop })
      if ok then s1.bump 64 0x4000 0xA 1 else s1.bump 64 0x4000 0xB 1)

/-- HINT_RAISE_HOLD_END (R343). -/
def execHintRaiseHoldEnd (tile : Phys) (s : State) : Host.Outcome State Fault Refusal :=
  .next (
    let r := s.reg tile.val
    if r.allPhases = false ∨ s.now < r.raiseEnd then s
    else s.updReg tile.val (fun r => { r with allPhases := false, raise := 0 }))

/-! ### Power states (R345 to R348, R169) -/

/-- The save extents of a plot on a logical tile, ascending (R169). -/
def State.saveOn (s : State) (p lt : Nat) : List Nat :=
  (s.engineExtents p).filter (fun x => x / 176 == lt && Tab.get 0 s.cellar.use x == 6)

/-- Where a loom's saved bytes begin in its plot's save extents on the tile: after those of the plot's lower-numbered looms there.
Log: 86 DEDUCED. -/
def State.savePlace (s : State) (p n : Nat) (im : Image) : Nat :=
  residentBytes im * ((s.plot p).looms.filter (fun k => k / 20 == n / 20 && decide (k < n))).length

/-- The Cellar ranges of `n` bytes from place `q` of some extents: a saved Bench crosses at most one boundary. -/
def saveRanges (xs : List Nat) (q n : Nat) : List (Nat × Nat) :=
  let k := min n (2 ^ 24 - q % 2 ^ 24)
  [(extentAddr (xs.getD (q / 2 ^ 24) 0) (q % 2 ^ 24), k), (extentAddr (xs.getD (q / 2 ^ 24 + 1) 0) 0, n - k)].filter (fun r => r.2 != 0)

/-- Write bytes into ranges one after another, with the engine's tag. -/
def State.saveWrite (s : State) : List (Nat × Nat) → List Byte → State
  | [], _ => s
  | r :: rs, bs => (s.longWrite r.1 0x1F (r.2 / 4096 + 2) (bs.take r.2)).saveWrite rs (bs.drop r.2)

/-- The bytes of ranges. -/
def State.saveRead (s : State) (rs : List (Nat × Nat)) : List Byte := rs.flatMap (fun r => s.longRead r.1 (r.2 / 4096 + 2) r.2)

/-- A loom drains its resident Bench regions into its save extents (R169). Log: 86 DEDUCED. -/
def State.saveLoom (s : State) (p n : Nat) (im : Image) : State :=
  let l := s.loom n
  if l.saved then s
  else
    (s.saveWrite (saveRanges (s.saveOn p (n / 20)) (s.savePlace p n im) (residentBytes im))
      ((residentRanges im).flatMap (fun r => l.bytes r.1 r.2))).updLoom n (fun l => { l with saved := true })

/-- Whether a saved unit cannot be read (R151, R152, R167). -/
def State.saveLost (s : State) (rs : List (Nat × Nat)) : Bool :=
  rs.any (fun r => (unitPieces r.1 r.2).any (fun x => s.unreadable (unitOf x.1)))

/-- Write bytes into Bench regions one after another. -/
def LoomSt.refill (l : LoomSt) : List (Nat × Nat) → List Byte → LoomSt
  | [], _ => l
  | r :: rs, bs => (l.store r.1 (bs.take r.2)).refill rs (bs.drop r.2)

/-- A loom fills its resident Bench regions back (R169). What it cannot read any more is lost, and the plot faults (R152).
Log: 86 DEDUCED. -/
def State.restoreLoom (s : State) (p n : Nat) (im : Image) : State :=
  if (s.loom n).saved = false then s
  else
    let rs := saveRanges (s.saveOn p (n / 20)) (s.savePlace p n im) (residentBytes im)
    if s.saveLost rs then (s.updLoom n (fun l => { l with saved := false })).faultPlot p (fun _ => false)
    else s.updLoom n (fun l => { l.refill (residentRanges im) (s.saveRead rs) with saved := false })

/-- The Bench of loom `n` is unpowered, and so are weight registers and accumulators: what was not saved is lost (R168).
Log: 86 DEDUCED, 106 DESIGN CHOICE. -/
def LoomSt.unpower (n : Nat) (l : LoomSt) : LoomSt :=
  { l.lose n [] with bench := [], fg := {}, bg := {}, bgReady := false, accs := [], pending := [] }

/-- Looms have their power switches open: what is not Bench is lost (R345). Log: 86 DEDUCED. -/
def LoomSt.gate (l : LoomSt) : LoomSt := { l with fg := {}, bg := {}, bgReady := false, accs := [] }

/-- Every loom of a plot with save extents saves (R169). Log: 86 DEDUCED. -/
def State.savePlot (s : State) (p : Nat) : State :=
  match (s.plot p).image with
  | some im => if (s.plot p).saveExt then (s.plot p).looms.foldl (fun s n => s.saveLoom p n im) s else s
  | none => s

/-- Every loom of a plot restores what it saved. Log: 86 DEDUCED. -/
def State.restorePlot (s : State) (p : Nat) : State :=
  match (s.plot p).image with
  | some im => (s.plot p).looms.foldl (fun s n => s.restoreLoom p n im) s
  | none => s

/-- Whether a plot may enter P3 as far as its save extents go (R169, R346). -/
def State.canSave (s : State) (p : Nat) : Bool :=
  (s.plot p).saveExt || match (s.plot p).image with
    | some im => residentBytes im == 0
    | none => true

/-- The deepest state that a plot's tolerance allows (R345, R346): the exit bound is at most 0.9 times the tolerance. -/
def State.deepest (s : State) (p : Nat) : Nat :=
  let t := 9 * s.cell (0x4200 + p) 1
  if 30000 ≤ t ∧ s.canSave p then 3 else if 2000 ≤ t then 2 else if 200 ≤ t then 1 else 0

/-- Idle time after which a state is entered, in ns (R345). -/
def idleBefore (d : Nat) : Nat := if d ≤ 1 then 50000 else if d = 2 then 1000000 else 100000000

/-- A plot's power state changes: E-4002 at most once per second per plot (R348). -/
def State.setPstate (s : State) (p d : Nat) : State :=
  (s.setCell (0x4200 + p) 2 d).raiseLimited 0x4002 p second p [p, d]

/-- PSTATE_ENTRY (R345 to R347). -/
def execPstateEntry (p : PlotId) (s : State) : Host.Outcome State Fault Refusal :=
  .next (
    let y := s.plot p.val
    let old := s.cell (0x4200 + p.val) 2
    let d := ([3, 2, 1].find? (fun d => decide (d ≤ s.deepest p.val) && decide (y.busyAt + idleBefore d ≤ s.now))).getD 0
    if s.plotExists p.val = false ∨ s.plotIdle p.val = false ∨ y.wake ∨ d ≤ old then s
    else
      let s1 := if d = 3 then y.looms.foldl (fun s n => s.updLoom n (LoomSt.unpower n)) (s.savePlot p.val)
        else if d = 2 then y.looms.foldl (fun s n => s.updLoom n LoomSt.gate) s
        else s
      s1.setPstate p.val d)

/-- PSTATE_EXIT (R347): a trigger has come, the plot is not idle, or its tolerance no longer allows the state. -/
def execPstateExit (p : PlotId) (s : State) : Host.Outcome State Fault Refusal :=
  .next (
    let old := s.cell (0x4200 + p.val) 2
    if old = 0 ∨ s.power.p4 ∨ ¬((s.plot p.val).wake ∨ s.plotIdle p.val = false ∨ s.deepest p.val < old) then s
    else
      let s1 := if old = 3 then s.restorePlot p.val else s
      (s1.updPlot p.val (fun x => { x with wake := false })).setPstate p.val 0)

/-- The conditions of P4 (R348). -/
def State.p4Allowed (s : State) : Bool :=
  s.rst.ready && decide (66667 ≤ s.cell 0x4000 7) && s.power.shutdown == 0
    && s.plotsNow.all (fun p => s.cell (0x4200 + p) 2 == 3 && decide (66667 ≤ s.cell (0x4200 + p) 1)
        && !(decide (1 ≤ s.cell (0x3100 + p) 3) && decide (s.cell (0x3100 + p) 3 ≤ 4)))
    && s.cellar.rebuild.isNone && s.cellar.waiting == [] && s.cellar.erase == []

/-- P4_ENTRY (R348). -/
def execP4Entry (s : State) : Host.Outcome State Fault Refusal :=
  .next (
    if s.power.p4 ∨ s.p4Allowed = false ∨ s.plotsNow.any (fun p => (s.plot p).wake) then s
    else ({ s with power := { s.power with p4 := true, p4wake := false } }.setCell 0x4000 8 4).raise 0x4001 0xFF [4])

/-- P4_EXIT (R348): a trigger has come, or a condition of P4 has ended; every VCORE regulator makes its soft start (R356).
Log: 86 DEDUCED. -/
def execP4Exit (s : State) : Host.Outcome State Fault Refusal :=
  .next (
    if s.power.p4 = false ∨ (s.power.p4wake = false ∧ s.p4Allowed ∧ s.plotsNow.all (fun p => !(s.plot p).wake && s.plotIdle p)) then s
    else ({ s with power := { s.power with p4 := false, p4wake := false, rampAt := some s.now } }.setCell 0x4000 8 0).raise 0x4001 0xFF [0])

/-- LATENCY_TOLERANCE (R346): a trigger when the present state is then too deep. -/
def execLatencyTolerance (f : Sender) (p : PlotId) (body : List Byte) (s : State) : Host.Outcome State Fault Refusal :=
  .next (s.serveWrite f (0x4200 + p.val) 1 body (fun _ => none) (fun s =>
    let s1 := s.setCell (0x4200 + p.val) 1 (ofLe body)
    if s1.deepest p.val < s1.cell (0x4200 + p.val) 2 then s1.trigger p.val else s1))

/-- CAP (R340). -/
def execCap (f : Sender) (body : List Byte) (s : State) : Host.Outcome State Fault Refusal :=
  .next (s.serveWrite f 0x4000 1 body (fun s => if ofLe body < s.shareSum then some .noSpace else none)
    (fun s => s.setCell 0x4000 1 (ofLe body)))

/-! ### Cooling (R351 to R355, R447) -/

/-- A signed count of 1/16 °C as FP32. -/
def degF32 (v : Int) : Nat := roundF32 v (-4) false

/-- The cooling limit of R354 while cooling is degraded. Log: 87 DEDUCED. -/
def State.coolFormula (s : State) : Nat :=
  match s.power.usable with
  | none => 15000
  | some (t, inlet, flow) =>
    if t + 10 * second ≤ s.now then 15000
    else if t + second ≤ s.now then s.cell 0x4050 5
    else max ((sustainedLimit * min flow 3000) / 3000 - (1000 * (inlet - 640).toNat + 15) / 16) 6000

/-- The cooling limit takes a value, but no sooner than R351 lets it rise while its cut is in force. Log: 87 DEDUCED. -/
def State.setLimit (s : State) (v : Nat) : State :=
  s.setCell 0x4050 5 (if s.power.hotCut then min v (s.cell 0x4050 5) else v)

/-- Whether no condition of R354 holds: the last usable reading is the last complete one, within its bounds and younger than 1 s. -/
def Power.coolClean (x : Power) (now : Nat) : Bool :=
  match x.usable with
  | none => false
  | some (t, inlet, flow) => decide (now < t + Sys2Proof.Machine.second) && decide (inlet ≤ 640) && decide (3000 ≤ flow) && decide (x.badAt ≤ t)

/-- The value of R354 is applied: one below the effective cap waits for COOL_GRACE after E-4401; E-4402 is raised when it takes
effect (R355). With no condition of R354 the limit keeps its value until cooling is normal. Log: 87 DEDUCED. -/
def State.applyCool (s : State) : State :=
  let v := s.coolFormula
  let pd := s.power
  if pd.degraded = false then s
  else if pd.limited ∨ s.effectiveCap ≤ v then (if pd.coolClean s.now then s else s.setLimit v)
  else match pd.graceFrom with
    | some t => if s.now < t + s.cell 0x4050 6 * 1000000 then s
        else ({ s.setLimit v with power := { pd with limited := true } }).raise 0x4402 0xFF [v]
    | none => s

/-- Cooling becomes degraded: E-4401 (R355). -/
def State.degrade (s : State) : State :=
  if s.power.degraded then s
  else
    let s1 := { s with power := { s.power with degraded := true, graceFrom := some s.now, badAt := s.now } }
    s1.raise 0x4401 0xFF [s.power.inlet, s.power.outlet, s.power.flow]

/-- COOL_STATE (R354, R447). -/
def State.coolState (s : State) : State :=
  let none10 : Bool := match s.power.usable with
    | none => true
    | some (t, _, _) => decide (t + 10 * second ≤ s.now)
  s.setCell 0x4050 4 (if none10 ∧ (s.power.degraded ∨ s.power.usable = none) then 2 else if s.power.degraded then 1 else 0)

/-- Whether a condition of R354 holds for the tray registers as they stand at a complete reading. -/
def Power.readingBad (x : Power) : Bool :=
  x.inlet == 0x7FFF || x.flow == 0xFFFF || decide (640 < int16 x.inlet) || decide (x.flow < 3000)

/-- The bytes of the I3C target registers, by offset, as the tray controller reads them (R353): what it wrote at 0x00 to 0x06, a
reserved byte, and the 1 ms input power in W, low byte first, 0 W before the first sample; at 0x12 the cause of the last reset (R427). -/
def State.trayByte (s : State) (offset : Nat) : Nat :=
  let x := s.power
  if offset = 0x12 then s.rst.cause else
  (toLe 2 x.inlet ++ toLe 2 x.outlet ++ toLe 2 x.flow ++ toLe 1 x.traySeq ++ [0] ++ toLe 2 (x.inputW.getD 0)).map BitVec.toNat
    |>.getD offset 0

/-- Whether VBUS, AUX and the coolant of the last usable reading lie within the operating conditions (R438): inlet 20 to 40 °C, at least
30 L/min. -/
def State.operating (s : State) : Bool :=
  s.power.vbusIn && s.power.auxOk && match s.power.usable with
    | some (_, inlet, flow) => decide (320 ≤ inlet) && decide (inlet ≤ 640) && decide (3000 ≤ flow)
    | none => false

/-- COOL_READING (R353, R354, R447): a reading is complete when SEQ changes; one with a field that holds no reading counts as none,
and as a degraded one once a usable reading has come. Log: 87 DEDUCED. -/
def execCoolReading (inlet outlet flow : U16) (seq : Byte) (s : State) : Host.Outcome State Fault Refusal :=
  .next (
    let x := s.power
    let x1 := { x with inlet := inlet.toNat, outlet := outlet.toNat, flow := flow.toNat, traySeq := seq.toNat }
    let s1 := { s with power := x1 }
    if seq.toNat = x.traySeq then s1
    else
      let s2 := if outlet.toNat = 0x7FFF then s1 else s1.measure 0x4050 2 (toLe 4 (degF32 (int16 outlet.toNat)))
      if inlet.toNat = 0x7FFF ∨ flow.toNat = 0xFFFF then
        (if x.usable = none then s2
         else { s2.degrade with power := { s2.degrade.power with badAt := s.now } }.applyCool.coolState)
      else
        let late : Bool := match x.usable with
          | some (t, _, _) => decide (t + second ≤ s.now)
          | none => x.degraded
        let s3 := { s2 with power := { s2.power with usable := some (s.now, int16 inlet.toNat, flow.toNat) } }
        let s4 := (s3.measure 0x4050 1 (toLe 4 (degF32 (int16 inlet.toNat)))).measure 0x4050 3 (toLe 4 (f32Ratio flow.toNat 100))
        let bad := s4.power.readingBad
        let s5 := if bad then s4.degrade else s4
        let s6 := if bad ∨ late then { s5 with power := { s5.power with badAt := s.now } } else s5
        s6.applyCool.coolState)

/-- COOL_READING_TIMEOUT (R354): no usable reading for 1 s degrades cooling, for 10 s the limit is 15 kW. -/
def execCoolReadingTimeout (s : State) : Host.Outcome State Fault Refusal :=
  .next (
    match s.power.usable with
    | none => s
    | some (t, _, _) => if s.now < t + second then s else s.degrade.applyCool.coolState)

/-- COOL_NO_DATA_TIMEOUT (R447). -/
def execCoolNoDataTimeout (s : State) : Host.Outcome State Fault Refusal :=
  .next (
    match s.rst.busAt with
    | none => s
    | some t =>
      if s.power.usable.isSome ∨ s.power.degraded ∨ s.now < t + 10 * second then s
      else { s.degrade with power := { s.degrade.power with limited := true } })

/-- COOL_GRACE_EXPIRE (R355). -/
def execCoolGraceExpire (s : State) : Host.Outcome State Fault Refusal :=
  .next (if s.power.limited then s else s.applyCool)

/-- COOL_NORMAL (R354): no condition has held for 10 s. -/
def execCoolNormal (s : State) : Host.Outcome State Fault Refusal :=
  .next (
    if s.power.degraded = false ∨ s.power.coolClean s.now = false ∨ s.now < s.power.badAt + 10 * second then s
    else
      let s1 := { s with power := { s.power with degraded := false, limited := false, graceFrom := none, riseFor := 0 } }
      (s1.setCell 0x4050 4 0).raise 0x4403 0xFF [])

/-- Two, or five, hundredths of CAP. -/
def State.capPart (s : State) (n : Nat) : Nat := s.cell 0x4000 1 * n / 100

/-- The highest value that the cooling limit may rise to: R354's while cooling is degraded, else 23,000 W (R351, R354). -/
def State.coolTop (s : State) : Nat := if s.power.degraded ∨ s.power.usable = none then s.coolFormula else sustainedLimit

/-- R351 in one sample: `hot` says that two looms are hot, or the paced one is past 95 °C at its floor. Log: 87 DEDUCED. -/
def State.coolCut (s : State) (hot : Bool) : State :=
  let x := s.power
  let lim := s.cell 0x4050 5
  if hot then { s with power := { x with hotCut := true, hotFree := 0, riseFor := 0 } }.setCell 0x4050 5 (lim - s.capPart 2)
  else if s.coolTop ≤ lim then { s with power := { x with hotCut := false, hotFree := 0, riseFor := 0 } }
  else if x.degraded ∧ x.hotCut = false then s
  else if x.riseFor + 1 < 100 then { s with power := { x with riseFor := x.riseFor + 1, hotFree := x.hotFree + 1 } }
  else { s with power := { x with riseFor := 0, hotFree := x.hotFree + 1 } }.setCell 0x4050 5 (min s.coolTop (lim + s.capPart 2))

/-! ### Thermal pacing (R349, R350, R352) -/

/-- The hottest of a list of readings; the first of those that are equal. -/
def hottest : List (Loom × Int) → Option (Loom × Int)
  | [] => none
  | x :: xs =>
    match hottest xs with
    | some y => if x.2 < y.2 then some y else some x
    | none => some x

/-- TJ_PACE in 1/16 °C, rounded down. -/
def State.tjPace (s : State) : Int := Int.ofNat (f32Scaled (s.cell 0x4040 1) 16)

/-- Code of the slot behind a loom, as 4040:03 gives it (R72). -/
def State.loomSlot (s : State) (n : Nat) : Nat := match s.slotOf n with
  | some k => slotCode k
  | none => 0xFFFFFFFF

/-- Pacing ends (R350). -/
def State.endPace (s : State) : State :=
  let old := s.cell 0x4040 4
  if old = 0xFFFFFFFF then s
  else
    let s1 := (s.setCell 0x4040 4 0xFFFFFFFF).setCell 0x4040 5 0
    { s1 with power := { s1.power with pacePct := 100, paceWait := 0, at95 := false } }.raise 0x4302 0xFF [old]

/-- The pace limit of a slot as a percentage of its natural rate, and as 4040:05 gives it. -/
def State.setPace (s : State) (slot pct natural : Nat) : State :=
  let s1 := (s.setCell 0x4040 4 slot).setCell 0x4040 5 (f32Ratio (natural * pct) 100000000)
  { s1 with power := { s1.power with pacePct := pct, paceWait := 0 } }

/-- A temperature in 1/16 °C as an event parameter: 32-bit two's complement. -/
def tjParam (t : Int) : Nat := (t % 4294967296).toNat

/-- The Tj of every active loom: the hotter of the two monitor sites nearest to its slot (R349). -/
def slotTj (x : PowerIn) : List (Loom × Int) := x.loomTj.map (fun e => (e.1, max e.2.1 e.2.2))

/-- THERMAL_PACING of one sample (R350, R352): whether the paced loom is past 95 °C at its floor. Log: 87 DEDUCED. -/
def State.pace (s : State) (xs : List (Loom × Int)) (natural : List (Loom × Nat)) : State × Bool :=
  match hottest xs with
  | none => (s, false)
  | some (l, t) =>
    let slot := s.loomSlot l.n
    let nat := ((natural.find? (fun e => e.1 == l)).map Prod.snd).getD 0
    let s1 := (s.measure 0x4040 2 (toLe 4 (degF32 t))).setCell 0x4040 3 slot
    let s2 := if s1.cell 0x4040 4 = slot then s1 else s1.endPace
    let x := s2.power
    let paced : Bool := s2.cell 0x4040 4 == slot
    if s2.tjPace < t then
      let s3 := s2.setPace slot (max 20 (x.pacePct - 5)) nat
      let s4 := if paced then s3 else s3.raise 0x4301 0xFF [slot, tjParam t]
      if paced ∧ x.pacePct = 20 ∧ 1520 < t then
        (if x.at95 then (s4, true)
         else ({ s4 with power := { s4.power with at95 := true } }.raise 0x4304 0xFF [slot, tjParam t], true))
      else ({ s4 with power := { s4.power with at95 := false } }, false)
    else if paced = false ∨ s2.tjPace < t + 32 then ({ s2 with power := { x with at95 := false } }, false)
    else if x.paceWait + 1 < 10 then ({ s2 with power := { x with paceWait := x.paceWait + 1, at95 := false } }, false)
    else if 100 ≤ x.pacePct + 2 then (s2.endPace, false)
    else (s2.setPace slot (x.pacePct + 2) nat, false)

/-- R351 and R352 of one sample. Log: 87 DEDUCED. -/
def State.thermal (s : State) (xs : List (Loom × Int)) (natural : List (Loom × Nat)) : State :=
  let r := s.pace xs natural
  let hot := xs.filter (fun e => decide (r.1.tjPace < e.2))
  let two : Bool := decide (2 ≤ hot.length)
  let first := hottest hot
  let other := hottest (hot.filter (fun e => some e.1 != first.map Prod.fst))
  let s1 := match other with
    | some (l, t) => if r.1.power.second then r.1 else r.1.raise 0x4303 0xFF [r.1.loomSlot l.n, tjParam t]
    | none => r.1
  { s1 with power := { s1.power with second := two } }.coolCut (two || r.2)

/-- OVERTEMP (R352): a monitor site above 100 °C for 1 ms. -/
def execOvertemp (tile : Phys) (tj : U16) (s : State) : Host.Outcome State Fault Refusal :=
  .next (
    if 1600 < int16 tj.toNat ∧ s.power.shutdown = 0 ∧ s.rst.ready then (s.raise 0x4305 0xFF [tile.val, tj.toNat]).startShutdown 2 else s)

/-! ### Low input (R361 to R363) -/

/-- The low-input cap no longer binds: E-4603 (R362). -/
def State.lowDone (s : State) : State :=
  match s.power.lowCap with
  | none => s
  | some l =>
    if s.power.rising ∧ min (s.cell 0x4000 1) (s.cell 0x4050 5) ≤ l then
      { s with power := { s.power with lowCap := none, rising := false, dutyFree := 0 } }.raise 0x4603 0xFF [s.power.vbus]
    else s

/-- LOW_INPUT_DETECT (R362): 85 % of the last complete 1 ms input power, or of the effective cap. -/
def execLowInputDetect (vbus : Nat) (duty busLimit : Bool) (s : State) : Host.Outcome State Fault Refusal :=
  .next (
    if (vbusRail.low ≤ vbus ∧ duty = false ∧ busLimit = false) ∨ (s.power.lowCap.isSome ∧ s.power.rising = false) ∨ s.booted = false then s
    else
      let c := s.power.inputW.getD s.effectiveCap * 85 / 100
      { s with power := { s.power with lowCap := some c, rising := false, dutyFree := 0, vbus := vbus } }.raise 0x4601 0xFF
        [vbus, s.power.inputW.getD 0])

/-- LOW_INPUT_RELEASE (R362): the cap begins to rise. Log: 88 DEDUCED. -/
def execLowInputRelease (vbus : Nat) (duty : Bool) (s : State) : Host.Outcome State Fault Refusal :=
  .next (
    if vbus < vbusRail.low ∨ duty ∨ s.power.lowCap = none ∨ s.power.rising then s
    else { s with power := { s.power with rising := true, dutyFree := 0, vbus := vbus } }.lowDone)

/-- VBUS_LOW_SHUTDOWN (R362). -/
def execVbusLowShutdown (vbus : Nat) (s : State) : Host.Outcome State Fault Refusal :=
  .next (if vbus < 102000 then { s with power := { s.power with vbus := vbus } }.startShutdown 1 else s)

/-- Every accepted Cellar write is completed (R158): the deltas not yet applied are applied. -/
def State.finishWrites (s : State) : State :=
  let s1 := s.cellar.writes.foldl (fun s w => if w.applied then s else s.applyDelta w) s
  { s1 with cellar := { s1.cellar with writes := [] } }

/-- WARM_SHUTDOWN (R363): Quiesce and Power down of the shutdown that R363's Stop has begun. Log: 88 DEDUCED. -/
def execWarmShutdown (s : State) : Host.Outcome State Fault Refusal :=
  .next (
    if s.power.shutdown ≠ 1 then s
    else
      let s1 := (s.plotsNow.foldl (fun s p => s.savePlot p) s).finishWrites
      let s2 := (s1.looms.map Prod.fst).foldl (fun s n => s.updLoom n (fun l => l.halt.unpower n)) s1
      { s2 with power := { s2.power with shutdown := 2, vcoreOff := true } })

/-- The low-input cap in one sample (R362): it falls while a regulator is duty-limited, and rises during the release.
Log: 88 DEDUCED. -/
def State.lowSample (s : State) (duty : Bool) : State :=
  match s.power.lowCap with
  | none => s
  | some l =>
    if duty then { s with power := { s.power with lowCap := some (l - s.capPart 5), rising := false, dutyFree := 0 } }
    else if s.power.rising = false then s
    else if s.power.dutyFree + 1 < 10 then { s with power := { s.power with dutyFree := s.power.dutyFree + 1 } }
    else { s with power := { s.power with lowCap := some (l + s.capPart 2), dutyFree := 0 } }.lowDone

/-- ALERT_N is low: cooling is degraded, the low-input cap is set, or an orderly warm shutdown runs (R440). Log: 88 DEDUCED. -/
def State.alert (s : State) : Bool := s.cell 0x4050 4 != 0 || s.power.lowCap.isSome || s.power.shutdown != 0

/-! ### The 1 ms sample (R337 to R342, R360) -/

/-- A record of R338. -/
def sampleWord (x : DomainSample) (estimated held remote cut : Bool) (seq : Nat) : Nat :=
  x.current.toNat + x.voltage.toNat * 2 ^ 16 + x.tj.toNat * 2 ^ 32 + (if estimated then 2 ^ 48 else 0) + (if x.duty then 2 ^ 49 else 0)
    + (if held then 2 ^ 50 else 0) + (if remote then 2 ^ 51 else 0) + (if cut then 2 ^ 52 else 0) + seq % 256 * 2 ^ 56

/-- A domain keeps its last 1,000 records; the newest is the value of 4020 to 4022 (R337, R364). -/
def State.keepSample (s : State) (d : Domain) (place : Nat) (w : Nat) : State :=
  let k := domainCode d * 112 + place
  { s with power := { s.power with hist := Tab.upd [] s.power.hist k (fun xs => (w :: xs).take 1000) } }

/-- A tile's domain sample is taken. -/
def State.takeTile (s : State) (d : Domain) (e : Phys × DomainSample) : State :=
  let r := s.reg e.1.val
  let w := sampleWord e.2 (r.senseBad d) (s.site e.1.val).heldSeen r.fallback (decide (0 < r.tileCut + s.power.engineCut)) s.power.sampleNo
  (s.keepSample d e.1.val w).updReg e.1.val (fun r => r.shedAt d e.2.current.toNat)

/-- TILE_CUT (R360). -/
def Reg.cut (r : Reg) (current : Nat) : Reg :=
  let cap := r.domainCap .vcore
  if cap < current then { r with tileCut := r.tileCut + 10, belowFor := 0 }
  else if current * 100 < 97 * cap then
    (if r.belowFor + 1 < 100 then { r with belowFor := r.belowFor + 1 }
     else { r with belowFor := 0, tileCut := r.tileCut - 5 })
  else { r with belowFor := 0 }

/-- The part of a tile's VCORE power that a plot's looms are charged, in µW (R341): leakage in equal parts, the rest by beats.
Log: 83 DEDUCED. -/
def State.tileCharge (s : State) (x : PowerIn) (p : Nat) (e : Phys × DomainSample) : Nat :=
  let c := s.site e.1.val
  if c.st ≠ .active then 0
  else
    let total := e.2.current.toNat * e.2.voltage.toNat
    let leak := min total ((((x.leakage.find? (fun l => l.1 == e.1)).map Prod.snd).getD 0) * 1000000)
    let beats := fun (n : Nat) => ((x.beats.find? (fun b => b.1.n == n)).map Prod.snd).getD 0
    let all := ((tileLooms c.logical).map beats).sum
    (((tileLooms c.logical).filter (fun n => (s.plot p).looms.contains n)).map (fun n =>
      leak / 20 + (if all = 0 then (total - leak) / 20 else (total - leak) * beats n / all))).sum

/-- Attributed power of every existing plot, and base power, in µW (R341). Log: 83 DEDUCED. -/
def State.attribute (s : State) (x : PowerIn) : List (Nat × Nat) × Nat :=
  let charges := s.plotsNow.map (fun p => (p, (x.vcore.map (s.tileCharge x p)).sum))
  let base := x.inputW * 1000000 - (charges.map Prod.snd).sum
  let shares := (s.plotsNow.map (fun p => s.effectiveShare p)).sum
  (charges.map (fun e => (e.1, e.2 + base * s.effectiveShare e.1 / max 1 shares)), base)

/-- Power of the last 10 ms and the gap it brings (R342). Log: 83 DEDUCED. -/
def State.plotSample (s : State) (p now : Nat) : State :=
  let xs := (now :: (s.plot p).power10).take 10
  let share := s.effectiveShare p * 1000000 * xs.length
  let s1 := s.updPlot p (fun y => { y with
    power10 := xs, gap := if share < xs.sum then y.gap + 10 else if xs.sum * 100 ≤ 95 * share then y.gap - 10 else y.gap })
  s1.measure (0x4200 + p) 3 (toLe 4 (f32Ratio now 1000000))

/-- The four Stewards agree the engine cap for the sample: each takes the effective cap (R29, R339). Log: 127 DESIGN CHOICE. -/
def State.agreeCap (s : State) : State :=
  { s with power := { s.power with stewardCap := (List.range 4).foldl (fun t q => Tab.set 0 t q s.effectiveCap) s.power.stewardCap } }

/-- The cap that the Stewards enforce: the least that one of them holds (R29). -/
def State.agreedCap (s : State) : Nat := (least (Tab.getList 0 s.power.stewardCap 0 4)).getD 0

/-- ENGINE_CUT (R342), with the gaps for every plot once every ACTIVE tile is at 0.62 V. Log: 83 DEDUCED. -/
def State.engineSample (s : State) (w : Nat) : State :=
  let x := s.power
  let cap := s.agreedCap
  let above := if cap < w then x.above + 1 else 0
  let last := (w :: x.last100).take 100
  let x1 := { x with above := above, last100 := last, inputW := some w }
  let excess : Bool := decide (transientLimit < w) || decide (10 ≤ above) || decide (cap * last.length < last.sum)
  let s1 := { s with power := x1 }
  if excess then
    let s2 := { s1 with power := { x1 with engineCut := x.engineCut + 10, fallFor := 0 } }
    if s.sites.all (fun e => e.2.st != .active || s.target e.1 == 620000) then
      let shares := (s.plotsNow.map (fun p => s.effectiveShare p)).sum
      s.plotsNow.foldl (fun s p => s.updPlot p (fun y => { y with
        gap := y.gap + 10 * s2.plotsNow.length * s2.effectiveShare p / max 1 shares })) s2
    else s2
  else if w * 100 < 97 * cap ∧ 0 < x.engineCut then
    (if x.fallFor + 1 < 10 then { s1 with power := { x1 with fallFor := x.fallFor + 1 } }
     else { s1 with power := { x1 with fallFor := 0, engineCut := x.engineCut - 5 } })
  else { s1 with power := { x1 with fallFor := 0 } }

/-- The effective beat rate of a loom in kbeat/s: its natural one, the ceiling of 4010:03, its pace limit (R59, R60). -/
def State.beatRate (s : State) (e : Loom × Nat) : Nat :=
  let c := ofLe (s.persistent 0x4010 3)
  let r := if c % 2 ^ 31 = 0 then e.2 else min e.2 (f32Scaled c 1000000)
  if s.loomSlot e.1.n = s.cell 0x4040 4 then min r (e.2 * s.power.pacePct / 100) else r

/-- 4010:01 and 4011: the lowest effective beat rates (R61). -/
def State.rateSample (s : State) (natural : List (Loom × Nat)) : State :=
  let s1 := match least (natural.map s.beatRate) with
    | some r => s.measure 0x4010 1 (toLe 4 (f32Ratio r 1000000))
    | none => s
  (List.range 112).foldl (fun s t =>
    let c := s.site t
    let r := if c.st = .active then (least ((natural.filter (fun e => e.1.tile.val == c.logical)).map s.beatRate)).getD 0 else 0
    s.measure 0x4011 (t + 1) (toLe 4 (f32Ratio r 1000000))) s1

/-- The measurement entries of 4000 and 4041 that a sample brings (R364). -/
def State.inputSample (s : State) (x : PowerIn) (base : Nat) : State :=
  let s1 := (s.measure 0x4000 4 (toLe 4 (f32Ratio x.inputW 1))).measure 0x4000 5 (toLe 4 (f32Ratio base 1000000))
  let s2 := (s1.measure 0x4000 0xC (toLe 4 (f32Ratio x.vbus 10000))).measure 0x4000 0xD (toLe 4 (f32Ratio x.vbusA 1))
  x.vcore.foldl (fun s e => s.setCell 0x4041 (e.1.val + 1) (degF32 (int16 e.2.tj.toNat)))
    (s2.measure 0x4000 0xE (toLe 4 (f32Ratio x.aux 10000)))

/-- POWER_SAMPLE (R29, R337): the Stewards agree the cap, every domain is sampled, power is attributed, then gaps, cuts, caps and pacing follow. -/
def execPowerSample (x : PowerIn) (s : State) : Host.Outcome State Fault Refusal :=
  .next (
    if s.booted = false then s
    else
      let ok : Bool := auxRail.holds x.aux
      let s1 := { s with power := { s.power with
        vbus := x.vbus, auxOk := ok, sampleNo := s.power.sampleNo + 1, sampleAt := s.now } }.agreeCap
      let s2 := x.vmem.foldl (fun s e => s.takeTile .vmem e) (x.vcore.foldl (fun s e => s.takeTile .vcore e) s1)
      let s3 := x.vio.foldl (fun s e => s.keepSample .vio e.1.val
        (sampleWord e.2 ((s.reg (128 + e.1.val)).senseBad .vio) false false (decide (0 < s1.power.engineCut)) s1.power.sampleNo)) s2
      let a := s3.attribute x
      let s4 := a.1.foldl (fun s e => s.plotSample e.1 e.2) (s3.inputSample x a.2)
      let s5 := (s4.engineSample x.inputW)
      let s6 := x.vcore.foldl (fun s e => s.updReg e.1.val (fun r => r.cut e.2.current.toNat)) s5
      let s7 := (x.vcore ++ x.vmem).foldl (fun s e => s.updSite e.1.val (fun c => { c with heldSeen := c.held.isSome })) s6
      let duty := (x.vcore ++ x.vmem).any (fun e => e.2.duty) || x.vio.any (fun e => e.2.duty)
      ((s7.lowSample duty).thermal (slotTj x) x.natural).rateSample x.natural)

end Sys2Proof.Machine
end

