-- ==== Sys2Proof/Machine/LedgerRead.lean ====
section
/-!
DEFINITION. What a read of a Ledger entry returns (R366 to R380, R394 and the tables of the other chapters): the values that other
pieces of state determine are computed here.
-/

namespace Sys2Proof.Machine

/-! ### Scalars -/

/-- A mask of the numbers below `n` that satisfy a test. -/
def maskOf (n : Nat) (p : Nat → Bool) : Nat := (((List.range n).filter p).map (fun i => 2 ^ i)).sum

/-- REG_STATUS of a tile (4060, R364). -/
def Reg.word (r : Reg) : Nat :=
  maskOf 7 (fun i => !Tab.get false r.opens (phaseKey .vcore i)) + maskOf 3 (fun i => !Tab.get false r.opens (phaseKey .vmem i)) * 2 ^ 7
    + maskOf 7 (fun i => Tab.get false r.senses (phaseKey .vcore i)) * 2 ^ 10
    + maskOf 3 (fun i => Tab.get false r.senses (phaseKey .vmem i)) * 2 ^ 17 + (if r.fallback then 2 ^ 20 else 0)
    + (if r.latched then 2 ^ 21 else 0) + r.retries % 4 * 2 ^ 22

/-- CAP_ACTIVE (4000:09, R364). Log: 60 DEDUCED. -/
def State.capActive (s : State) : Nat :=
  let cap := s.cell 0x4000 1
  (if 0 < s.power.engineCut then 1 else 0) + (if s.cell 0x4050 5 < cap then 2 else 0)
    + (if s.power.lowCap.any (fun l => decide (l < cap)) then 4 else 0) + (if s.power.hotCut then 8 else 0)
    + (if s.effectiveCap < s.shareSum then 16 else 0)

/-- Headroom and slot code of every active loom (R71, R72). -/
def State.headrooms (s : State) : List (Nat × Nat) :=
  (s.sites.filter (fun e => e.2.st == .active)).flatMap (fun e =>
    (tileLooms e.2.logical).filterMap (fun n => (s.slotOf n).map (fun k => ((s.slot k).headroom, slotCode k))))

/-- TAP_HEADROOM_MIN and its slot (9100:01, 9100:02). -/
def State.worstSlot (s : State) : Nat × Nat :=
  match least (s.headrooms.map Prod.fst) with
  | some h => (h, ((s.headrooms.find? (fun e => e.1 == h)).map Prod.snd).getD 0)
  | none => (0, 0)

/-- BELL_STATE codes (R83). -/
def BellState.code : BellState → Nat
  | .free => 0 | .acquiring => 1 | .locked => 2 | .holdover => 3

/-- ERASE_STATE (8300:03): SUSPENDED while no pending extent can be erased (R422). -/
def State.eraseState (s : State) : Nat :=
  if s.cellar.erase = [] then 0 else if s.cellar.erase.all (fun e => s.eraseSuspended e.1) then 2 else 1

/-- Scalars of areas 1 to 3 that are computed. -/
def State.scalar13 (s : State) (idx sub : Nat) : Option Nat :=
  if idx = 0x1000 then
    match sub with
    | 3 => some (s.factory.serial % 2 ^ 64)
    | 4 => some (match s.factory.grade with | .e108 => 1 | .e96 => 2)
    | 5 => some (s.slotRunning.fw % 2 ^ 32)
    | 6 => some (if s.boot.running then 1 else 0)
    | 0x10 => some s.factory.level
    | 0x11 => some s.classWord
    | _ => none
  else if idx = 0x2200 then (if sub = 4 then some s.openSessions.length else none)
  else if 0x3000 ≤ idx ∧ idx < 0x3010 then
    let y := s.plot (idx - 0x3000)
    match sub with
    | 2 => some ((if y.rightsA then 1 else 0) + (if y.rightsB then 2 else 0) + (if y.rightsM then 4 else 0))
    | 3 => some y.looms.length
    | _ => none
  else if idx = 0x3010 then
    match sub with
    | 1 => some (maskOf 16 (fun p => s.plotExists p))
    | 2 => some s.obFree
    | _ => some s.qpFree
  else none

/-- Scalars of areas 4 and 5 that are computed. Log: 55 DEDUCED. -/
def State.scalar45 (s : State) (idx sub : Nat) : Option Nat :=
  if idx = 0x4000 then (if sub = 3 then some s.effectiveCap else if sub = 9 then some s.capActive else none)
  else if idx = 0x4010 then (if sub = 2 then some s.factory.beat else none)
  else if 0x4020 ≤ idx ∧ idx < 0x4023 then some ((Tab.get [] s.power.hist ((idx - 0x4020) * 112 + (sub - 1))).headD 0)
  else if idx = 0x4060 then some (s.reg (sub - 1)).word
  else if 0x4200 ≤ idx ∧ idx < 0x4210 ∧ sub = 4 then
    some (if s.plotExists (idx - 0x4200) then s.effectiveShare (idx - 0x4200) else 0)
  else if idx = 0x5000 ∧ sub = 0x30 then some s.inboundFree
  else if 0x5100 ≤ idx ∧ idx < 0x5110 ∧ sub = 0x11 then some (s.inboundOf (idx - 0x5100))
  else if idx = 0x5400 then some (s.ferryAt (sub - 1)).word
  else if idx = 0x5800 then (if sub = 1 then some (s.now % 2 ^ 64) else if sub = 2 then some s.bell.st.code else none)
  else none

/-- Scalars of areas 6 to 9 that are computed. Log: 60 DEDUCED. -/
def State.scalar69 (s : State) (idx sub : Nat) : Option Nat :=
  if idx = 0x6000 then
    match sub with
    | 1 => some (s.extents * 2 ^ 24)
    | 2 => some (((List.range 112).filter (fun t => (s.site t).st == .reserve)).length * tileBytes)
    | 3 => some (s.factory.grade.tiles * 2 ^ 28)
    | _ => some s.freeExtents
  else if idx = 0x6030 then (if s.wheelRuns (sub - 1) then none else some 0)
  else if 0x6100 ≤ idx ∧ idx < 0x6110 ∧ sub = 5 then some (s.plotExtents (idx - 0x6100)).length
  else if 0x6200 ≤ idx ∧ idx < 0x6210 ∧ sub ≤ 0x10 then some (((s.pool (idx - 0x6200) (sub - 1)).map PoolSt.free).getD 0)
  else if 0x6200 ≤ idx ∧ idx < 0x6210 ∧ sub = 0x12 then
    some ((s.obOf (idx - 0x6200)).map (fun i =>
      ((s.obAt i).pages.filter (fun e => pgState ((s.obAt i).page e.1 e.2) == 4)).length)).sum
  else if idx = 0x7000 then
    (if sub = 1 then some (s.ev.seq % 2 ^ 32) else if sub = 4 then some (s.otp.map (fun e => e.2.length)).sum else none)
  else if idx = 0x7010 then some s.defects.length
  else if idx = 0x7020 then some (s.site (sub - 1)).word
  else if 0x8100 ≤ idx ∧ idx < 0x8110 then some (maskOf 2 (fun k => Tab.get [] (s.plot (idx - 0x8100)).keys k != []))
  else if idx = 0x8300 then (if sub = 2 then some s.cellar.erase.length else some s.eraseState)
  else if idx = 0x9100 then (if sub = 1 then some s.worstSlot.1 else if sub = 2 then some s.worstSlot.2 else none)
  else none

/-- The value of a scalar entry. -/
def State.scalar (s : State) (idx sub : Nat) : Nat :=
  let v := if idx < 0x4000 then s.scalar13 idx sub else if idx < 0x6000 then s.scalar45 idx sub
    else if idx < 0xA000 then s.scalar69 idx sub else none
  v.getD (s.cell idx sub)

/-! ### BLOBs and strings -/

/-- An event record (R389). -/
def EventRec.bytes (r : EventRec) : List Byte :=
  toLe 4 r.seq ++ toLe 2 r.ev ++ toLe 1 r.plot ++ toLe 1 (r.params.take 4).length ++ toLe 8 r.time
    ++ wordsLe 4 ((r.params ++ [0, 0, 0, 0]).take 4)

/-- A record of the field defect log (R407). -/
def DefectRec.bytes (r : DefectRec) : List Byte :=
  let b := toLe 1 r.kind ++ toLe 1 r.site ++ toLe 1 r.detail ++ toLe 1 r.promoted ++ toLe 8 r.time ++ toLe 4 r.mapGen ++ toLe 2 r.event
    ++ toLe 6 0
  b ++ toLe 4 (crc32 b) ++ toLe 4 0x4E444C47

/-- Bytes cut or padded with zeros to a length. Log: 57 DEDUCED. -/
def padTo (n : Nat) (b : List Byte) : List Byte := (b ++ List.replicate (n - b.length) 0).take n

/-- A generation record of an entry (R375): every field, then MARKER, which a valid record alone holds. -/
def GenRec.bytes (g : GenRec) (idx sub : Nat) : List Byte :=
  let b := toLe 2 idx ++ toLe 1 sub ++ toLe 1 g.value.length ++ padTo 20 g.value
  b ++ toLe 4 (crc32 b) ++ toLe 4 (if g.valid then 0x4E47454E else 0)

/-- The persistent entries in the order of the entry map (R375, R394). -/
def persistEntries : List (Nat × Nat) :=
  ((rows12 ++ rows3 ++ rows4 ++ rows5 ++ rows67 ++ rows89).filter (fun r => r.host == .rwp)).map (fun r => (r.base, r.lo))

/-- The generation records of the field area from byte 8,192 on (R375): four of 32 bytes for each persistent entry; unburned ones are
zero. -/
def State.genArea (s : State) : List Byte :=
  persistEntries.flatMap (fun e => padTo 128 ((Tab.get [] s.otp (ek e.1 e.2)).flatMap (fun g => g.bytes e.1 e.2)))

/-- A bit map of `n` bytes whose bit i says whether i satisfies a test. -/
def bitMap (n : Nat) (p : Nat → Bool) : List Byte :=
  (List.range n).map (fun k => BitVec.ofNat 8 (maskOf 8 (fun i => p (8 * k + i))))

/-- ASCII text as bytes. -/
def textBytes (t : String) : List Byte := t.toList.map (fun c => BitVec.ofNat 8 c.toNat)

/-- The strings of 1000:01 and 1000:02 (R394). -/
def State.text (s : State) (sub : Nat) : List Byte :=
  if sub = 1 then textBytes "Neltin Devices"
  else match s.factory.grade with
    | .e108 => textBytes "CW3-108E"
    | .e96 => textBytes "CW3-96E"

/-- SESSION_TABLE (2200:05). Log: 57 DEDUCED. -/
def State.sessionTable (s : State) : List Byte :=
  padTo 512 (s.openSessions.flatMap (fun e => toLe 1 e.1 ++ toLe 7 0 ++ toLe 8 e.2.opened))

/-- Insert a number into an ascending list. -/
def insertUp (x : Nat) : List Nat → List Nat
  | [] => [x]
  | y :: ys => if x ≤ y then x :: y :: ys else y :: insertUp x ys

/-- One loom's counters (R201). -/
def LoomSt.record (l : LoomSt) : List Byte := wordsLe 4 (Tab.getList 0 l.ctr 0 8)

/-- One slot header as SLOT_INFO gives it: 32 bytes, in the order of R423. Log: 56 DESIGN CHOICE. -/
def FlashSlot.bytes (x : FlashSlot) : List Byte := padTo 32 (toLe 4 x.st ++ toLe 4 x.seq ++ toLe 4 x.fw ++ toLe 4 x.svn)

/-- The header of a slot as it stands in the boot flash (R412): the fields that R412 lays out, reserved bits all ones. -/
def FlashSlot.header (x : FlashSlot) : List Byte :=
  toLe 4 x.magic ++ toLe 1 x.st ++ List.replicate 3 0xFF ++ toLe 4 x.seq ++ toLe 4 x.fw ++ toLe 2 x.svn ++ toLe 4 x.length
    ++ padTo 48 x.digest ++ padTo 96 x.signature

/-- Where a slot begins in the boot flash (R412). -/
def slotBase (b : Bool) : Nat := if b then 0x10000000 else 0

/-- A domain's history (R338): the time of its newest sample, then 1,000 records, oldest first. Log: 55 DEDUCED, 57 DEDUCED. -/
def State.history (s : State) (k : Nat) : List Byte :=
  let xs := Tab.get [] s.power.hist k
  toLe 8 s.power.sampleAt ++ padTo 8000 (List.replicate (8000 - 8 * xs.length) 0 ++ wordsLe 8 xs.reverse)

/-- The bytes of a BLOB that is no measurement entry. -/
def State.blobValue (s : State) (idx sub : Nat) : List Byte :=
  if idx = 0x2100 then wordsLe 2 ((List.range 64).map (fun k => s.holder k))
  else if idx = 0x2200 ∧ sub = 5 then s.sessionTable
  else if 0x3000 ≤ idx ∧ idx < 0x3010 then bitMap 270 (fun n => (s.plot (idx - 0x3000)).looms.contains n)
  else if 0x3300 ≤ idx ∧ idx < 0x3310 then ((s.footprint (idx - 0x3300)).foldr insertUp []).flatMap (fun n => (s.loom n).record)
  else if 0x4030 ≤ idx ∧ idx < 0x4033 then s.history ((idx - 0x4030) * 112 + (sub - 1))
  else if idx = 0x5000 ∧ sub ≠ 0x50 then wordsLe 8 (Tab.getList 0 s.ethCtr ((sub - 0x21) * 8) 8)
  else if idx = 0x5450 then wordsLe 8 (Tab.getList 0 (s.ferryAt (sub - 1)).ctr 0 8)
  else if idx = 0x7000 then padTo 32768 (s.ev.log.flatMap EventRec.bytes)
  else if idx = 0x7010 then padTo 8192 (s.defects.flatMap DefectRec.bytes)
  else if idx = 0x8000 ∧ sub = 2 then (List.range 2048).map Config.deviceCert
  else if idx = 0x8010 then s.boot.slotA.bytes ++ s.boot.slotB.bytes
  else if idx = 0x8300 then bitMap 2376 (fun x => Tab.get 0 s.cellar.erase x != 0)
  else s.blobAt idx sub

/-- The beat-rate ceiling with which a replacement matches this unit (R443): 4010:03 where it is not 0.0, else 4010:02; FP32 codes. -/
def State.matchCeiling (s : State) : Nat :=
  let c := ofLe (s.persistent 0x4010 3)
  if c % 2 ^ 31 = 0 then s.factory.beat else c

/-! ### An entry's value -/

/-- A measurement entry (R378); a sweep's result while the sweep runs (R322). 6020:03 has a value at each row that is rebuilt, and is
answered while the rebuild runs. Log: 60 DESIGN CHOICE. -/
def State.measOf (s : State) (idx sub : Nat) : Meas :=
  if idx = 0x5600 then { s.measAt idx sub with running := s.sweep.isSome }
  else s.measAt idx sub

/-- The counters of an Ethernet port that no command of the table raises are open values (R328): ECN marks alone are known.
Log: 54 DESIGN CHOICE. -/
def State.drawEth (s : State) (port : Nat) : List Byte × State :=
  let r := (List.range 8).foldl (fun (t : List Nat × State) k =>
    if k = 5 then (t.1 ++ [Tab.get 0 s.ethCtr (port * 8 + 5)], t.2) else (t.1 ++ [t.2.draw.1 % 2 ^ 64], t.2.draw.2)) ([], s)
  (wordsLe 8 r.1, r.2)

/-- The bytes that a read of an entry returns, and the state with the open values it drew. Log: 54 DESIGN CHOICE. -/
def State.fetch (s : State) (r : Row) (idx sub : Nat) : List Byte × State :=
  if r.meas then ((s.measOf idx sub).value, s)
  else if r.host = .rwp then (s.persistent idx sub, s)
  else if idx = 0x2200 ∧ sub = 8 then (toLe 4 (s.draw.1 % 4), s.draw.2)
  else if idx = 0x5000 ∧ 0x21 ≤ sub ∧ sub ≤ 0x28 then s.drawEth (sub - 0x21)
  else match r.ty with
    | .str => (s.text sub, s)
    | .blob => (s.blobValue idx sub, s)
    | t => (toLe t.size (s.scalar idx sub), s)

/-- Checks 3 and 4 of R371 for a read. -/
def State.readCheck (s : State) (w : Requester) (cmd : Cmd) (idx sub : Nat) : Sum Status Row :=
  if 0xF000 ≤ idx then .inl .denied
  else match entry idx sub with
    | none => .inl .badIndex
    | some r => if s.classOk w cmd r idx then .inr r else .inl .denied

/-- A READ (R379, R382). Log: 53 DEDUCED. -/
def State.readReply (s : State) (w : Requester) (idx sub : Nat) (newer : Bool) (arg : Nat) : State × Reply :=
  match s.readCheck w .read idx sub with
  | .inl st => (s, { status := st, gen := s.gen idx sub })
  | .inr r =>
    let m := s.measOf idx sub
    let seq := if r.meas then m.seq else 0
    let gen := if r.host = .rwp then s.gen idx sub else 0
    if r.meas ∧ (m.ready = false ∨ m.running ∨ (newer ∧ m.seq = arg)) then (s, { status := .notReady, seq })
    else
      let v := s.fetch r idx sub
      if bodyLimit w < v.1.length then (v.2, { status := .noSpace, seq, gen })
      else (v.2, { status := .done, seq, gen, type := r.ty.code, body := v.1 })

/-- A BLOCK_READ (R380, R382). -/
def State.blockReply (s : State) (w : Requester) (idx sub offset : Nat) (body : List Byte) : State × Reply :=
  match s.readCheck w .blockRead idx sub with
  | .inl st => (s, { status := st, gen := s.gen idx sub })
  | .inr r =>
    let m := s.measOf idx sub
    let seq := if r.meas then m.seq else 0
    let gen := if r.host = .rwp then s.gen idx sub else 0
    if r.ty ≠ .blob ∨ body.length ≠ 4 ∨ ofLe body = 0 ∨ (0 < r.len ∧ r.len ≤ offset) then (s, { status := .badValue, seq, gen })
    else if r.meas ∧ (m.ready = false ∨ m.running) then (s, { status := .notReady, seq })
    else
      let v := s.fetch r idx sub
      if v.1.length ≤ offset then (v.2, { status := .badValue, seq, gen })
      else (v.2, { status := .done, seq, gen, type := r.ty.code,
                   body := (v.1.drop offset).take (min (ofLe body) (bodyLimit w)) })

end Sys2Proof.Machine
end

