-- ==== Sys2Proof/Machine/Ledger.lean ====
section
/-! DEFINITION. The Ledger's commands, sessions, subscriptions and refreshed measurements (R369 to R392, R417, R435, R436). -/

namespace Sys2Proof.Machine

/-! ### Reads and writes -/

/-- READ (R379, R382). A READ of 8020:02 is the command REPORT. -/
def execRead (f : Sender) (idx : U16) (sub : Byte) (newer : Bool) (arg : U32) (s : State) : Host.Outcome State Fault Refusal :=
  .next (
    if idx.toNat = 0x8020 ∧ sub.toNat = 2 then s
    else s.serve f { cmd := .read, idx := idx.toNat, sub := sub.toNat, flags := if newer then 1 else 0, arg := arg.toNat }
      (fun s => s.readReply f.who idx.toNat sub.toNat newer arg.toNat))

/-- BLOCK_READ (R380, R382). -/
def execBlockRead (f : Sender) (idx : U16) (sub : Byte) (offset : U32) (body : List Byte) (s : State) :
    Host.Outcome State Fault Refusal :=
  .next (s.serve f { cmd := .blockRead, idx := idx.toNat, sub := sub.toNat, arg := offset.toNat, body }
    (fun s => s.blockReply f.who idx.toNat sub.toNat offset.toNat body))

/-- Entries whose WRITE is a command of its own. -/
def ownRow (idx sub : Nat) (body : List Byte) : Bool :=
  (idx == 0x2100 && sub == 2)
    || (decide (0x3000 ≤ idx) && decide (idx < 0x3010) && ((decide (5 ≤ sub) && decide (sub ≤ 0xA)) || sub == 0x10
        || (sub == 0x11 && (body == [1] || body == [2]))))
    || (decide (0x3100 ≤ idx) && decide (idx < 0x3110) && sub == 0x10)
    || (idx == 0x4000 && sub == 1)
    || (decide (0x4200 ≤ idx) && decide (idx < 0x4210) && sub == 1)
    || (idx == 0x5000 && decide (1 ≤ sub) && decide (sub ≤ 8))
    || (decide (0x5100 ≤ idx) && decide (idx < 0x5110) && decide (1 ≤ sub) && decide (sub ≤ 0x10))
    || idx == 0x5410 || idx == 0x5430 || (idx == 0x5600 && sub == 1) || (idx == 0x5800 && (sub == 3 || sub == 4))
    || (idx == 0x8010 && (sub == 2 || sub == 3)) || (idx == 0x8020 && sub == 1)
    || (decide (0x8100 ≤ idx) && decide (idx < 0x8110) && (sub == 2 || sub == 3))

/-- Store the body of an accepted write (R372). -/
def State.store (s : State) (idx sub : Nat) (body : List Byte) : State :=
  match entry idx sub with
  | some r => if r.ty = .blob then s.setBlob idx sub body else s.setCell idx sub (ofLe body)
  | none => s

/-- WRITE (R372) to an entry whose write is no command of its own. -/
def execWrite (f : Sender) (idx : U16) (sub : Byte) (body : List Byte) (s : State) : Host.Outcome State Fault Refusal :=
  .next (
    if ownRow idx.toNat sub.toNat body then s
    else s.serveWrite f idx.toNat sub.toNat body (fun _ => none) (fun s => s.store idx.toNat sub.toNat body))

/-- WRITE_PERSIST (R376). One to 1000:12 is the command PINNED_LEVEL. -/
def execWritePersist (f : Sender) (idx : U16) (sub : Byte) (body : List Byte) (s : State) : Host.Outcome State Fault Refusal :=
  .next (
    if idx.toNat = 0x1000 ∧ sub.toNat = 0x12 then s
    else s.servePersist f idx.toNat sub.toNat body (fun _ => none) id)

/-! ### Keys (R282, R284, R382) -/

/-- Whether a requester may use the commands beyond reads (R281, R382). -/
def plainRequester : Requester → Bool
  | .host fn => fn.vf.isNone
  | .mgmt _ => true

/-- KEY_TAKE (R382): the holder's ID comes back with BUSY. Log: 57 DEDUCED. -/
def execKeyTake (f : Sender) (k : Fin 64) (s : State) : Host.Outcome State Fault Refusal :=
  .next (s.serve f { cmd := .keyTake, arg := k.val } (fun s =>
    if plainRequester f.who = false then (s, { status := .denied })
    else
      let r := s.takeKey f.who k.val
      (r.2, { status := if r.1 = 0 then .done else .busy, type := Ty.u16.code, body := toLe 2 r.1 })))

/-- KEY_GIVE (R284, R382). -/
def execKeyGive (f : Sender) (k : Fin 64) (s : State) : Host.Outcome State Fault Refusal :=
  .next (s.serve f { cmd := .keyGive, arg := k.val } (fun s =>
    if plainRequester f.who = false then (s, { status := .denied })
    else
      let r := s.giveKey f.who k.val
      (r.2, { status := if r.1 then .done else .denied })))

/-! ### Sessions (R387, R388) -/

/-- CLOSE_SESSION (R382, R387): through a mailbox, only a session that was opened through it. -/
def execCloseSession (f : Sender) (session : Byte) (s : State) : Host.Outcome State Fault Refusal :=
  .next (
    let n := session.toNat
    let q : Req := { cmd := .closeSession, sess := n }
    match f.who with
    | .mgmt m =>
      if m ≠ session then s else s.serve f q (fun s => (s.endSession n 0 4, { status := .done }))
    | .host fn =>
      s.serve f q (fun s =>
        match s.session n with
        | some x => if fn.vf = none ∧ x.via = some fn.port then (s.endSession n 0 4, { status := .done }) else (s, { status := .denied })
        | none => (s, { status := .denied })))

/-- REQUEST_REPEAT (R388): the kept response goes out again under a new COUNTER; nothing is applied.
Log: 14 DEDUCED, 52 DESIGN CHOICE. -/
def execRequestRepeat (f : Sender) (command : Byte) (idx : U16) (sub : Byte) (s : State) : Host.Outcome State Fault Refusal :=
  .next (
    match f.who with
    | .host _ => s
    | .mgmt n =>
      if s.serving = false then s
      else match s.session n.toNat with
      | none => s
      | some x =>
        match x.kept with
        | none => s
        | some r =>
          if x.via.isSome ∨ x.prev ≠ some (f.tag.toNat, command.toNat, idx.toNat, sub.toNat) then s
          else if f.authentic = false then s.dropFrame 6
          else if f.counter.toNat ≤ x.rxCounter then s.dropFrame 7
          else (s.updSession n.toNat (fun x =>
            { x with rxCounter := f.counter.toNat, lastRx := s.now, txCounter := x.txCounter + 1 })).emit (.reply f.who f.tag.toNat r))

/-- SESSION_IDLE_EXPIRE (R387). Log: 58 DEDUCED. -/
def execSessionIdleExpire (session : Byte) (s : State) : Host.Outcome State Fault Refusal :=
  .next (
    match s.session session.toNat with
    | none => s
    | some x => if s.now < x.lastRx + s.cell 0x2200 3 * 1000000 then s else s.endSession session.toNat 1 4)

/-! ### Events (R391, R392) -/

/-- The subscription that a body asks for (R391). -/
def subscription (v vector : Nat) : Subscription :=
  { active := v != 0, areas := bits v 15 0, plots := bits v 31 16, noPlot := bit v 32, vector }

/-- SUBSCRIBE (R391): it replaces the requester's subscription; what was matched and not sent is discarded. The window of R392 goes
on. Log: 59 DEDUCED. -/
def execSubscribe (f : Sender) (arg : U32) (body : List Byte) (s : State) : Host.Outcome State Fault Refusal :=
  .next (s.serve f { cmd := .subscribe, arg := arg.toNat, body } (fun s =>
    let v := ofLe body
    let done : Reply := { status := .done, seq := s.ev.seq }
    if plainRequester f.who = false then (s, { status := .denied })
    else if body.length ≠ 8 ∨ bits v 63 33 ≠ 0 then (s, { status := .badValue })
    else match f.who with
      | .host fn =>
        let old := s.ev.sub fn.port
        let b := { subscription v (arg.toNat % 2048) with lastIrq := old.lastIrq }
        ({ s with ev := { s.ev with port := Tab.set {} s.ev.port fn.port.n b } }, done)
      | .mgmt n => (s.updSession n.toNat (fun x => { x with sub := { subscription v 0 with sentAt := x.sub.sentAt } }), done)))

/-- EVENT_IRQ (R392): the raise that was put off, once 100 µs have passed since the last. Log: 59 DEDUCED. -/
def execEventIrq (x : Port) (s : State) : Host.Outcome State Fault Refusal :=
  .next (
    let b := s.ev.sub x
    if b.active = false ∨ b.irqDue = false ∨ b.lastIrq.any (fun t => decide (s.now < t + 100000)) then s
    else
      ({ s with ev := { s.ev with port := Tab.set {} s.ev.port x.n { b with irqDue := false, lastIrq := some s.now } } }).emit
        (.msix { port := x, vf := none } b.vector))

/-- EVENT_FRAME (R392): up to 32 records, with the newest EVSEQ, as far as the window of 2,000 in 1,000 ms allows; the others are omitted and counted.
Log: 59 DEDUCED. -/
def execEventFrame (session : Byte) (s : State) : Host.Outcome State Fault Refusal :=
  .next (
    match s.session session.toNat with
    | none => s
    | some x =>
      if x.sub.unsent = [] ∨ x.via.isSome then s
      else
        let sent := x.sub.sentAt.filter (fun t => decide (s.now < t + second))
        let batch := x.sub.unsent.take 32
        let ok := batch.take (2000 - sent.length)
        let s1 := s.updSession session.toNat (fun x => { x with
          txCounter := if ok = [] then x.txCounter else x.txCounter + 1,
          sub := { x.sub with unsent := x.sub.unsent.drop 32, sentAt := sent ++ List.replicate ok.length s.now } })
        let s2 := if ok.length = batch.length then s1 else s1.bump 64 0x7000 3 (batch.length - ok.length)
        if ok = [] then s2 else s2.emit (.eventFrame session.toNat ok s2.ev.seq))

/-! ### Measurements (R378, R435, R436) -/

/-- STATE_COUNTS of a plot (A100+p:0A): entries in each state, FREE ones as far as the quota goes. Log: 57 DEDUCED. -/
def State.stateCounts (s : State) (p : Nat) : List Nat :=
  (List.range 10).map (fun c =>
    if c = 0 then s.cell (0x3000 + p) 5 - (s.obOf p).length
    else ((s.obOf p).filter (fun i => (s.obAt i).st.code == c)).length)

/-- The highest residual over all plots and layers, and where it lies (9440, R435). Log: 20 DEDUCED. -/
def State.worstResidual (s : State) : Option (Nat × Nat) :=
  (s.meas.filter (fun e => decide (0x9300 ≤ e.1 / 256) && decide (e.1 / 256 < 0x9310) && e.2.ready)).foldl (fun a e =>
    let v := ofLe e.2.value
    let here := (e.1 % 256 - 1) + (e.1 / 256 - 0x9300) * 256
    match a with
    | none => some (v, here)
    | some b => if f32Key b.1 < f32Key v then some (v, here) else a) none

/-- MEASUREMENT_REFRESH (R378) of the entries that no other command refreshes: what the engine counts itself is taken from the state,
the phase error from outside, while the reference is present (R83). -/
def execMeasurementRefresh (idx : U16) (sub : Byte) (value : List Byte) (s : State) : Host.Outcome State Fault Refusal :=
  .next (
    let p := idx.toNat - 0xA100
    if idx = 0xA000 ∧ sub = 4 then s.measure 0xA000 4 (toLe 4 s.ob.length)
    else if 0xA100 ≤ idx.toNat ∧ idx.toNat < 0xA110 ∧ s.plotExists p then
      (if sub = 8 then
        (let x := (s.plot p).recent s.now
         s.measure idx.toNat 8 (toLe 4 (f32Ratio (x.map (fun e => e.2.2)).sum (x.map (fun e => e.2.1)).sum)))
       else if sub = 9 then s.measure idx.toNat 9 (wordsLe 4 (Tab.getList 0 (s.plot p).hist 0 32))
       else if sub = 10 then s.measure idx.toNat 10 (wordsLe 4 (s.stateCounts p))
       else s)
    else if idx = 0x5800 ∧ sub = 5 then
      (if (s.bell.st = .acquiring ∨ s.bell.st = .locked) ∧ value.length = 4 then s.measure 0x5800 5 value else s)
    else if idx = 0x9440 ∧ sub = 1 then
      match s.worstResidual with
      | some r => (s.measure 0x9440 1 (toLe 4 r.1)).setCell 0x9440 2 r.2
      | none => s
    else s)

/-- Lanes of a port kind, ports of it, and its entry (R435). -/
def eyeLanes (kind : Nat) : Nat := if kind = 2 then 16 else 8
def eyePorts (kind : Nat) : Nat := if kind = 0 then 8 else if kind = 1 then 36 else 2
def eyeEntry (kind : Nat) : Nat := 0x9400 + 16 * kind

/-- One lane of an eye refresh (R436): E-9401 when it falls below a minimum, E-9402 after 60 s at or above both. -/
def State.eyeLane (s : State) (kind port lane : Nat) (v : Nat × Nat) : State :=
  let k := kind * 65536 + port * 256 + lane
  let bad : Bool := decide (v.1 < s.cell 0x9430 2) || decide (v.2 < s.cell 0x9430 1)
  let ps := [kind * 256 + port, lane, v.1, v.2]
  match s.eyes.find? (fun e => e.1 == k) with
  | none => if bad then { s with eyes := Tab.insert k none s.eyes }.raise 0x9401 0xFF ps else s
  | some (_, since) =>
    if bad then { s with eyes := Tab.insert k none (Tab.erase k s.eyes) }
    else match since with
      | none => { s with eyes := Tab.insert k (some s.now) (Tab.erase k s.eyes) }
      | some t => if s.now < t + 60 * second then s else { s with eyes := Tab.erase k s.eyes }.raise 0x9402 0xFF ps

/-- Whether a lane is in use (R294, R309, R319, R271): an Ethernet mode uses the lowest-numbered lanes, a Ferry link the group that it
trained, a host link the first ones of its width. Log: 130 DEDUCED. -/
def State.laneInUse (s : State) (kind port lane : Nat) : Bool :=
  if kind = 0 then decide (lane < ethLanes (s.ethMode port))
  else if kind = 1 then bit (s.ferryAt port).lanes lane
  else decide (lane < bits (s.cell 0x2000 (if port = 0 then 2 else 0x12)) 15 8)

/-- EYE_REFRESH (R435, R436): a lane that is not in use reads zero, and is judged by no minimum. -/
def execEyeRefresh (kind : Fin 3) (port : Fin 36) (lanes : List (U16 × U16)) (s : State) : Host.Outcome State Fault Refusal :=
  .next (
    let n := eyeLanes kind.val
    if eyePorts kind.val ≤ port.val ∨ lanes.length ≠ n then s
    else
      let v := (List.range n).flatMap (fun i =>
        let e : U16 × U16 := if s.laneInUse kind.val port.val i then lanes.getD i (0, 0) else (0, 0)
        toLe 2 e.1.toNat ++ toLe 2 e.2.toNat)
      let s1 := s.measure (eyeEntry kind.val) (port.val + 1) v
      (List.range n).foldl (fun s i =>
        let e := lanes.getD i (0, 0)
        if s.laneInUse kind.val port.val i then s.eyeLane kind.val port.val i (e.1.toNat, e.2.toNat) else s) s1)

end Sys2Proof.Machine
end

