-- ==== Sys2Proof/Machine/Faults.lean ====
section
/-! DEFINITION. Liveness of tiles, failed tiles, heartbeats and takeovers (R396 to R406). -/

namespace Sys2Proof.Machine

/-- LIVENESS_EXCHANGE (R399): five unanswered exchanges in a row are reported to the active Reeve, which declares the tile
failed. A tile that answers nobody is ABSENT. Log: 89 DEDUCED. -/
def execLivenessExchange (tile : Phys) (answered : Bool) (s : State) : Host.Outcome State Fault Refusal :=
  .next (
    if (s.site tile.val).st = .absent then s
    else if answered then s.updSite tile.val (fun c => { c with missed := 0 })
    else
      let s1 := s.updSite tile.val (fun c => { c with missed := c.missed + 1 })
      if 5 ≤ (s1.site tile.val).missed ∧ s.procs.reeveLost = false then s1.failTile tile.val .liveness false else s1)

/-- TILE_FAIL (R401). -/
def execTileFail (tile : Phys) (cause : TileCause) (sound : Bool) (s : State) : Host.Outcome State Fault Refusal :=
  .next (s.failTile tile.val cause sound)

/-- A Reeve is active again after a takeover: the tile failures that waited for its agreement are carried out (R29), and it rewrites the
destination-table entries that wait (R50). -/
def State.reeveBack (s : State) : State := (s.endRecovery.failWaiting).reissueStale

/-- HEARTBEAT_SEND (R402). The first beat of a standby that took over ends the takeover (R404); a unit that is lost sends none. -/
def execHeartbeatSend (u : Beater) (s : State) : Host.Outcome State Fault Refusal :=
  .next (
    if s.rst.ready = false then s
    else match u with
    | .reeve =>
      if 2 ≤ s.procs.reevesLost then s
      else
        let s1 : State := { s with procs := { s.procs with reeveBeat := s.now, reeveLost := false } }
        if s.procs.reeveLost then s1.reeveBack else s1
    | .constable =>
      if 2 ≤ s.procs.constablesLost then s
      else
        let s1 : State := { s with procs := { s.procs with constableBeat := s.now, constableLost := false } }
        if s.procs.constableLost then s1.endRecovery else s1
    | .drover k =>
      if Tab.get false s.procs.droverLost k.val then s
      else { s with procs := { s.procs with droverBeat := Tab.set 0 s.procs.droverBeat k.val s.now } })

/-- The plots of a Drover (3000+p:0B). -/
def State.plotsOfDrover (s : State) (k : Nat) : List Nat := s.plotsNow.filter (fun p => s.cell (0x3000 + p) 0xB == k)

/-- A plot moves to another Drover: the steps that the lost one formed are discarded and will be re-run (R403). Log: 90 DEDUCED. -/
def State.moveDrover (s : State) (p k : Nat) : State := (s.discardAll p).setCell (0x3000 + p) 0xB k

/-- DROVER_LOSS (R402, R403): one heartbeat was missed, and the active Reeve declares the Drover lost. With both Drovers of a
pair lost nobody forms the plots' steps any more (R406). Log: 90 DEDUCED. -/
def execDroverLoss (k : Fin 4) (s : State) : Host.Outcome State Fault Refusal :=
  .next (
    if s.rst.ready = false ∨ s.procs.reeveLost ∨ Tab.get false s.procs.droverLost k.val
        ∨ s.now ≤ Tab.get 0 s.procs.droverBeat k.val + milli then s
    else
      let ps := s.plotsOfDrover k.val
      let other := (k.val + 2) % 4
      let s1 := (s.noteLapse (s.lapseOf none)).beginRecovery
      let s2 : State := { s1 with procs := { s1.procs with droverLost := Tab.set false s1.procs.droverLost k.val true } }
      if Tab.get false s.procs.droverLost other then ps.foldl (fun s p => s.discardAll p) s2
      else ((ps.foldl (fun s p => s.moveDrover p other) s2).bump 32 0x7110 3 1).endRecovery.raise 0x7122 0xFF
        [k.val, (ps.map (fun p => 2 ^ p)).sum])

/-- REEVE_TAKEOVER (R402, R404): three heartbeats were missed. The standby takes over with what was mirrored to it; until its
first heartbeat requests wait. With no standby left nobody serves the Ledger (R406). Log: 90 DEDUCED. -/
def execReeveTakeover (s : State) : Host.Outcome State Fault Refusal :=
  .next (
    if s.rst.ready = false ∨ s.procs.reeveLost ∨ s.now ≤ s.procs.reeveBeat + 3 * milli then s
    else if 1 ≤ s.procs.reevesLost then { s with procs := { s.procs with reeveLost := true, reevesLost := 2 } }
    else
      let s1 := (s.noteLapse (s.lapseOf none)).beginRecovery
      let die := (s1.cell 0x7110 1 + 1) % 2
      let s2 : State := { s1 with procs := { s1.procs with reeveLost := true, reevesLost := 1, reeveBeat := s.now } }
      ((s2.setCell 0x7110 1 die).bump 32 0x7110 3 1).raise 0x7120 0xFF [die])

/-- CONSTABLE_TAKEOVER (R402, R404): as above; firewall changes, image authentication and erasure wait until the standby's first
heartbeat. Log: 90 DEDUCED. -/
def execConstableTakeover (s : State) : Host.Outcome State Fault Refusal :=
  .next (
    if s.rst.ready = false ∨ s.procs.constableLost ∨ s.now ≤ s.procs.constableBeat + 3 * milli then s
    else if 1 ≤ s.procs.constablesLost then { s with procs := { s.procs with constableLost := true, constablesLost := 2 } }
    else
      let s1 := (s.noteLapse (s.lapseOf none)).beginRecovery
      let die := (s1.cell 0x7110 2 + 1) % 2
      let s2 : State := { s1 with procs := { s1.procs with constableLost := true, constablesLost := 1, constableBeat := s.now } }
      ((s2.setCell 0x7110 2 die).bump 32 0x7110 3 1).raise 0x7121 0xFF [die])

end Sys2Proof.Machine
end

