-- ==== Sys2Proof/Machine/Security.lean ====
section
/-! DEFINITION. Secure boot, firmware update, attestation, sessions' opening, Parcel keys, isolation digests (R411 to R423, R442). -/

namespace Sys2Proof.Machine

/-! ### Boot slots (R412, R413) -/

/-- Code of a slot: 0 A, 1 B (1000:06). -/
def slotBit (b : Bool) : Nat := if b then 1 else 0

/-- A boot flash slot: false A, true B. -/
def Boot.slot (x : Boot) (b : Bool) : FlashSlot := if b then x.slotB else x.slotA

/-- Change a slot's header. -/
def Boot.setSlot (x : Boot) (b : Bool) (v : FlashSlot) : Boot := if b then { x with slotB := v } else { x with slotA := v }

/-- Whether a slot's firmware may start: VALID, so its signature was checked, and its SVN is at least MIN_SVN (R411, R413). -/
def State.bootable (s : State) (b : Bool) : Bool :=
  (s.boot.slot b).st == 0x3F && decide (ofLe (s.persistent 0x8010 5) ≤ (s.boot.slot b).svn)

/-- The slot tried first: the VALID one with the higher UPDATE_SEQ (R413). -/
def Boot.first (x : Boot) : Bool := x.slotB.st == 0x3F && (x.slotA.st != 0x3F || decide (x.slotA.seq < x.slotB.seq))

/-- The boot ROM's choice (R413): the first slot, the other one with E-8001, or recovery. A slot that has not run before begins
with no failed boot. The management address and port take effect (R394). Log: 61 DEDUCED, 92 DEDUCED. -/
def State.bootSelect (s0 : State) : State :=
  let s := { s0 with rst := { s0.rst with address := s0.persistent 0x2200 1, udpPort := ofLe (s0.persistent 0x2200 2) } }
  let b := s.boot.first
  let go := fun (s : State) (x : Bool) =>
    ({ s with boot := { s.boot with running := x, recovery := false,
                                    failures := if s.boot.running = x then s.boot.failures else 0 },
              rst := { s.rst with bootAt := s.now } } : State)
  if s.bootable b then go s b
  else if s.bootable (!b) then (go s (!b)).raise 0x8001 0xFF [slotBit (!b)]
  else { s with boot := { s.boot with recovery := true }, rst := { s.rst with bootAt := s.now } }

/-- BOOT_TIMEOUT (R413): the running slot has not brought READY within 10 s. After the third boot in a row it is INVALID, and the
other one boots, with E-8001. Log: 92 DEDUCED. -/
def execBootTimeout (s : State) : Host.Outcome State Fault Refusal :=
  .next (
    if s.rst.ready ∨ s.boot.recovery ∨ (s.rst.phase ≠ .booting ∧ s.rst.phase ≠ .warm) ∨ s.now < s.rst.bootAt + 10 * second then s
    else if s.boot.failures + 1 < 3 then
      { s with boot := { s.boot with failures := s.boot.failures + 1 }, rst := { s.rst with bootAt := s.now } }
    else
      let old := s.boot.running
      let s1 : State := { s with boot := s.boot.setSlot old { s.boot.slot old with st := 0 } }
      if s1.bootable (!old) then
        { s1 with boot := { s1.boot with running := !old, failures := 0 }, rst := { s1.rst with bootAt := s.now } }.raise 0x8001 0xFF
          [slotBit (!old)]
      else { s1 with boot := { s1.boot with recovery := true, failures := 0 } })

/-! ### Firmware update (R414, R415) -/

/-- Whether an update runs (8010:01). -/
def State.updating (s : State) : Bool := decide (1 ≤ s.cell 0x8010 1) && decide (s.cell 0x8010 1 ≤ 4)

/-- The target of an update: the slot that is not running (R414). -/
def State.idleSlot (s : State) : FlashSlot := s.boot.slot (!s.boot.running)

/-- Write the target slot's header. -/
def State.setIdleSlot (s : State) (v : FlashSlot) : State := { s with boot := s.boot.setSlot (!s.boot.running) v }

/-- UPDATE_REQUEST (R414): through a host port alone. -/
def execUpdateRequest (f : Sender) (body : List Byte) (s : State) : Host.Outcome State Fault Refusal :=
  .next (s.serveWrite f 0x8010 2 body
    (fun s => if field body 12 4 ≠ 0 then some .badValue else if s.updating then some .busy else none)
    (fun s => { s with boot := { s.boot with fromHost := true, chunks := [], head := [] } }.setCell 0x8010 1 1))

/-- A chunk of the slot image arrives (8010:03). Log: 93 DEDUCED. -/
def Boot.addChunk (x : Boot) (body : List Byte) : Boot :=
  let o := field body 0 8
  { x with chunks := if x.chunks.contains o then x.chunks else x.chunks ++ [o],
           head := if o = 0 then (body.drop 8).take 166 else x.head }

/-- UPDATE_CHUNK (R414): the first chunk begins an update that is fed so; the others come in the phase Program. An offset is a
multiple of 1,024 inside the slot (DESIGN CHOICE: the spec gives no range). Log: 93 DEDUCED. -/
def execUpdateChunk (f : Sender) (body : List Byte) (s : State) : Host.Outcome State Fault Refusal :=
  .next (s.serveWrite f 0x8010 3 body
    (fun s => if field body 0 8 % 1024 ≠ 0 ∨ 2 ^ 28 ≤ field body 0 8 then some .badValue
      else if s.updating = false ∨ (s.cell 0x8010 1 = 3 ∧ s.boot.fromHost = false) then none else some .busy)
    (fun s =>
      if s.updating then { s with boot := s.boot.addChunk body }
      else { s with boot := { s.boot with fromHost := false, chunks := [], head := [] }.addChunk body }.setCell 0x8010 1 1))

/-- The header that Program writes (R412): STATE PROGRAMMING, UPDATE_SEQ not yet. -/
def headerSlot (h : List Byte) : FlashSlot :=
  { magic := field h 0 4, st := 0x7F, fw := field h 12 4, svn := field h 16 2, length := field h 18 4,
    digest := (h.drop 22).take 48, signature := (h.drop 70).take 96 }

/-- Whether every chunk of header and firmware has come (R414). Log: 93 DEDUCED. -/
def Boot.fed (x : Boot) : Bool :=
  x.chunks.contains 0 && (List.range ((4096 + field x.head 18 4 + 1023) / 1024)).all (fun k => x.chunks.contains (1024 * k))

/-- UPDATE_PHASE_END (R414, R415): the phase of 8010:01 ends; the end of Verify includes Validate. Log: 93 DEDUCED. -/
def execUpdatePhaseEnd (verified : Bool) (header : List Byte) (s : State) : Host.Outcome State Fault Refusal :=
  if Instr.wf (.updatePhaseEnd verified header) = false then .fault .illFormed
  else .next (
    match s.cell 0x8010 1 with
    | 1 => (s.setIdleSlot { s.idleSlot with st := 0 }).setCell 0x8010 1 2
    | 2 => (s.setIdleSlot {}).setCell 0x8010 1 3
    | 3 =>
      if s.boot.fromHost then (s.setIdleSlot (headerSlot header)).setCell 0x8010 1 4
      else if s.boot.fed then (s.setIdleSlot (headerSlot s.boot.head)).setCell 0x8010 1 4
      else s
    | 4 =>
      let t := s.idleSlot
      if verified ∧ t.magic = 0x4E424653 ∧ ofLe (s.persistent 0x8010 5) ≤ t.svn then
        ((s.setIdleSlot { t with st := 0x3F, seq := (s.slotRunning.seq + 1) % 2 ^ 32 }).setCell 0x8010 1 5).raise 0x8002 0xFF
          [slotBit (!s.boot.running), t.fw]
      else (s.setIdleSlot { t with st := 0 }).setCell 0x8010 1 6
    | _ => s)

/-! ### Sessions (R417) -/

/-- The port through whose mailbox a request came. -/
def viaOf : Requester → Option Port
  | .host fn => some fn.port
  | .mgmt _ => none

/-- The exchanges that have not expired (R417). -/
def State.openExchanges (s : State) : List Exchange := s.exchanges.filter (fun x => decide (s.now < x.at_ + second))

/-- Whether a request that opens a session comes the way R417 lays down: a mailbox, or SESSION 0x00. -/
def mayOpen : Requester → Bool
  | .host _ => true
  | .mgmt n => n == 0

/-- HELLO (R417): refused with E-8020 where the signature fails or the key that made it is not the fleet key named.
Log: 94 DEDUCED. -/
def execHello (f : Sender) (body : List Byte) (signer : List Byte) (verifies : Bool) (s : State) :
    Host.Outcome State Fault Refusal :=
  .next (s.serve f { cmd := .write, idx := 0x8020, sub := 1, body } (fun s =>
    match s.writeCheck f.who .write 0x8020 1 body with
    | some st => (s, { status := st })
    | none =>
      let k := field body 129 1
      let key := s.persistent 0x8000 (5 + k)
      if mayOpen f.who = false then (s, { status := .denied })
      else if 1 < k ∨ field body 130 6 ≠ 0 then (s, { status := .badValue })
      else if verifies = false ∨ signer ≠ key ∨ key.all (fun b => b == 0) then
        (s.raise 0x8020 0xFF [k], { status := .denied })
      else if 32 ≤ s.openSessions.length ∨ 4 ≤ s.openExchanges.length then (s, { status := .noSpace })
      else
        let x : Exchange := { nonce := body.take 32, at_ := s.now, via := viaOf f.who, number := s.nextExchange }
        ({ s with exchanges := s.openExchanges ++ [x], nextExchange := s.nextExchange + 1 }, { status := .done })))

/-- The report's bytes (R417). Log: 94 DEDUCED. -/
def State.reportBytes (s : State) (x : Exchange) (n : Nat) : List Byte :=
  toLe 4 1 ++ toLe 8 s.factory.serial ++ toLe 2 s.factory.level ++ padTo 2 (s.persistent 0x1000 0x12) ++ toLe 4 s.slotRunning.fw
    ++ toLe 1 (slotBit s.boot.running) ++ toLe 1 (s.cell 0x8000 1) ++ toLe 2 s.slotRunning.svn ++ toLe 4 (s.cell 0x7021 1)
    ++ toLe 4 n ++ padTo 32 x.nonce ++ padTo 48 s.slotRunning.digest
    ++ (List.range 97).map (Config.constableByte (2 + 2 * x.number)) ++ List.replicate 7 0
    ++ (List.range 96).map (Config.constableByte (3 + 2 * x.number))

/-- REPORT (R417, R387): the exchange that the nonce word names becomes a session with the lowest free number. Log: 94 DEDUCED. -/
def execReport (f : Sender) (arg : U32) (s : State) : Host.Outcome State Fault Refusal :=
  let flags := match f.who with
    | .host fn => field (s.box fn).request 9 1
    | .mgmt _ => 0
  .next (s.serve f { cmd := .read, idx := 0x8020, sub := 2, flags, arg := arg.toNat } (fun s =>
    match s.readCheck f.who .read 0x8020 2 with
    | .inl st => (s, { status := st })
    | .inr _ =>
      if mayOpen f.who = false then (s, { status := .denied })
      else match s.openExchanges.find? (fun x => field x.nonce 0 4 == arg.toNat && x.via == viaOf f.who) with
      | none => (s, { status := .badIndex })
      | some x =>
        match ((List.range 255).map (· + 1)).find? (fun n => (s.session n).isNone) with
        | none => (s, { status := .noSpace })
        | some n =>
          if 32 ≤ s.openSessions.length then (s, { status := .noSpace })
          else
            let y : Session := { opened := s.now, lastRx := s.now, via := x.via, exchange := x.number }
            let s1 : State := { s with sessions := Tab.set none s.sessions n (some y),
                                       exchanges := s.openExchanges.filter (fun e => e.number != x.number) }
            (s1.raise 0x2301 0xFF [n], { status := .done, type := Ty.blob.code, body := s.reportBytes x n })))

/-- HELLO_EXPIRE (R417): a pending exchange is dropped 1 s after its HELLO. -/
def execHelloExpire (nonce : U32) (s : State) : Host.Outcome State Fault Refusal :=
  .next { s with exchanges := s.exchanges.filter (fun x =>
    !(field x.nonce 0 4 == nonce.toNat && decide (x.at_ + second ≤ s.now))) }

/-! ### Parcel keys (R418) -/

/-- A session's requester class (R417). Log: 95 DEDUCED. -/
def Session.cls (x : Session) (n : Nat) : Requester :=
  match x.via with
  | some p => .host { port := p, vf := none }
  | none => .mgmt (BitVec.ofNat 8 n)

/-- Whether an enabled path of a plot names a key slot (R297). Log: 95 DEDUCED. -/
def State.keyInUse (s : State) (p slot : Nat) : Bool :=
  (List.range 16).any (fun i => let d := s.pathDesc p i; pathOn d && bits (pathWord d 6) 49 48 == slot)

/-- PARCEL_KEY (R418): the key is unwrapped under the session's wrap key. A streamed pass reads its Parcels through an enabled path.
Log: 95 DEDUCED. -/
def execParcelKey (f : Sender) (p : PlotId) (slot : Fin 2) (body : List Byte) (tagOk : Bool) (s : State) :
    Host.Outcome State Fault Refusal :=
  .next (
    let n := field body 0 1
    s.serveWrite f (0x8100 + p.val) (2 + slot.val) body
      (fun s =>
        match s.session n with
        | none => some .denied
        | some x =>
          if s.hasRights (x.cls n) p.val = false then some .denied
          else if field body 1 11 ≠ 0 then some .badValue
          else if tagOk = false then some .denied
          else if s.cell (0x3100 + p.val) 3 = 4 ∨ s.keyInUse p.val slot.val then some .busy
          else none)
      (fun s =>
        let e := ((s.session n).map Session.exchange).getD 0
        s.updPlot p.val (fun y => { y with keys := Tab.set [] y.keys slot.val (padTo 32 (Config.unwrap e body)) })))

/-! ### Isolation tables and pinning -/

/-- The isolation tables in the order of R419 (DESIGN CHOICE: their numbers in E-8030). Log: 96 DESIGN CHOICE. -/
def FwTable.code : FwTable → Nat
  | .router => 0 | .channels => 1 | .extents => 2 | .ferryOwner => 3 | .qpBinding => 4 | .vfMap => 5

/-- FIREWALL_DIGEST_CHECK (R420): a mismatch is written once more; one that persists raises E-8030 and fails the router's tile.
Log: 96 DESIGN CHOICE. -/
def execFirewallDigestCheck (tile : Phys) (t : FwTable) (differs again : Bool) (s : State) : Host.Outcome State Fault Refusal :=
  .next (
    if differs ∧ again ∧ s.constableBusy = false ∧ (s.site tile.val).st ≠ .absent then
      (s.raise 0x8030 0xFF [tile.val, FwTable.code t]).failTile tile.val .digest true
    else s)

/-- PINNED_LEVEL (R442): accepted only while no plot exists. -/
def execPinnedLevel (f : Sender) (body : List Byte) (s : State) : Host.Outcome State Fault Refusal :=
  .next (s.servePersist f 0x1000 0x12 body (fun s => if s.plotsNow = [] then none else some .busy) id)

end Sys2Proof.Machine
end

