-- ==== Sys2Proof/Machine/Startup.lean ====
section
/-! DEFINITION. Cold start, warm reset and their triggers (R24, R25, R70, R408, R425 to R432). -/

namespace Sys2Proof.Machine

/-! ### The defect map at cold start (R25, R408) -/

/-- A tile's state as the factory recorded it: 0 ACTIVE, 1 RESERVE, 2 RETIRED, 3 ABSENT (R25). -/
def Factory.code (f : Factory) (t : Nat) : Nat := Tab.get 0 f.map t

/-- A site as the factory recorded it: logical numbers ascend with the physical ones of the ACTIVE tiles (R25). -/
def Factory.site (f : Factory) (t : Nat) : Site :=
  let bad := (List.range 4).foldl (fun (b : Tab Bool) r => Tab.set false b r (Tab.get false f.spareBad (t * 4 + r))) []
  match f.code t with
  | 0 => { st := .active, logical := ((List.range t).filter (fun u => f.code u == 0)).length, spareBad := bad }
  | 1 => { st := .reserve, spareBad := bad }
  | 2 => { st := .retired, spareBad := bad }
  | _ => { st := .absent, bypass := true, spareBad := bad }

/-- One record of the field defect log is replayed (R407, R408). An Assayer that has failed is one only until the cold start (R121).
Log: 97 DEDUCED. -/
def State.replay (s : State) (r : DefectRec) : State :=
  match r.kind with
  | 1 => s.updSite r.site (fun c => { c with spareFor := Tab.set none c.spareFor (r.detail / 8) (some (r.detail % 8)) })
  | 8 => s.updSite r.site (fun c => { c with spareBad := Tab.set false c.spareBad (r.detail / 8) true })
  | 2 | 3 =>
    let c := s.site r.site
    let s1 := s.updSite r.site (fun c => c.fail (r.kind == 2))
    if c.st ≠ .active then s1
    else if r.promoted < 112 then s1.updSite r.promoted (fun d => { d with st := .active, logical := c.logical })
    else { s1 with cellar := { s1.cellar with orphans := s1.cellar.orphans ++ [c.logical] } }
  | _ => s

/-- A site recorded as ABSENT is tried once more: its soft start begins, and it is RETIRED unless it shorts (R408).
Log: 97 DEDUCED. -/
def Site.tryAgain (c : Site) : Site := if c.st = .absent then { c with st := .retired, bypass := false } else c

/-- The Tinkers build the defect map (R408): the factory map, then the log in its order, then the sites that are tried again. A
logical number that no tile holds leaves its group degraded (R166). E-7102 at each cold start with a full log (R409).
Log: 97 DEDUCED. -/
def State.buildMap (s : State) : State :=
  let s1 := (List.range 112).foldl (fun s t => s.updSite t (fun _ => s.factory.site t)) s
  let s2 := s.defects.foldl (fun s r => s.replay r) s1
  let s3 := (List.range 112).foldl (fun s t => s.updSite t Site.tryAgain) s2
  let s4 := if s3.cellar.orphans = [] then s3 else s3.groupBits.rebuildState
  if 256 ≤ s4.defects.length then s4.raise 0x7102 0xFF [0xFF, 0] else s4

/-- At reset exit the factory corrections are loaded in one step (R434), every Assayer's generator is seeded from its tile's serial, and it
holds no sample (R119). Log: 122 DESIGN CHOICE, 131 DESIGN CHOICE. -/
def State.resetExit (s : State) : State :=
  (List.range 112).foldl (fun s t => s.updSite t (fun c => { c with lfsr := Config.tileSerial t }))
    { s with samples := [], rst := { s.rst with corrected := true } }

/-- The correction in force (R434). -/
def State.correction (s : State) (kind place : Nat) : Option Nat := if s.rst.corrected then some (Config.correction kind place) else none

/-- The start-up tap pass (R70): each datapath has its baseline, or the higher tap that its canaries needed. A watched slot that comes
out of it with a headroom below 8 raises E-9101 (R71, R444). Log: 97 DEDUCED. -/
def State.startTaps (s : State) (taps : List (Slot × Fin 3 × Fin 64)) : State :=
  let s1 := (List.range 2688).foldl (fun s n => s.updSlot n (fun _ =>
    { taps := (List.range 3).foldl (fun t d =>
        let up := ((taps.find? (fun e => e.1.n == n && e.2.1.val == d)).map (fun e => e.2.2.val)).getD 0
        Tab.set 0 t d (min 63 (max (Config.baselineTap n d) up))) [] })) s
  (List.range 2688).foldl (fun s n => if s.watched (slotOfKey n) then s.noteHeadroom (slotOfKey n) 63 else s) s1

/-! ### Cold start (R425, R429) -/

/-- What an interrupted update leaves in the slot that is not running (R415): INVALID or PROGRAMMING. Log: 93 DEDUCED. -/
def Boot.interrupt (x : Boot) (phase : Nat) : Boot :=
  if 1 ≤ phase ∧ phase ≤ 2 then x.setSlot (!x.running) { x.slot (!x.running) with st := 0 }
  else if 3 ≤ phase ∧ phase ≤ 4 then x.setSlot (!x.running) { x.slot (!x.running) with st := 0x7F }
  else x

/-- A cold start's Always-on phase: OTP, flash and factory values are kept, all else is as after reset (R425). Log: 97 DEDUCED. -/
def State.cold (s : State) (cause : Nat) : State :=
  let b := s.boot.interrupt (s.cell 0x8010 1)
  { State.reset with
    pending := s.pending, otp := s.otp, defects := s.defects, factory := s.factory, nextExchange := s.nextExchange,
    boot := { slotA := b.slotA, slotB := b.slotB, running := b.running }, rst := { cause := cause }, out := s.out, free := s.free }

/-- COLD_START (R425, R428, R429): at any time; VBUS below 9.0 V counts only during an orderly warm shutdown. -/
def execColdStart (cause : Fin 4) (s : State) : Host.Outcome State Fault Refusal :=
  .next (if cause.val = 3 ∧ s.power.shutdown = 0 then s else s.cold cause.val)

/-- BUS_STAGE_START (R429): VBUS has been at least 11.4 V for 10 ms, and the cold start goes on through secure boot, memory and core
power, calibration and Cellar zero. Log: 97 DEDUCED. -/
def execBusStageStart (vbus : Nat) (taps : List (Slot × Fin 3 × Fin 64)) (s : State) : Host.Outcome State Fault Refusal :=
  .next (
    if s.rst.phase ≠ .alwaysOn ∨ vbus < vbusRail.low then s
    else
      let s1 : State := { s with rst := { s.rst with phase := .booting, busAt := some s.now },
                                 power := { s.power with vbus := vbus, rampAt := some s.now }, cellar := {} }
      ((s1.portsTrain.bootSelect.buildMap.resetExit).startTaps taps).setCell 0x4000 1 (ofLe (s.persistent 0x4000 2)))

/-- READY is set (R276, R413, R426): the watch is armed, the processors' heartbeats are counted from now, and Ethernet ports train in
their modes (R296). Log: 98 DEDUCED. -/
def State.goReady (s : State) : State :=
  let s1 : State := { s with
    rst := { s.rst with phase := .ready, ready := true, watch := true },
    boot := { s.boot with failures := 0 },
    procs := { s.procs with reeveBeat := s.now, constableBeat := s.now,
                            droverBeat := [0, 1, 2, 3].foldl (fun t k => Tab.set 0 t k s.now) [] } }
  (List.range 8).foldl (fun s x => if s.ethMode x = 0 then s else s.setCell 0x5000 (0x11 + x) 1) s1

/-- COLD_START_READY (R429). Log: 98 DEDUCED. -/
def execColdStartReady (s : State) : Host.Outcome State Fault Refusal :=
  .next (if s.rst.phase ≠ .booting ∨ s.boot.recovery then s else s.goReady)

/-! ### Warm reset (R430, R432) -/

/-- Every loom has stopped, and what is not saved is gone. -/
def State.stopLooms (s : State) : State :=
  (s.looms.map Prod.fst).foldl (fun s n => s.updLoom n (fun l => { l.halt.unpower n with
    queues := [], inPos := [] })) s

/-- One page across a warm reset (R432): PROVISIONAL returned, SPILLING resident again, FILLING begun again and counted. -/
def State.pageReset (s : State) (i : Nat) (e : Bool × Nat) : State :=
  let o := s.obAt i
  let w := o.page e.1 e.2
  match pgState w, s.poolSlot o.plot o.mslot e.1 with
  | 1, some m => (s.returnFrame o.plot m (pgFrame w)).updOb i (fun o => o.setPage e.1 e.2 0)
  | 3, _ => (s.updOb i (fun o => o.setPage e.1 e.2 (pgWord 2 (pgFrame w)))).transferEnd i e.1 e.2
  | 5, _ => s.fillFails o.plot o.request e.1 e.2 .linkDown
  | _, _ => if o.moving.contains (pageKey e.1 e.2) then s.transferEnd i e.1 e.2 else s

/-- A request across a warm reset: its pages; an ended or draining one gives up what it still held. -/
def State.obReset (s : State) (i : Nat) : State :=
  let s1 := (s.obAt i).pages.foldl (fun s e => s.pageReset i e) s
  if (s1.obAt i).st.live ∧ (s1.obAt i).st ≠ .draining then s1 else (s1.releasePages i).settle i

/-- A plot across a warm reset (R428, R432): a load before READY is REFUSED, a reload's drain ends with it, a plot reset is superseded,
and a plot whose resident Bench regions could not be saved faults. Log: 76 DEDUCED, 86 DEDUCED. -/
def State.plotReset (s : State) (p : Nat) : State :=
  let y := s.plot p
  let loading := y.loading.isSome || (decide (1 ≤ s.cell (0x3100 + p) 3) && decide (s.cell (0x3100 + p) 3 ≤ 4))
  let s1 := if y.drain = some .reload then ((s.clearLooms p).failLoad p).setCell (0x3000 + p) 1 1
    else if loading then s.failLoad p else s
  let s2 := s1.updPlot p (fun x => { x with
    drain := if x.drain = some .teardown then some .teardown else none, gapEnd := [], wake := false })
  let s3 := if s.cell (0x4200 + p) 2 = 0 then s2 else s2.setPstate p 0
  if s3.plotState p = 2 ∧ s3.canSave p = false then s3.faultPlot p (fun _ => false) else s3

/-- The links go down (R430): host ports with E-2002, Ethernet ports with E-5002, Ferry ports with E-5402. -/
def State.linksDown (s : State) : State :=
  let s1 := [Port.a, Port.b].foldl (fun s x =>
    if s.portUp x then
      ((((s.setCell 0x2000 (portSub x + 1) 0).setCell 0x2000 (portSub x + 2) 0).bump 32 0x2000 (portSub x + 3) 1).clearFuncs x
        none).raise 0x2002 0xFF [x.n, 4]
    else s.clearFuncs x none) s
  let s2 := (List.range 8).foldl (fun s x =>
    let t := s.setCell 0x5000 (0x11 + x) 0
    if s.ethState x = 2 then t.raise 0x5002 0xFF [x, 3] else t) s1
  (List.range 36).foldl (fun s x => if (s.ferryAt x).st = .down then s else s.ferryDown x 2) s2

/-- Messages in the fabric are lost; tables and counters stay (R430); every role epoch is 0x0001 at reset exit (R49). Log: 100 DEDUCED. -/
def State.fabricReset (s : State) : State :=
  { s with fabric := { s.fabric with chans := [], inbox := [], taken := [], lost := [], stale := [], parked := [],
                                          waitChan := [] },
           epochs := [],
           cellar := { s.cellar with returned := none, eraseFirst := s.cellar.erase != [] } }

/-- What Quiesce and Restart do (R430, R432): every key is released with cause 6, every session ends with cause 3, every queue pair is
DISABLED; the processors boot again and the host ports train, from the slot that an update validated if there is one; no 1 ms sample
has completed since (R362). Log: 59 DEDUCED, 100 DEDUCED. -/
def State.warm (s : State) (cause : Nat) : State :=
  let s0 := ((s.steps.map Prod.fst).foldl (fun s id => s.cutStep id) s).resetExit
  let s1 := (s0.plotsNow.foldl (fun s p => s.savePlot p) s0).finishWrites
  let s2 := s1.stopLooms.linksDown
  let s3 := (s2.keys.map Prod.fst).foldl (fun s k => s.releaseKey k 6) s2
  let s4 := s3.openSessions.foldl (fun s e => s.endSession e.1 3 6) s3
  let s5 := (s4.qps.map Prod.fst).foldl (fun s n => s.disableQp n) s4
  let s6 := (s5.ob.map Prod.fst).foldl (fun s i => s.obReset i) s5
  let s7 := (s6.plotsNow.foldl (fun s p => s.plotReset p) s6).fabricReset
  let taking := (if s.procs.reeveLost then 1 else 0) + (if s.procs.constableLost then 1 else 0)
  let s8 : State := { s7 with
    exchanges := [], moved := [],
    boot := s7.boot.interrupt (s7.cell 0x8010 1),
    procs := { s7.procs with reeveLost := false, constableLost := false, reevesLost := 0, constablesLost := 0, droverLost := [],
                             running := s7.procs.running - taking },
    power := { s7.power with shutdown := 0, p4wake := false, inputW := none },
    rst := { s7.rst with phase := .warm, ready := false, cause := 4 + cause, watch := false, armedAt := none } }
  ((if s8.updating then s8.setCell 0x8010 1 0 else s8).portsTrain).bootSelect

/-- A warm-reset trigger (R428): ignored during a warm reset; during a cold start's boot and an orderly shutdown too (DESIGN CHOICE).
In recovery it boots again. Log: 99 DESIGN CHOICE. -/
def State.warmTrigger (s : State) (cause : Nat) : State :=
  if (s.rst.phase = .ready ∨ s.boot.recovery) ∧ s.power.shutdown = 0 then s.warm cause else s

/-- WARM_RESET (R425, R430): the pin and the I3C command; the other two causes have commands of their own. -/
def execWarmReset (cause : Fin 4) (s : State) : Host.Outcome State Fault Refusal :=
  .next (if 2 ≤ cause.val then s else s.warmTrigger cause.val)

/-- SHUTDOWN_RESTART (R363, R430): VBUS has been at least 11.4 V for 1 s, and the engine leaves the shutdown at Restart.
Log: 99 DESIGN CHOICE. -/
def execShutdownRestart (vbus : Nat) (s : State) : Host.Outcome State Fault Refusal :=
  .next (if s.power.shutdown = 2 ∧ vbusRail.low ≤ vbus then { s with power := { s.power with vbus := vbus } }.warm 2 else s)

/-- RESET_WATCHDOG (R426). -/
def execResetWatchdog (s : State) : Host.Outcome State Fault Refusal :=
  .next (if s.rst.watch ∧ s.power.auxOk ∧ s.procs.reeveBeat + second ≤ s.now then s.warmTrigger 3 else s)

/-- VCORE is up again on every site whose VCORE was off (R430, R348). -/
def State.coresUp (s : State) : State :=
  let s1 : State := if s.power.vcoreOff ∨ s.power.p4 then
      { s with power := { s.power with vcoreOff := false, p4 := false, rampAt := some s.now } } else s
  if s.power.p4 then (s1.setCell 0x4000 8 0).raise 0x4001 0xFF [0] else s1

/-- WARM_RESET_RESTORE (R430, R169, R422): resident Bench regions come back, erasure resumes with E-8042, tile failures that
waited for a Reeve are carried out (R29), READY is set.
Log: 98 DEDUCED. -/
def execWarmResetRestore (s : State) : Host.Outcome State Fault Refusal :=
  .next (
    if s.rst.phase ≠ .warm ∨ s.boot.recovery then s
    else
      let s1 := s.coresUp
      let s2 := s1.plotsNow.foldl (fun s p => s.restorePlot p) s1
      let s3 := if s2.cellar.erase = [] then s2 else s2.raise 0x8042 0xFF [s2.cellar.erase.length]
      s3.failWaiting.goReady)

/-! ### The tray's reset registers (R427) -/

/-- RESET_KEY: 0xC3 arms RESET_CMD for 100 ms; another value arms nothing. Log: 101 DEDUCED. -/
def execResetKey (v : Byte) (s : State) : Host.Outcome State Fault Refusal :=
  .next (if v = 0xC3 then { s with rst := { s.rst with armedAt := some s.now } } else s)

/-- Whether RESET_CMD is armed. -/
def State.armed (s : State) : Bool :=
  match s.rst.armedAt with
  | some t => decide (s.now < t + 100000000)
  | none => false

/-- RESET_CMD. Log: 101 DEDUCED. -/
def execResetCmd (v : Byte) (s : State) : Host.Outcome State Fault Refusal :=
  .next (
    let s1 : State := { s with rst := { s.rst with armedAt := none } }
    if s.armed = false then s1
    else if v = 0xA5 then s1.warmTrigger 1
    else if v = 0x5A then s1.cold 2
    else s1)

/-- RESET_ARM_EXPIRE. Log: 101 DEDUCED. -/
def execResetArmExpire (s : State) : Host.Outcome State Fault Refusal :=
  .next (if s.rst.armedAt.isSome ∧ s.armed = false then { s with rst := { s.rst with armedAt := none } } else s)

end Sys2Proof.Machine
end

