-- ==== Sys2Proof/Machine/Dispatch.lean ====
section
/-! DEFINITION. The dispatch from a command to its meaning: one arm per constructor of Instr. -/

namespace Sys2Proof.Machine

def exec (i : Instr) (s : State) : Host.Outcome State Fault Refusal :=
  match i with
  | .canaryTest slot settled => Sys2Proof.Machine.execCanaryTest slot settled s
  | .trimApply slot => Sys2Proof.Machine.execTrimApply slot s
  | .holdAssert tile sensed => Sys2Proof.Machine.execHoldAssert tile sensed s
  | .holdRelease tile lowest => Sys2Proof.Machine.execHoldRelease tile lowest s
  | .holdTimeout tile => Sys2Proof.Machine.execHoldTimeout tile s
  | .messageForward site edge chan => Sys2Proof.Machine.execMessageForward site edge chan s
  | .creditReturn site edge chan cls set => Sys2Proof.Machine.execCreditReturn site edge chan cls set s
  | .messageReceive endpoint => Sys2Proof.Machine.execMessageReceive endpoint s
  | .epochStaleReply sender dest => Sys2Proof.Machine.execEpochStaleReply sender dest s
  | .stepRerun step => Sys2Proof.Machine.execStepRerun step s
  | .bellRefEdge phaseError => Sys2Proof.Machine.execBellRefEdge phaseError s
  | .bellRefLoss => Sys2Proof.Machine.execBellRefLoss s
  | .tickEdge => Sys2Proof.Machine.execTickEdge s
  | .tickMissing => Sys2Proof.Machine.execTickMissing s
  | .timeLoad f body => Sys2Proof.Machine.execTimeLoad f body s
  | .tickPeriod f body => Sys2Proof.Machine.execTickPeriod f body s
  | .ldw l x => Sys2Proof.Machine.execLdw l x s
  | .xchg l => Sys2Proof.Machine.execXchg l s
  | .pass l a x => Sys2Proof.Machine.execPass l a x s
  | .full l x => Sys2Proof.Machine.execFull l x s
  | .send l dest epoch cls kind src upset => Sys2Proof.Machine.execSend l dest epoch cls kind src upset s
  | .issue l q x => Sys2Proof.Machine.execIssue l q x s
  | .wait l q t => Sys2Proof.Machine.execWait l q t s
  | .fence l q => Sys2Proof.Machine.execFence l q s
  | .hint l lead cls => Sys2Proof.Machine.execHint l lead cls s
  | .br l field value target => Sys2Proof.Machine.execBr l field value target s
  | .stepend l => Sys2Proof.Machine.execStepend l s
  | .assayCheck tile p flip => Sys2Proof.Machine.execAssayCheck tile p flip s
  | .qualityCheck tile p layer => Sys2Proof.Machine.execQualityCheck tile p layer s
  | .cellarRead addr tag len e => Sys2Proof.Machine.execCellarRead addr tag len e s
  | .chainXor member row x => Sys2Proof.Machine.execChainXor member row x s
  | .cellarWrite addr tag data => Sys2Proof.Machine.execCellarWrite addr tag data s
  | .parityDeltaApply id => Sys2Proof.Machine.execParityDeltaApply id s
  | .cellarWriteComplete id => Sys2Proof.Machine.execCellarWriteComplete id s
  | .kvAppend p m layer request position kv head codes scales => Sys2Proof.Machine.execKvAppend p m layer request position kv head codes scales s
  | .refreshSlot tile chan x => Sys2Proof.Machine.execRefreshSlot tile chan x s
  | .refreshIntervalChange tile tj highest => Sys2Proof.Machine.execRefreshIntervalChange tile tj highest s
  | .rebuildStart lt => Sys2Proof.Machine.execRebuildStart lt s
  | .rebuildRow => Sys2Proof.Machine.execRebuildRow s
  | .spillAck p request draft page => Sys2Proof.Machine.execSpillAck p request draft page s
  | .spillAckTimeout p request draft page => Sys2Proof.Machine.execSpillAckTimeout p request draft page s
  | .fillComplete p request draft page data => Sys2Proof.Machine.execFillComplete p request draft page data s
  | .fillFailed p request draft page why => Sys2Proof.Machine.execFillFailed p request draft page why s
  | .spillStart p request => Sys2Proof.Machine.execSpillStart p request s
  | .fillStart p request => Sys2Proof.Machine.execFillStart p request s
  | .loadRequest f p body img => Sys2Proof.Machine.execLoadRequest f p body img s
  | .reloadDrainEnd p => Sys2Proof.Machine.execReloadDrainEnd p s
  | .imageAuthenticated p verifies => Sys2Proof.Machine.execImageAuthenticated p verifies s
  | .imageApplied p => Sys2Proof.Machine.execImageApplied p s
  | .loadReady p => Sys2Proof.Machine.execLoadReady p s
  | .parcelReceive p n bytes tagOk => Sys2Proof.Machine.execParcelReceive p n bytes tagOk s
  | .routeLoad p => Sys2Proof.Machine.execRouteLoad p s
  | .channelReleaseRoute site edge chan => Sys2Proof.Machine.execChannelReleaseRoute site edge chan s
  | .queueEntryComplete l q t attempt st x => Sys2Proof.Machine.execQueueEntryComplete l q t attempt st x s
  | .unfilledReadResume l => Sys2Proof.Machine.execUnfilledReadResume l s
  | .hintReceived tile p lead cls => Sys2Proof.Machine.execHintReceived tile p lead cls s
  | .streamPassEnd p layer loadNs computeNs => Sys2Proof.Machine.execStreamPassEnd p layer loadNs computeNs s
  | .stepForm p m => Sys2Proof.Machine.execStepForm p m s
  | .stepCommit step outs => Sys2Proof.Machine.execStepCommit step outs s
  | .plotCreate f p body => Sys2Proof.Machine.execPlotCreate f p body s
  | .plotResize f p sub body => Sys2Proof.Machine.execPlotResize f p sub body s
  | .teardown f p => Sys2Proof.Machine.execTeardown f p s
  | .teardownDrainEnd p => Sys2Proof.Machine.execTeardownDrainEnd p s
  | .eraseEnd p => Sys2Proof.Machine.execEraseEnd p s
  | .plotReset f p => Sys2Proof.Machine.execPlotReset f p s
  | .plotResetClear p => Sys2Proof.Machine.execPlotResetClear p s
  | .sqTailDoorbell fn n v => Sys2Proof.Machine.execSqTailDoorbell fn n v s
  | .openReq qp e => Sys2Proof.Machine.execOpenReq qp e s
  | .append qp e => Sys2Proof.Machine.execAppend qp e s
  | .hintSubmission qp e => Sys2Proof.Machine.execHintSubmission qp e s
  | .cancel qp e => Sys2Proof.Machine.execCancel qp e s
  | .close qp e => Sys2Proof.Machine.execClose qp e s
  | .status qp e => Sys2Proof.Machine.execStatus qp e s
  | .rqHeadDoorbell fn n v => Sys2Proof.Machine.execRqHeadDoorbell fn n v s
  | .coolDelayExpire p request => Sys2Proof.Machine.execCoolDelayExpire p request s
  | .deadlineMiss p request => Sys2Proof.Machine.execDeadlineMiss p request s
  | .resultEntryWrite qp => Sys2Proof.Machine.execResultEntryWrite qp s
  | .portLinkUp x gen width => Sys2Proof.Machine.execPortLinkUp x gen width s
  | .portLinkDown x cause => Sys2Proof.Machine.execPortLinkDown x cause s
  | .vfFlr x vf => Sys2Proof.Machine.execVfFlr x vf s
  | .failoverRewrite qp fault => Sys2Proof.Machine.execFailoverRewrite qp fault s
  | .queueContextWrite fn n word v => Sys2Proof.Machine.execQueueContextWrite fn n word v s
  | .qpEnable fn n v => Sys2Proof.Machine.execQpEnable fn n v s
  | .qpDisable fn n v => Sys2Proof.Machine.execQpDisable fn n v s
  | .qpResume fn n v => Sys2Proof.Machine.execQpResume fn n v s
  | .identityLowRead fn r => Sys2Proof.Machine.execIdentityLowRead fn r s
  | .heartbeatTick => Sys2Proof.Machine.execHeartbeatTick s
  | .mbGo fn ctrl frame => Sys2Proof.Machine.execMbGo fn ctrl frame s
  | .take fn k => Sys2Proof.Machine.execTake fn k s
  | .give fn k => Sys2Proof.Machine.execGive fn k s
  | .forceRelease f body => Sys2Proof.Machine.execForceRelease f body s
  | .ethMode f port body => Sys2Proof.Machine.execEthMode f port body s
  | .ethLinkUp port => Sys2Proof.Machine.execEthLinkUp port s
  | .ethLinkDown port cause => Sys2Proof.Machine.execEthLinkDown port cause s
  | .path f p k body => Sys2Proof.Machine.execPath f p k body s
  | .pathEnable f p k body => Sys2Proof.Machine.execPathEnable f p k body s
  | .ecnMark p k => Sys2Proof.Machine.execEcnMark p k s
  | .ecnRecovery p k => Sys2Proof.Machine.execEcnRecovery p k s
  | .enIdleLimit l t => Sys2Proof.Machine.execEnIdleLimit l t s
  | .flitSend port cls => Sys2Proof.Machine.execFlitSend port cls s
  | .flitReceive port x crcOk => Sys2Proof.Machine.execFlitReceive port x crcOk s
  | .retryRequest port seq => Sys2Proof.Machine.execRetryRequest port seq s
  | .partialFrameTimeout port cls => Sys2Proof.Machine.execPartialFrameTimeout port cls s
  | .ferryTrainingEnd port gen lanes => Sys2Proof.Machine.execFerryTrainingEnd port gen lanes s
  | .ferryRetrainTimeout port => Sys2Proof.Machine.execFerryRetrainTimeout port s
  | .ferryConfirm port jobTag serial => Sys2Proof.Machine.execFerryConfirm port jobTag serial s
  | .ferryConfig f port body => Sys2Proof.Machine.execFerryConfig f port body s
  | .ferryRetrainRequest f port body => Sys2Proof.Machine.execFerryRetrainRequest f port body s
  | .laneBad port lane => Sys2Proof.Machine.execLaneBad port lane s
  | .widthChangeRequest port serial retrain bad => Sys2Proof.Machine.execWidthChangeRequest port serial retrain bad s
  | .widthChangeDone port => Sys2Proof.Machine.execWidthChangeDone port s
  | .ferryOwner f port body => Sys2Proof.Machine.execFerryOwner f port body s
  | .sweepRequest f body => Sys2Proof.Machine.execSweepRequest f body s
  | .sweepEnd st counts => Sys2Proof.Machine.execSweepEnd st counts s
  | .powerSample x => Sys2Proof.Machine.execPowerSample x s
  | .phaseAdd tile d => Sys2Proof.Machine.execPhaseAdd tile d s
  | .sensorFallback tile sensed => Sys2Proof.Machine.execSensorFallback tile sensed s
  | .sensorFallbackExit tile sensed => Sys2Proof.Machine.execSensorFallbackExit tile sensed s
  | .pstateEntry p => Sys2Proof.Machine.execPstateEntry p s
  | .pstateExit p => Sys2Proof.Machine.execPstateExit p s
  | .p4Entry => Sys2Proof.Machine.execP4Entry s
  | .p4Exit => Sys2Proof.Machine.execP4Exit s
  | .latencyTolerance f p body => Sys2Proof.Machine.execLatencyTolerance f p body s
  | .cap f body => Sys2Proof.Machine.execCap f body s
  | .coolReading inlet outlet flow seq => Sys2Proof.Machine.execCoolReading inlet outlet flow seq s
  | .coolReadingTimeout => Sys2Proof.Machine.execCoolReadingTimeout s
  | .coolNoDataTimeout => Sys2Proof.Machine.execCoolNoDataTimeout s
  | .coolGraceExpire => Sys2Proof.Machine.execCoolGraceExpire s
  | .coolNormal => Sys2Proof.Machine.execCoolNormal s
  | .overtemp tile tj => Sys2Proof.Machine.execOvertemp tile tj s
  | .shortDetect tile d => Sys2Proof.Machine.execShortDetect tile d s
  | .softStartRetry tile d reached => Sys2Proof.Machine.execSoftStartRetry tile d reached s
  | .phaseOpen site d phase => Sys2Proof.Machine.execPhaseOpen site d phase s
  | .senseFail site d phase => Sys2Proof.Machine.execSenseFail site d phase s
  | .lowInputDetect vbus duty busLimit => Sys2Proof.Machine.execLowInputDetect vbus duty busLimit s
  | .lowInputRelease vbus duty => Sys2Proof.Machine.execLowInputRelease vbus duty s
  | .vbusLowShutdown vbus => Sys2Proof.Machine.execVbusLowShutdown vbus s
  | .warmShutdown => Sys2Proof.Machine.execWarmShutdown s
  | .shutdownRestart vbus => Sys2Proof.Machine.execShutdownRestart vbus s
  | .read f idx sub newer arg => Sys2Proof.Machine.execRead f idx sub newer arg s
  | .write f idx sub body => Sys2Proof.Machine.execWrite f idx sub body s
  | .writePersist f idx sub body => Sys2Proof.Machine.execWritePersist f idx sub body s
  | .blockRead f idx sub offset body => Sys2Proof.Machine.execBlockRead f idx sub offset body s
  | .subscribe f arg body => Sys2Proof.Machine.execSubscribe f arg body s
  | .keyTake f k => Sys2Proof.Machine.execKeyTake f k s
  | .keyGive f k => Sys2Proof.Machine.execKeyGive f k s
  | .closeSession f session => Sys2Proof.Machine.execCloseSession f session s
  | .requestRepeat f command idx sub => Sys2Proof.Machine.execRequestRepeat f command idx sub s
  | .sessionIdleExpire session => Sys2Proof.Machine.execSessionIdleExpire session s
  | .eventIrq x => Sys2Proof.Machine.execEventIrq x s
  | .eventFrame session => Sys2Proof.Machine.execEventFrame session s
  | .measurementRefresh idx sub value => Sys2Proof.Machine.execMeasurementRefresh idx sub value s
  | .eyeRefresh kind port lanes => Sys2Proof.Machine.execEyeRefresh kind port lanes s
  | .livenessExchange tile answered => Sys2Proof.Machine.execLivenessExchange tile answered s
  | .tileFail tile cause sound => Sys2Proof.Machine.execTileFail tile cause sound s
  | .heartbeatSend u => Sys2Proof.Machine.execHeartbeatSend u s
  | .droverLoss k => Sys2Proof.Machine.execDroverLoss k s
  | .reeveTakeover => Sys2Proof.Machine.execReeveTakeover s
  | .constableTakeover => Sys2Proof.Machine.execConstableTakeover s
  | .resetWatchdog => Sys2Proof.Machine.execResetWatchdog s
  | .bootTimeout => Sys2Proof.Machine.execBootTimeout s
  | .updateRequest f body => Sys2Proof.Machine.execUpdateRequest f body s
  | .updateChunk f body => Sys2Proof.Machine.execUpdateChunk f body s
  | .updatePhaseEnd verified header => Sys2Proof.Machine.execUpdatePhaseEnd verified header s
  | .hello f body signer verifies => Sys2Proof.Machine.execHello f body signer verifies s
  | .report f arg => Sys2Proof.Machine.execReport f arg s
  | .helloExpire nonce => Sys2Proof.Machine.execHelloExpire nonce s
  | .parcelKey f p slot body tagOk => Sys2Proof.Machine.execParcelKey f p slot body tagOk s
  | .firewallDigestCheck tile t differs again => Sys2Proof.Machine.execFirewallDigestCheck tile t differs again s
  | .pinnedLevel f body => Sys2Proof.Machine.execPinnedLevel f body s
  | .coldStart cause => Sys2Proof.Machine.execColdStart cause s
  | .coldStartReady => Sys2Proof.Machine.execColdStartReady s
  | .warmReset cause => Sys2Proof.Machine.execWarmReset cause s
  | .warmResetRestore => Sys2Proof.Machine.execWarmResetRestore s
  | .resetKey v => Sys2Proof.Machine.execResetKey v s
  | .resetCmd v => Sys2Proof.Machine.execResetCmd v s
  | .resetArmExpire => Sys2Proof.Machine.execResetArmExpire s
  | .busStageStart vbus taps => Sys2Proof.Machine.execBusStageStart vbus taps s
  | .hintRaiseHoldEnd tile => Sys2Proof.Machine.execHintRaiseHoldEnd tile s
  | .portRetrain x gen width => Sys2Proof.Machine.execPortRetrain x gen width s
  | .ferryDetect port => Sys2Proof.Machine.execFerryDetect port s

end Sys2Proof.Machine
end

