-- ==== Sys2Proof/Machine/Step.lean ====
section
/-! DEFINITION. The step: the command at the front of the queue takes its effect; on an empty queue engine time goes on. -/

namespace Sys2Proof.Machine

/-- One step. DESIGN CHOICE: with no command waiting, one nanosecond of engine time passes (R77 to R79).
Log: 3 DESIGN CHOICE, 104 DESIGN CHOICE. -/
def step (s : State) : Host.Outcome State Fault Refusal :=
  match s.pending with
  | [] => .next s.passNs
  | c :: rest => exec c { s with pending := rest }

/-- The state with the command that a word spells in front of its queue; unchanged where the word spells none.
Log: 104 DESIGN CHOICE. -/
def State.withFetchWord (s : State) (nbits w : Nat) : State :=
  match Sys2Proof.decodeTableWord nbits w with
  | some c => { s with pending := c :: s.pending }
  | none => s

end Sys2Proof.Machine
end

