-- ==== Sys2Proof/Safety.lean ====
section
/-!
DEFINITION. The words in which claims are stated: which parts of the state a command may change, which events it raises, when a
Ledger request arrives at the Reeve, and what a safe step is.
-/

namespace Sys2Proof.Machine

/-! ### Frames -/

/-- The parts of the state, one for each field of State. -/
inductive Part where
  | pending | now | bell | led | blob | meas | otp | defects | factory | ev | sessions | exchanges | nextExchange | keys | sites
  | slots | regs | epochs | fabric | looms | cellar | plots | steps | nextStep | samples | ob | nextAdmit | qps | mailbox | moved | latch
  | paths | ethCtr | ferry | sweep | power | procs | boot | rst | eyes | out | free
  deriving DecidableEq, Repr

/-- Two states agree on a part. -/
def Part.same (s t : State) : Part → Prop
  | .pending => t.pending = s.pending
  | .now => t.now = s.now
  | .bell => t.bell = s.bell
  | .led => t.led = s.led
  | .blob => t.blob = s.blob
  | .meas => t.meas = s.meas
  | .otp => t.otp = s.otp
  | .defects => t.defects = s.defects
  | .factory => t.factory = s.factory
  | .ev => t.ev = s.ev
  | .sessions => t.sessions = s.sessions
  | .exchanges => t.exchanges = s.exchanges
  | .nextExchange => t.nextExchange = s.nextExchange
  | .keys => t.keys = s.keys
  | .sites => t.sites = s.sites
  | .slots => t.slots = s.slots
  | .regs => t.regs = s.regs
  | .epochs => t.epochs = s.epochs
  | .fabric => t.fabric = s.fabric
  | .looms => t.looms = s.looms
  | .cellar => t.cellar = s.cellar
  | .plots => t.plots = s.plots
  | .steps => t.steps = s.steps
  | .nextStep => t.nextStep = s.nextStep
  | .samples => t.samples = s.samples
  | .ob => t.ob = s.ob
  | .nextAdmit => t.nextAdmit = s.nextAdmit
  | .qps => t.qps = s.qps
  | .mailbox => t.mailbox = s.mailbox
  | .moved => t.moved = s.moved
  | .latch => t.latch = s.latch
  | .paths => t.paths = s.paths
  | .ethCtr => t.ethCtr = s.ethCtr
  | .ferry => t.ferry = s.ferry
  | .sweep => t.sweep = s.sweep
  | .power => t.power = s.power
  | .procs => t.procs = s.procs
  | .boot => t.boot = s.boot
  | .rst => t.rst = s.rst
  | .eyes => t.eyes = s.eyes
  | .out => t.out = s.out
  | .free => t.free = s.free

/-- Nothing but the parts named may differ between a state and the next. -/
def Changes (s t : State) (ps : List Part) : Prop := ∀ p, p ∉ ps → p.same s t

/-- What raising an event may change: the log, what sessions have still to send, and the interrupts sent (R390 to R392). -/
def Part.report : List Part := [.ev, .sessions, .out]

/-- What answering a Ledger request may change: what has left the engine, the mailbox it came by, or its session (R280, R384). -/
def Part.reply : List Part := [.out, .mailbox, .sessions]

/-- What the operations on plots, the fabric and the Cellar work on: where these end a step, a request or a plot, the change reaches
its looms, requests, rings, counters and events, and nothing beyond. -/
def Part.work : List Part :=
  [.led, .ev, .sessions, .out, .fabric, .looms, .cellar, .plots, .steps, .nextStep, .samples, .ob, .nextAdmit, .qps, .free]

/-- Two lookups agree on every number but those named. -/
def SameBut {α : Type} (ks : List Nat) (f g : Nat → α) : Prop := ∀ n, n ∉ ks → g n = f n

/-- Every stored scalar entry of the Ledger but those named, by index and subindex, is unchanged. -/
def CellsBut (ks : List (Nat × Nat)) (s t : State) : Prop := ∀ i j, j < 256 → (i, j) ∉ ks → t.cell i j = s.cell i j

/-! ### Events -/

/-- Exactly these events are raised, in this order: each has the next sequence number and the time of the next state, and stands
at the end of the event log (R389, R390). An event is its number, its plot and its parameters. -/
def Raises (s t : State) (es : List (Nat × Nat × List Nat)) : Prop :=
  t.ev.seq = s.ev.seq + es.length ∧ ∃ old, t.ev.log = old ++ es.mapIdx (fun i e =>
    { seq := s.ev.seq + 1 + i, ev := e.1, plot := e.2.1, time := t.now, params := e.2.2 })

/-! ### Ledger requests -/

/-- A request reaches the Reeve: the Ledger takes requests, no Reeve takeover runs, the request is no longer than its path carries
(R383), and it is the first of those that wait (R280, R372): it stands in its mailbox, or is a frame on an open session of the management
network that passes check 1 of R371 and is no repeat (R386, R388). -/
def Arrives (s : State) (f : Sender) (q : Req) : Prop :=
  s.serving = true ∧ s.procs.reeveLost = false ∧ s.accepts q.idx = true ∧ q.body.length ≤ bodyLimit f.who ∧
  s.submitted f q = true ∧ match f.who with
  | .host _ => True
  | .mgmt n => n ≠ 0 ∧ f.authentic = true ∧ ∃ x, s.session n.toNat = some x ∧ x.via = none ∧ x.rxCounter < f.counter.toNat ∧
      x.prev ≠ some (f.tag.toNat, q.cmd.code, q.idx, q.sub)

/-- A request that opens a session reaches the Reeve as above: through a mailbox, or on session 0x00 with a code that verifies under the
bootstrap key (R417). -/
def ArrivesOpening (s : State) (f : Sender) (q : Req) : Prop :=
  s.serving = true ∧ s.procs.reeveLost = false ∧ s.accepts q.idx = true ∧ q.body.length ≤ bodyLimit f.who ∧
  s.submitted f q = true ∧ match f.who with
  | .host _ => True
  | .mgmt n => n = 0 ∧ f.authentic = true ∧ opening q = true

/-- The state in which an arriving request is carried out: its session has taken its counter, and was used now (R386, R387). -/
def State.heard (s : State) (f : Sender) : State :=
  match f.who with
  | .host _ => s
  | .mgmt n => s.updSession n.toNat (fun x => { x with rxCounter := f.counter.toNat, lastRx := s.now })

/-- The request is answered, once and with this status: the response is the last thing to leave the engine, and a host's also
stands in its mailbox, whose status register shows it (R280, R384). -/
def Answers (t : State) (f : Sender) (st : Status) : Prop :=
  (∃ r rest, t.out = .reply f.who f.tag.toNat r :: rest ∧ r.status = st) ∧
  ∀ fn, f.who = .host fn → (t.box fn).busy = false ∧ (t.box fn).ready = true ∧ (t.box fn).status = st.code

/-- A WRITE request to an entry (R382). -/
def writeReq (idx sub : Nat) (body : List Byte) : Req := { cmd := .write, idx, sub, body }

/-- A WRITE reaches the Reeve and passes checks 1 to 7 of R371: entry, class, rights, keys, body. -/
def WriteArrives (s : State) (f : Sender) (idx sub : Nat) (body : List Byte) : Prop :=
  Arrives s f (writeReq idx sub body) ∧ s.writeCheck f.who .write idx sub body = none

/-! ### Named conditions -/

/-- Every persistent entry has spent at most its four generation records. -/
def otpBounded (s : State) : Prop := ∀ k, (Tab.get [] s.otp k : List GenRec).length ≤ 4

/-- The Cellar's memory is in its canonical form: addresses rise, and no byte that reads zero is listed. -/
def cellarCanonical (s : State) : Prop := Tab.wf (0 : Byte) s.cellar.mem = true

/-- The Cellar's memory, and the tables of queue pairs, keys and sessions, are in canonical form: numbers rise, and nothing is
listed that equals what an unlisted number reads as. -/
def tablesCanonical (s : State) : Prop :=
  cellarCanonical s ∧ Tab.wf {} s.qps = true ∧ Tab.wf 0 s.keys = true ∧ Tab.wf none s.sessions = true

/-- Whether a canary that did not settle has its tap raised at this test: no trim of it waits, and it rose last 10 ms ago or
longer. -/
def tapDue (s : State) (x : Slot) (d : Nat) : Prop :=
  Tab.get false (s.slot x.n).trims d = false ∧
    (Tab.get 0 (s.slot x.n).rose d = 0 ∨ Tab.get 0 (s.slot x.n).rose d - 1 + 10000000 ≤ s.now)

/-- The loom's sequencer stands at a word with this opcode in step `id` of plot `p`, its tile is not held, and it does not wait for
something else (R64, R191). -/
def Runs (s : State) (l : Loom) (op p id : Nat) : Prop :=
  (s.loom l.n).step = some id ∧ s.ownerOf l.n = some p ∧
  (∃ k, s.slotOf l.n = some k ∧ (s.site (slotTile k)).held = none) ∧ retries op (s.loom l.n).stall = true ∧
  ∃ w, (s.loom l.n).program[(s.loom l.n).ip]? = some w ∧ opOf w = op

/-- No line under these ranges of a loom's Bench waits to be filled (R199). -/
def BenchFilled (s : State) (l : Loom) (rs : List (Nat × Nat)) : Prop :=
  ∀ r ∈ rs, r.2 ≠ 0 → (s.loom l.n).pendingIn (lineRange r.1 r.2).1 (lineRange r.1 r.2).2 = false

/-- The Bench ranges can be read: no line under them waits to be filled, and every word agrees with its parity bit (R134, R199). -/
def BenchReady (s : State) (l : Loom) (rs : List (Nat × Nat)) : Prop := BenchFilled s l rs ∧ (s.loom l.n).parityBad rs = false

/-- What a Bench word with wrong parity does to the step that reads it, at the step's first error on the slot `k` (R134, R153): it is
counted and reported, the step is discarded for its re-run, and nothing of the instruction is done. -/
def ParityStops (s t : State) (l : Loom) (p id k : Nat) : Prop :=
  Raises s t [(0x6101, p, [slotCode k, p, id])] ∧ t.cell 0x6010 5 = satAdd 32 (s.cell 0x6010 5) 1 ∧
  (∀ x, s.stepAt id = some x → ∃ y, t.stepAt id = some y ∧ y.st = .discarded) ∧
  (t.loom l.n).fg = (s.loom l.n).fg ∧ (t.loom l.n).bg = (s.loom l.n).bg ∧ (t.loom l.n).bytes = (s.loom l.n).bytes ∧
  (t.loom l.n).ip = (s.loom l.n).ip ∧ t.fabric = s.fabric ∧ SameBut [k] s.slot t.slot ∧ CellsBut [(0x6010, 5)] s t ∧
  Changes s t (.slots :: .led :: .looms :: .steps :: .plots :: .samples :: Part.report)

/-- The entry at SQ_HEAD of an ACTIVE queue pair of plot `p` reaches the checks of its opcode: the plot has no answer of its own, and
no reserved field is set (R247 to R249); the ring is the next from which its Drover fetches. -/
def Submits (s : State) (n : Nat) (e : Sub) (op p : Nat) : Prop :=
  (s.qp n).st = .active ∧ (s.qp n).sqHead ≠ (s.qp n).sqTail ∧ s.ringNext n = true ∧ Sub_op e = op ∧ s.plotOfQp n = some p ∧
  s.plotAnswers p op = none ∧ Sub_bad e = false

/-- A result entry has been posted: it is written at RQ_TAIL with the PHASE of the lap, or, where entries wait or the ring has no
room, it waits behind those that waited (R260, R264). -/
def Posts (s t : State) (n : Nat) (r : Result) : Prop :=
  if (s.qp n).canWrite = true ∧ (s.qp n).waiting = [] then
    Tab.get none (t.qp n).ring (s.qp n).rqTail = some (r, (s.qp n).phase)
  else ∃ more, (t.qp n).waiting = (s.qp n).waiting ++ r :: more

/-- What a warm reset may change: not OTP, the defect log, the taps, the timebase and stored BLOBs (R425). -/
def Part.warm : List Part :=
  .epochs :: .sites :: .mailbox :: .latch :: .ferry :: .sweep :: .keys :: .exchanges :: .moved :: .boot :: .procs :: .power :: .rst ::
    .meas :: Part.work

/-- A warm reset has begun with this RESET_CAUSE (R428, R430, R432): READY is clear, no step is in flight, no session or exchange
exists, no key but the engine's own is held, every queue pair is DISABLED, no host link is up, every Ferry port is DOWN, nothing is
in the fabric, and no loom runs or has its Bench; every role epoch is 0x0001 (R49), every Assayer's generator has its seed (R119), and
the defect map is as it was. Measurements stay, but for the rows of a rebuild, which a save may bring forward (R164, R169). -/
def Quiesced (s t : State) (cause : Nat) : Prop :=
  t.rst.cause = cause ∧ t.rst.ready = false ∧ t.rst.phase = .warm ∧ t.rst.watch = false ∧ t.power.shutdown = 0 ∧
  (∀ id, t.stepAt id = none) ∧ (∀ n, t.session n = none) ∧ t.exchanges = [] ∧
  (∀ k, ¬(3 ≤ k ∧ k ≤ 15) → t.holder k = 0) ∧ (∀ n, (t.qp n).st = .disabled) ∧ (∀ x, t.portUp x = false) ∧
  (∀ x, x < 36 → (t.ferryAt x).st = .down) ∧ t.fabric.chans = [] ∧ t.fabric.inbox = [] ∧
  (∀ n, (t.loom n).step = none ∧ (t.loom n).bench = []) ∧ t.epochs = [] ∧
  (∀ u, u < 112 → (t.site u).lfsr = Config.tileSerial u ∧ (t.site u).st = (s.site u).st ∧
    (t.site u).logical = (s.site u).logical ∧ (t.site u).spareFor = (s.site u).spareFor) ∧
  (∀ i j, j < 256 → (i, j) ≠ (0x6020, 3) → t.measAt i j = s.measAt i j) ∧ Changes s t Part.warm

/-! ### Safe steps -/

/-- A safe step: the machine goes on. -/
def SafeStep (s : State) : Prop := ∃ t, step s = .next t

end Sys2Proof.Machine
end

