-- ==== Sys2Proof/Certificates/Slice0/Obligations.lean ====
section
/-!
DEFINITION. The statements for the provers. Each says what a group of commands does: that `exec` answers a next state, what that
state holds, and what it leaves as it was.
-/

open Sys2Proof Sys2Proof.Machine

/-! ### The whole machine -/

/-- A step takes the command at the front of the queue and runs its meaning on the state with the rest of the queue. -/
def Obligations.StepRunsTheFrontCommand : Prop :=
  ∀ (s : State) (c : Instr) (rest : List Instr), s.pending = c :: rest → step s = exec c { s with pending := rest }

/-- The model's choice for an empty queue (Assumption 3): a step lets engine time pass. The step answers a next state in which
the timebase has risen by one nanosecond, or, while the part slews a correction in FREE or HOLDOVER, by none or two, at most
once in 10 µs; nothing but the timebase and the Bell's record differs. -/
def Obligations.IdleStepLetsTimePass : Prop :=
  ∀ s : State, s.pending = [] → ∃ t, step s = .next t ∧
    (t.now = s.now + 1 ∨ ((t.now = s.now ∨ t.now = s.now + 2) ∧ (s.bell.st = .free ∨ s.bell.st = .holdover) ∧
      s.bell.lastSlew + 10000 ≤ s.now ∧ t.bell.lastSlew = s.now)) ∧
    t.bell.st = s.bell.st ∧ Changes s t [.now, .bell]

/-- Every command that is well-formed is carried out, in every state; one whose operands cannot stand on its carrier stops with
the fault illFormed. No command is refused. What no command changes: the commands that wait, and what the factory recorded on
the unit. -/
def Obligations.WellFormedCommandsRun : Prop :=
  (∀ (c : Instr) (s : State), (c.wf = true → ∃ t, exec c s = .next t) ∧ (c.wf = false → exec c s = .fault .illFormed)) ∧
  (∀ (c : Instr) (s t : State), exec c s = .next t → t.pending = s.pending ∧ t.factory = s.factory)

/-- An OTP record that has been written is never changed or erased: every step leaves the records of every persistent entry as
they were, or appends to them; and no entry ever has more than four. -/
def Obligations.OtpRecordsOnlyGrow : Prop :=
  ∀ s t : State, otpBounded s → step s = .next t →
    otpBounded t ∧ ∀ k, (Tab.get [] s.otp k : List GenRec) <+: Tab.get [] t.otp k

/-- Every step keeps the canonical form of the Cellar's memory and of the tables of queue pairs, keys and sessions, so that
equal contents are equal data. -/
def Obligations.TablesStayCanonical : Prop :=
  ∀ s t : State, tablesCanonical s → step s = .next t → tablesCanonical t

/-- The state after reset. Every scalar entry of the Ledger reads its default, every BLOB entry its default, no OTP record is
spent, every endpoint's role epoch is 0x0001, no named key but the engine's own (3 to 15) is held, no request, step, session or
queue pair exists, no event has been raised, every router buffer and every decoupling queue is empty; the Cellar's memory and
the tables are in canonical form and the queue of commands is empty. -/
def Obligations.ResetState : Prop :=
  (∀ i j, State.reset.cell i j = entryDefault i j) ∧ (∀ i j, State.reset.blobAt i j = blobDefault i j) ∧
  (∀ i j, State.reset.gen i j = 0) ∧ (∀ e, State.reset.epoch e = 1) ∧
  (∀ k, State.reset.holder k = if 3 ≤ k ∧ k ≤ 15 then 0x4000 else 0) ∧
  (∀ i, (State.reset.obAt i).st = .free) ∧ (∀ id, State.reset.stepAt id = none) ∧ (∀ n, State.reset.session n = none) ∧
  (∀ n, (State.reset.qp n).st = .disabled) ∧ State.reset.ev.seq = 0 ∧ State.reset.ev.log = [] ∧
  (∀ k, (State.reset.chan k).waiting = []) ∧ (∀ n, (State.reset.loom n).queues = []) ∧
  otpBounded State.reset ∧ tablesCanonical State.reset ∧ State.reset.pending = []

/-! ### Canaries, trims, holds -/

/-- CANARY_TEST of a watched slot (an active loom's, or an unfailed spare's) with no failing canary at tap 63. Outside a beat
the tap of every datapath whose canary did not settle, and which has not risen within 10 ms, rises by one, and no other tap
changes; in a beat no tap changes and those rises wait as trims. Other slots, and every Ledger entry but TRIM_COUNT, stay as
they are. CANARY_TEST of an unused spare, on any tile with power, with a failing canary at tap 63: the spare counts as
failed, the map generation rises by one, E-9102 names the slot, the defect log gets its record, and nothing is replaced.
TRIM_APPLY: at the end of the beat the trim that waits takes effect: the tap of its datapath rises by one and TRIM_COUNT counts
it; other taps, other slots and the rest of the Ledger stay as they are, and the trim waits no more. E-9101 is raised when the
lowest headroom of the slot falls below 8, and only then. -/
def Obligations.CanariesRaiseTaps : Prop :=
  (∀ (s : State) (x : Slot) (settled : BitVec 3), s.watched x = true →
    (∀ d, d < 3 → settled.getLsbD d = false → Tab.get 0 (s.slot x.n).taps d ≠ 63) →
    ∃ t, exec (.canaryTest x settled) s = .next t ∧
      (s.inBeat x = false → ∀ d, d < 3 →
        (settled.getLsbD d = false ∧ tapDue s x d → Tab.get 0 (t.slot x.n).taps d = Tab.get 0 (s.slot x.n).taps d + 1) ∧
        (¬ (settled.getLsbD d = false ∧ tapDue s x d) → Tab.get 0 (t.slot x.n).taps d = Tab.get 0 (s.slot x.n).taps d)) ∧
      (s.inBeat x = true → ∀ d, d < 3 → Tab.get 0 (t.slot x.n).taps d = Tab.get 0 (s.slot x.n).taps d ∧
        (settled.getLsbD d = false ∧ tapDue s x d → Tab.get false (t.slot x.n).trims d = true)) ∧
      SameBut [x.n] s.slot t.slot ∧ CellsBut [(0x9100, 3)] s t ∧ Changes s t (.slots :: .led :: Part.report)) ∧
  (∀ (s : State) (x : Slot) (settled : BitVec 3) (d : Nat), s.watched x = true → s.loomAt x = none → s.defects.length < 256 →
    d < 3 → settled.getLsbD d = false → Tab.get 0 (s.slot x.n).taps d = 63 →
    ∃ t, exec (.canaryTest x settled) s = .next t ∧
      Tab.get false (t.site x.tile.val).spareBad x.row.val = true ∧ t.cell 0x7021 1 = (s.cell 0x7021 1 + 1) % 2 ^ 32 ∧
      Raises s t [(0x9102, 0xFF, [x.code])] ∧ t.defects.length = s.defects.length + 1 ∧
      SameBut [x.tile.val] s.site t.site ∧ CellsBut [(0x7021, 1)] s t ∧ Changes s t (.sites :: .led :: .defects :: Part.report)) ∧
  (∀ (s : State) (x : Slot) (d : Nat), d < 3 → (s.slot x.n).trims = [(d, true)] →
    ∃ t, exec (.trimApply x) s = .next t ∧
      (∀ e, Tab.get 0 (t.slot x.n).taps e = Tab.get 0 (s.slot x.n).taps e + if e = d then 1 else 0) ∧
      (t.slot x.n).trims = [] ∧ t.cell 0x9100 3 = satAdd 32 (s.cell 0x9100 3) 1 ∧
      (if 8 ≤ (s.slot x.n).headroom ∧ (t.slot x.n).headroom < 8 then Raises s t [(0x9101, 0xFF, [x.code])] else Raises s t []) ∧
      SameBut [x.n] s.slot t.slot ∧ CellsBut [(0x9100, 3)] s t ∧ Changes s t (.slots :: .led :: Part.report))

/-- HOLD_ASSERT, the sensed minimum below 0.610 V, on a tile that is not held and not ABSENT: the tile is held from now, HOLD_COUNT rises by one,
E-4101 is raised. HOLD_RELEASE of a held tile whose sensed minimum stayed at or above 0.630 V for 10 µs: the tile is held no more,
HOLD_TIME rises by the length of the hold in ns, E-4102 is raised. Other tiles, and the rest of the Ledger, stay as they are.
HOLD_TIMEOUT. A hold confined to one tile, with VBUS in range, that lasts 2 ms is the tile fault localHold, with its router and
power gone: it does what TILE_FAIL of that cause does, and, a Reeve being active, the tile is ABSENT with its bypass engaged. Any other hold beyond 20
ms starts the orderly warm shutdown of an engine in service, and E-4602 with cause 0 is raised. -/
def Obligations.HoldsBeginAndEnd : Prop :=
  (∀ (s : State) (tile : Phys) (v : Sensed),
    ((s.reg tile.val).sensed v < 6100 → (s.site tile.val).held = none → (s.site tile.val).st ≠ .absent →
      ∃ t, exec (.holdAssert tile v) s = .next t ∧ (t.site tile.val) = { s.site tile.val with held := some s.now, heldSeen := true } ∧
        t.cell 0x4010 4 = satAdd 32 (s.cell 0x4010 4) 1 ∧ Raises s t [(0x4101, 0xFF, [tile.val])] ∧
        SameBut [tile.val] s.site t.site ∧ CellsBut [(0x4010, 4)] s t ∧ Changes s t (.sites :: .led :: Part.report)) ∧
    (∀ since, 6300 ≤ (s.reg tile.val).sensed v → (s.site tile.val).held = some since → since + 10000 ≤ s.now →
      ∃ t, exec (.holdRelease tile v) s = .next t ∧ (t.site tile.val) = { s.site tile.val with held := none } ∧
        t.cell 0x4010 5 = satAdd 64 (s.cell 0x4010 5) (s.now - since) ∧ Raises s t [(0x4102, 0xFF, [tile.val])] ∧
        SameBut [tile.val] s.site t.site ∧ CellsBut [(0x4010, 5)] s t ∧ Changes s t (.sites :: .led :: Part.report))) ∧
  (∀ (s : State) (tile : Phys) (since : Nat), (s.site tile.val).held = some since →
    (s.vbusOk = true → (∀ u, u < 112 → u ≠ tile.val → (s.site u).held = none) → since + 2000000 ≤ s.now →
      (s.site tile.val).st ≠ .absent → s.procs.reeveLost = false →
      ∃ t, exec (.holdTimeout tile) s = .next t ∧ exec (.tileFail tile .localHold false) s = .next t ∧
        (t.site tile.val).st = .absent ∧ (t.site tile.val).bypass = true ∧ (t.site tile.val).held = none) ∧
    ((s.vbusOk = false ∨ ∃ u, u < 112 ∧ u ≠ tile.val ∧ (s.site u).held ≠ none) → since + 20000000 < s.now →
      s.power.shutdown = 0 → s.rst.ready = true →
      ∃ t, exec (.holdTimeout tile) s = .next t ∧ t.power = { s.power with shutdown := 1 } ∧ Raises s t [(0x4602, 0xFF, [0])] ∧
        Changes s t (.power :: Part.work)))

/-- TILE_FAIL of a RESERVE tile, which has no logical number to pass on: it becomes RETIRED where its router and power are
sound, else ABSENT with its bypass engaged; the map generation rises by one, E-7110 gives the tile, no logical number and the
cause, and the defect log gets a record. A hold of the tile ends with it, and its length joins the total of 4010:05. Other tiles, and
every other Ledger entry, stay as they are, but for the generation of routes that are derived again. While no Reeve is active the
failure waits for one, and nothing else changes. TILE_FAIL of an ACTIVE
tile while a RESERVE tile remains: the lowest-numbered RESERVE tile takes the failed tile's logical number and is ACTIVE, and
the failed tile is ACTIVE no more: RETIRED where its router and power are sound, else ABSENT with its bypass engaged. No other
tile's entry of the defect map changes. -/
def Obligations.TilesFailAndReservesAreUsed : Prop :=
  (∀ (s : State) (tile : Phys) (cause : TileCause) (sound : Bool), (s.site tile.val).st = .reserve → s.defects.length < 256 →
    s.procs.reeveLost = false →
    ∃ t, exec (.tileFail tile cause sound) s = .next t ∧ (t.site tile.val).st = (if sound then .retired else .absent) ∧
      (t.site tile.val).bypass = !sound ∧ (t.site tile.val).held = none ∧ t.cell 0x7021 1 = (s.cell 0x7021 1 + 1) % 2 ^ 32 ∧
      t.cell 0x4010 5 = (match (s.site tile.val).held with
        | some since => satAdd 64 (s.cell 0x4010 5) (s.now - since)
        | none => s.cell 0x4010 5) ∧
      ((∀ p ∈ s.plotsNow, (s.plot p).image = none) → Raises s t [(0x7110, 0xFF, [tile.val, 0x7F, causeCode cause])]) ∧
      t.defects.length = s.defects.length + 1 ∧ SameBut [tile.val] s.site t.site ∧
      CellsBut ((0x7021, 1) :: (0x4010, 5) :: (List.range 16).map (fun p => (0x3100 + p, 4))) s t ∧
      Changes s t (.sites :: .led :: .defects :: .fabric :: Part.report)) ∧
  (∀ (s : State) (tile : Phys) (cause : TileCause) (sound : Bool), s.procs.reeveLost = true →
    (∀ x ∈ s.procs.waitFail, x.1 ≠ tile.val) →
    ∃ t, exec (.tileFail tile cause sound) s = .next t ∧
      t.procs = { s.procs with waitFail := s.procs.waitFail ++ [(tile.val, cause, sound)] } ∧ Changes s t [.procs]) ∧
  (∀ (s : State) (tile : Phys) (cause : TileCause) (sound : Bool) (r : Nat), (s.site tile.val).st = .active →
    s.reserveTile = some r → s.procs.reeveLost = false →
    ∃ t, exec (.tileFail tile cause sound) s = .next t ∧
      (t.site r).st = .active ∧ (t.site r).logical = (s.site tile.val).logical ∧
      (t.site tile.val).st = (if sound then .retired else .absent) ∧ (t.site tile.val).bypass = !sound ∧
      SameBut [tile.val, r] s.site t.site ∧
      Changes s t (.sites :: .epochs :: .defects :: .procs :: .meas :: Part.work))

/-! ### The timebase and the Bell -/

/-- BELL_REF_EDGE. Where no reference was present the count stays as it is and becomes the count of this edge; where one was
present, the count of this edge is 40 ns beyond the last edge's, slewed by at most 1 ns and only once in 10 µs, and the timebase
is at least that. The timebase never goes back. A phase error of at most 10 ns makes the Bell LOCKED, a greater one ACQUIRING;
E-5802 is raised when it becomes LOCKED, and only then. BELL_REF_LOSS, 200 ns without an edge in ACQUIRING or LOCKED: the Bell
is in HOLDOVER, the timebase makes no step, and E-5801 is raised. -/
def Obligations.TheBellDisciplinesTheCount : Prop :=
  (∀ (s : State) (e : BitVec 32), ∃ t, exec (.bellRefEdge e) s = .next t ∧
    ((s.bell.st = .free ∨ s.bell.st = .holdover) → t.now = s.now ∧ t.bell.edgeBase = s.now) ∧
    ((s.bell.st = .acquiring ∨ s.bell.st = .locked) → t.now = max s.now t.bell.edgeBase ∧
      (t.bell.edgeBase = s.bell.edgeBase + 40 ∨
        (s.bell.corr ≠ 0 ∧ s.bell.lastSlew + 10000 ≤ s.now ∧ t.bell.lastSlew = s.now ∧
          (t.bell.edgeBase = s.bell.edgeBase + 39 ∨ t.bell.edgeBase = s.bell.edgeBase + 41)))) ∧
    t.bell.st = (if e.toInt.natAbs ≤ 10 then .locked else .acquiring) ∧
    (if t.bell.st = .locked ∧ s.bell.st ≠ .locked then Raises s t [(0x5802, 0xFF, [])] else Raises s t []) ∧
    Changes s t (.now :: .bell :: Part.report)) ∧
  (∀ s : State, (s.bell.st = .acquiring ∨ s.bell.st = .locked) → s.bell.edgeBase + 200 ≤ s.now →
    ∃ t, exec .bellRefLoss s = .next t ∧ t.bell.st = .holdover ∧ Raises s t [(0x5801, 0xFF, [])] ∧
      Changes s t (.bell :: Part.report))

/-- TICK_EDGE. With no time load armed: the first edge within 1 µs of an expected instant is counted in TICK_COUNT, arms the
watch for missing ticks, and brings the period written to 5800:03 into use; any other edge raises E-5804 and changes nothing
else. With a time load armed at least 1 µs ago, whether or not the edge lies in a window, the timebase takes the value written,
the edge is counted, no event is raised, the load is used up, and from then on the instants are the multiples of the period in the new
count (log entry 6); one armed later waits on. TICK_MISSING, with the watch armed
and E-5803 not raised since the last counted tick, when an expected instant has passed by more than 1 µs with no tick counted
for it: E-5803 is raised, TICK_COUNT stays, and the Drovers take the instant as a tick. A second missing tick raises nothing.
TIME_LOAD and TICK_PERIOD, each a WRITE that passes the checks of R371. TIME_LOAD while no plot exists arms the load with the
value and the present time, in place of an earlier one, and answers DONE; while a plot exists it arms nothing and answers
DENIED. TICK_PERIOD stores the value at 5800:03; the period in use does not change by it. -/
def Obligations.TicksAreCountedAndSet : Prop :=
  (∀ s : State,
    (s.bell.load = none → inWindow s.now s.nearInstant = true → s.bell.lastCounted ≠ some s.nearInstant →
      ∃ t, exec .tickEdge s = .next t ∧ t.cell 0x5800 6 = satAdd 64 (s.cell 0x5800 6) 1 ∧
        t.bell.lastCounted = some s.nearInstant ∧ t.bell.watch = true ∧ t.bell.missRaised = false ∧
        t.bell.period = s.cell 0x5800 3 ∧ t.bell.tickNo = s.bell.tickNo + 1 ∧
        CellsBut [(0x5800, 6)] s t ∧ Changes s t [.bell, .led]) ∧
    (s.bell.load = none → (inWindow s.now s.nearInstant = false ∨ s.bell.lastCounted = some s.nearInstant) →
      ∃ t, exec .tickEdge s = .next t ∧ Raises s t [(0x5804, 0xFF, [])] ∧ Changes s t Part.report) ∧
    (∀ v at_, s.bell.load = some (v, at_) → at_ + 1000 ≤ s.now →
      ∃ t, exec .tickEdge s = .next t ∧ t.now = v ∧ t.bell.load = none ∧ t.bell.tickNo = s.bell.tickNo + 1 ∧
        t.nearInstant = (v + t.bell.period / 2) / t.bell.period * t.bell.period ∧
        t.cell 0x5800 6 = satAdd 64 (s.cell 0x5800 6) 1 ∧ CellsBut [(0x5800, 6)] s t ∧ Changes s t [.now, .bell, .led]) ∧
    (∀ v at_, s.bell.load = some (v, at_) → s.now < at_ + 1000 →
      ∃ t, exec .tickEdge s = .next t ∧ t.bell.load = some (v, at_) ∧ t.now = s.now ∧
        Changes s t (.bell :: .led :: Part.report))) ∧
  (∀ (s : State) (last : Nat), 1000 < s.now → s.bell.lastCounted = some last →
    last < (s.now - 1001) / s.bell.period * s.bell.period → s.bell.watch = true →
    (s.bell.missRaised = false → ∃ t, exec .tickMissing s = .next t ∧ Raises s t [(0x5803, 0xFF, [])] ∧
      t.bell.missRaised = true ∧ t.bell.tickNo = s.bell.tickNo + 1 ∧ Changes s t (.bell :: Part.report)) ∧
    (s.bell.missRaised = true → ∃ t, exec .tickMissing s = .next t ∧ t.bell.tickNo = s.bell.tickNo + 1 ∧ Changes s t [.bell])) ∧
  (∀ (s : State) (f : Sender) (body : List Byte),
    (WriteArrives s f 0x5800 4 body → s.plotsNow = [] →
      ∃ t, exec (.timeLoad f body) s = .next t ∧ Answers t f .done ∧ t.bell = { s.bell with load := some (ofLe body, s.now) } ∧
        Changes s t (.bell :: Part.reply)) ∧
    (WriteArrives s f 0x5800 4 body → s.plotsNow ≠ [] →
      ∃ t, exec (.timeLoad f body) s = .next t ∧ Answers t f .denied ∧ Changes s t Part.reply) ∧
    (WriteArrives s f 0x5800 3 body →
      ∃ t, exec (.tickPeriod f body) s = .next t ∧ Answers t f .done ∧ t.cell 0x5800 3 = ofLe body ∧
        CellsBut [(0x5800, 3)] s t ∧ Changes s t (.led :: Part.reply)))

/-! ### The fabric -/

/-- MESSAGE_FORWARD. At a node that is neither held nor ABSENT each opportunity belongs to the class that the rotation of eight
names, VC0 VC1 VC0 VC2 VC0 VC1 VC3 VC2, and grants one transfer: of the message of that class that is going, or else of the one that is
picked, which leaves the queue when it begins, with the credit for all of it taken from its set downstream, within that set's
capacity. With the last transfer of a message its buffer here is free, the set downstream holds it whole, and one that has reached its
goal's node and went from its sender stands last in its endpoint's inbox, its buffer freed again. Where the class has nothing to send
the opportunity passes unused. A held node moves nothing, and its rotation stands. CREDIT_RETURN: the freed transfers of
one class and set of one channel are credit again, and none are on their way any more. Other sets, other channels and the
messages stay as they are. -/
def Obligations.MessagesMoveWholeOnCredit : Prop :=
  (List.range 8).map Machine.rotation = [0, 1, 0, 2, 0, 1, 3, 2] ∧
  (∀ (s : State) (site : Node) (edge : Fin 4) (ch : Fin 16),
    (s.nodeHeld site.val = true → ∃ t, exec (.messageForward site edge ch) s = .next t ∧ t = s) ∧
    (∀ u, s.nodeHeld site.val = false → s.nodeDown site.val = false → s.nextNode site.val edge.val 12 = some u →
      s.nodeHeld u = false →
      (∀ m left, Tab.get none (s.chan (chanKey site.val edge.val ch.val)).sending
          (Machine.rotation (s.chan (chanKey site.val edge.val ch.val)).turn) = some (m, left) → 2 ≤ left →
        ∃ t, exec (.messageForward site edge ch) s = .next t ∧
          t.chan (chanKey site.val edge.val ch.val) = { s.chan (chanKey site.val edge.val ch.val) with
            turn := ((s.chan (chanKey site.val edge.val ch.val)).turn + 1) % 8,
            sending := Tab.set none (s.chan (chanKey site.val edge.val ch.val)).sending m.msg.cls.val (some (m, left - 1)) } ∧
          SameBut [chanKey site.val edge.val ch.val] s.chan t.chan ∧ t.fabric.inbox = s.fabric.inbox ∧ Changes s t [.fabric]) ∧
      (∀ m, Tab.get none (s.chan (chanKey site.val edge.val ch.val)).sending
          (Machine.rotation (s.chan (chanKey site.val edge.val ch.val)).turn) = none →
        (s.chan (chanKey site.val edge.val ch.val)).pick (Machine.rotation (s.chan (chanKey site.val edge.val ch.val)).turn) = some m →
        2 ≤ m.len →
        ∃ t, exec (.messageForward site edge ch) s = .next t ∧
          (t.chan (chanKey site.val edge.val ch.val)).turn = ((s.chan (chanKey site.val edge.val ch.val)).turn + 1) % 8 ∧
          (t.chan (chanKey site.val edge.val ch.val)).waiting =
            takeOut m (s.chan (chanKey site.val edge.val ch.val)).waiting ∧
          Tab.get none (t.chan (chanKey site.val edge.val ch.val)).sending m.msg.cls.val = some (m, m.len - 1) ∧
          Tab.get 0 (t.chan (chanKey site.val edge.val ch.val)).used (m.msg.cls.val * 3 + m.set) =
            Tab.get 0 (s.chan (chanKey site.val edge.val ch.val)).used (m.msg.cls.val * 3 + m.set) + m.len ∧
          Tab.get 0 (t.chan (chanKey site.val edge.val ch.val)).used (m.msg.cls.val * 3 + m.set) ≤ capacity m.msg.cls.val m.set ∧
          SameBut [chanKey site.val edge.val ch.val] s.chan t.chan ∧ t.fabric.inbox = s.fabric.inbox ∧ Changes s t [.fabric]) ∧
      (∀ m, (Tab.get none (s.chan (chanKey site.val edge.val ch.val)).sending
            (Machine.rotation (s.chan (chanKey site.val edge.val ch.val)).turn) = some (m, 1) ∨
          (Tab.get none (s.chan (chanKey site.val edge.val ch.val)).sending
            (Machine.rotation (s.chan (chanKey site.val edge.val ch.val)).turn) = none ∧ m.len = 1 ∧
          (s.chan (chanKey site.val edge.val ch.val)).pick (Machine.rotation (s.chan (chanKey site.val edge.val ch.val)).turn) = some m)) →
        s.siteOf m.msg.dest.toNat = some u → m.via = none → m.holds = none →
        ∃ t, exec (.messageForward site edge ch) s = .next t ∧
          Tab.get none (t.chan (chanKey site.val edge.val ch.val)).sending m.msg.cls.val = none ∧
          Tab.get 0 (t.chan (chanKey site.val edge.val ch.val)).freed (m.msg.cls.val * 3 + m.set) =
            Tab.get 0 (s.chan (chanKey site.val edge.val ch.val)).freed (m.msg.cls.val * 3 + m.set) + m.len ∧
          Tab.get [] t.fabric.inbox m.msg.dest.toNat = Tab.get [] s.fabric.inbox m.msg.dest.toNat ++ [m.msg] ∧
          SameBut [chanKey site.val edge.val ch.val] s.chan t.chan ∧ Changes s t [.fabric]) ∧
      (Tab.get none (s.chan (chanKey site.val edge.val ch.val)).sending
          (Machine.rotation (s.chan (chanKey site.val edge.val ch.val)).turn) = none →
        (s.chan (chanKey site.val edge.val ch.val)).pick (Machine.rotation (s.chan (chanKey site.val edge.val ch.val)).turn) = none →
        ∃ t, exec (.messageForward site edge ch) s = .next t ∧
          t.chan (chanKey site.val edge.val ch.val) = { s.chan (chanKey site.val edge.val ch.val) with
            turn := ((s.chan (chanKey site.val edge.val ch.val)).turn + 1) % 8 } ∧
          SameBut [chanKey site.val edge.val ch.val] s.chan t.chan ∧ t.fabric.inbox = s.fabric.inbox ∧ Changes s t [.fabric]))) ∧
  (∀ (s : State) (site : Node) (edge : Fin 4) (ch : Fin 16) (cls : Fin 4) (set : Fin 3),
    ∃ t, exec (.creditReturn site edge ch cls set) s = .next t ∧
      (∀ j, Tab.get 0 (t.chan (chanKey site.val edge.val ch.val)).used j =
        Tab.get 0 (s.chan (chanKey site.val edge.val ch.val)).used j -
          if j = cls.val * 3 + set.val then Tab.get 0 (s.chan (chanKey site.val edge.val ch.val)).freed j else 0) ∧
      (∀ j, Tab.get 0 (t.chan (chanKey site.val edge.val ch.val)).freed j =
        if j = cls.val * 3 + set.val then 0 else Tab.get 0 (s.chan (chanKey site.val edge.val ch.val)).freed j) ∧
      (t.chan (chanKey site.val edge.val ch.val)).waiting = (s.chan (chanKey site.val edge.val ch.val)).waiting ∧
      (t.chan (chanKey site.val edge.val ch.val)).sending = (s.chan (chanKey site.val edge.val ch.val)).sending ∧
      (t.chan (chanKey site.val edge.val ch.val)).turn = (s.chan (chanKey site.val edge.val ch.val)).turn ∧
      SameBut [chanKey site.val edge.val ch.val] s.chan t.chan ∧ t.fabric.inbox = s.fabric.inbox ∧
      t.fabric.taken = s.fabric.taken ∧ t.fabric.routes = s.fabric.routes ∧ Changes s t [.fabric])

/-- MESSAGE_RECEIVE of the oldest message at an endpoint. PLOT is checked first: a message whose tag is not accepted is dropped
and counted, its epoch is not looked at, and a CREATED or SERVING plot it names becomes FAULTED. EPOCH is checked second: a
message of another epoch is dropped and counted, and is kept until its sender has received the reply. A message that passes both
is accepted: one that has no place in a Bench, a read return for one, is kept at its endpoint, and nothing else changes; an EPOCH_STALE
reply at a Ferry port engine goes to its port; the payload of
a stream with a region in the Bench is written there, after what came before, where the partitions let the fabric write, and faults
the plot, counted, where they do not; an operand of a loom that passes its operands on goes to the next loom of its chain, with that
loom's present epoch. A dropped message is never accepted. EPOCH_STALE_REPLY, when a loom has received the
reply to a message of VC0 or VC1 that was dropped: the sender's entry for the destination is marked stale and the loom waits on
it; the message is not sent again. One of VC2 or VC3 waits on the marked entry while no Reeve is active; once it has been rewritten no
such message waits. STEP_RERUN of a discarded step, while no shutdown is decided: it runs again from its inputs,
with its plot's next attempt tag, with no loom at its end, and without the samples of the discarded attempt. Other steps, requests, rings and the Ledger stay as they are. -/
def Obligations.ReceiptChecksPlotThenEpoch : Prop :=
  (∀ (s : State) (e : U16) (m : Msg) (rest : List Msg), Tab.get [] s.fabric.inbox e.toNat = m :: rest →
    (s.tagAccepted e.toNat m = false →
      ∃ t, exec (.messageReceive e) s = .next t ∧ t.fabric.droppedPlot = s.fabric.droppedPlot + 1 ∧
        t.fabric.droppedEpoch = s.fabric.droppedEpoch ∧ t.fabric.taken = s.fabric.taken ∧
        Tab.get [] t.fabric.inbox e.toNat = rest ∧
        (m.plot.toNat < 16 → (s.plotState m.plot.toNat = 1 ∨ s.plotState m.plot.toNat = 2) → t.plotState m.plot.toNat = 5) ∧
        Changes s t Part.work) ∧
    (s.tagAccepted e.toNat m = true → m.epoch.toNat ≠ s.epoch e.toNat →
      ∃ t, exec (.messageReceive e) s = .next t ∧ t.fabric.droppedEpoch = s.fabric.droppedEpoch + 1 ∧
        t.fabric.droppedPlot = s.fabric.droppedPlot ∧ t.fabric.lost = s.fabric.lost ++ [m] ∧ t.fabric.taken = s.fabric.taken ∧
        Changes s t [.fabric, .led, .looms]) ∧
    (s.tagAccepted e.toNat m = true → m.epoch.toNat = s.epoch e.toNat →
      (((endpointLoom e.toNat).isNone = true ∧ (m.cls ≠ 3 ∨ m.kind ≠ 6 ∨ engineFerry e.toNat = none)) ∨
        (m.kind = 4) ∨ (∃ n, endpointLoom e.toNat = some n ∧
        s.windowOf n (e.toNat % 8) = none ∧ (s.programOf n).bind Program.passTo = none)) →
      ∃ t, exec (.messageReceive e) s = .next t ∧ Tab.get [] t.fabric.taken e.toNat = Tab.get [] s.fabric.taken e.toNat ++ [m] ∧
        Tab.get [] t.fabric.inbox e.toNat = rest ∧ t.fabric.droppedPlot = s.fabric.droppedPlot ∧
        t.fabric.droppedEpoch = s.fabric.droppedEpoch ∧ Changes s t [.fabric]) ∧
    (∀ x, s.tagAccepted e.toNat m = true → m.epoch.toNat = s.epoch e.toNat → (endpointLoom e.toNat).isNone = true → m.cls = 3 →
      m.kind = 6 → engineFerry e.toNat = some x →
      ∃ t, exec (.messageReceive e) s = .next t ∧ t.fabric.taken = s.fabric.taken ∧ Tab.get [] t.fabric.inbox e.toNat = rest ∧
        SameBut [x] s.ferryAt t.ferryAt ∧ Changes s t [.fabric, .ferry, .free]) ∧
    (∀ n p w d, s.tagAccepted e.toNat m = true → m.epoch.toNat = s.epoch e.toNat → m.kind ≠ 4 → endpointLoom e.toNat = some n →
      s.ownerOf n = some p → s.windowOf n (e.toNat % 8) = some w → (s.programOf n).bind Program.passTo = none →
      d = landing (Tab.get 0 (s.loom n).inPos (e.toNat % 8)) m.payload w →
      (d.1.all (fun x => s.partOk p .fabricIn m.kind.toNat x.1 x.2.length) = true →
        ∃ t z, exec (.messageReceive e) s = .next t ∧ z = d.1.foldl (fun l x => l.store x.1 x.2) (s.loom n) ∧
          t.loom n = { z with inPos := Tab.set 0 (s.loom n).inPos (e.toNat % 8) d.2 } ∧
          SameBut [n] s.loom t.loom ∧ Tab.get [] t.fabric.inbox e.toNat = rest ∧ t.fabric.taken = s.fabric.taken ∧
          Changes s t [.fabric, .looms]) ∧
      (d.1.any (fun x => !s.partOk p .fabricIn m.kind.toNat x.1 x.2.length) = true → s.plotState p = 2 →
        ∃ t, exec (.messageReceive e) s = .next t ∧ t.plotState p = 5 ∧
          t.cell (0x6100 + p) 6 = satAdd 32 (s.cell (0x6100 + p) 6) 1 ∧ Changes s t Part.work)) ∧
    (∀ n k, s.tagAccepted e.toNat m = true → m.epoch.toNat = s.epoch e.toNat → m.kind ≠ 4 → endpointLoom e.toNat = some n →
      e.toNat % 8 = 0 → s.windowOf n 0 = none → (s.programOf n).bind Program.passTo = some k →
      Tab.get false s.fabric.stale (staleKey (loomEndpoint n 0) (loomEndpoint k.n 0)) = false →
      ∃ t u, exec (.messageReceive e) s = .next t ∧ t = u.inject { m with
          epoch := BitVec.ofNat 16 (s.epoch (loomEndpoint k.n 0)), dest := BitVec.ofNat 16 (loomEndpoint k.n 0),
          src := BitVec.ofNat 16 (loomEndpoint n 0) } ∧
        Tab.get [] u.fabric.taken e.toNat = Tab.get [] s.fabric.taken e.toNat ++ [m] ∧
        Tab.get [] u.fabric.inbox e.toNat = rest ∧ Changes s u [.fabric] ∧ Changes s t [.fabric, .led, .looms])) ∧
  (∀ (s : State) (sender dest : U16) (n : Nat) (m : Msg), endpointLoom sender.toNat = some n →
    (Tab.get [] s.fabric.taken sender.toNat).any (fun x => x.cls == 3 && x.kind == 6 && x.src == dest) = true →
    s.fabric.lost.find? (fun x => x.src == sender && x.dest == dest) = some m → m.cls.val < 2 →
    ∃ t, exec (.epochStaleReply sender dest) s = .next t ∧
      Tab.get false t.fabric.stale (staleKey sender.toNat dest.toNat) = true ∧ (t.loom n).stall = some (.stale dest.toNat) ∧
      t.fabric.lost = dropFirst (fun x => x.src == sender && x.dest == dest) s.fabric.lost ∧
      t.fabric.inbox = s.fabric.inbox ∧ t.fabric.chans = s.fabric.chans ∧ SameBut [n] s.loom t.loom ∧
      (∀ i j, j < 256 → i < 0x3300 → t.cell i j = s.cell i j) ∧ Changes s t [.fabric, .led, .looms]) ∧
  (∀ (s : State) (sender dest : U16) (m : Msg),
    (Tab.get [] s.fabric.taken sender.toNat).any (fun x => x.cls == 3 && x.kind == 6 && x.src == dest) = true →
    s.fabric.lost.find? (fun x => x.src == sender && x.dest == dest) = some m → 2 ≤ m.cls.val →
    (s.procs.reeveLost = true →
      ∃ t, exec (.epochStaleReply sender dest) s = .next t ∧
        Tab.get false t.fabric.stale (staleKey sender.toNat dest.toNat) = true ∧ t.fabric.lost = s.fabric.lost ∧
        t.fabric.inbox = s.fabric.inbox ∧ t.fabric.chans = s.fabric.chans ∧ Changes s t [.fabric, .led, .looms]) ∧
    (s.procs.reeveLost = false →
      ∃ t, exec (.epochStaleReply sender dest) s = .next t ∧
        Tab.get false t.fabric.stale (staleKey sender.toNat dest.toNat) = false ∧
        (∀ x ∈ t.fabric.lost, ¬(x.src = sender ∧ x.dest = dest ∧ 2 ≤ x.cls.val)) ∧ Changes s t [.fabric, .led, .looms])) ∧
  (∀ (s : State) (id : Nat) (x : Step), s.stepAt id = some x → x.st = .discarded → s.power.shutdown = 0 →
    ∃ t y, exec (.stepRerun id) s = .next t ∧ t.stepAt id = some y ∧ y.st = .running ∧
      y.attempt = (s.plot x.plot).nextTag ∧ y.ended = [] ∧ y.reqs = x.reqs ∧ y.plot = x.plot ∧
      (t.plot x.plot).nextTag = ((s.plot x.plot).nextTag + 1) % 16 ∧ SameBut [id] s.stepAt t.stepAt ∧
      t.samples = s.samples.filter (fun z => z.step != id) ∧ Changes s t [.fabric, .looms, .plots, .steps, .samples])

/-! ### Sequencers, cell arrays and the Fuller -/

/-- LDW, XCHG and PASS at a loom's instruction pointer; `u` is the state in which the Bench words that have changed by themselves are
marked. LDW of a legal region, with no line it reads waiting to be filled and every word of sound parity: the background registers take
the Bench region, and the foreground registers are untouched; for a loom that waits in an exchange the load completes and the loom
stays at its word. A region with a format that cannot stand there faults the plot. XCHG with the
background loaded: the two sets change places and nothing else does; with the load not complete, the loom waits and no register
changes. PASS of a legal vector: the accumulators are those of the foreground
registers with the activation codes of the Bench, changed by what the loom gets wrong. Each that is done goes on to the next word; the
Bench, other looms and every other part of the machine stay as they are, the counters of stalls and formats apart, and of a sampled
step what the Assayer copies, with its generator. A word of wrong parity among those read stops the step. -/
def Obligations.LoadExchangePass : Prop :=
  ∀ (s : State) (l : Loom) (p id : Nat),
    (∀ (w : WRegion) (up : List BenchWord) (u : State), u = s.upsets l.n up →
      (loadLegal w = true → BenchReady u l (loadReads w) →
        (Runs u l 1 p id → (u.loom l.n).stall = none →
          ∃ t, exec (.ldw l ⟨w, up⟩) s = .next t ∧ t.loom l.n = { u.loom l.n with
              bg := loadWeights (u.loom l.n) w, bgReady := true, ip := (u.loom l.n).ip + 1, stall := none } ∧
            SameBut [l.n] s.loom t.loom ∧ CellsBut [(0x9210, 1), (0x9210, 2), (0x9210, 5)] s t ∧ Changes s t [.led, .looms]) ∧
        (Runs u l 2 p id → (u.loom l.n).stall = some .exchange →
          ∃ t, exec (.ldw l ⟨w, up⟩) s = .next t ∧ t.loom l.n = { u.loom l.n with
              bg := loadWeights (u.loom l.n) w, bgReady := true } ∧
            SameBut [l.n] s.loom t.loom ∧ CellsBut [(0x9210, 1), (0x9210, 2), (0x9210, 5)] s t ∧ Changes s t [.led, .looms])) ∧
      (loadLegal w = false → Runs u l 1 p id → s.plotState p = 2 →
        ∃ t, exec (.ldw l ⟨w, up⟩) s = .next t ∧ t.plotState p = 5 ∧ (t.loom l.n).bg = (s.loom l.n).bg ∧ Changes s t Part.work) ∧
      (∀ k, loadLegal w = true → Runs u l 1 p id → BenchFilled u l (loadReads w) →
        (u.loom l.n).parityBad (loadReads w) = true → s.slotOf l.n = some k → (s.slot k).parity.1 ≠ id + 1 →
        ∃ t, exec (.ldw l ⟨w, up⟩) s = .next t ∧ ParityStops s t l p id k)) ∧
    (Runs s l 2 p id → (s.loom l.n).bgReady = true →
      ∃ t, exec (.xchg l) s = .next t ∧ t.loom l.n = { s.loom l.n with
          fg := (s.loom l.n).bg, bg := (s.loom l.n).fg, bgReady := false, ip := (s.loom l.n).ip + 1, stall := none } ∧
        SameBut [l.n] s.loom t.loom ∧ Changes s t [.looms]) ∧
    (Runs s l 2 p id → (s.loom l.n).bgReady = false → (s.loom l.n).stall = none →
      ∃ t, exec (.xchg l) s = .next t ∧ (t.loom l.n).stall = some .exchange ∧ (t.loom l.n).ip = (s.loom l.n).ip ∧
        (t.loom l.n).fg = (s.loom l.n).fg ∧ (t.loom l.n).bg = (s.loom l.n).bg ∧ (t.loom l.n).bytes = (s.loom l.n).bytes ∧
        SameBut [l.n] s.loom t.loom ∧ CellsBut [(0x3300 + p, 4)] s t ∧ Changes s t [.led, .looms]) ∧
    (∀ (a : ARegion) (up : List BenchWord) (wrong : List (Nat × Int)) (u : State) (k : Nat), u = s.upsets l.n up →
      Runs u l 3 p id → passLegal (s.loom l.n).fg a = true → s.slotOf l.n = some k →
      BenchFilled u l (narrowReads a (s.loom l.n).fg.block) →
      ((u.loom l.n).parityBad (narrowReads a (s.loom l.n).fg.block) = false →
        ∃ t, exec (.pass l a ⟨up, wrong⟩) s = .next t ∧ t.loom l.n = { u.loom l.n with
            accs := spoilAccs wrong (passCols (s.loom l.n).fg ((u.loom l.n).narrow a (s.loom l.n).fg.block)
              (List.range (s.loom l.n).fg.cols)),
            accTs := (s.loom l.n).fg.tscale, ip := (u.loom l.n).ip + 1, stall := none } ∧
          (∀ x, s.stepAt id = some x → x.sampled = true → (s.site (slotTile k)).assayerOff = false →
            64 ≤ (s.loom l.n).fg.cols → ∃ y ∈ t.samples, y.tile = slotTile k ∧ y.step = id) ∧
          ((∀ x, s.stepAt id = some x → x.sampled = false) → t.sites = s.sites ∧ t.samples.length = s.samples.length) ∧
          SameBut [l.n] s.loom t.loom ∧ SameBut [slotTile k] s.site t.site ∧
          CellsBut [(0x9210, 1), (0x9210, 2), (0x9210, 5)] s t ∧ Changes s t [.led, .looms, .sites, .samples]) ∧
      ((u.loom l.n).parityBad (narrowReads a (s.loom l.n).fg.block) = true → (s.slot k).parity.1 ≠ id + 1 →
        ∃ t, exec (.pass l a ⟨up, wrong⟩) s = .next t ∧ ParityStops s t l p id k))

/-- FULL of a program whose formats and shapes the Fuller executes, on pages and frames that are the loom's, every line it reads or
writes filled, every word it reads of sound parity, and no access refused by the split of the Bench: the Bench
takes what the program computes from the Bench and the accumulators as they were before, and every byte of the Bench outside the
pieces it writes is unchanged. The partials program writes one FP32 word for each accumulator. The append program sends one VC2
message with the converted key or value to the Cellar controller of its portion's tile; no other program touches the fabric. The weight
registers and accumulators, other looms, and all but the format counters of 9210 stay as they are. A program with a format that cannot
stand there faults the plot; an access that the split refuses is counted in 6100+p:06 and faults the plot; a word of wrong parity
stops the step. -/
def Obligations.FullerWritesOnlyItsResults : Prop :=
  ∀ (s : State) (l : Loom) (p id : Nat) (op : FullOp) (up : List BenchWord) (wrong : List (Nat × U32)) (u : State) (w : Written),
    u = s.upsets l.n up → Runs u l 4 p id → w = fullWrites u p id l.n (u.loom l.n) wrong op →
    (s.fullLegal p l.n op = false → s.plotState p = 2 →
      ∃ t, exec (.full l ⟨op, up, wrong⟩) s = .next t ∧ t.plotState p = 5 ∧ (t.loom l.n).bytes = (s.loom l.n).bytes ∧
        Changes s t Part.work) ∧
    (s.fullLegal p l.n op = true → s.fullAstray p l.n op = false → (FullOp_query op).any (fun q => s.attnWaits p l.n q) = false →
      ((s.fullReads p l.n op).any (fun r => !s.partOk p .fuller 0 r.1 r.2) = true ∨
          w.1.any (fun e => !s.partOk p (FullOp_writer op) 0 e.1 e.2.length) = true → s.plotState p = 2 →
        ∃ t, exec (.full l ⟨op, up, wrong⟩) s = .next t ∧ t.plotState p = 5 ∧
          t.cell (0x6100 + p) 6 = satAdd 32 (s.cell (0x6100 + p) 6) 1 ∧ (t.loom l.n).bytes = (s.loom l.n).bytes ∧
          Changes s t Part.work) ∧
      ((s.fullReads p l.n op).any (fun r => !s.partOk p .fuller 0 r.1 r.2) = false →
        w.1.any (fun e => !s.partOk p (FullOp_writer op) 0 e.1 e.2.length) = false → BenchFilled u l (s.fullReads p l.n op) →
        (∀ k, (u.loom l.n).parityBad (s.fullReads p l.n op) = true → s.slotOf l.n = some k → (s.slot k).parity.1 ≠ id + 1 →
          ∃ t, exec (.full l ⟨op, up, wrong⟩) s = .next t ∧ ParityStops s t l p id k) ∧
        ((u.loom l.n).parityBad (s.fullReads p l.n op) = false →
          (∀ e ∈ w.1, e.2 ≠ [] → (s.loom l.n).pendingIn (lineRange e.1 e.2.length).1 (lineRange e.1 e.2.length).2 = false) →
          ∃ t, exec (.full l ⟨op, up, wrong⟩) s = .next t ∧
            (t.loom l.n).bytes = (w.1.foldl (fun x e => x.store e.1 e.2) (s.loom l.n)).bytes ∧
            (∀ a, (∀ e ∈ w.1, ¬ (e.1 ≤ a ∧ a < e.1 + e.2.length)) → (t.loom l.n).bytes a 1 = (s.loom l.n).bytes a 1) ∧
            (∀ dst, op = .partials dst → wrong = [] →
              w.1 = [(dst.toNat, wordsLe 4 ((s.loom l.n).accs.map Acc.partial_))]) ∧
            (∀ v m layer r pos kv h x t0, op = .kvAppend v m layer r pos kv h →
              s.appendPlace p m.val layer.toNat r.toNat pos.toNat = some x → s.physOf x.2 = some t0 →
              ∃ v0 : State, v0.fabric = s.fabric ∧ t.fabric = (v0.inject (s.vc2 (loomEndpoint l.n 2) (ctrl t0) p 2
                (appendRef m.val layer.toNat r.toNat pos.toNat kv.val h.toNat)
                ((blocksAt x.1.kvFormat.toNat x.1.scales.toNat 0 0 (kvBlocks x.1 ((u.loom l.n).vec v))).1.flatMap Prod.snd))).fabric) ∧
            ((∀ v m layer r pos kv h, op ≠ .kvAppend v m layer r pos kv h) → t.fabric = s.fabric) ∧
            (t.loom l.n).ip = (s.loom l.n).ip + 1 ∧ (t.loom l.n).stall = none ∧ (t.loom l.n).fg = (s.loom l.n).fg ∧
            (t.loom l.n).bg = (s.loom l.n).bg ∧ (t.loom l.n).accs = (s.loom l.n).accs ∧
            t.samples.length = s.samples.length ∧ SameBut [l.n] s.loom t.loom ∧ CellsBut [(0x9210, 3), (0x9210, 4)] s t ∧
            Changes s t [.led, .looms, .samples, .fabric])))

/-- SEND to a loom of its own plot or to an agent, of whole transfers or of a narrow vector with its scales, whose entry is not stale,
from ranges that are filled, of sound parity, and that the split lets out: the message carries
the loom's own endpoint as SRC and its plot's number as PLOT, and enters the fabric where it has at most 32 transfers (VC3: 2) and the
firewall admits it; where it does not, it is counted as refused and no channel or inbox changes. In both cases the loom goes on to the
next word. On a stale entry the loom waits. A loom of another plot as its destination is an address fault: counted in 3300+p:09, and the
plot faults. A word of wrong parity stops the step. -/
def Obligations.SendIsTaggedAndChecked : Prop :=
  ∀ (s : State) (l : Loom) (p id : Nat) (dest epoch : U16) (cls : Fin 4) (kind : BitVec 3) (x : SendSrc) (up : List BenchWord)
    (u : State) (m : Msg), u = s.upsets l.n up → Runs u l 5 p id →
    m = { epoch, dest, src := BitVec.ofNat 16 (loomEndpoint l.n 0), plot := BitVec.ofNat 5 p, cls, kind,
          payload := (u.loom l.n).sendBytes x } →
    (Tab.get false s.fabric.stale (staleKey (loomEndpoint l.n 0) dest.toNat) = true →
      ∃ t, exec (.send l dest epoch cls kind x up) s = .next t ∧ t.loom l.n = { u.loom l.n with stall := some (.stale dest.toNat) } ∧
        SameBut [l.n] s.loom t.loom ∧ Changes s t [.looms]) ∧
    (Tab.get false s.fabric.stale (staleKey (loomEndpoint l.n 0) dest.toNat) = false → sendLegal x = true →
      (sendReads x).any (fun r => !s.partOk p .fabricOut 0 r.1 r.2) = false →
      (∀ d, endpointLoom dest.toNat = some d → s.ownerOf d ≠ some p → s.plotState p = 2 →
        ∃ t, exec (.send l dest epoch cls kind x up) s = .next t ∧ t.plotState p = 5 ∧
          t.cell (0x3300 + p) 9 = satAdd 32 (s.cell (0x3300 + p) 9) 1 ∧ t.fabric.chans = s.fabric.chans ∧
          t.fabric.inbox = s.fabric.inbox ∧ Changes s t Part.work) ∧
      ((match endpointLoom dest.toNat with | some d => s.ownerOf d = some p | none => bit dest.toNat 15 = true) →
        BenchFilled u l (sendReads x) →
        (∀ k, (u.loom l.n).parityBad (sendReads x) = true → s.slotOf l.n = some k → (s.slot k).parity.1 ≠ id + 1 →
          ∃ t, exec (.send l dest epoch cls kind x up) s = .next t ∧ ParityStops s t l p id k) ∧
        ((u.loom l.n).parityBad (sendReads x) = false →
          (sendTransfers x ≤ 32 → (cls.val < 3 ∨ sendTransfers x ≤ 2) → kind ≠ 7 → s.mayInject m = true →
            ∃ t, exec (.send l dest epoch cls kind x up) s = .next t ∧ t = (u.inject m).advance l.n) ∧
          (¬ (sendTransfers x ≤ 32 ∧ (cls.val < 3 ∨ sendTransfers x ≤ 2) ∧ kind ≠ 7 ∧ s.mayInject m = true) →
            ∃ t, exec (.send l dest epoch cls kind x up) s = .next t ∧ t.fabric.refused = s.fabric.refused + 1 ∧
              t.fabric.chans = s.fabric.chans ∧ t.fabric.inbox = s.fabric.inbox ∧
              t.loom l.n = { u.loom l.n with ip := (u.loom l.n).ip + 1, stall := none } ∧ SameBut [l.n] s.loom t.loom ∧
              Changes s t [.fabric, .looms]))))

/-- ISSUE of a request that its queue takes, below the queue's depth, with a Cellar range that the plot owns, of
tiles that are not held where the request is an Ethernet one, and with Bench lines to take away that are filled, of sound parity, and
that the split lets out: the request stands
last in the queue, with the bytes that a drain takes away, under the next ticket, rolling over after 255, with the attempt tag of the running attempt; its status is
open, but for a Ferry entry that the port refuses at once. The loom goes on; other queues, other looms, the Bench and the Cellar
stay as they are. A Cellar range or a page that is not the plot's is an address fault. With the queue full the loom waits, and nothing is issued. WAIT and FENCE. WAIT on a ticket that is
outstanding and complete with DONE consumes it and goes on; on one that is not complete the loom waits and consumes nothing.
FENCE with every entry of the attempt complete consumes all their tickets and goes on; with one open the loom waits. Other
queues and other looms stay as they are. -/
def Obligations.QueueEntriesAreIssuedAndAwaited : Prop :=
  (∀ (s : State) (l : Loom) (p id : Nat) (q : Fin 6) (r : QReq) (up : List BenchWord) (u : State), u = s.upsets l.n up →
    Runs u l 6 p id → queueTakes q r = true →
    ((((s.loom l.n).queue q.val).entries.filter (fun e => e.status.isNone)).length < queueDepth q.val →
      s.badRange p l.n r = false → (q = 3 → s.rangeHeld p l.n r = false) →
      (leavesByFabric r = true → ∀ g ∈ sourceRange r, s.partOk p .fabricOut 0 g.1 g.2 = true) → BenchReady u l (sourceRange r) →
      ∃ t, exec (.issue l q ⟨r, up⟩) s = .next t ∧
        ((t.loom l.n).queue q.val).issued = ((s.loom l.n).queue q.val).issued + 1 ∧
        (∃ st, ((t.loom l.n).queue q.val).entries = ((s.loom l.n).queue q.val).entries ++
            [⟨((s.loom l.n).queue q.val).issued % 256, r, (s.loom l.n).attempt, st,
              (match r with | .drain b _ n => (s.loom l.n).bytes b.toNat n.val | _ => []), (s.loom l.n).issuedAll⟩] ∧
          ((∀ x b n, r ≠ .ferry x b n) → st = none)) ∧
        (∀ k, k ≠ q.val → (t.loom l.n).queue k = (s.loom l.n).queue k) ∧ (t.loom l.n).bytes = (s.loom l.n).bytes ∧
        (t.loom l.n).ip = (s.loom l.n).ip + 1 ∧ SameBut [l.n] s.loom t.loom ∧ CellsBut [(0x3300 + p, 3)] s t ∧
        Changes s t [.led, .looms, .out, .ferry, .fabric]) ∧
    ((((s.loom l.n).queue q.val).entries.filter (fun e => e.status.isNone)).length < queueDepth q.val →
      s.badRange p l.n r = true → s.plotState p = 2 →
      ∃ t, exec (.issue l q ⟨r, up⟩) s = .next t ∧ t.plotState p = 5 ∧
        t.cell (0x3300 + p) 9 = satAdd 32 (s.cell (0x3300 + p) 9) 1 ∧ Changes s t Part.work) ∧
    (queueDepth q.val ≤ (((s.loom l.n).queue q.val).entries.filter (fun e => e.status.isNone)).length →
      (s.loom l.n).stall = none →
      ∃ t, exec (.issue l q ⟨r, up⟩) s = .next t ∧ (t.loom l.n).stall = some (.queueFull q.val) ∧
        (t.loom l.n).queues = (s.loom l.n).queues ∧ (t.loom l.n).ip = (s.loom l.n).ip ∧ SameBut [l.n] s.loom t.loom ∧
        CellsBut [(0x3300 + p, 5)] s t ∧ Changes s t [.led, .looms])) ∧
  (∀ (s : State) (l : Loom) (p id : Nat) (q : Fin 6),
    (∀ (t0 : Byte) (e : QEntry), Runs s l 7 p id →
      ((s.loom l.n).queue q.val).entries.find? (fun e => e.isTicket (s.loom l.n).attempt t0.toNat) = some e →
      (e.status = some .done →
        ∃ t, exec (.wait l q t0) s = .next t ∧
          ((t.loom l.n).queue q.val).entries =
            dropFirst (fun e => e.isTicket (s.loom l.n).attempt t0.toNat) ((s.loom l.n).queue q.val).entries ∧
          (∀ k, k ≠ q.val → (t.loom l.n).queue k = (s.loom l.n).queue k) ∧
          (t.loom l.n).ip = (s.loom l.n).ip + 1 ∧ (t.loom l.n).stall = none ∧ SameBut [l.n] s.loom t.loom ∧
          Changes s t [.looms]) ∧
      (e.status = none → ∃ t, exec (.wait l q t0) s = .next t ∧ t.loom l.n = { s.loom l.n with stall := some (.wait q.val t0.toNat) } ∧
          SameBut [l.n] s.loom t.loom ∧ Changes s t [.looms])) ∧
    (Runs s l 8 p id →
      (((s.loom l.n).queue q.val).entries.all (fun e => e.attempt != (s.loom l.n).attempt || e.status.isSome) = true →
        ∃ t, exec (.fence l q) s = .next t ∧
          ((t.loom l.n).queue q.val).entries =
            ((s.loom l.n).queue q.val).entries.filter (fun e => e.attempt != (s.loom l.n).attempt) ∧
          (∀ k, k ≠ q.val → (t.loom l.n).queue k = (s.loom l.n).queue k) ∧ (t.loom l.n).ip = (s.loom l.n).ip + 1 ∧
          SameBut [l.n] s.loom t.loom ∧ Changes s t [.looms]) ∧
      (((s.loom l.n).queue q.val).entries.any (fun e => e.attempt == (s.loom l.n).attempt && e.status.isNone) = true →
        ∃ t, exec (.fence l q) s = .next t ∧ t.loom l.n = { s.loom l.n with stall := some (.fence q.val) } ∧
          SameBut [l.n] s.loom t.loom ∧ Changes s t [.looms])))

/-- HINT, BR and STEPEND. A HINT, with the lead and the class of its word, goes as one VC3 message to the Steward of the loom's quadrant,
unless the loom sent one less than 100 µs ago; then it is only counted. BR
goes to its target where the field of the step descriptor equals the value, else to the next word. STEPEND with everything the
step issued complete ends the loom's part of the step: the step lists the loom as ended. HINT and BR leave the Bench as it was,
STEPEND its resident regions (the loom may begin another step, and R168 leaves the rest not defined then: log entry 106); other
looms and the rest of the machine stay as they were. An instruction word with opcode 0 or above 0x0B, whichever instruction it was taken for,
is an address fault: nothing of the instruction is done, 3300+p:09 counts it, and a CREATED or SERVING plot becomes FAULTED. -/
def Obligations.HintsBranchesStepEnds : Prop :=
  (∀ (s : State) (l : Loom) (p id : Nat),
    (∀ (lead : Byte) (c : BitVec 2), Runs s l 9 p id →
      bits ((s.loom l.n).program.getD (s.loom l.n).ip 0).toNat 15 8 = lead.toNat →
      bits ((s.loom l.n).program.getD (s.loom l.n).ip 0).toNat 1 0 = c.toNat →
      ((∀ t0, (s.loom l.n).lastHint = some t0 → t0 + 100000 ≤ s.now) →
        ∃ t, exec (.hint l lead c) s = .next t ∧ t.loom l.n = { s.loom l.n with
            lastHint := some s.now, ip := (s.loom l.n).ip + 1, stall := none } ∧
          t.fabric = (s.inject (s.hintMsg p l.n lead c)).fabric ∧ SameBut [l.n] s.loom t.loom ∧ Changes s t [.fabric, .looms]) ∧
      (∀ t0, (s.loom l.n).lastHint = some t0 → s.now < t0 + 100000 →
        ∃ t, exec (.hint l lead c) s = .next t ∧ t.cell (0x3300 + p) 0xB = satAdd 64 (s.cell (0x3300 + p) 0xB) 1 ∧
          t.loom l.n = { s.loom l.n with ip := (s.loom l.n).ip + 1, stall := none } ∧ SameBut [l.n] s.loom t.loom ∧
          CellsBut [(0x3300 + p, 0xB)] s t ∧ Changes s t [.led, .looms])) ∧
    (∀ (field : Fin 16) (value : U32) (target : BitVec 13), Runs s l 0xA p id →
      ∃ t, exec (.br l field value target) s = .next t ∧ t.loom l.n = { s.loom l.n with
          ip := if (s.loom l.n).desc.getD field.val 0 = value.toNat then target.toNat else (s.loom l.n).ip + 1, stall := none } ∧
        SameBut [l.n] s.loom t.loom ∧ Changes s t [.looms]) ∧
    (∀ x : Step, Runs s l 0xB p id → s.stepDone p l.n = true → s.stepAt id = some x →
      ∃ t, exec (.stepend l) s = .next t ∧ t.stepAt id = some { x with ended := x.ended ++ [l.n] } ∧
        (t.loom l.n).step ≠ some id ∧
        (∀ a, (s.residents l.n).any (fun r => decide (r.1 ≤ a) && decide (a < r.1 + r.2)) = true →
          (t.loom l.n).bytes a 1 = (s.loom l.n).bytes a 1) ∧ SameBut [l.n] s.loom t.loom ∧
        SameBut [id] s.stepAt t.stepAt ∧ Changes s t [.looms, .steps])) ∧
  (∀ (s : State) (l : Loom) (p id : Nat) (w : U64), (s.loom l.n).step = some id → s.ownerOf l.n = some p →
    (∃ k, s.slotOf l.n = some k ∧ (s.site (slotTile k)).held = none) → (s.loom l.n).stall = none →
    (s.loom l.n).program[(s.loom l.n).ip]? = some w → (opOf w = 0 ∨ 0xB < opOf w) →
    ∃ t, exec (.xchg l) s = .next t ∧ exec (.stepend l) s = .next t ∧ exec (.fence l 0) s = .next t ∧
      t.cell (0x3300 + p) 9 = satAdd 32 (s.cell (0x3300 + p) 9) 1 ∧
      ((s.plotState p = 1 ∨ s.plotState p = 2) → t.plotState p = 5) ∧
      (t.loom l.n).fg = (s.loom l.n).fg ∧ (t.loom l.n).bg = (s.loom l.n).bg ∧ (t.loom l.n).bytes = (s.loom l.n).bytes ∧
      Changes s t Part.work)

/-! ### The Assayer -/

/-- ASSAY_CHECK of the oldest sample of the plot at the tile's Assayer whose choice is final and that has still to be compared. Each
is counted, and is compared once. A sample that agrees bit for bit with the recomputation passes: nothing waits for it any more. One
that agrees only at the second recomputation shows the Assayer itself at fault: it takes no further samples, and E-9204 is raised. One
that disagrees is counted as a mismatch, 9220:03 names the slot, and E-9201 is raised; a step whose commit was held for it is discarded
for its re-run. A slot that serves no loom any more has nothing to replace; for one that serves a loom, with its row's spare free and
sound and the single-fault guarantee in force, the spare takes its position over under a new role epoch (its last change 1 ms ago or longer), and E-7111 names the slot. -/
def Obligations.AssayerCompares : Prop :=
  ∀ (s : State) (tile : Phys) (p : PlotId) (flip : Bool) (x : Sample), s.nextSample tile.val p.val Sample.forInt = some x →
    (x.agrees = true → flip = false →
      ∃ t, exec (.assayCheck tile p flip) s = .next t ∧ t.cell 0x9220 1 = satAdd 64 (s.cell 0x9220 1) 1 ∧
        (∀ y ∈ t.samples, y.tile = x.tile → y.step = x.step → y.forInt = false) ∧
        CellsBut [(0x9220, 1)] s t ∧ Changes s t [.led, .samples]) ∧
    (x.agrees = true → flip = true → s.defects.length < 256 →
      ∃ t, exec (.assayCheck tile p flip) s = .next t ∧ (t.site tile.val).assayerOff = true ∧
        t.cell 0x9220 4 = satAdd 32 (s.cell 0x9220 4) 1 ∧ Raises s t [(0x9204, 0xFF, [tile.val])] ∧
        (∀ y ∈ t.samples, y.tile = x.tile → y.step = x.step → y.forInt = false) ∧
        SameBut [tile.val] s.site t.site ∧ CellsBut [(0x9220, 1), (0x9220, 4)] s t ∧
        Changes s t (.led :: .samples :: .sites :: .defects :: Part.report)) ∧
    (x.agrees = false → s.loomAt (slotOfKey x.slot) = none →
      (x.hold = false →
        ∃ t, exec (.assayCheck tile p flip) s = .next t ∧ t.cell 0x9220 1 = satAdd 64 (s.cell 0x9220 1) 1 ∧
          t.cell 0x9220 2 = satAdd 32 (s.cell 0x9220 2) 1 ∧ t.cell 0x9220 3 = slotCode x.slot ∧
          Raises s t [(0x9201, p.val, [slotCode x.slot, p.val, x.step])] ∧
          CellsBut [(0x9220, 1), (0x9220, 2), (0x9220, 3)] s t ∧ Changes s t (.led :: .samples :: Part.report)) ∧
      (∀ z, x.hold = true → s.stepAt x.step = some z →
        ∃ t y, exec (.assayCheck tile p flip) s = .next t ∧ t.stepAt x.step = some y ∧ y.st = .discarded ∧
          t.cell 0x9220 2 = satAdd 32 (s.cell 0x9220 2) 1 ∧ Raises s t [(0x9201, p.val, [slotCode x.slot, p.val, x.step])] ∧
          SameBut [x.step] s.stepAt t.stepAt ∧ CellsBut [(0x9220, 1), (0x9220, 2), (0x9220, 3)] s t ∧ Changes s t Part.work)) ∧
    (∀ n, x.agrees = false → s.loomAt (slotOfKey x.slot) = some n → x.hold = false →
      Tab.get none (s.site (slotOfKey x.slot).tile.val).spareFor (slotOfKey x.slot).row.val = none →
      Tab.get false (s.site (slotOfKey x.slot).tile.val).spareBad (slotOfKey x.slot).row.val = false →
      s.epochFree (loomEndpoint n 0) = true → (s.loom n).step = none → s.lapseOf none = none → s.defects.length < 256 →
      ∃ t, exec (.assayCheck tile p flip) s = .next t ∧
        Tab.get none (t.site (slotOfKey x.slot).tile.val).spareFor (slotOfKey x.slot).row.val = some (slotOfKey x.slot).pos.val ∧
        t.epoch (loomEndpoint n 0) = nextEpoch (s.epoch (loomEndpoint n 0)) ∧ t.cell 0x7021 1 = (s.cell 0x7021 1 + 1) % 2 ^ 32 ∧
        Raises s t [(0x9201, p.val, [slotCode x.slot, p.val, x.step]), (0x7111, 0xFF, [(slotOfKey x.slot).code])] ∧
        SameBut [(slotOfKey x.slot).tile.val] s.site t.site ∧ SameBut [n] s.loom t.loom ∧
        CellsBut [(0x9220, 1), (0x9220, 2), (0x9220, 3), (0x7021, 1)] s t ∧
        Changes s t (.led :: .samples :: .sites :: .epochs :: .looms :: .defects :: Part.report))

/-- QUALITY_CHECK of the oldest sample of the layer, one that the plot's image watches, at the tile's Assayer whose quality has still to be
looked at, with the loom's FP32 outputs: the layer's window holds the last 256 samples with the new one last, and its
entry of 9300+p takes a new value under the next sequence number. Where every sample of the window is finite and not all
references are zero, the value is the residual over the window; otherwise the spec states none, and the value is a free one. The first
value above the step's limit raises E-9202, and only that one. A sample without outputs gives no figure.
Other layers' entries, other plots and the stored Ledger stay as they are. -/
def Obligations.QualityResidualOverTheWindow : Prop :=
  ∀ (s : State) (tile : Phys) (p : PlotId) (layer : Nat) (k : Byte) (x : Sample), layer = k.toNat →
    s.nextSample tile.val p.val (s.ofLayer p.val layer) = some x →
    (x.y = none → ∃ t, exec (.qualityCheck tile p k) s = .next t ∧
      (∀ z ∈ t.samples, z.tile = x.tile → z.step = x.step → z.forQual = false) ∧ Changes s t [.samples]) ∧
    (∀ (y : List Nat × Nat) (win : List (Nat × Nat × Nat × Bool)), x.y = some y →
      win = (Tab.get [] (s.plot p.val).quality layer ++ [(x.step, x.qualitySums y.1 y.2)]).drop
        ((Tab.get [] (s.plot p.val).quality layer).length + 1 - 256) →
      ∃ t v, exec (.qualityCheck tile p k) s = .next t ∧ Tab.get [] (t.plot p.val).quality layer = win ∧
        (t.measAt (0x9300 + p.val) (layer + 1)).value = toLe 4 v ∧
        (t.measAt (0x9300 + p.val) (layer + 1)).seq = ((s.measAt (0x9300 + p.val) (layer + 1)).seq + 1) % 2 ^ 32 ∧
        ((win.map (fun e => e.2.2.1)).sum ≠ 0 → (∀ e ∈ win, e.2.2.2 = false) →
          v = sqrtF32 (win.map (fun e => e.2.1)).sum (win.map (fun e => e.2.2.1)).sum 0) ∧
        (f32less x.limit v = true → Tab.get false (s.plot p.val).qualityOver layer = false →
          Raises s t [(0x9202, p.val, [p.val, layer, v])] ∧ Tab.get false (t.plot p.val).qualityOver layer = true) ∧
        (f32less x.limit v = true → Tab.get false (s.plot p.val).qualityOver layer = true → Raises s t []) ∧
        (∀ z ∈ t.samples, z.tile = x.tile → z.step = x.step → z.forQual = false) ∧
        (∀ i j, j < 256 → (i, j) ≠ (0x9300 + p.val, layer + 1) → layer < 254 → t.measAt i j = s.measAt i j) ∧
        SameBut [p.val] s.plot t.plot ∧ Changes s t (.plots :: .meas :: .free :: .samples :: Part.report))

/-! ### The Cellar -/

/-- CELLAR_READ within one unit of a tile that is not held, at an address of the data space that the tag owns, of a unit that is
not poisoned and in no frame that is being filled. A unit that is there, with no uncorrectable codeword among those read: the read returns
DONE with the bytes stored, 6010:01 counts the codewords corrected and 6010:02 those with two wrong bits; where another tile asked for
these bytes on VC2, they go back to it as a read return, KIND 4, and else nothing moves in the fabric. A unit still lost, whose stripe
row can supply it, no other member of the row held: the read returns DONE with the bytes of the chain. One with an uncorrectable
codeword is written again from the chain, where the row can supply it, counted in 6010:03 and reported as E-6001, the codewords
corrected in the same read counted too, and no byte outside that unit changes; where the row cannot, it is poisoned and the read
returns INTEGRITY. CELLAR_READ that does not get its data. An
address outside the data space, or an extent that the tag does not own: the read returns DENIED with no data, and of the plots
only the tag's can fault: CREATED or SERVING, it becomes FAULTED. A poisoned unit: it returns INTEGRITY with no data. In both
cases no byte of the Cellar changes. -/
def Obligations.CellarReads : Prop :=
  (∀ (s : State) (addr : BitVec 40) (tag : BitVec 5) (len : Fin 4097) (e : EccFound) (lt r : Nat) (ks : List Nat),
    unitOk addr len.val = true → lt = caTile addr.toNat → r = dataRow (lt % 12) (caOffset addr.toNat) → s.cellarHeld lt = false →
    s.addrOk addr.toNat = true → s.tagOwns tag.toNat addr.toNat = true → s.poisoned lt r = false →
    (lt, r) ∉ s.fillingUnits tag.toNat → ks = codewordsOf (caOffset addr.toNat % 4096) len.val →
    (s.built lt r = true → deadCodes e ks = false →
      ∃ t, exec (.cellarRead addr tag len e) s = .next t ∧
        t.cellar = { s.cellar with returned := some (tag.toNat, .done,
          s.cbytes (unitAddr lt r + caOffset addr.toNat % 4096) len.val) } ∧
        (0 < countWrong e ks 1 + countWrong e ks 2 →
          t.cell 0x6010 1 = satAdd 64 (s.cell 0x6010 1) (countWrong e ks 1 + countWrong e ks 2)) ∧
        (0 < countWrong e ks 2 → t.cell 0x6010 2 = satAdd 64 (s.cell 0x6010 2) (countWrong e ks 2)) ∧
        (countWrong e ks 2 = 0 → t.cell 0x6010 2 = s.cell 0x6010 2) ∧
        (∀ t0, s.physOf lt = some t0 →
          (Tab.get [] s.fabric.taken (ctrl t0)).find? (isReadRequest tag.toNat addr.toNat len.val) = none → t.fabric = s.fabric) ∧
        (∀ t0 m, s.physOf lt = some t0 →
          (Tab.get [] s.fabric.taken (ctrl t0)).find? (isReadRequest tag.toNat addr.toNat len.val) = some m →
          ∃ v : State, v.fabric = (s.takeMsg (ctrl t0) (isReadRequest tag.toNat addr.toNat len.val)).fabric ∧
            t.fabric = (v.inject (s.vc2 (ctrl t0) m.src.toNat tag.toNat 4 m.ref
              (s.cbytes (unitAddr lt r + caOffset addr.toNat % 4096) len.val))).fabric) ∧
        CellsBut [(0x6010, 1), (0x6010, 2)] s t ∧ Changes s t [.cellar, .led, .fabric]) ∧
    (s.built lt r = false → s.chainHeld lt r = false → s.canSupply lt r = true →
      ∃ t, exec (.cellarRead addr tag len e) s = .next t ∧
        t.cellar = { s.cellar with returned := some (tag.toNat, .done,
          s.chainBytes lt r (caOffset addr.toNat % 4096) len.val) } ∧ Changes s t [.cellar, .fabric]) ∧
    (s.built lt r = true → deadCodes e ks = true → s.chainHeld lt r = false → s.canSupply lt r = true →
      ∃ t, exec (.cellarRead addr tag len e) s = .next t ∧
        t.cbytes (unitAddr lt r) 4096 = s.chainBytes lt r 0 4096 ∧
        (∀ a, ¬ (unitAddr lt r ≤ a ∧ a < unitAddr lt r + 4096) → Tab.get 0 t.cellar.mem a = Tab.get 0 s.cellar.mem a) ∧
        t.cellar.returned = some (tag.toNat, .done, t.cbytes (unitAddr lt r + caOffset addr.toNat % 4096) len.val) ∧
        (0 < countWrong e ks 1 + countWrong e ks 2 →
          t.cell 0x6010 1 = satAdd 64 (s.cell 0x6010 1) (countWrong e ks 1 + countWrong e ks 2)) ∧
        t.cell 0x6010 3 = satAdd 32 (s.cell 0x6010 3) 1 ∧ Raises s t [(0x6001, 0xFF, [s.tileName lt, r])] ∧
        CellsBut [(0x6010, 1), (0x6010, 2), (0x6010, 3)] s t ∧ Changes s t (.cellar :: .led :: .fabric :: Part.report)) ∧
    (s.built lt r = true → deadCodes e ks = true → s.chainHeld lt r = false → s.canSupply lt r = false →
      ∃ t, exec (.cellarRead addr tag len e) s = .next t ∧ t.poisoned lt r = true ∧
        t.cellar.returned = some (tag.toNat, .integrity, []) ∧ t.cellar.mem = s.cellar.mem ∧ Changes s t Part.work)) ∧
  (∀ (s : State) (addr : BitVec 40) (tag : BitVec 5) (len : Fin 4097) (e : EccFound), unitOk addr len.val = true →
    s.cellarHeld (caTile addr.toNat) = false →
    (s.addrOk addr.toNat = false ∨ s.tagOwns tag.toNat addr.toNat = false →
      ∃ t, exec (.cellarRead addr tag len e) s = .next t ∧ t.cellar.returned = some (tag.toNat, .denied, []) ∧
        t.cellar.mem = s.cellar.mem ∧
        (tag.toNat < 16 → (s.plotState tag.toNat = 1 ∨ s.plotState tag.toNat = 2) → t.plotState tag.toNat = 5) ∧
        (∀ p, p < 16 → p ≠ tag.toNat → t.plotState p = s.plotState p) ∧ Changes s t Part.work) ∧
    (s.addrOk addr.toNat = true → s.tagOwns tag.toNat addr.toNat = true →
      (caTile addr.toNat, dataRow (caTile addr.toNat % 12) (caOffset addr.toNat)) ∉ s.fillingUnits tag.toNat →
      s.poisoned (caTile addr.toNat) (dataRow (caTile addr.toNat % 12) (caOffset addr.toNat)) = true →
      ∃ t, exec (.cellarRead addr tag len e) s = .next t ∧ t.cellar.returned = some (tag.toNat, .integrity, []) ∧
        t.cellar.mem = s.cellar.mem ∧ Changes s t Part.work))

/-- CELLAR_WRITE within one unit of a tile that is not held, at an address of the data space that the tag owns, of a unit that
is there and not poisoned: the bytes land, no other byte changes, the write waits with the XOR of the old and the new bytes
as its parity delta, which goes on VC2 to the controller of its parity member. PARITY_DELTA_APPLY of a waiting write whose delta has
come, where its parity member is there and not held: the parity unit's
same bytes take the XOR with the delta, no other byte changes, and the write is acknowledged on VC2. CELLAR_WRITE_COMPLETE: a write whose
acknowledgement has come is outstanding no more, and a Parcel that it wrote is counted; one without stays. CHAIN_XOR at a member,
not held, whose unit of the row is there and sound, for the unit of a lost member, with the partial that came from the member before it:
what it sends on, to the next member or at the end to the lost one's tile, is the XOR of that partial and its own unit. KV_APPEND of a
key or value that has come on VC2: the codes, then the scales, go to the
place of the position in the frame's portion of the layer, as Cellar writes of the plot, where none of their units waits for the end of
a hold, and the running step that makes the append records it; a position outside those that the step feeds changes nothing. -/
def Obligations.CellarWritesAndTheirParity : Prop :=
  ((∀ (s : State) (addr : BitVec 40) (tag : BitVec 5) (data : List Byte) (lt r off : Nat), unitOk addr data.length = true →
    lt = caTile addr.toNat → r = dataRow (lt % 12) (caOffset addr.toNat) → off = caOffset addr.toNat % 4096 →
    s.cellarHeld lt = false → s.addrOk addr.toNat = true → s.tagOwns tag.toNat addr.toNat = true → s.built lt r = true →
    s.poisoned lt r = false →
    (∀ m ∈ Tab.get [] s.fabric.taken (ctrl ((s.physOf lt).getD 112)), (isDataWrite tag.toNat data m &&
      parcelOf addr.toNat m.ref != 0) = false) →
    ∃ t, exec (.cellarWrite addr tag data) s = .next t ∧ t.cbytes (unitAddr lt r + off) data.length = data ∧
      (∀ a, ¬ (unitAddr lt r + off ≤ a ∧ a < unitAddr lt r + off + data.length) →
        Tab.get 0 t.cellar.mem a = Tab.get 0 s.cellar.mem a) ∧
      t.cellar.writes = s.cellar.writes ++ [⟨s.cellar.nextId, lt, r, off,
        xorBytes (s.cbytes (unitAddr lt r + off) data.length) data, tag.toNat, false, 0⟩] ∧
      (∀ a b, s.physOf lt = some a → s.physOf (lt / 12 * 12 + r % 12) = some b → ∃ v : State, v.fabric = s.fabric ∧
        t.fabric = (v.inject (s.vc2 (ctrl a) (ctrl b) 0x1F 2 s.cellar.nextId
          (xorBytes (s.cbytes (unitAddr lt r + off) data.length) data))).fabric) ∧
      t.cellar.nextId = s.cellar.nextId + 1 ∧ Changes s t [.cellar, .fabric]) ∧
  (∀ (s : State) (id : Nat) (w : CWrite), s.cellar.writes.find? (fun x => x.id == id) = some w → w.applied = false →
    (∀ x, s.deltaPath w = some x → s.arrived x.2 (isVc2 0x1F 2 id) = true) → s.cellarHeld w.parityTile = false → s.built w.parityTile w.row = true →
    ∃ t, exec (.parityDeltaApply id) s = .next t ∧
      t.cbytes (unitAddr w.parityTile w.row + w.offset) w.delta.length =
        xorBytes (s.cbytes (unitAddr w.parityTile w.row + w.offset) w.delta.length) w.delta ∧
      (∀ a, ¬ (unitAddr w.parityTile w.row + w.offset ≤ a ∧ a < unitAddr w.parityTile w.row + w.offset + w.delta.length) →
        Tab.get 0 t.cellar.mem a = Tab.get 0 s.cellar.mem a) ∧
      t.cellar.writes = s.cellar.writes.map (fun x => if x.id = id then { x with applied := true } else x) ∧
      (∀ x, s.deltaPath w = some x → ∃ v : State, v.fabric = (s.takeMsg x.2 (isVc2 0x1F 2 id)).fabric ∧
        t.fabric = (v.inject (s.vc2 x.2 x.1 0x1F 6 id [])).fabric) ∧
      Changes s t [.cellar, .fabric]) ∧
  (∀ (s : State) (id : Nat),
    (s.cellar.writes.find? (fun x => x.id == id && x.applied) = none →
      ∃ t, exec (.cellarWriteComplete id) s = .next t ∧ t = s) ∧
    (∀ w, s.cellar.writes.find? (fun x => x.id == id && x.applied) = some w →
      (∀ x, s.deltaPath w = some x → s.arrived x.1 (isVc2 0x1F 6 id) = true) →
      ∃ t, exec (.cellarWriteComplete id) s = .next t ∧ t.cellar.writes = s.cellar.writes.filter (fun x => x.id != id) ∧
        t.cellar.mem = s.cellar.mem ∧
        (w.parcel = 0 → CellsBut [] s t ∧ t.plots = s.plots) ∧
        (w.parcel ≠ 0 → w.plot < 16 → t.cell (0x5100 + w.plot) 0x13 = satAdd 64 (s.cell (0x5100 + w.plot) 0x13) 1 ∧
          w.parcel - 1 ∈ (t.plot w.plot).written ∧ CellsBut [(0x5100 + w.plot, 0x13)] s t) ∧
        Changes s t [.cellar, .fabric, .led, .plots]))) ∧
  ((∀ (s : State) (m lost : Logi) (row : Fin 786432) (b : List Byte) (e : EccFound) (t0 u0 : Nat), b.length = 4096 →
    m.val ∈ others lost.val → s.built m.val row.val = true → s.poisoned m.val row.val = false → s.cellarHeld m.val = false →
    deadCodes e (List.range 128) = false → s.physOf m.val = some t0 → s.physOf (chainNext lost.val m.val) = some u0 →
    (chainPrev lost.val m.val = none → b = List.replicate 4096 0) →
    (chainPrev lost.val m.val ≠ none →
      s.arrived (ctrl t0) (fun x => isVc2 0x1F 4 (chainRef lost.val row.val) x && x.payload == b) = true) →
    ∃ t, exec (.chainXor m row ⟨lost, b, e⟩) s = .next t ∧
      (∃ v : State, v.fabric =
          (s.takeMsg (ctrl t0) (fun x => isVc2 0x1F 4 (chainRef lost.val row.val) x && x.payload == b)).fabric ∧
        t.fabric = (v.inject (s.vc2 (ctrl t0) (ctrl u0) 0x1F 4 (chainRef lost.val row.val)
          (xorBytes b (s.cbytes (unitAddr m.val row.val) 4096)))).fabric) ∧
      CellsBut [(0x6010, 1), (0x6010, 2)] s t ∧ Changes s t [.fabric, .led]) ∧
  (∀ (s : State) (p : PlotId) (m : MSlot) (layer : Nat) (request : U32) (u : BitVec 24) (kv : Fin 2) (head : Nat)
      (codes scales : List Byte) (i e : Nat) (d : Bool) (x : PoolSt) (im : Image),
    s.findReq p.val request.toNat = some i → s.pool p.val m.val = some x → (s.plot p.val).image = some im →
    s.listOf p.val i m.val = some d →
    imageExtent im (portionAt x.desc layer (pgFrame ((s.obAt i).page d (u.toNat / 64)))).1 = some e →
    (¬ ((s.obAt i).committed ≤ u.toNat ∧ u.toNat < (s.obAt i).provisional) →
      ∃ t, exec (.kvAppend p m layer request u kv head codes scales) s = .next t ∧ t = s) ∧
    ((s.obAt i).committed ≤ u.toNat → u.toNat < (s.obAt i).provisional → layer < x.desc.layers.toNat →
      head < x.desc.kvHeads.toNat → codes.length = poolCb x.desc → scales.length = poolSb x.desc →
      (pgState ((s.obAt i).page d (u.toNat / 64)) = 1 ∨ pgState ((s.obAt i).page d (u.toNat / 64)) = 2) →
      ∀ c b, c = (portionAt x.desc layer (pgFrame ((s.obAt i).page d (u.toNat / 64)))).2 * codeSize x.desc
          + ((kv.val * x.desc.kvHeads.toNat + head) * 64 + u.toNat % 64) * poolCb x.desc →
        b = perExtent x.desc * codeSize x.desc
          + (portionAt x.desc layer (pgFrame ((s.obAt i).page d (u.toNat / 64)))).2 * scaleSize x.desc
          + ((kv.val * x.desc.kvHeads.toNat + head) * 64 + u.toNat % 64) * poolSb x.desc →
        (∀ y ∈ rangeUnits e c codes.length ++ rangeUnits e b scales.length, s.rowHeld y.1 y.2 = false) →
        ∀ t0 s1, s.physOf (e / 176) = some t0 →
        s.arrived (ctrl t0) (isAppend p.val (appendRef m.val layer request.toNat u.toNat kv.val head) codes scales) = true →
        s1 = s.takeMsg (ctrl t0) (isAppend p.val (appendRef m.val layer request.toNat u.toNat kv.val head) codes scales) →
        ∃ t, exec (.kvAppend p m layer request u kv head codes scales) s = .next t ∧
          t.cellar = ((s1.splitWrite (extentAddr e c) p.val codes).splitWrite (extentAddr e b) p.val scales).cellar ∧
          t.fabric = ((s1.splitWrite (extentAddr e c) p.val codes).splitWrite (extentAddr e b) p.val scales).fabric ∧
          (∀ id z, (s.obAt i).step = some id → s.stepAt id = some z → z.st = .running →
            ∃ ids, t.stepAt id = some { z with appends :=
              z.appends ++ [⟨m.val, layer, request.toNat, u.toNat, kv.val, head, ids⟩] } ∧ SameBut [id] s.stepAt t.stepAt) ∧
          Changes s t [.cellar, .led, .fabric, .steps, .meas])))

/-- REFRESH_SLOT and REFRESH_INTERVAL_CHANGE. Slot 31, or slot 15 while the interval is 32 µs, refreshes the channel's next row
while fewer than 2,048 were refreshed in the interval, from the first row of a new one; then it serves the scrubber, which
reads the channel's next access, corrects what it finds there as a read does, and moves on. Any other slot, or a stopped wheel, does
neither. The interval of a wheel that
runs falls to 32 µs above 85 °C and returns to 64 µs after 10 ms at or below 82 °C; E-6301 gives the tile and the interval. Refreshing
changes no byte of the Cellar. REBUILD_START of the logical tile first in line, with no rebuild running: it is the one that is rebuilt, 6020:01
reads 1, 6020:02 the logical tile, and E-6201 is raised. REBUILD_ROW, with no member of the group
held and a next row that is sound in the other members, and neither poisoned nor of an extent
pending erasure: the member's unit of the row takes the XOR of the other eleven members' units, and no other byte of the Cellar
changes. -/
def Obligations.RefreshAndRebuild : Prop :=
  (∀ (s : State) (tile : Phys),
    (∀ (ch : Fin 48) (slot : Fin 32) (e : EccFound), s.refreshNs tile.val ≠ 0 →
      (slot.val = 31 ∨ (slot.val = 15 ∧ s.refreshNs tile.val = 32000)) →
      (Tab.get 0 s.cellar.refresh (tile.val * 48 + ch.val) / 4096 ≠ s.now / s.refreshNs tile.val →
        ∃ t, exec (.refreshSlot tile ch ⟨slot, e⟩) s = .next t ∧
          Tab.get 0 t.cellar.refresh (tile.val * 48 + ch.val) = s.now / s.refreshNs tile.val * 4096 + 1 ∧
          t.cellar.scrub = s.cellar.scrub ∧ t.cellar.mem = s.cellar.mem ∧ Changes s t [.cellar]) ∧
      (Tab.get 0 s.cellar.refresh (tile.val * 48 + ch.val) / 4096 = s.now / s.refreshNs tile.val →
        (Tab.get 0 s.cellar.refresh (tile.val * 48 + ch.val) % 4096 < 2048 →
          ∃ t, exec (.refreshSlot tile ch ⟨slot, e⟩) s = .next t ∧
            Tab.get 0 t.cellar.refresh (tile.val * 48 + ch.val) = Tab.get 0 s.cellar.refresh (tile.val * 48 + ch.val) + 1 ∧
            t.cellar.scrub = s.cellar.scrub ∧ t.cellar.mem = s.cellar.mem ∧ Changes s t [.cellar]) ∧
        (∀ x, 2048 ≤ Tab.get 0 s.cellar.refresh (tile.val * 48 + ch.val) % 4096 →
          x = scrubAt ch.val (Tab.get 0 s.cellar.scrub (tile.val * 48 + ch.val) % scrubAccesses) →
          s.poisoned (s.site tile.val).logical x.1 = false → s.built (s.site tile.val).logical x.1 = true →
          deadCodes e (codewordsOf (512 * x.2) 512) = false →
          ∃ t, exec (.refreshSlot tile ch ⟨slot, e⟩) s = .next t ∧
            Tab.get 0 t.cellar.scrub (tile.val * 48 + ch.val) = Tab.get 0 s.cellar.scrub (tile.val * 48 + ch.val) + 1 ∧
            t.cellar.refresh = s.cellar.refresh ∧ t.cellar.mem = s.cellar.mem ∧
            (0 < countWrong e (codewordsOf (512 * x.2) 512) 1 + countWrong e (codewordsOf (512 * x.2) 512) 2 →
              t.cell 0x6010 1 = satAdd 64 (s.cell 0x6010 1)
                (countWrong e (codewordsOf (512 * x.2) 512) 1 + countWrong e (codewordsOf (512 * x.2) 512) 2)) ∧
            CellsBut [(0x6010, 1), (0x6010, 2), (0x6010, 6)] s t ∧ Changes s t [.cellar, .led]))) ∧
    (∀ (ch : Fin 48) (slot : Fin 32) (e : EccFound),
      (s.refreshNs tile.val = 0 ∨ (slot.val ≠ 31 ∧ ¬ (slot.val = 15 ∧ s.refreshNs tile.val = 32000))) →
      ∃ t, exec (.refreshSlot tile ch ⟨slot, e⟩) s = .next t ∧ t = s) ∧
    (∀ tj highest : U16, s.wheelRuns tile.val = true → s.cell 0x6030 (tile.val + 1) = 64 → 1360 < int16 tj.toNat →
      ∃ t, exec (.refreshIntervalChange tile tj highest) s = .next t ∧ t.cell 0x6030 (tile.val + 1) = 32 ∧
        Raises s t [(0x6301, 0xFF, [tile.val, 32])] ∧ CellsBut [(0x6030, tile.val + 1)] s t ∧ Changes s t (.led :: Part.report)) ∧
    (∀ tj highest : U16, s.wheelRuns tile.val = true → s.cell 0x6030 (tile.val + 1) = 32 → int16 highest.toNat ≤ 1312 →
      ∃ t, exec (.refreshIntervalChange tile tj highest) s = .next t ∧ t.cell 0x6030 (tile.val + 1) = 64 ∧
        Raises s t [(0x6301, 0xFF, [tile.val, 64])] ∧ CellsBut [(0x6030, tile.val + 1)] s t ∧ Changes s t (.led :: Part.report)) ∧
    (∀ tj highest : U16, s.wheelRuns tile.val = false →
      ∃ t, exec (.refreshIntervalChange tile tj highest) s = .next t ∧ t = s)) ∧
  ((∀ (s : State) (lt : Logi), s.cellar.rebuild = none → s.cellar.waiting.head? = some lt.val →
    ∃ t, exec (.rebuildStart lt) s = .next t ∧ t.cellar.rebuild = some (lt.val, s.now) ∧
      t.cellar.waiting = s.cellar.waiting.tail ∧ t.cell 0x6020 1 = 1 ∧ t.cell 0x6020 2 = lt.val ∧
      Raises s t [(0x6201, 0xFF, [lt.val, s.tileName lt.val])] ∧ t.cellar.mem = s.cellar.mem ∧
      CellsBut [(0x6020, 1), (0x6020, 2)] s t ∧ Changes s t (.cellar :: .led :: .meas :: Part.report)) ∧
  (∀ (s : State) (lt since ph r : Nat) (u : Unbuilt), s.cellar.rebuild = some (lt, since) →
    Tab.get none s.cellar.unbuilt lt = some u → s.cellarHeld lt = false → s.chainHeld lt r = false →
    s.nextUnbuilt lt u = some (ph, r) → s.poisoned lt r = false → s.canSupply lt r = true →
    (r % 12 = lt % 12 ∨ Tab.get 0 s.cellar.erase (rowExtent lt r) = 0) →
    ∃ t, exec .rebuildRow s = .next t ∧ t.cbytes (unitAddr lt r) 4096 = s.chainBytes lt r 0 4096 ∧
      (∀ a, ¬ (unitAddr lt r ≤ a ∧ a < unitAddr lt r + 4096) → Tab.get 0 t.cellar.mem a = Tab.get 0 s.cellar.mem a) ∧
      t.cellar.poison = s.cellar.poison ∧ t.cellar.writes = s.cellar.writes ∧ t.cellar.owner = s.cellar.owner ∧
      Changes s t (.cellar :: .led :: .meas :: .procs :: Part.report)))

/-! ### The Pantry: spills and fills -/

/-- SPILL_START of a paused session that is not filling and that no hint protects, with an enabled USE 1 path: its next
spillable page reads SPILLING with its frame, its transfer is in flight to the lowest remote slot not in use, and the frame's
bytes, every unit of which can be read, leave by the path, sealed; the acknowledgement is due within that path's limit. SPILL_ACK in time
while the session is still paused: the page reads SPILLED with its remote slot, its frame
returns to the pool, and 6200+p:13 counts the bytes. A late SPILL_ACK, or SPILL_ACK_TIMEOUT beyond the limit: the page reads
RESIDENT again with the same frame, the transfer is over, and E-6401 is raised. Other requests' pages stay as they are. -/
def Obligations.SpillsMoveOnePage : Prop :=
  ∀ (s : State) (p : PlotId) (request : U32) (i m : Nat) (x : PoolSt) (im : Image) (d : Bool) (j : Nat),
    s.pageCtx p.val request.toNat d = some (i, s.obAt i, m, x, im) →
    (∀ path, s.findReq p.val request.toNat = some i → (s.obAt i).find (fun d j => (s.obAt i).spillable d j) = some (d, j) →
      s.spillPath p.val = some path → (s.obAt i).st = .pausedCool → (s.obAt i).filling = false →
      s.hintHolds (s.obAt i) = false → s.frameHeld im x.desc (pgFrame ((s.obAt i).page d j)) = false →
      s.frameLost im x.desc (pgFrame ((s.obAt i).page d j)) = none →
      ∃ t, exec (.spillStart p request) s = .next t ∧ (t.obAt i).page d j = pgWord 3 (pgFrame ((s.obAt i).page d j)) ∧
        (t.obAt i).moving = (s.obAt i).moving ++ [pageKey d j] ∧
        t.out = .rdma p.val path (x.pickRemote * remoteBytes x.desc) true
          (s.sealed p.val path (x.pickRemote * remoteBytes x.desc) (s.frameBytes im x.desc (pgFrame ((s.obAt i).page d j)))) ::
            s.out ∧
        Tab.get 0 (t.obAt i).spillBy (pageKey d j) = s.now + s.spillLimit p.val path + 1 ∧
        (t.obAt i).st = .pausedCool ∧ SameBut [i] s.obAt t.obAt ∧ Changes s t [.plots, .ob, .out]) ∧
    ((s.obAt i).moving.contains (pageKey d j) = true → pgState ((s.obAt i).page d j) = 3 → (s.obAt i).st = .pausedCool →
      (s.obAt i).late s.now d j = false →
      ∃ t, exec (.spillAck p request d j) s = .next t ∧
        (t.obAt i).page d j = pgWord 4 (Tab.get 0 (s.obAt i).remoteOf (pageKey d j) - 1) ∧
        (t.obAt i).moving = (s.obAt i).moving.filter (fun k => k != pageKey d j) ∧
        (∃ y, t.pool p.val m = some y ∧ y.used = x.used.filter (fun f => f != pgFrame ((s.obAt i).page d j))) ∧
        t.cell (0x6200 + p.val) 0x13 = satAdd 64 (s.cell (0x6200 + p.val) 0x13) (frameSize x.desc) ∧
        SameBut [i] s.obAt t.obAt ∧ CellsBut [(0x6200 + p.val, 0x13)] s t ∧ Changes s t [.plots, .ob, .led]) ∧
    ((s.obAt i).moving.contains (pageKey d j) = true → pgState ((s.obAt i).page d j) = 3 → (s.obAt i).st.live = true →
      (s.obAt i).st ≠ .draining → (s.obAt i).late s.now d j = true →
      ∃ t, exec (.spillAckTimeout p request d j) s = .next t ∧ exec (.spillAck p request d j) s = .next t ∧
        (t.obAt i).page d j = pgWord 2 (pgFrame ((s.obAt i).page d j)) ∧
        (t.obAt i).moving = (s.obAt i).moving.filter (fun k => k != pageKey d j) ∧
        Raises s t [(0x6401, p.val, [p.val, pgFrame ((s.obAt i).page d j)])] ∧ SameBut [i] s.obAt t.obAt ∧
        Changes s t (.ob :: .plots :: Part.report))

/-- FILL_START of a session whose fills run: its first SPILLED page gets the lowest free frame of its class to which no
write is outstanding, reads FILLING with
it, and the read of its remote slot leaves by the path. FILL_COMPLETE of a live session: the frame holds the bytes that came
back, the page reads RESIDENT, and 6200+p:14 counts them. FILL_FAILED of a live session, for LINK_DOWN, TRUNCATED or NO_SPACE:
below three failures of the page the read leaves again, 6200+p:15 counts it and the page stays FILLING; at the third the request
goes FAULTED with FAULTED as its final status. -/
def Obligations.FillsBringThePageBack : Prop :=
  ∀ (s : State) (p : PlotId) (request : U32) (i m : Nat) (x : PoolSt) (im : Image) (d : Bool) (j : Nat),
    s.pageCtx p.val request.toNat d = some (i, s.obAt i, m, x, im) →
    (∀ path f, s.findReq p.val request.toNat = some i →
      (s.obAt i).find (fun d j => pgState ((s.obAt i).page d j) == 4) = some (d, j) → s.spillPath p.val = some path →
      (s.obAt i).fillsRun = true → x.pick (j % x.a) s.cellar.writes.length (fun f => s.frameBusy p.val x.desc f) = some f →
      ∃ t, exec (.fillStart p request) s = .next t ∧ (t.obAt i).page d j = pgWord 5 f ∧
        (t.obAt i).moving = (s.obAt i).moving ++ [pageKey d j] ∧
        t.out = .rdma p.val path (pgFrame ((s.obAt i).page d j) * remoteBytes x.desc) false [] :: s.out ∧
        SameBut [i] s.obAt t.obAt ∧ Changes s t [.plots, .ob, .out]) ∧
    (∀ data, (s.obAt i).moving.contains (pageKey d j) = true → pgState ((s.obAt i).page d j) = 5 → (s.obAt i).st.live = true →
      (s.obAt i).st ≠ .draining → s.frameHeld im x.desc (pgFrame ((s.obAt i).page d j)) = false →
      ∃ t, exec (.fillComplete p request d j data) s = .next t ∧
        t.cellar = (s.putFrame p.val im x.desc (pgFrame ((s.obAt i).page d j)) data).cellar ∧
        (t.obAt i).page d j = pgWord 2 (pgFrame ((s.obAt i).page d j)) ∧ (t.obAt i).st = (s.obAt i).st ∧
        t.cell (0x6200 + p.val) 0x14 = satAdd 64 (s.cell (0x6200 + p.val) 0x14) (frameSize x.desc) ∧
        SameBut [i] s.obAt t.obAt ∧ Changes s t [.plots, .ob, .led, .cellar, .meas]) ∧
    (∀ why path, (why = .linkDown ∨ why = .truncated ∨ why = .noSpace) → s.spillPath p.val = some path →
      (s.obAt i).moving.contains (pageKey d j) = true → pgState ((s.obAt i).page d j) = 5 → (s.obAt i).st.live = true →
      (s.obAt i).st ≠ .draining →
      (Tab.get 0 (s.obAt i).tries (pageKey d j) < 2 →
        ∃ t, exec (.fillFailed p request d j why) s = .next t ∧
          Tab.get 0 (t.obAt i).tries (pageKey d j) = Tab.get 0 (s.obAt i).tries (pageKey d j) + 1 ∧
          (t.obAt i).page d j = (s.obAt i).page d j ∧
          t.cell (0x6200 + p.val) 0x15 = satAdd 32 (s.cell (0x6200 + p.val) 0x15) 1 ∧
          t.out = .rdma p.val path ((Tab.get 0 (s.obAt i).remoteOf (pageKey d j) - 1) * remoteBytes x.desc) false [] :: s.out ∧
          SameBut [i] s.obAt t.obAt ∧ CellsBut [(0x6200 + p.val, 0x15)] s t ∧ Changes s t [.ob, .led, .out]) ∧
      (2 ≤ Tab.get 0 (s.obAt i).tries (pageKey d j) → (s.obAt i).consumed = false →
        ∃ t, exec (.fillFailed p request d j why) s = .next t ∧ (t.obAt i).st = .faulted ∧
          (t.obAt i).final = some .faulted ∧ SameBut [i] s.obAt t.obAt ∧ Changes s t Part.work))

/-! ### Images, loads, Parcels, routes at run time -/

/-- LOAD_REQUEST, a WRITE to 3100+p:10 that passes the checks of R371, with legal fields and no load in progress, for a CREATED
plot. An image whose class word does not match: DENIED, E-3101 is raised, LOAD_STATE reads REFUSED (6), no extent or channel is
taken. One that matches but is itself illegal, or whose plan fails a check: that check's status, REFUSED, nothing taken. One
that passes: DONE, LOAD_STATE reads 2, and every extent and every channel of the plan is the plot's. A plot that is draining or
erasing: BUSY, nothing changes. RELOAD_DRAIN_END of a plot that drains for a reload: while a step or a page transfer is in
flight nothing changes; when it has drained, every extent of the old image is marked to be erased, every loom of the plot has an
empty Bench and empty registers, the plot reads CREATED, and the new image is checked: LOAD_STATE reads 2 or REFUSED (6). -/
def Obligations.LoadsAreCheckedBeforeTheyAreTaken : Prop :=
  (∀ (s : State) (f : Sender) (p : PlotId) (body : List Byte) (im : Image), WriteArrives s f (0x3100 + p.val) 0x10 body →
    field body 16 16 / 2 = 0 →
    (s.plotState p.val = 1 → (s.plot p.val).drain = none →
      (s.cell (0x3100 + p.val) 3 = 0 ∨ 5 ≤ s.cell (0x3100 + p.val) 3) →
      (s.classMatches im = false →
        ∃ t, exec (.loadRequest f p body im) s = .next t ∧ Answers t f .denied ∧ t.cell (0x3100 + p.val) 3 = 6 ∧
          Raises s t [(0x3101, p.val, [p.val, im.klass])] ∧ t.cellar = s.cellar ∧ t.fabric = s.fabric ∧
          CellsBut [(0x3100 + p.val, 3)] s t ∧ Changes s t [.led, .plots, .power, .ev, .sessions, .out, .mailbox]) ∧
      (∀ st, s.classMatches im = true → s.imageBad p.val im = some st →
        ∃ t, exec (.loadRequest f p body im) s = .next t ∧ Answers t f st ∧ t.cell (0x3100 + p.val) 3 = 6 ∧
          CellsBut [(0x3100 + p.val, 3)] s t ∧ Changes s t [.led, .plots, .power, .out, .mailbox, .sessions]) ∧
      (∀ st, s.classMatches im = true → s.imageBad p.val im = none → s.planBad p.val im (field body 12 4) = some st →
        ∃ t, exec (.loadRequest f p body im) s = .next t ∧ Answers t f st ∧ t.cell (0x3100 + p.val) 3 = 6 ∧
          CellsBut [(0x3100 + p.val, 3)] s t ∧ Changes s t [.led, .plots, .power, .out, .mailbox, .sessions]) ∧
      (s.classMatches im = true → s.imageBad p.val im = none → s.planBad p.val im (field body 12 4) = none →
        ∃ t, exec (.loadRequest f p body im) s = .next t ∧ Answers t f .done ∧ t.cell (0x3100 + p.val) 3 = 2 ∧
          (∀ e ∈ im.extents, Tab.get 0 t.cellar.owner (recExtent e) = 1 + p.val) ∧
          (∀ k ∈ routeChans im, t.chanPlot k = some p.val) ∧
          (∀ x, (∀ e ∈ im.extents, recExtent e ≠ x) → Tab.get 0 t.cellar.owner x = Tab.get 0 s.cellar.owner x) ∧
          t.cellar.mem = s.cellar.mem ∧ CellsBut [(0x3100 + p.val, 3)] s t ∧
          Changes s t [.led, .plots, .power, .cellar, .fabric, .out, .mailbox, .sessions])) ∧
    ((s.plotState p.val = 3 ∨ s.plotState p.val = 4) →
      ∃ t, exec (.loadRequest f p body im) s = .next t ∧ Answers t f .busy ∧ Changes s t Part.reply)) ∧
  (∀ (s : State) (p : PlotId) (im : Image) (gen : Nat) (x : Port), (s.plot p.val).drain = some .reload →
    (s.plot p.val).loading = some (im, gen, x) →
    (s.plotDrained p.val = false → ∃ t, exec (.reloadDrainEnd p) s = .next t ∧ t = s) ∧
    (s.plotDrained p.val = true →
      ∃ t, exec (.reloadDrainEnd p) s = .next t ∧ (t.plot p.val).drain = none ∧ t.plotState p.val = 1 ∧
        (∀ e ∈ s.plotExtents p.val, Tab.get 0 t.cellar.erase e = 1 + p.val) ∧
        (∀ n ∈ (s.plot p.val).looms, (t.loom n).bench = [] ∧ (t.loom n).void = [] ∧ (t.loom n).fg = {} ∧ (t.loom n).bg = {} ∧
          (t.loom n).program = []) ∧
        (t.cell (0x3100 + p.val) 3 = 2 ∨ t.cell (0x3100 + p.val) 3 = 6) ∧ t.cellar.mem = s.cellar.mem ∧
        Changes s t (.epochs :: Part.work)))

/-- IMAGE_AUTHENTICATED of a load whose image has been fetched. A signature that verifies under the plot's image key lets the
load go on: LOAD_STATE reads 3, and nothing else changes. Any other, or a plot without an image key, raises E-8010, and the load
is REFUSED (6). While a Constable takeover runs nothing changes. IMAGE_APPLIED of an authenticated image on the map generation
it was planned for, with room for the engine's copies and no route on a cycle: every loom of the image has its program and
stands at its first word, the routers hold the image's route entries behind those they had, the class word, image number,
Bench split and number of quality layers are readable, and LOAD_STATE reads 4. LOAD_READY, when every Parcel of the manifest is written and no write of the
plot is outstanding: LOAD_STATE reads 5, and the CREATED plot is SERVING. -/
def Obligations.ImagesAreAuthenticatedApplied : Prop :=
  (∀ (s : State) (p : PlotId) (im : Image) (gen : Nat) (x : Port) (ok : Bool), (s.plot p.val).loading = some (im, gen, x) →
    s.cell (0x3100 + p.val) 3 = 2 → (s.plot p.val).abandon = false →
    (s.constableBusy = true → ∃ t, exec (.imageAuthenticated p ok) s = .next t ∧ t = s) ∧
    (s.constableBusy = false → ok = true → im.signer = s.blobAt (0x8100 + p.val) 1 →
      (s.blobAt (0x8100 + p.val) 1).any (fun b => b != 0) = true →
      ∃ t, exec (.imageAuthenticated p ok) s = .next t ∧ t.cell (0x3100 + p.val) 3 = 3 ∧
        CellsBut [(0x3100 + p.val, 3)] s t ∧ Changes s t [.led]) ∧
    (s.constableBusy = false → (ok = false ∨ im.signer ≠ s.blobAt (0x8100 + p.val) 1 ∨
        (s.blobAt (0x8100 + p.val) 1).any (fun b => b != 0) = false) →
      ∃ t, exec (.imageAuthenticated p ok) s = .next t ∧ t.cell (0x3100 + p.val) 3 = 6 ∧ (t.plot p.val).loading = none ∧
        Raises s t [(0x8010, p.val, [p.val])] ∧ Changes s t Part.work)) ∧
  (∀ (s : State) (p : PlotId) (im : Image) (gen : Nat) (x : Port), (s.plot p.val).loading = some (im, gen, x) →
    (s.plot p.val).abandon = false →
    (s.cell (0x3100 + p.val) 3 = 3 → s.constableBusy = false → copyExtents im ≤ (s.firstFree p.val (copyExtents im)).length →
      (im.looms.map (fun y => y.loom.n)).Nodup → gen = s.cell 0x7021 1 →
      onCycle (im.routes.filter (fun r => r.cls == 0)) = [] → onCycle (im.routes.filter (fun r => r.cls == 1)) = [] →
      ∃ t, exec (.imageApplied p) s = .next t ∧ t.cell (0x3100 + p.val) 3 = 4 ∧ t.cell (0x3100 + p.val) 1 = im.klass ∧
        t.cell (0x3100 + p.val) 2 = im.imageId ∧ t.cell (0x3100 + p.val) 4 = gen ∧
        t.cell (0x6100 + p.val) 1 = (if im.split then 1 else 0) ∧ t.cell (0x9300 + p.val) 0 = im.quality.length ∧
        (∀ y ∈ im.looms, (t.loom y.loom.n).program = y.words ∧ (t.loom y.loom.n).ip = 0) ∧
        SameBut (im.looms.map (fun y => y.loom.n)) s.loom t.loom ∧
        t.fabric.routes = holdEntries s.fabric.routes (im.routes.flatMap (routeEntries p.val)) ∧ (t.plot p.val).image = some im ∧
        Changes s t [.cellar, .looms, .led, .meas, .fabric, .plots]) ∧
    (s.cell (0x3100 + p.val) 3 = 4 → (∀ n, n < im.manifest.length → (s.plot p.val).written.contains n = true) →
      (∀ w ∈ s.cellar.writes, w.plot ≠ p.val) → s.plotState p.val = 1 →
      ∃ t, exec (.loadReady p) s = .next t ∧ t.cell (0x3100 + p.val) 3 = 5 ∧ t.plotState p.val = 2 ∧
        (t.plot p.val).loading = none ∧ SameBut [p.val] s.plot t.plot ∧
        CellsBut [(0x3100 + p.val, 3), (0x3000 + p.val, 1)] s t ∧ Changes s t [.led, .plots]))

/-- PARCEL_RECEIVE while Parcels load, by an enabled USE 0 path. A Parcel that passes every check, for a unit of the plot's own whose
tile or row is not held and, in a ring, whose Parcel every reader has filled, leaves its port for the controller of the tile that holds the
unit, as one write on VC2; a ring unit then waits for its readers again. While the unit is held or a reader has not filled it, nothing
changes. CELLAR_WRITE of a Parcel that has come to the controller writes it whole into its unit, no byte outside the unit changes, and it
is outstanding as that Parcel until its parity is written. One that fails a check for the first time is only noted, to be read once more;
one that fails the second time is counted in 5100+p:12, and the load is REFUSED (6). -/
def Obligations.ParcelIsWholeOrNothing : Prop :=
  (∀ (s : State) (p : PlotId) (n : Nat) (bytes : List Byte) (tagOk : Bool) (im : Image) (e : ManifestEntry),
    bytes.length = 4096 → (s.plot p.val).image = some im → im.manifest[n]? = some e → s.constableBusy = false →
    pathOn (s.pathDesc p.val e.path.val) = true → pathUse (s.pathDesc p.val e.path.val) = 0 → s.cell (0x3100 + p.val) 3 = 4 →
    (∀ x a, parcelFails bytes tagOk (Tab.get [] (s.plot p.val).keys (hdr bytes 6 / 2 ^ 32 % 2) != []) im.imageId n = none →
      imageExtent im e.extent.toNat = some x → a = extentAddr x (e.unit.toNat * 4096) → s.tagOwns p.val a = true →
      ((s.ringFree p.val im e = false ∨ s.rowHeld (caTile a) (dataRow (caTile a % 12) (caOffset a)) = true) →
        ∃ t, exec (.parcelReceive p n bytes tagOk) s = .next t ∧ t = s) ∧
      (∀ u, s.ringFree p.val im e = true → s.rowHeld (caTile a) (dataRow (caTile a % 12) (caOffset a)) = false →
        s.physOf (caTile a) = some u →
        ∃ t, exec (.parcelReceive p n bytes tagOk) s = .next t ∧
          (∃ v : State, v.fabric = s.fabric ∧ t.fabric = (v.inject (s.vc2 (etherEngine (pathPort (s.pathDesc p.val e.path.val))) (ctrl u)
            p.val 2 (parcelRef n a) bytes)).fabric) ∧
          (ringReaders im e.extent.toNat = [] → t.plots = s.plots) ∧
          (ringReaders im e.extent.toNat ≠ [] → Tab.get none (t.plot p.val).ring (ringKey e) = some []) ∧
          SameBut [p.val] s.plot t.plot ∧ Changes s t [.plots, .fabric])) ∧
    (∀ why, parcelFails bytes tagOk (Tab.get [] (s.plot p.val).keys (hdr bytes 6 / 2 ^ 32 % 2) != []) im.imageId n = some why →
      ((s.plot p.val).retried.contains n = false →
        ∃ t, exec (.parcelReceive p n bytes tagOk) s = .next t ∧
          t.plot p.val = { s.plot p.val with retried := (s.plot p.val).retried ++ [n] } ∧ SameBut [p.val] s.plot t.plot ∧
          Changes s t [.plots]) ∧
      ((s.plot p.val).retried.contains n = true →
        ∃ t, exec (.parcelReceive p n bytes tagOk) s = .next t ∧ t.cell (0x3100 + p.val) 3 = 6 ∧
          t.cell (0x5100 + p.val) 0x12 = satAdd 32 (s.cell (0x5100 + p.val) 0x12) 1 ∧ t.cellar.mem = s.cellar.mem ∧
          Changes s t Part.work))) ∧
  (∀ (s : State) (addr : BitVec 40) (tag : BitVec 5) (data : List Byte) (m : Msg) (lt r : Nat), unitOk addr data.length = true →
    data.length = 4096 → lt = caTile addr.toNat → r = dataRow (lt % 12) (caOffset addr.toNat) → s.cellarHeld lt = false →
    s.addrOk addr.toNat = true → s.tagOwns tag.toNat addr.toNat = true → s.built lt r = true →
    (Tab.get [] s.fabric.taken (ctrl ((s.physOf lt).getD 112))).find? (fun m => isDataWrite tag.toNat data m &&
      parcelOf addr.toNat m.ref != 0) = some m →
    ∃ t, exec (.cellarWrite addr tag data) s = .next t ∧ t.cbytes (unitAddr lt r) 4096 = data ∧
      (∀ a, ¬ (unitAddr lt r ≤ a ∧ a < unitAddr lt r + 4096) → Tab.get 0 t.cellar.mem a = Tab.get 0 s.cellar.mem a) ∧
      (∃ w : CWrite, t.cellar.writes = s.cellar.writes ++ [w] ∧ w.id = s.cellar.nextId ∧ w.lt = lt ∧ w.row = r ∧
        w.plot = tag.toNat ∧ w.applied = false ∧ w.parcel = parcelOf addr.toNat m.ref) ∧
      t.plots = s.plots ∧ Changes s t [.cellar, .fabric, .led])

/-- ROUTE_LOAD and CHANNEL_RELEASE_ROUTE. Derived routes of a plot that have every channel, and that lie on no cycle, take the
place of the fallback: their entries stand in the routers, they wait no more, E-3103 gives the plot and the map generation.
Where no message waits at its source, nothing else in the fabric changes. A channel of an edge that is free goes to the plot of the first
flow that waits for one there, and to no other; no flow of that plot waits for that edge any more. One that has an owner, or that neither a
flow nor a message waits for, changes nothing. -/
def Obligations.DerivedRoutesAreLoaded : Prop :=
  (∀ (s : State) (p : PlotId) (im : Image) (ds : List Derived), (s.plot p.val).image = some im → ds ≠ [] →
    ds = s.fabric.derived.filter (fun d => d.plot == p.val && d.missing == []) →
    (∀ rs : List Route, rs.Sublist (im.routes.map (newPath ds)) → onCycle rs = []) →
    ∃ t, exec (.routeLoad p) s = .next t ∧
      t.fabric.routes = holdEntries s.fabric.routes (ds.flatMap (fun d => routeEntries p.val d.route)) ∧
      t.fabric.derived = s.fabric.derived.filter (fun d => !ds.contains d) ∧
      Raises s t [(0x3103, p.val, [p.val, s.cell 0x7021 1])] ∧ SameBut [p.val] s.plot t.plot ∧
      Changes s t (.fabric :: .plots :: .led :: .looms :: Part.report) ∧
      (s.fabric.parked = [] → t.fabric.chans = s.fabric.chans ∧ Changes s t (.fabric :: .plots :: Part.report))) ∧
  (∀ (s : State) (site : Phys) (edge : Fin 4) (ch : Fin 16),
    (∀ d, s.fabric.derived.find? (fun d => d.missing.contains (site.val * 4 + edge.val)) = some d →
      s.chanPlot (chanKey site.val edge.val ch.val) = none →
      ∃ t, exec (.channelReleaseRoute site edge ch) s = .next t ∧
        t.chanPlot (chanKey site.val edge.val ch.val) = some d.plot ∧
        SameBut [chanKey site.val edge.val ch.val] s.chanPlot t.chanPlot ∧
        (∀ x ∈ t.fabric.derived, x.plot = d.plot → site.val * 4 + edge.val ∉ x.missing) ∧
        (∀ x ∈ s.fabric.derived, x.plot ≠ d.plot → x ∈ t.fabric.derived) ∧
        t.fabric.routes = s.fabric.routes ∧ t.fabric.chans = s.fabric.chans ∧ Changes s t [.fabric]) ∧
    (((s.chanPlot (chanKey site.val edge.val ch.val)).isSome = true ∨ (s.fabric.waitChan = [] ∧
        s.fabric.derived.find? (fun d => d.missing.contains (site.val * 4 + edge.val)) = none)) →
      ∃ t, exec (.channelReleaseRoute site edge ch) s = .next t ∧ t = s))

/-- QUEUE_ENTRY_COMPLETE, UNFILLED_READ_RESUME and STREAM_PASS_END. An entry that still has to wait changes nothing. One of a discarded
attempt goes, and what it returned reaches no Bench: a host read is dropped and counted, a drain into the plot's extents is written all the
same. A Cellar fill or Pantry read of the running attempt whose units can be read and need no correction beyond the ones that are counted
lands in the Bench, no other byte of the Bench changes, and its ticket reads DONE: with every piece on the loom's own tile the bytes are
those of the Cellar, with one piece on another tile they are those that its message brought. A drain of the running attempt is written. An
append-expect entry reads DONE, a Ferry frame and a host transfer the status that they ended with, LINK_DOWN where the port's link is down.
A stalled read goes on once its lines are filled, and the time it stalled is counted. A pass of a streamed layer whose load took longer than
its compute is counted. -/
def Obligations.CompletionsReachTheLoom : Prop :=
  (∀ (s : State) (l : Loom) (q : Fin 6) (t0 : Byte) (a : BitVec 4) (st : Status) (data : List Byte) (ecc : EccFound) (e : QEntry) (p : Nat)
      (stale : Bool),
    ((s.loom l.n).queue q.val).entries.find? (fun e => e.isTicket a.toNat t0.toNat && e.status.isNone) = some e →
    s.ownerOf l.n = some p → stale = ((s.loom l.n).step.isNone || a.toNat != (s.loom l.n).attempt) →
    (s.entryWaits p l.n q.val e st ecc stale = true →
      ∃ t, exec (.queueEntryComplete l q t0 a st ⟨data, ecc⟩) s = .next t ∧ t = s) ∧
    (s.entryWaits p l.n q.val e st ecc stale = false →
      (stale = true →
        (∃ t, exec (.queueEntryComplete l q t0 a st ⟨data, ecc⟩) s = .next t ∧ (t.loom l.n).bytes = (s.loom l.n).bytes ∧
          ((t.loom l.n).queue q.val).entries =
            dropFirst (fun e => e.isTicket a.toNat t0.toNat && e.status.isNone) ((s.loom l.n).queue q.val).entries ∧
          SameBut [l.n] s.loom t.loom) ∧
        (∀ x off b len, e.req = .host x off b len false → s.portUp x = true → st = .done →
          ∃ t, exec (.queueEntryComplete l q t0 a st ⟨data, ecc⟩) s = .next t ∧
            t.cell (0x3300 + p) 8 = satAdd 64 (s.cell (0x3300 + p) 8) 1 ∧ CellsBut [(0x3300 + p, 8)] s t ∧
            Changes s t [.looms, .plots, .led])) ∧
      (∀ b addr len, e.req = .drain b addr len → s.rangeOwned p addr.toNat len.val = true →
        ∃ t, exec (.queueEntryComplete l q t0 a st ⟨data, ecc⟩) s = .next t ∧
          t.cellar = (((s.noteBusy p).takePieces p l.n q.val e.ticket e.attempt e.req).1.longWrite addr.toNat p 3 e.data).cellar ∧
          (t.loom l.n).bytes = (s.loom l.n).bytes ∧ SameBut [l.n] s.loom t.loom ∧
          Changes s t [.looms, .plots, .led, .cellar, .fabric, .meas]) ∧
      (stale = false →
        (∀ b n, s.fillRange p l.n e.req = some (b, n) → (∀ x off b len w, e.req ≠ .host x off b len w) →
          s.cellarStatus p l.n e.req = .done →
          (∀ x ∈ s.ownPieces p l.n e.req, s.built (unitOf x.1.1).1 (unitOf x.1.1).2 = true ∧
            deadCodes (EccFound.piece ecc x.2) (codewordsOf (caOffset x.1.1 % 4096) x.1.2) = false) →
          ∀ bs, ((∀ x ∈ s.piecesOf p l.n e.req, s.remoteTile l.n x.1 = none) ∧
              bs = (s.piecesOf p l.n e.req).flatMap (fun x => s.dataRead x.1 x.2)) ∨
            (∃ x u m, s.piecesOf p l.n e.req = [x] ∧ s.remoteTile l.n x.1 = some u ∧
              (Tab.get [] s.fabric.taken (loomEndpoint l.n 2)).find? (isVc2 p 4 (pieceRef l.n q.val e.ticket e.attempt 0)) = some m ∧
              bs = m.payload.take x.2) →
          ∃ t, exec (.queueEntryComplete l q t0 a st ⟨data, ecc⟩) s = .next t ∧
            (t.loom l.n).bytes = ((s.loom l.n).store b bs).bytes ∧
            (∃ e', ((t.loom l.n).queue q.val).entries.find? (fun e => e.isTicket a.toNat t0.toNat && e.status == some .done) = some e') ∧
            t.cellar = s.cellar ∧ SameBut [l.n] s.loom t.loom ∧ CellsBut [(0x6010, 1), (0x6010, 2)] s t ∧
            Changes s t [.looms, .plots, .led, .fabric]) ∧
        (∀ st', ((∃ r u, e.req = .expect r u) ∧ st' = .done) ∨ ((∃ x b n, e.req = .ferry x b n) ∧ st' = st) ∨
            (∃ x off b n w, e.req = .host x off b n w ∧ s.portUp x = false ∧ st' = .linkDown) ∨
            (∃ x off b n, e.req = .host x off b n true ∧ s.portUp x = true ∧ st' = st) →
          ∃ t, exec (.queueEntryComplete l q t0 a st ⟨data, ecc⟩) s = .next t ∧
            t.loom l.n = ((s.loom l.n).unmark q.val t0.toNat).finish q.val t0.toNat a.toNat st' ∧
            SameBut [l.n] s.loom t.loom ∧ Changes s t [.looms, .plots])))) ∧
  (∀ (s : State) (l : Loom) (since lo hi p : Nat), (s.loom l.n).stall = some (.unfilled since lo hi) → s.ownerOf l.n = some p →
    (s.loom l.n).pendingIn lo hi = false →
    ∃ t, exec (.unfilledReadResume l) s = .next t ∧ (t.loom l.n).stall = none ∧ (t.loom l.n).ip = (s.loom l.n).ip ∧
      (t.loom l.n).bytes = (s.loom l.n).bytes ∧
      t.cell (0x3300 + p) 2 = satAdd 64 (s.cell (0x3300 + p) 2) (s.now - since) ∧ SameBut [l.n] s.loom t.loom ∧
      CellsBut [(0x3300 + p, 2)] s t ∧ Changes s t [.looms, .led]) ∧
  (∀ (s : State) (p : PlotId) (layer load comp : Nat) (im : Image), (s.plot p.val).image = some im →
    im.streams.any (fun x => x.layer == layer) = true →
    (comp < load → ∃ t, exec (.streamPassEnd p layer load comp) s = .next t ∧
      t.cell (0x3300 + p.val) 0xC = satAdd 64 (s.cell (0x3300 + p.val) 0xC) 1 ∧ CellsBut [(0x3300 + p.val, 0xC)] s t ∧
      Changes s t (.led :: Part.report)) ∧
    (load ≤ comp → ∃ t, exec (.streamPassEnd p layer load comp) s = .next t ∧ t = s))

/-! ### Steps -/

/-- STEP_FORM of a model slot that may form a step, with no gap to wait for, where the loop over the candidates takes at least
one request: the serving settings take effect, and a new step of that plot and slot runs, with the plot's next attempt tag, the arithmetic
settings as the Ledger has them now and exactly the requests taken, at most
as many streams and positions as the image allows a step. Every request taken is in the step, its committed length as before and
its provisional length beyond it by what the step feeds. While the gap before a step runs, no step is formed. -/
def Obligations.StepTakesWhatTheLimitsAllow : Prop :=
  ∀ (s : State) (p : PlotId) (m : MSlot) (im : Image) (mdl : Model), (s.plot p.val).image = some im →
    s.model p.val m.val = some mdl → s.mayForm p.val m.val im mdl = true →
    (∀ z reqs, (s.candidates p.val m.val = [] ∨ s.inGap p.val m.val = false) → z = s.takeServing p.val →
      reqs = ((z.candidates p.val m.val).foldl (State.consider p.val mdl) (z, [], 0, 0)).2.1 → reqs ≠ [] →
      ∃ t x, exec (.stepForm p m) s = .next t ∧ t.nextStep = s.nextStep + 1 ∧ t.stepAt s.nextStep = some x ∧ x.plot = p.val ∧
        x.mslot = m.val ∧ x.st = .running ∧ x.attempt = (s.plot p.val).nextTag ∧ x.reqs = reqs ∧ x.ended = [] ∧
        (∀ k, k < 9 → x.setting k = s.cell (0x3200 + p.val) k) ∧
        reqs.length ≤ mdl.stepStreams ∧ (reqs.map StepReq.need).sum ≤ mdl.stepPositions ∧
        (∀ q ∈ reqs, (t.obAt q.ob).step = some s.nextStep ∧ (t.obAt q.ob).committed = (s.obAt q.ob).committed ∧
          ∃ q' ∈ reqs, q'.ob = q.ob ∧ (t.obAt q.ob).provisional = (s.obAt q.ob).committed + q'.need) ∧
        SameBut [s.nextStep] s.stepAt t.stepAt ∧ Changes s t Part.work) ∧
    (s.candidates p.val m.val ≠ [] → s.inGap p.val m.val = true →
      ∃ t, exec (.stepForm p m) s = .next t ∧ t.steps = s.steps ∧ t.nextStep = s.nextStep ∧ Changes s t [.led, .plots])

/-- STEP_COMMIT of a running step of one request, with every loom at STEPEND, every check passed, no write of the plot outstanding, and
what the looms returned complete: the step is gone and counted, the request is in no step, its committed length has grown by the pending
token and the input words or the accepted drafts that the step fed, nothing is provisional, and its budget has fallen by the tokens sampled,
none while input remains. A step that a loom has not ended, that still waits for a check, or of which a write is outstanding changes
nothing. -/
def Obligations.StepCommitsItsTokens : Prop :=
  ∀ (s : State) (id : Nat) (x : Step) (outs : List StreamOut), s.stepAt id = some x → x.st = .running →
    ((s.checkDue id = true ∨ (∃ n ∈ s.footprint x.plot, n ∉ x.ended) ∨
        ∃ w ∈ s.cellar.writes, w.plot = x.plot ∧ w.parcel = 0) → ∃ t, exec (.stepCommit id outs) s = .next t ∧ t = s) ∧
    (∀ r, x.reqs = [r] → s.checkDue id = false → (∀ n ∈ s.footprint x.plot, n ∈ x.ended) →
      (∀ w ∈ s.cellar.writes, w.plot = x.plot → w.parcel ≠ 0) →
      outFits (s.obAt r.ob) r (s.outOf outs r) = true → (s.obAt r.ob).step = some id → (s.obAt r.ob).left = false →
      (∀ y, (s.obAt r.ob).samples r = true → s.outOf outs r = some y → (s.obAt r.ob).budget - y.tokens.length ≠ 0 →
        ∃ t, exec (.stepCommit id outs) s = .next t ∧ t.stepAt id = none ∧ (t.obAt r.ob).step = none ∧
          (t.obAt r.ob).committed = (s.obAt r.ob).advance r y.accepted ∧
          (t.obAt r.ob).provisional = (t.obAt r.ob).committed ∧
          (t.obAt r.ob).budget = (s.obAt r.ob).budget - (y.accepted + 1) ∧
          t.cell 0xA000 1 = satAdd 64 (s.cell 0xA000 1) 1 ∧ SameBut [r.ob] s.obAt t.obAt ∧ SameBut [id] s.stepAt t.stepAt ∧
          Changes s t Part.work) ∧
      ((s.obAt r.ob).samples r = false →
        ∃ t, exec (.stepCommit id outs) s = .next t ∧ t.stepAt id = none ∧ (t.obAt r.ob).step = none ∧
          (t.obAt r.ob).committed = (s.obAt r.ob).advance r 0 ∧
          (t.obAt r.ob).budget = (s.obAt r.ob).budget ∧ t.cell 0xA000 1 = satAdd 64 (s.cell 0xA000 1) 1 ∧
          SameBut [r.ob] s.obAt t.obAt ∧ Changes s t Part.work))

/-! ### Plots -/

/-- PLOT_CREATE and PLOT_RESIZE, each a WRITE that passes the checks of R371. A descriptor that the table of R241 accepts is
applied whole: the plot reads CREATED with the looms, quotas, queue-pair range, power share, virtual functions and rights of the
descriptor, the role epoch of every loom of it changes, at once where it has not changed in the last 1 ms, E-3401 is raised. A resize that is accepted changes its one entry at once.
Either, refused, answers its status and changes nothing. -/
def Obligations.PlotsAreCreatedWhole : Prop :=
  ∀ (s : State) (f : Sender) (p : PlotId) (body : List Byte),
    (WriteArrives s f (0x3000 + p.val) 0x10 body → s.createRefused p.val body = none →
      ∃ t cls, exec (.plotCreate f p body) s = .next t ∧ Answers t f .done ∧ t.plotState p.val = 1 ∧
        (t.plot p.val).looms = loomMap body ∧
        (∀ n ∈ loomMap body, t.epochRec (loomEndpoint n 0) = (s.epochRec (loomEndpoint n 0)).change s.now ∧
          (s.epochFree (loomEndpoint n 0) = true → t.epoch (loomEndpoint n 0) = nextEpoch (s.epoch (loomEndpoint n 0)))) ∧
        t.cell (0x3000 + p.val) 2 = field body 290 1 % 8 ∧
        t.cell (0x3000 + p.val) 3 = (loomMap body).length ∧ t.cell (0x3000 + p.val) 4 = field body 272 4 ∧
        t.cell (0x3000 + p.val) 5 = field body 276 4 ∧ t.cell (0x3000 + p.val) 6 = field body 280 2 ∧
        t.cell (0x3000 + p.val) 7 = field body 282 2 ∧ t.cell (0x3000 + p.val) 8 = field body 284 4 ∧
        t.cell (0x3000 + p.val) 9 = field body 288 1 ∧ t.cell (0x3000 + p.val) 0xA = field body 289 1 ∧
        (t.plot p.val).image = none ∧ (t.plot p.val).rightsA = bit (field body 290 1 % 8) 0 ∧
        (t.plot p.val).rightsB = bit (field body 290 1 % 8) 1 ∧ (t.plot p.val).rightsM = bit (field body 290 1 % 8) 2 ∧
        Raises s t [(0x3401, p.val, [p.val, cls])] ∧ SameBut [p.val] s.plot t.plot ∧
        (∀ i j, j < 256 → i ≠ 0x3000 + p.val → t.cell i j = s.cell i j) ∧
        Changes s t [.plots, .led, .epochs, .ev, .sessions, .out, .mailbox]) ∧
    (∀ st, WriteArrives s f (0x3000 + p.val) 0x10 body → s.createRefused p.val body = some st →
      ∃ t, exec (.plotCreate f p body) s = .next t ∧ Answers t f st ∧ Changes s t Part.reply) ∧
    (∀ sub : Fin 6, WriteArrives s f (0x3000 + p.val) (5 + sub.val) body →
      (s.resizeRefused p.val (5 + sub.val) (ofLe body) = none →
        ∃ t, exec (.plotResize f p sub body) s = .next t ∧ Answers t f .done ∧
          t.cell (0x3000 + p.val) (5 + sub.val) = ofLe body ∧ CellsBut [(0x3000 + p.val, 5 + sub.val)] s t ∧
          Changes s t (.led :: Part.reply)) ∧
      (∀ st, s.resizeRefused p.val (5 + sub.val) (ofLe body) = some st →
        ∃ t, exec (.plotResize f p sub body) s = .next t ∧ Answers t f st ∧ Changes s t Part.reply))

/-- TEARDOWN and PLOT_RESET, each a WRITE to 3000+p:11 that passes the checks of R371, while the plot is not winding down: DONE,
every live request of the plot ends, no step does, a torn-down plot reads DRAINING, a reset one keeps its state. A plot that is winding down:
BUSY, nothing changes. TEARDOWN_DRAIN_END of a drained plot: it reads ERASING, its looms hold nothing, its queue pairs are
DISABLED, its extents are marked to be erased, its entries of the Order Book are FREE, no Ferry port is its own.
PLOT_RESET_CLEAR of a drained plot: its looms hold nothing, its frame pools are empty, the drain is over, and it reads CREATED
where it was CREATED before, else SERVING, or FAULTED while a weight unit of it is poisoned. Before the drain has ended neither
changes anything. ERASE_END of a plot that was torn down, while no pending extent of it is held from erasure: the Cellar is as
zeroing the pending extents one after another leaves it, none of them is pending any more, E-8041 says so, and the plot exists
no more: it reads NONE, and E-3402 is raised. While one of them is held, nothing changes. -/
def Obligations.PlotsStopDrainAndAreErased : Prop :=
  (∀ (s : State) (f : Sender) (p : PlotId),
    (WriteArrives s f (0x3000 + p.val) 0x11 [1] → s.windingDown p.val = false →
      ∃ t, exec (.teardown f p) s = .next t ∧ Answers t f .done ∧ t.plotState p.val = 3 ∧ (t.plot p.val).drain = some .teardown ∧
        (∀ i ∈ s.obOf p.val, (t.obAt i).st.live = false) ∧
        (∀ id x, s.stepAt id = some x → ∃ b, t.stepAt id = some { x with sampled := b }) ∧ t.cellar = s.cellar ∧
        Changes s t (.power :: .mailbox :: Part.work)) ∧
    (WriteArrives s f (0x3000 + p.val) 0x11 [1] → s.windingDown p.val = true →
      ∃ t, exec (.teardown f p) s = .next t ∧ Answers t f .busy ∧ Changes s t Part.reply) ∧
    (WriteArrives s f (0x3000 + p.val) 0x11 [2] → s.windingDown p.val = false → (s.plot p.val).loading = none →
      ∃ t, exec (.plotReset f p) s = .next t ∧ Answers t f .done ∧ t.plotState p.val = s.plotState p.val ∧
        (t.plot p.val).drain = some .reset ∧ (∀ i ∈ s.obOf p.val, (t.obAt i).st.live = false) ∧
        (∀ id x, s.stepAt id = some x → ∃ b, t.stepAt id = some { x with sampled := b }) ∧ t.cellar = s.cellar ∧ Changes s t (.power :: .mailbox :: Part.work)) ∧
    (WriteArrives s f (0x3000 + p.val) 0x11 [2] → (s.windingDown p.val = true ∨ (s.plot p.val).loading ≠ none) →
      ∃ t, exec (.plotReset f p) s = .next t ∧ Answers t f .busy ∧ Changes s t Part.reply)) ∧
  (∀ (s : State) (p : PlotId),
    ((s.plot p.val).drain = some .teardown → s.plotState p.val = 3 → (s.plot p.val).loading = none →
      (s.plotDrained p.val = false → ∃ t, exec (.teardownDrainEnd p) s = .next t ∧ t = s) ∧
      (s.plotDrained p.val = true →
        ∃ t, exec (.teardownDrainEnd p) s = .next t ∧ t.plotState p.val = 4 ∧
          (∀ n ∈ (s.plot p.val).looms, (t.loom n).bench = [] ∧ (t.loom n).void = [] ∧ (t.loom n).program = [] ∧
            (t.loom n).step = none) ∧
          (∀ n, s.plotOfQp n = some p.val → (t.qp n).st = .disabled ∧ (t.qp n).waiting = []) ∧
          (∀ e ∈ s.plotExtents p.val, Tab.get 0 t.cellar.erase e = 1 + p.val ∧ Tab.get 0 t.cellar.owner e = 0) ∧
          (∀ i, (t.obAt i).plot = p.val → (t.obAt i).st = .free) ∧
          (∀ k, k < 36 → t.cell 0x5430 (k + 1) ≠ p.val) ∧ t.cellar.mem = s.cellar.mem ∧
          SameBut [p.val] s.plot t.plot ∧ Changes s t (.epochs :: .moved :: Part.work))) ∧
    ((s.plot p.val).drain = some .reset →
      (s.plotDrained p.val = false → ∃ t, exec (.plotResetClear p) s = .next t ∧ t = s) ∧
      (s.plotDrained p.val = true →
        ∃ t, exec (.plotResetClear p) s = .next t ∧ (t.plot p.val).drain = none ∧
          (t.plotState p.val = if (s.plot p.val).wasCreated then 1 else if t.poisonedUnits p.val 0 = [] then 2 else 5) ∧
          (∀ n ∈ (s.plot p.val).looms, (t.loom n).bench = [] ∧ (t.loom n).void = [] ∧ (t.loom n).ctr = []) ∧
          (∀ e ∈ (t.plot p.val).pools, e.2.used = [] ∧ e.2.remote = []) ∧ Changes s t (.epochs :: .meas :: Part.work)))) ∧
  (∀ (s : State) (p : PlotId),
    (∀ x ∈ s.pendingErase p.val, s.eraseHeld x = true → ∃ t, exec (.eraseEnd p) s = .next t ∧ t = s) ∧
    ((∀ x ∈ s.pendingErase p.val, s.eraseHeld x = false) → s.pendingErase p.val ≠ [] → s.plotState p.val = 4 →
      ∃ t, exec (.eraseEnd p) s = .next t ∧ t.plotState p.val = 0 ∧ t.plot p.val = {} ∧
        t.cellar = ((s.pendingErase p.val).foldl (fun s x => s.eraseExtent x) s).cellar ∧
        (∀ x ∈ s.pendingErase p.val, Tab.get 0 t.cellar.erase x = 0) ∧
        Raises s t [(0x8041, p.val, [p.val]), (0x3402, p.val, [p.val, (s.plot p.val).discarded])] ∧
        SameBut [p.val] s.plot t.plot ∧ Changes s t (.cellar :: .led :: .blob :: .meas :: .plots :: .paths :: Part.report)))

/-! ### Submissions, the Order Book, result rings -/

/-- The two doorbells through a function whose access reaches the engine. On an ACTIVE queue pair SQ_TAIL takes a value below
the ring's size that does not pass SQ_HEAD by the full ring size; RQ_HEAD takes one that consumes no more than was written; no other field of the queue pair changes but the
entries consumed. Any other value, or a queue pair that is not ACTIVE, leaves the rings alone and is counted; consuming more
than was written raises E-3406 besides. RESULT_ENTRY_WRITE on an ACTIVE ring with room: the first entry that waits is written at
RQ_TAIL with the PHASE of the lap, in two posted writes without Relaxed Ordering, d0 to d6 and d7, the rest wait on in order, RQ_TAIL goes on by one, and PHASE turns where the ring wraps.
RQ_HEAD, and every other queue pair, stay. With no room nothing changes. -/
def Obligations.DoorbellsAndResults : Prop :=
  (∀ (s : State) (fn : Func) (n : QpId) (v : U32) (k : Nat), s.qpIndex fn n.val = some k → s.barOpen fn = true →
    ((s.qp k).st = .active → v.toNat < (s.qp k).sqSize → (s.qp k).overfull v.toNat = false →
      ∃ t, exec (.sqTailDoorbell fn n v) s = .next t ∧ t.qp k = { s.qp k with sqTail := v.toNat } ∧ SameBut [k] s.qp t.qp ∧
        Changes s t [.qps]) ∧
    (((s.qp k).st ≠ .active ∨ (s.qp k).sqSize ≤ v.toNat ∨ (s.qp k).overfull v.toNat = true) →
      ∃ t, exec (.sqTailDoorbell fn n v) s = .next t ∧ t = s.countIgnored k ∧ Changes s t [.led]) ∧
    ((s.qp k).st = .active → v.toNat < (s.qp k).rqSize →
      (v.toNat + (s.qp k).rqSize - (s.qp k).rqHead) % (s.qp k).rqSize ≤ (s.qp k).rqUsed →
      ∃ t, exec (.rqHeadDoorbell fn n v) s = .next t ∧ t.qp k = { s.qp k with rqHead := v.toNat, ring := (t.qp k).ring } ∧
        SameBut [k] s.qp t.qp ∧ Changes s t [.qps, .ob]) ∧
    (((s.qp k).st ≠ .active ∨ (s.qp k).rqSize ≤ v.toNat) →
      ∃ t, exec (.rqHeadDoorbell fn n v) s = .next t ∧ t = s.countIgnored k ∧ Changes s t [.led]) ∧
    ((s.qp k).st = .active → v.toNat < (s.qp k).rqSize →
      (s.qp k).rqUsed < (v.toNat + (s.qp k).rqSize - (s.qp k).rqHead) % (s.qp k).rqSize →
      ∃ t, exec (.rqHeadDoorbell fn n v) s = .next t ∧ t.qps = s.qps ∧
        Raises s t [(0x3406, (s.plotOfQp k).getD 0xFF, [(s.plotOfQp k).getD 0xFF, k])] ∧ Changes s t (.led :: Part.report))) ∧
  (∀ (s : State) (n : QpId) (r : Result) (rest : List Result), (s.qp n.val).waiting = r :: rest →
    ((s.qp n.val).canWrite = true →
      ∃ t, exec (.resultEntryWrite n) s = .next t ∧
        Tab.get none (t.qp n.val).ring (s.qp n.val).rqTail = some (r, (s.qp n.val).phase) ∧ (t.qp n.val).waiting = rest ∧
        (t.qp n.val).rqTail = ((s.qp n.val).rqTail + 1) % (s.qp n.val).rqSize ∧ (t.qp n.val).rqHead = (s.qp n.val).rqHead ∧
        (t.qp n.val).phase = (if (t.qp n.val).rqTail = 0 then !(s.qp n.val).phase else (s.qp n.val).phase) ∧
        (∀ w, w = r.words (s.qp n.val).phase →
          .result n.val (s.qp n.val).active (s.qp n.val).rqTail 0 (w.take 7) false ∈ t.out ∧
          .result n.val (s.qp n.val).active (s.qp n.val).rqTail 7 (w.drop 7) false ∈ t.out) ∧
        SameBut [n.val] s.qp t.qp ∧ Changes s t [.qps, .out]) ∧
    ((s.qp n.val).canWrite = false → ∃ t, exec (.resultEntryWrite n) s = .next t ∧ t = s))

/-- OPEN that the table of R249 accepts takes the lowest FREE entry of the Order Book: its request is QUEUED with the entry's
fields, its turn has begun, A000:03 counts it. OPEN of a request that is there, of one beyond the quota, of a model slot that
the image does not have, or with more input than the context limit: the refusal BUSY, NO_SPACE, BAD_INDEX or BAD_VALUE is
posted, no request changes. What every submission meets before its own checks. The entry at SQ_HEAD of an ACTIVE queue pair is
taken whatever comes of it. A plot that is ERASING, or drains for a teardown, answers DENIED; one that is FAULTED answers
FAULTED to all but STATUS; a reserved field that is not zero answers BAD_VALUE; a request that is not there answers BAD_INDEX.
No request changes by any of these. An entry of a ring whose turn has not come with its Drover is not taken. -/
def Obligations.OpenQueuesARequest : Prop :=
  (∀ (s : State) (n : QpId) (e : Sub) (p : Nat), Submits s n.val e 1 p →
    (∀ mdl, s.named p e = none → s.obUsed p < s.cell (0x3000 + p) 5 → s.model p (bits e.q1.toNat 3 0) = some mdl →
      s.cell (0x3100 + p) 3 = 5 → Sub_count e ≤ mdl.contextLimit →
      ∃ t, exec (.openReq n e) s = .next t ∧ t.obAt s.freeOb = openOb s n.val p e ∧ (t.obAt s.freeOb).st = .queued ∧
        t.nextAdmit = s.nextAdmit + 1 ∧ t.cell 0xA000 3 = satAdd 64 (s.cell 0xA000 3) 1 ∧
        (t.qp n.val).sqHead = ((s.qp n.val).sqHead + 1) % (s.qp n.val).sqSize ∧ SameBut [s.freeOb] s.obAt t.obAt ∧
        CellsBut [(0xA000, 3)] s t ∧ Changes s t [.qps, .ob, .nextAdmit, .led, .power, .plots, .procs, .out]) ∧
    (∀ st, ((s.named p e ≠ none ∧ st = .busy) ∨
        (s.named p e = none ∧ s.cell (0x3000 + p) 5 ≤ s.obUsed p ∧ st = .noSpace) ∨
        (s.named p e = none ∧ s.obUsed p < s.cell (0x3000 + p) 5 ∧ s.model p (bits e.q1.toNat 3 0) = none ∧ st = .badIndex) ∨
        (∃ mdl, s.named p e = none ∧ s.obUsed p < s.cell (0x3000 + p) 5 ∧ s.model p (bits e.q1.toNat 3 0) = some mdl ∧
          s.cell (0x3100 + p) 3 = 5 ∧ mdl.contextLimit < Sub_count e ∧ st = .badValue)) →
      ∃ t, exec (.openReq n e) s = .next t ∧ t.ob = s.ob ∧ Posts s t n.val (completion 0xFFFFFFFF st (Sub_tag e) 0 []) ∧
        Changes s t [.qps, .procs, .out])) ∧
  (∀ (s : State) (n : QpId) (e : Sub) (p : Nat) (st : Status) (c : Instr), (s.qp n.val).st = .active →
    (s.qp n.val).sqHead ≠ (s.qp n.val).sqTail → s.ringNext n.val = true → s.plotOfQp n.val = some p →
    ((Sub_op e = 1 ∧ c = .openReq n e) ∨ (Sub_op e = 2 ∧ c = .append n e) ∨ (Sub_op e = 3 ∧ c = .hintSubmission n e) ∨
      (Sub_op e = 4 ∧ c = .cancel n e) ∨ (Sub_op e = 5 ∧ c = .close n e) ∨ (Sub_op e = 6 ∧ c = .status n e)) →
    (((s.plotState p = 4 ∨ (s.plot p).drain = some .teardown) ∧ st = .denied) ∨
      (s.plotState p = 5 ∧ (s.plot p).drain = none ∧ Sub_op e ≠ 6 ∧ st = .faulted) ∨
      (s.plotAnswers p (Sub_op e) = none ∧ Sub_bad e = true ∧ st = .badValue) ∨
      (s.plotAnswers p (Sub_op e) = none ∧ Sub_bad e = false ∧ Sub_op e ≠ 1 ∧ s.named p e = none ∧ st = .badIndex)) →
    ∃ t, exec c s = .next t ∧ t = ((s.ringFetched n.val).updQp n.val (fun q => { q with sqHead := (q.sqHead + 1) % q.sqSize })).refuseSub
        n.val e st ∧
      t.ob = s.ob ∧ (t.qp n.val).sqHead = ((s.qp n.val).sqHead + 1) % (s.qp n.val).sqSize ∧ Changes s t [.qps, .procs, .out]) ∧
  (∀ (s : State) (n : QpId) (e : Sub) (c : Instr), c ∈ [.openReq n e, .append n e, .hintSubmission n e, .cancel n e, .close n e, .status n e] →
    s.ringNext n.val = false → ∃ t, exec c s = .next t ∧ t = s)

/-- APPEND, HINT and STATUS of a live request. APPEND of fewer than five inputs to a request that does not drain takes the
input: one that waits for input starts its next turn and is in PREFILL, a paused one too, one in DECODE keeps it for its turn's
end; with INTERRUPT the turn in progress is to end. HINT of a paused request starts its fill and protects it from now. STATUS is answered in the submitting ring with the
request's state, lengths and due time, and changes nothing but that ring. Other requests stay as they are. -/
def Obligations.AppendHintStatus : Prop :=
  ∀ (s : State) (n : QpId) (e : Sub) (p i : Nat), s.named p e = some i → (s.obAt i).st.live = true →
    (Submits s n.val e 2 p → (s.obAt i).st ≠ .draining → ((s.obAt i).inputs.filter Input.append).length < 4 →
      ∃ t, exec (.append n e) s = .next t ∧
        t.obAt i = (s.obAt i).takeAppend ⟨e.q3.toNat, Sub_count e, Sub_deadline e, Sub_tag e, s.now, false, true⟩ (bit e.q0.toNat 9) ∧
        ((s.obAt i).st = .waitInput ∨ (s.obAt i).st = .pausedCool → (t.obAt i).st = .prefill ∧ (t.obAt i).turnOpen = true) ∧
        ((s.obAt i).st = .decode → (t.obAt i).st = .decode) ∧
        ((s.obAt i).turnOpen = true → (s.obAt i).st = .queued ∨ (s.obAt i).st = .prefill ∨ (s.obAt i).st = .decode →
          bit e.q0.toNat 9 = true → (t.obAt i).interrupt = true) ∧ SameBut [i] s.obAt t.obAt ∧
        Changes s t [.qps, .ob, .power, .plots, .procs, .out]) ∧
    (Submits s n.val e 3 p →
      ∃ t, exec (.hintSubmission n e) s = .next t ∧
        t.obAt i = (if (s.obAt i).st = .pausedCool then { s.obAt i with filling := (s.obAt i).unfilled, hintAt := some s.now }
          else s.obAt i) ∧ SameBut [i] s.obAt t.obAt ∧ Changes s t [.qps, .ob, .power, .procs, .out]) ∧
    (Submits s n.val e 6 p →
      ∃ t, exec (.status n e) s = .next t ∧ Posts s t n.val (completion (s.obAt i).request .done (Sub_tag e) (s.obAt i).committed
          [(s.obAt i).st.code, (s.obAt i).committed, (s.obAt i).provisional, ((s.dueOf (s.obAt i)).getD 0) % 2 ^ 32]) ∧
        t.ob = s.ob ∧ Changes s t [.qps, .procs, .out])

/-- CANCEL and CLOSE of a live request whose FINAL entry is not consumed. CANCEL ends it CANCELLED, counts it, and posts its
FINAL entry with CANCELLED in the request's ring. CLOSE posts its COMPLETION in the request's ring first; the request then
drains, or, with every frame back, is DONE; one that drains already stays as it is. CANCEL of a request that has ended answers the status
with which it ended, CANCELLED where it was cancelled, and changes no request; CLOSE of one answers BAD_INDEX. -/
def Obligations.CancelAndClose : Prop :=
  ∀ (s : State) (n : QpId) (e : Sub) (p i : Nat), s.named p e = some i →
    (Submits s n.val e 4 p → (s.obAt i).st.live = true → (s.obAt i).consumed = false →
      ∃ t, exec (.cancel n e) s = .next t ∧ (t.obAt i).st = .cancelled ∧ (t.obAt i).final = some .cancelled ∧
        (t.obAt i).inputs = [] ∧ t.cell (0xA100 + (s.obAt i).plot) 5 = satAdd 64 (s.cell (0xA100 + (s.obAt i).plot) 5) 1 ∧
        Posts s t (s.obAt i).qp { (s.obAt i).entry .cancelled kFinal (Sub_tag e) [] with ob := i + 1 } ∧
        SameBut [i] s.obAt t.obAt ∧ CellsBut [(0xA100 + (s.obAt i).plot, 5)] s t ∧
        Changes s t [.qps, .ob, .plots, .led, .steps, .samples, .procs, .out]) ∧
    (∀ st, Submits s n.val e 4 p → (s.obAt i).st.live = false →
      st = (if (s.obAt i).st = .cancelled then .cancelled else (s.obAt i).final.getD .done) →
      ∃ t, exec (.cancel n e) s = .next t ∧ t.ob = s.ob ∧
        Posts s t n.val (completion (Sub_request e) st (Sub_tag e) (s.obAt i).committed []) ∧ Changes s t [.qps, .procs, .out]) ∧
    (Submits s n.val e 5 p → (s.obAt i).st.live = true → (s.obAt i).st ≠ .draining → (s.obAt i).consumed = false →
      ∃ t, exec (.close n e) s = .next t ∧ ((t.obAt i).st = .draining ∨ (t.obAt i).st = .done) ∧
        Posts s t (s.obAt i).qp (completion (s.obAt i).request .done (Sub_tag e) (s.obAt i).committed []) ∧
        SameBut [i] s.obAt t.obAt ∧ Changes s t [.qps, .ob, .plots, .led, .procs, .out]) ∧
    (Submits s n.val e 5 p → (s.obAt i).st = .draining →
      ∃ t, exec (.close n e) s = .next t ∧ t.ob = s.ob ∧
        Posts s t (s.obAt i).qp (completion (s.obAt i).request .done (Sub_tag e) (s.obAt i).committed []) ∧
        Changes s t [.qps, .procs, .out]) ∧
    (Submits s n.val e 5 p → (s.obAt i).st.live = false →
      ∃ t, exec (.close n e) s = .next t ∧ t.ob = s.ob ∧
        Posts s t n.val (completion (Sub_request e) .badIndex (Sub_tag e) (s.obAt i).committed []) ∧ Changes s t [.qps, .procs, .out])

/-- COOL_DELAY_EXPIRE and DEADLINE_MISS. A request that has waited for input for its delay, a delay that elapses, moves to
PAUSED_COOL and posts its STATE entry. The first miss of a turn's due time, which has passed by the signed 48-bit difference of R82, is counted in A100+p:04; without DROP_ON_MISS the
request goes on and a STATE entry with DEADLINE_MISSED is posted; with it the request ends, with DEADLINE_MISSED as its final
status. -/
def Obligations.DelaysAndDeadlines : Prop :=
  ∀ (s : State) (p : PlotId) (request : U32) (i : Nat), s.findReq p.val request.toNat = some i →
    ((s.obAt i).st = .waitInput → (s.obAt i).coolDelay ≠ 0xFFFFFFFF → (s.obAt i).since + (s.obAt i).coolDelay * 1000 ≤ s.now →
      ∃ t, exec (.coolDelayExpire p request) s = .next t ∧ (t.obAt i).st = .pausedCool ∧ (t.obAt i).filling = false ∧
        Posts s t (s.obAt i).qp ((s.obAt i).entry .done kState (s.obAt i).tag [ReqState.pausedCool.code]) ∧
        (t.obAt i).main = (s.obAt i).main ∧ SameBut [i] s.obAt t.obAt ∧ Changes s t [.ob, .qps, .out]) ∧
    ((s.obAt i).coolDelay = 0xFFFFFFFF → ∃ t, exec (.coolDelayExpire p request) s = .next t ∧ t = s) ∧
    (∀ d, s.dueOf (s.obAt i) = some d → (s.obAt i).missed = false → dueIn d s.usNow < 0 →
      ((s.obAt i).dropOnMiss = false →
        ∃ t, exec (.deadlineMiss p request) s = .next t ∧ (t.obAt i) = { s.obAt i with missed := true } ∧
          t.cell (0xA100 + p.val) 4 = satAdd 64 (s.cell (0xA100 + p.val) 4) 1 ∧
          Posts s t (s.obAt i).qp ((s.obAt i).entry .deadlineMissed kState (s.obAt i).tag [(s.obAt i).st.code]) ∧
          SameBut [i] s.obAt t.obAt ∧ CellsBut [(0xA100 + p.val, 4)] s t ∧ Changes s t (.ob :: .qps :: .led :: Part.report)) ∧
      ((s.obAt i).dropOnMiss = true → (s.obAt i).consumed = false →
        ∃ t, exec (.deadlineMiss p request) s = .next t ∧ (t.obAt i).st = .cancelled ∧ (t.obAt i).final = some .deadlineMissed ∧
          SameBut [i] s.obAt t.obAt ∧ Changes s t Part.work))

/-! ### Host ports, queue contexts, keys, mailboxes -/

/-- PORT_LINK_UP of a port that is down brings it UP at the generation and width trained, E-2001, and E-2003 below x16 or
generation 6; one that cannot train at x4 and 16 GT/s stays DOWN; PORT_RETRAIN to a lower rate or width reports it. PORT_LINK_DOWN of an UP
port, or PERST_N of one that is down: the loss is counted; but for a function-level reset the port is DOWN, or, after a reset, trains; its mailboxes are empty, its keys released, its sessions ended, its host-memory entries complete; each ACTIVE queue
pair on it moves to the other port where R288 lets it, else it is STOPPED; other queue pairs stay. VF_FLR stops the queue pairs
that use the function. FAILOVER_REWRITE writes the entries from RQ_HEAD to RQ_TAIL again, as they were; an IOMMU fault on the
other port stops the queue pair instead. -/
def Obligations.HostLinksAndFailover : Prop :=
  (∀ (s : State) (x : Port) (gen : Fin 8) (width : Fin 17), linkOk gen.val width.val = false →
    (s.portUp x = false → s.booted = true →
      ∃ t, exec (.portLinkUp x gen width) s = .next t ∧ t.portUp x = false ∧ CellsBut [(0x2000, portSub x + 1)] s t ∧
        Changes s t [.led]) ∧
    (∃ t, exec (.portRetrain x gen width) s = .next t ∧ t = s)) ∧
  (∀ (s : State) (x : Port) (gen : Fin 8) (width : Fin 17), linkOk gen.val width.val = true →
    (s.portUp x = false → s.booted = true →
      ∃ t, exec (.portLinkUp x gen width) s = .next t ∧ t.portUp x = true ∧
        t.cell 0x2000 (portSub x + 2) = linkWord gen.val width.val ∧
        (if gen.val < 6 ∨ width.val < 16 then
          Raises s t [(0x2001, 0xFF, [x.n, gen.val, width.val]), (0x2003, 0xFF, [x.n, gen.val, width.val])]
        else Raises s t [(0x2001, 0xFF, [x.n, gen.val, width.val])]) ∧
        CellsBut [(0x2000, portSub x + 1), (0x2000, portSub x + 2)] s t ∧ Changes s t (.led :: Part.report)) ∧
    (s.portUp x = true →
      (gen.val < bits (s.cell 0x2000 (portSub x + 2)) 7 0 ∨ width.val < bits (s.cell 0x2000 (portSub x + 2)) 15 8) →
      ∃ t, exec (.portRetrain x gen width) s = .next t ∧ t.cell 0x2000 (portSub x + 2) = linkWord gen.val width.val ∧
        Raises s t [(0x2003, 0xFF, [x.n, gen.val, width.val])] ∧ CellsBut [(0x2000, portSub x + 2)] s t ∧
        Changes s t (.led :: Part.report))) ∧
  (∀ (s : State) (x : Port) (cause : PortCause), tablesCanonical s → (s.portUp x = true ∨ (cause = .perst ∧ s.booted = true)) →
    ∃ t, exec (.portLinkDown x cause) s = .next t ∧ t.portUp x = decide (cause = .flr) ∧
      t.cell 0x2000 (portSub x + 1) = (if cause = .flr then 2 else if cause = .linkDown then 0 else 1) ∧
      t.cell 0x2000 (portSub x + 3) = satAdd 32 (s.cell 0x2000 (portSub x + 3)) 1 ∧
      (∀ fn : Func, (fn.port = x → t.box fn = {}) ∧ (fn.port ≠ x → t.box fn = s.box fn)) ∧
      (∀ k, s.holder k = holderId (.host { port := x, vf := none }) → t.holder k = 0) ∧
      (∀ k, s.holder k < 0x3000 → s.holder k ≠ holderId (.host { port := x, vf := none }) → t.holder k = s.holder k) ∧
      (∀ n y, cause ≠ .flr → t.session n = some y → y.via ≠ some x) ∧
      (∀ n e a b len w, e ∈ ((t.loom n).queue 5).entries → e.req = .host x a b len w → e.status ≠ none) ∧
      (∀ n, (s.qp n).st = .active → (s.qp n).active = x →
        (s.moveOrStop n x = none → t.qp n = { s.qp n with active := x.other, rewrite := some x }) ∧
        (s.moveOrStop n x ≠ none → t.qp n = { s.qp n with st := .stopped, rewrite := none })) ∧
      (∀ n, ¬((s.qp n).st = .active ∧ (s.qp n).active = x) → t.qp n = s.qp n) ∧
      CellsBut [(0x2000, portSub x + 1), (0x2000, portSub x + 2), (0x2000, portSub x + 3), (0x2000, 0x20), (0x2100, 4),
        (0x7100, 4)] s t ∧
      Changes s t [.led, .mailbox, .latch, .plots, .looms, .keys, .qps, .moved, .ev, .sessions, .out]) ∧
  (∀ (s : State) (x : Port) (cause : PortCause), s.portUp x = false → (cause ≠ .perst ∨ s.booted = false) →
    ∃ t, exec (.portLinkDown x cause) s = .next t ∧ t = s) ∧
  (∀ (s : State) (x : Port) (vf : Fin 16), tablesCanonical s → s.portUp x = true →
    ∃ t, exec (.vfFlr x vf) s = .next t ∧ t.box { port := x, vf := some vf } = {} ∧
      (∀ fn : Func, fn ≠ { port := x, vf := some vf } → t.box fn = s.box fn) ∧
      (∀ n, t.qp n = if (s.qp n).st = .active ∧ (s.qp n).active = x ∧ bit (s.qp n).c2.toNat 20 = true ∧
          s.qpFunc n x = some { port := x, vf := some vf } then { s.qp n with st := .stopped, rewrite := none } else s.qp n) ∧
      Changes s t (.mailbox :: .latch :: .qps :: .moved :: Part.report)) ∧
  (∀ (s : State) (n : QpId) (x : Port), (s.qp n.val).rewrite = some x →
    (∃ t, exec (.failoverRewrite n false) s = .next t ∧ t.qp n.val = { s.qp n.val with rewrite := none } ∧
      (∀ k r ph, k < (s.qp n.val).rqUsed →
        Tab.get none (s.qp n.val).ring (((s.qp n.val).rqHead + k) % (s.qp n.val).rqSize) = some (r, ph) →
        .result n.val (s.qp n.val).active (((s.qp n.val).rqHead + k) % (s.qp n.val).rqSize) 0 ((r.words ph).take 7) false ∈ t.out ∧
        .result n.val (s.qp n.val).active (((s.qp n.val).rqHead + k) % (s.qp n.val).rqSize) 7 ((r.words ph).drop 7) false ∈ t.out) ∧
      SameBut [n.val] s.qp t.qp ∧ Changes s t (.qps :: .moved :: Part.report)) ∧
    (∃ t, exec (.failoverRewrite n true) s = .next t ∧ t.qp n.val = { s.qp n.val with st := .stopped, rewrite := none } ∧
      SameBut [n.val] s.qp t.qp ∧ Changes s t (.qps :: .moved :: Part.report)))

/-- Writes of a queue context through a function whose access reaches the engine. On a DISABLED queue pair c0 to c3 take the
value, ENABLE and USE_VF apart; on any other a write of c0 to c4 is counted and ignored, a write of c2 that leaves ENABLE as it is among them; c5 to c7 take nothing.
ENABLE = 1 on a DISABLED one
with a sound context of a plot makes it ACTIVE on the port it names, with USE_VF set by the function, indices zero and PHASE 1;
with an unsound context it is in ERROR, and nothing but c2 changes besides. ENABLE = 0 makes it DISABLED with its indices zero. ENABLE = 1 on a STOPPED one makes it ACTIVE
where a port can serve it, and writes its unconsumed entries again. Other queue pairs stay. -/
def Obligations.QueueContextsAreWritten : Prop :=
  ∀ (s : State) (fn : Func) (n : QpId) (k : Nat), s.qpIndex fn n.val = some k → s.barOpen fn = true →
    (∀ (word : Fin 8) (v : U64),
      ((s.qp k).st = .disabled → word.val < 4 → (word.val = 2 → bit v.toNat 16 = bit (s.qp k).c2.toNat 16) →
        ∃ t, exec (.queueContextWrite fn n word v) s = .next t ∧
          t.qp k = (if word.val = 0 then { s.qp k with c0 := v } else if word.val = 1 then { s.qp k with c1 := v }
            else if word.val = 2 then { s.qp k with c2 := BitVec.ofNat 64 (c2Plain v.toNat) } else { s.qp k with c3 := v }) ∧
          SameBut [k] s.qp t.qp ∧ Changes s t [.qps]) ∧
      ((s.qp k).st ≠ .disabled → word.val ≠ 2 → word.val < 5 →
        ∃ t, exec (.queueContextWrite fn n word v) s = .next t ∧ t = s.countContext k ∧ Changes s t [.led]) ∧
      ((s.qp k).st ≠ .disabled → word.val = 2 → bit v.toNat 16 = bit (s.qp k).c2.toNat 16 →
        ¬ (bit v.toNat 16 = true ∧ (s.qp k).st = .stopped) →
        ∃ t, exec (.queueContextWrite fn n word v) s = .next t ∧ t = s.countContext k ∧ Changes s t [.led]) ∧
      (5 ≤ word.val → ∃ t, exec (.queueContextWrite fn n word v) s = .next t ∧ t = s)) ∧
    (∀ v : U64, bit v.toNat 16 = true → (s.qp k).st = .disabled →
      ∃ t, exec (.qpEnable fn n v) s = .next t ∧
        (((s.qp k).contextBad (setBit v.toNat 20 false) = true ∨ s.plotOfQp k = none) →
          t.qp k = { s.qp k with c2 := BitVec.ofNat 64 (setBit v.toNat 20 fn.vf.isSome), st := .error }) ∧
        ((s.qp k).contextBad (setBit v.toNat 20 false) = false → s.plotOfQp k ≠ none →
          (t.qp k).st = .active ∧ (t.qp k).active = (if bit v.toNat 19 = true then .b else .a) ∧
          (t.qp k).c2 = BitVec.ofNat 64 (setBit v.toNat 20 fn.vf.isSome) ∧
          (t.qp k).sqTail = 0 ∧ (t.qp k).sqHead = 0 ∧ (t.qp k).rqTail = 0 ∧ (t.qp k).rqHead = 0 ∧ (t.qp k).phase = true ∧
          (t.qp k).ring = [] ∧ (t.qp k).waiting = (s.qp k).waiting) ∧
        SameBut [k] s.qp t.qp ∧ Changes s t [.qps]) ∧
    (∀ v : U64, bit v.toNat 16 = false → (s.qp k).st ≠ .disabled →
      ∃ t, exec (.qpDisable fn n v) s = .next t ∧ (t.qp k).st = .disabled ∧ bit (t.qp k).c2.toNat 16 = false ∧
        (t.qp k).sqTail = 0 ∧ (t.qp k).sqHead = 0 ∧ (t.qp k).rqTail = 0 ∧ (t.qp k).rqHead = 0 ∧ (t.qp k).ring = [] ∧
        (t.qp k).waiting = (s.qp k).waiting ∧ SameBut [k] s.qp t.qp ∧ Changes s t (.led :: .qps :: .ob :: .moved :: Part.report)) ∧
    (∀ v : U64, bit v.toNat 16 = true → (s.qp k).st = .stopped →
      (∀ x, s.resumePort k = some x →
        ∃ t, exec (.qpResume fn n v) s = .next t ∧ t.qp k = { s.qp k with st := .active, active := x } ∧
          (∀ j r ph, j < (s.qp k).rqUsed →
            Tab.get none (s.qp k).ring (((s.qp k).rqHead + j) % (s.qp k).rqSize) = some (r, ph) →
            .result k x (((s.qp k).rqHead + j) % (s.qp k).rqSize) 0 ((r.words ph).take 7) false ∈ t.out ∧
            .result k x (((s.qp k).rqHead + j) % (s.qp k).rqSize) 7 ((r.words ph).drop 7) false ∈ t.out) ∧
          SameBut [k] s.qp t.qp ∧ Changes s t [.led, .qps, .out]) ∧
      (s.resumePort k = none → ∃ t, exec (.qpResume fn n v) s = .next t ∧ t.qps = s.qps ∧ Changes s t [.led]))

/-- Named keys: a free key, or the requester's own, is granted by TAKE and KEY_TAKE, and its holder is the requester; another's
key gives that holder's ID and changes no key. A virtual function reads 0xFFFF, and neither takes nor gives. GIVE and KEY_GIVE
free a key that the giver holds; any other is counted in 2100:03. Through a port whose link is down neither does anything. FORCE_RELEASE of
a held key frees it, counts it and raises E-2101; of a free key it changes nothing; one that fails a check of R371 answers that status.
IDENTITY_LOW_READ returns the low word and latches the high one for its function; through a function of no plot it reads all ones.
HEARTBEAT_TICK raises HEARTBEAT by one while a Reeve runs. MB_GO submits a whole frame, one at a time, and MB_STATUS reads NOT_READY with
the sequence number before; a malformed frame is answered with BAD_VALUE at once. Without GO, or where no request can be taken, nothing
changes. -/
def Obligations.KeysIdentityMailbox : Prop :=
  (∀ (s : State) (fn : Func) (k : Fin 64),
    (s.portUp fn.port = true → fn.vf = none →
      ((s.holder k.val = 0 ∨ s.holder k.val = holderId (.host fn)) →
        ∃ t, exec (.take fn k) s = .next t ∧ t.holder k.val = holderId (.host fn) ∧ t.out = .busRead 0 :: s.out ∧
          SameBut [k.val] s.holder t.holder ∧ Changes s t [.keys, .out]) ∧
      (s.holder k.val ≠ 0 → s.holder k.val ≠ holderId (.host fn) →
        ∃ t, exec (.take fn k) s = .next t ∧ t.out = .busRead (s.holder k.val) :: s.out ∧ Changes s t [.out]) ∧
      (s.holder k.val = holderId (.host fn) →
        ∃ t, exec (.give fn k) s = .next t ∧ t.holder k.val = 0 ∧ SameBut [k.val] s.holder t.holder ∧ Changes s t [.keys]) ∧
      (s.holder k.val ≠ holderId (.host fn) →
        ∃ t, exec (.give fn k) s = .next t ∧ t.cell 0x2100 3 = satAdd 32 (s.cell 0x2100 3) 1 ∧ CellsBut [(0x2100, 3)] s t ∧
          Changes s t [.led])) ∧
    (∀ v, s.portUp fn.port = true → fn.vf = some v →
      (∃ t, exec (.take fn k) s = .next t ∧ Changes s t [.out] ∧
        t.out = .busRead (if (s.vfPlot fn.port v.val).isSome then 0xFFFF else 0xFFFFFFFF) :: s.out) ∧
      (∃ t, exec (.give fn k) s = .next t ∧ t = s)) ∧
    (s.portUp fn.port = false →
      (∃ t, exec (.take fn k) s = .next t ∧ t = s) ∧ (∃ t, exec (.give fn k) s = .next t ∧ t = s))) ∧
  (∀ (s : State) (f : Sender) (k : Fin 64), plainRequester f.who = false →
    (Arrives s f { cmd := .keyTake, arg := k.val } →
      ∃ t, exec (.keyTake f k) s = .next t ∧ Answers t f .denied ∧ Changes s t Part.reply) ∧
    (Arrives s f { cmd := .keyGive, arg := k.val } →
      ∃ t, exec (.keyGive f k) s = .next t ∧ Answers t f .denied ∧ Changes s t Part.reply)) ∧
  (∀ (s : State) (f : Sender) (k : Fin 64), plainRequester f.who = true →
    (Arrives s f { cmd := .keyTake, arg := k.val } → (s.holder k.val = 0 ∨ s.holder k.val = holderId f.who) →
      ∃ t, exec (.keyTake f k) s = .next t ∧ Answers t f .done ∧ t.holder k.val = holderId f.who ∧
        SameBut [k.val] s.holder t.holder ∧ Changes s t (.keys :: Part.reply)) ∧
    (Arrives s f { cmd := .keyTake, arg := k.val } → s.holder k.val ≠ 0 → s.holder k.val ≠ holderId f.who →
      ∃ t, exec (.keyTake f k) s = .next t ∧ Answers t f .busy ∧
        (∃ r rest, t.out = .reply f.who f.tag.toNat r :: rest ∧ r.body = toLe 2 (s.holder k.val)) ∧ Changes s t Part.reply) ∧
    (Arrives s f { cmd := .keyGive, arg := k.val } → s.holder k.val = holderId f.who →
      ∃ t, exec (.keyGive f k) s = .next t ∧ Answers t f .done ∧ t.holder k.val = 0 ∧ SameBut [k.val] s.holder t.holder ∧
        Changes s t (.keys :: Part.reply)) ∧
    (Arrives s f { cmd := .keyGive, arg := k.val } → s.holder k.val ≠ holderId f.who →
      ∃ t, exec (.keyGive f k) s = .next t ∧ Answers t f .denied ∧ t.cell 0x2100 3 = satAdd 32 (s.cell 0x2100 3) 1 ∧
        CellsBut [(0x2100, 3)] s t ∧ Changes s t (.led :: Part.reply))) ∧
  (∀ (s : State) (f : Sender) (body : List Byte), Arrives s f (writeReq 0x2100 2 body) →
    (∀ st, s.writeCheck f.who .write 0x2100 2 body = some st →
      ∃ t, exec (.forceRelease f body) s = .next t ∧ Answers t f st ∧ Changes s t Part.reply) ∧
    (s.writeCheck f.who .write 0x2100 2 body = none → s.holder (ofLe body) = 0 →
      ∃ t, exec (.forceRelease f body) s = .next t ∧ Answers t f .done ∧ Changes s t Part.reply) ∧
    (s.writeCheck f.who .write 0x2100 2 body = none → s.holder (ofLe body) ≠ 0 →
      ∃ t, exec (.forceRelease f body) s = .next t ∧ Answers t f .done ∧ t.holder (ofLe body) = 0 ∧
        t.cell 0x2100 4 = satAdd 32 (s.cell 0x2100 4) 1 ∧ Raises s t [(0x2101, 0xFF, [ofLe body, s.holder (ofLe body), 5])] ∧
        SameBut [ofLe body] s.holder t.holder ∧ CellsBut [(0x2100, 4)] s t ∧
        Changes s t [.keys, .led, .ev, .sessions, .out, .mailbox])) ∧
  (∀ (s : State) (fn : Func) (r : Identity),
    (s.barOpen fn = true →
      ∃ t, exec (.identityLowRead fn r) s = .next t ∧ t.out = .busRead (s.identity r % 2 ^ 32) :: s.out ∧
        t.identityHigh fn r = s.identity r / 2 ^ 32 ∧
        (∀ g q, (g, q) ≠ (fn, r) → Tab.get none t.latch (latchKey g q) = Tab.get none s.latch (latchKey g q)) ∧
        Changes s t [.latch, .out]) ∧
    (s.portUp fn.port = true → s.barOpen fn = false →
      ∃ t, exec (.identityLowRead fn r) s = .next t ∧ t.out = .busRead allOnes :: s.out ∧ Changes s t [.out]) ∧
    (s.portUp fn.port = false → ∃ t, exec (.identityLowRead fn r) s = .next t ∧ t = s)) ∧
  (∀ s : State,
    (s.booted = true → s.procs.reeveLost = false →
      ∃ t, exec .heartbeatTick s = .next t ∧ t.procs = { s.procs with heartbeat := (s.procs.heartbeat + 1) % 2 ^ 32 } ∧
        Changes s t [.procs]) ∧
    ((s.booted = false ∨ s.procs.reeveLost = true) → ∃ t, exec .heartbeatTick s = .next t ∧ t = s)) ∧
  (∀ (s : State) (fn : Func) (ctrl : U32) (frame : List Byte), frame.length ≤ 4096 →
    ((s.barOpen fn = false ∨ s.serving = false ∨ bit ctrl.toNat 31 = false ∨ (s.box fn).busy = true) →
      ∃ t, exec (.mbGo fn ctrl frame) s = .next t ∧ t = s) ∧
    (∀ b, s.barOpen fn = true → s.serving = true → bit ctrl.toNat 31 = true → (s.box fn).busy = false →
      b = frame.take (bits ctrl.toNat 12 0) →
      (frameBad (bits ctrl.toNat 12 0) b = false →
        ∃ t, exec (.mbGo fn ctrl frame) s = .next t ∧ (t.box fn).request = b ∧ (t.box fn).newSeq = bits ctrl.toNat 23 16 ∧
          (t.box fn).busy = true ∧ (t.box fn).statusWord = Status.code .notReady + (s.box fn).lastSeq * 2 ^ 16 ∧
          (t.box fn).response = (s.box fn).response ∧ (∀ g : Func, g ≠ fn → t.box g = s.box g) ∧ Changes s t [.mailbox]) ∧
      (frameBad (bits ctrl.toNat 12 0) b = true →
        ∃ t, exec (.mbGo fn ctrl frame) s = .next t ∧ (t.box fn).busy = false ∧
          (t.box fn).statusWord = Status.code .badValue + bits ctrl.toNat 23 16 * 2 ^ 16 + 2 ^ 24 ∧
          (∀ g : Func, g ≠ fn → t.box g = s.box g) ∧ Changes s t [.mailbox, .out])))

/-! ### Ethernet ports and paths -/

/-- ETH_MODE, a WRITE that passes the checks of R371: the mode that the port has changes nothing; another is refused with BUSY
while a path on the port is enabled, else it is stored and the port trains again, or is DOWN in mode 0, with E-5002 where it was
UP. ETH_LINK_UP and ETH_LINK_DOWN set the state and report it. PATH and PATH_ENABLE: a descriptor that R297 and R298 refuse
answers that status and changes nothing; any other is stored whole, and no other entry changes. -/
def Obligations.EthernetPortsAndPaths : Prop :=
  (∀ (s : State) (f : Sender) (x : EthId) (body : List Byte), WriteArrives s f 0x5000 (x.val + 1) body →
    (ofLe body = s.ethMode x.val →
      ∃ t, exec (.ethMode f x body) s = .next t ∧ Answers t f .done ∧ Changes s t Part.reply) ∧
    (ofLe body ≠ s.ethMode x.val → s.pathPlots x.val ≠ [] →
      ∃ t, exec (.ethMode f x body) s = .next t ∧ Answers t f .busy ∧ Changes s t Part.reply) ∧
    (ofLe body ≠ s.ethMode x.val → s.pathPlots x.val = [] →
      ∃ t, exec (.ethMode f x body) s = .next t ∧ Answers t f .done ∧ t.ethMode x.val = ofLe body ∧
        t.ethState x.val = (if ofLe body = 0 then 0 else 1) ∧
        (if s.ethState x.val = 2 then Raises s t [(0x5002, 0xFF, [x.val, 2])] else Raises s t []) ∧
        CellsBut [(0x5000, x.val + 1), (0x5000, 0x11 + x.val)] s t ∧ Changes s t [.led, .ev, .sessions, .out, .mailbox])) ∧
  (∀ (s : State) (x : EthId),
    (s.ethState x.val = 1 → s.ethMode x.val ≠ 0 →
      ∃ t, exec (.ethLinkUp x) s = .next t ∧ t.ethState x.val = 2 ∧ Raises s t [(0x5001, 0xFF, [x.val, s.ethMode x.val])] ∧
        CellsBut [(0x5000, 0x11 + x.val)] s t ∧ Changes s t (.led :: Part.report)) ∧
    (∀ cause : Fin 2, s.ethState x.val = 2 →
      ∃ t, exec (.ethLinkDown x cause) s = .next t ∧ t.ethState x.val = 1 ∧ Raises s t [(0x5002, 0xFF, [x.val, cause.val])] ∧
        CellsBut [(0x5000, 0x11 + x.val)] s t ∧ Changes s t (.led :: Part.report))) ∧
  (∀ (s : State) (f : Sender) (p : PlotId) (i : Fin 16) (body : List Byte) (c : Instr),
    WriteArrives s f (0x5100 + p.val) (i.val + 1) body →
    ((pathOn body = false ∧ c = .path f p i body) ∨ (pathOn body = true ∧ c = .pathEnable f p i body)) →
    (∀ st, s.pathRefused p.val i.val body = some st →
      ∃ t, exec c s = .next t ∧ Answers t f st ∧ Changes s t Part.reply) ∧
    (s.pathRefused p.val i.val body = none →
      ∃ t, exec c s = .next t ∧ Answers t f .done ∧ t.pathDesc p.val i.val = body ∧
        (∀ q j, j < 16 → (q, j) ≠ (p.val, i.val) → q < 16 → t.pathDesc q j = s.pathDesc q j ∧ t.pathSt q j = s.pathSt q j) ∧
        Changes s t [.blob, .paths, .out, .mailbox, .sessions]) ∧
    (pathOn body = true → pathOn (s.pathDesc p.val i.val) = false → s.pathRefused p.val i.val body = none → pathUse body = 0 →
      4 * (s.rateSum (fun q j => pathPort (s.pathDesc q j) == pathPort body && !(q == p.val && j == i.val)) + pathRate body)
          ≤ modeCapacity4 (s.ethMode (pathPort body)) ∧
        s.rateSum (fun q j => !(q == p.val && j == i.val)) + pathRate body ≤ 784))

/-- ECN_MARK on an enabled path is counted for its port; the first mark of a RECOVERY period multiplies the path's issue rate by
REDUCTION, but not below MIN_RATE, and others change no rate. ECN_RECOVERY after a RECOVERY period without a mark divides the
rate by REDUCTION, up to the rate without congestion. EN_IDLE_LIMIT: a stopped READ response completes its transfer with
TRUNCATED; one of a discarded attempt is dropped and counted. -/
def Obligations.CongestionAndStoppedReads : Prop :=
  (∀ (s : State) (p : PlotId) (i : Fin 16), pathOn (s.pathDesc p.val i.val) = true →
    ∃ t, exec (.ecnMark p i) s = .next t ∧
      Tab.get 0 t.ethCtr (pathPort (s.pathDesc p.val i.val) * 8 + 5) =
        satAdd 64 (Tab.get 0 s.ethCtr (pathPort (s.pathDesc p.val i.val) * 8 + 5)) 1 ∧
      (s.since (s.pathSt p.val i.val).cutAt s.recovery = false →
        (t.pathSt p.val i.val).rate = (s.pathSt p.val i.val).rate ∧ (t.pathSt p.val i.val).cutAt = (s.pathSt p.val i.val).cutAt) ∧
      (s.since (s.pathSt p.val i.val).cutAt s.recovery = true →
        (t.pathSt p.val i.val).cutAt = some s.now ∧
        (t.pathSt p.val i.val).rate =
          some (if (s.issueRate p.val i.val).1 * s.reduction.1 < s.minRate * ((s.issueRate p.val i.val).2 * s.reduction.2)
            then (min s.minRate (s.baseRate p.val i.val), 1)
            else ((s.issueRate p.val i.val).1 * s.reduction.1, (s.issueRate p.val i.val).2 * s.reduction.2))) ∧
      (∀ k, k ≠ pathPort (s.pathDesc p.val i.val) * 8 + 5 → Tab.get 0 t.ethCtr k = Tab.get 0 s.ethCtr k) ∧
      (∀ k, k ≠ p.val * 16 + i.val → Tab.get {} t.paths k = Tab.get {} s.paths k) ∧ Changes s t [.ethCtr, .paths]) ∧
  (∀ (s : State) (p : PlotId) (i : Fin 16) (r : Nat × Nat), (s.pathSt p.val i.val).rate = some r →
    ((s.pathSt p.val i.val).since + s.recovery ≤ s.now →
      ∃ t, exec (.ecnRecovery p i) s = .next t ∧
        (t.pathSt p.val i.val).rate = (if s.baseRate p.val i.val * (r.2 * s.reduction.1) ≤ r.1 * s.reduction.2 then none
          else some (r.1 * s.reduction.2, r.2 * s.reduction.1)) ∧
        (∀ k, k ≠ p.val * 16 + i.val → Tab.get {} t.paths k = Tab.get {} s.paths k) ∧ Changes s t [.paths]) ∧
    (s.now < (s.pathSt p.val i.val).since + s.recovery → ∃ t, exec (.ecnRecovery p i) s = .next t ∧ t = s)) ∧
  (∀ (s : State) (l : Loom) (t0 : Byte) (p : Nat) (e : QEntry) (path : Fin 16) (off : U64) (len : U32) (a : BitVec 40),
    ((s.loom l.n).queue 3).entries.find? (fun e => e.ticket == t0.toNat && e.status.isNone && (match e.req with
      | .ether _ _ _ w _ => !w | _ => false)) = some e → e.req = .ether path off len false a → s.ownerOf l.n = some p →
    ((s.loom l.n).step ≠ none → e.attempt = (s.loom l.n).attempt →
      ∃ t, exec (.enIdleLimit l t0) s = .next t ∧
        { e with status := some .truncated } ∈ ((t.loom l.n).queue 3).entries ∧
        (∀ k, k ≠ 3 → (t.loom l.n).queue k = (s.loom l.n).queue k) ∧ (t.loom l.n).bytes = (s.loom l.n).bytes ∧
        SameBut [l.n] s.loom t.loom ∧ Changes s t [.looms, .plots]) ∧
    (((s.loom l.n).step = none ∨ e.attempt ≠ (s.loom l.n).attempt) →
      ∃ t, exec (.enIdleLimit l t0) s = .next t ∧
        t.cell (0x3300 + p) 8 = satAdd 64 (s.cell (0x3300 + p) 8) 1 ∧ (t.loom l.n).bytes = (s.loom l.n).bytes ∧
        ((t.loom l.n).queue 3).entries.length + 1 = ((s.loom l.n).queue 3).entries.length ∧ SameBut [l.n] s.loom t.loom ∧
        CellsBut [(0x3300 + p, 8)] s t ∧ Changes s t [.looms, .plots, .led]))

/-! ### Ferry ports -/

/-- FLIT_SEND of the class whose turn is next used, on an ACTIVE port with room to replay: the first waiting flit leaves with
the next SEQ, and stands in the replay buffer; with the buffer full, or in a width change, nothing leaves. FLIT_RECEIVE: a flit
with a bad CRC is discarded and a retry requested; one with another JOB_TAG is discarded and the port retrains; one out of
sequence is discarded; the next in sequence is taken, a start begins a frame, and a whole frame enters the fabric as the plot
that owns the port, or not at all. RETRY_REQUEST sends what is not acknowledged again. PARTIAL_FRAME_TIMEOUT discards the frame,
frees its flits, and says so. -/
def Obligations.FlitsAreSentAndReceived : Prop :=
  (∀ (s : State) (x : FerryId) (cls : Fin 4),
    (∀ k y ys, (s.ferryAt x.val).st = .active → (s.ferryAt x.val).change = none → (s.ferryAt x.val).replay.length < 1024 →
      (s.ferryAt x.val).nextTurn = some k → Machine.rotation (((s.ferryAt x.val).turn + k) % 8) = cls.val →
      Tab.get [] (s.ferryAt x.val).queue cls.val = y :: ys →
      ∃ t z, exec (.flitSend x cls) s = .next t ∧ t.out = .flit x z :: s.out ∧
        z.seq = BitVec.ofNat 12 (s.ferryAt x.val).txSeq ∧ z.payload = y.flit.payload ∧ z.type = y.flit.type ∧
        z.jobTag = BitVec.ofNat 16 (s.jobTag x.val) ∧
        (t.ferryAt x.val).replay = (s.ferryAt x.val).replay ++ [{ y with flit := z }] ∧
        Tab.get [] (t.ferryAt x.val).queue cls.val = ys ∧
        (t.ferryAt x.val).txSeq = ((s.ferryAt x.val).txSeq + 1) % 4096 ∧
        (Tab.get 0 (s.ferryAt x.val).sent cls.val + 4096 - Tab.get 0 (s.ferryAt x.val).freed cls.val) % 4096 < ferryShare cls.val ∧
        SameBut [x.val] s.ferryAt t.ferryAt ∧ Changes s t [.ferry, .out]) ∧
    ((1024 ≤ (s.ferryAt x.val).replay.length ∨ (s.ferryAt x.val).change ≠ none ∨ (s.ferryAt x.val).st ≠ .active) →
      ∃ t, exec (.flitSend x cls) s = .next t ∧ t = s)) ∧
  (∀ (s : State) (x : FerryId) (y : Flit), y.payload.length ≤ 240 → (s.ferryAt x.val).st = .active →
    (∃ t, exec (.flitReceive x y false) s = .next t ∧ t.out = .retry x (s.ferryAt x.val).rxSeq :: s.out ∧
      (t.ferryAt x.val).rxSeq = (s.ferryAt x.val).rxSeq ∧ (t.ferryAt x.val).parts = (s.ferryAt x.val).parts ∧
      (t.ferryAt x.val).st = .active ∧ SameBut [x.val] s.ferryAt t.ferryAt ∧ Changes s t [.ferry, .out]) ∧
    (y.jobTag.toNat ≠ s.jobTag x.val →
      ∃ t, exec (.flitReceive x y true) s = .next t ∧ (t.ferryAt x.val).st = .training ∧
        Tab.get 0 (t.ferryAt x.val).ctr 7 = satAdd 64 (Tab.get 0 (s.ferryAt x.val).ctr 7) 1 ∧
        (t.ferryAt x.val).rxSeq = (s.ferryAt x.val).rxSeq ∧ (t.ferryAt x.val).parts = (s.ferryAt x.val).parts ∧
        SameBut [x.val] s.ferryAt t.ferryAt ∧ Changes s t [.ferry, .sweep]) ∧
    (y.jobTag.toNat = s.jobTag x.val → 1 ≤ y.type.toNat → y.type.toNat ≤ 4 →
      (y.seq.toNat ≠ ((s.ferryAt x.val).rxSeq + 1) % 4096 →
        ∃ t, exec (.flitReceive x y true) s = .next t ∧ (t.ferryAt x.val).rxSeq = (s.ferryAt x.val).rxSeq ∧
          (t.ferryAt x.val).parts = (s.ferryAt x.val).parts ∧ (t.ferryAt x.val).retryOut = true ∧
          SameBut [x.val] s.ferryAt t.ferryAt ∧ Changes s t [.ferry, .out]) ∧
      (y.seq.toNat = ((s.ferryAt x.val).rxSeq + 1) % 4096 → y.type.toNat = 1 →
        ∃ t, exec (.flitReceive x y true) s = .next t ∧ (t.ferryAt x.val).rxSeq = y.seq.toNat ∧
          Tab.get {} (t.ferryAt x.val).parts y.cls.val = { bytes := y.payload, flits := 1, lastAt := s.now, active := true } ∧
          SameBut [x.val] s.ferryAt t.ferryAt ∧ Changes s t [.ferry]) ∧
      (y.seq.toNat = ((s.ferryAt x.val).rxSeq + 1) % 4096 → y.type.toNat = 4 →
        ∃ t u, exec (.flitReceive x y true) s = .next t ∧ Changes s u [.ferry] ∧ (t.ferryAt x.val).rxSeq = y.seq.toNat ∧
          t.fabric = (match frameMsg x.val (s.cell 0x5430 (x.val + 1)) y.cls 1 y.payload with
            | some m => if s.cell 0x5430 (x.val + 1) < 16 then (u.inject m).fabric else s.fabric
            | none => s.fabric) ∧ Changes s t (.ferry :: .power :: Part.work)))) ∧
  (∀ (s : State) (x : FerryId) (seq : BitVec 12) (r : List TxFlit), (s.ferryAt x.val).st = .active →
    r = ((s.ferryAt x.val).acked seq.toNat).replay →
    (r = [] → ∃ t, exec (.retryRequest x seq) s = .next t ∧ (t.ferryAt x.val).replay = [] ∧
      SameBut [x.val] s.ferryAt t.ferryAt ∧ Changes s t [.ferry]) ∧
    (r ≠ [] → ∃ t, exec (.retryRequest x seq) s = .next t ∧
      (t.ferryAt x.val).replay.map (fun y => (y.flit.seq, y.flit.payload)) = r.map (fun y => (y.flit.seq, y.flit.payload)) ∧
      (∀ y ∈ (t.ferryAt x.val).replay, .flit x y.flit ∈ t.out) ∧
      Tab.get 0 (t.ferryAt x.val).ctr 3 = satAdd 64 (Tab.get 0 (s.ferryAt x.val).ctr 3) r.length ∧
      (t.ferryAt x.val).st = (if 16 ≤ ((s.ferryAt x.val).acked seq.toNat).resends + 1 then .training else .active) ∧
      SameBut [x.val] s.ferryAt t.ferryAt ∧ Changes s t [.ferry, .out, .sweep])) ∧
  (∀ (s : State) (x : FerryId) (cls : Fin 4) (p : Partial), p = Tab.get {} (s.ferryAt x.val).parts cls.val → p.active = true →
    (p.lastAt + s.cell 0x5440 (x.val + 1) * 1000 < s.now →
      ∃ t, exec (.partialFrameTimeout x cls) s = .next t ∧ Tab.get {} (t.ferryAt x.val).parts cls.val = {} ∧
        Tab.get 0 (t.ferryAt x.val).own cls.val = (Tab.get 0 (s.ferryAt x.val).own cls.val + p.flits) % 4096 ∧
        Tab.get 0 (t.ferryAt x.val).ctr 6 = satAdd 64 (Tab.get 0 (s.ferryAt x.val).ctr 6) 1 ∧
        .truncated x cls.val ∈ t.out ∧ Raises s t [(0x5406, 0xFF, [x.val, cls.val, p.flits])] ∧
        SameBut [x.val] s.ferryAt t.ferryAt ∧ Changes s t (.ferry :: Part.report)) ∧
    (s.now ≤ p.lastAt + s.cell 0x5440 (x.val + 1) * 1000 →
      ∃ t, exec (.partialFrameTimeout x cls) s = .next t ∧ t = s))

/-- A Ferry port's states. FERRY_DETECT of a DOWN port that is enabled begins training. FERRY_TRAINING_END with a generation
that this end supports takes the widest group of sound lanes, and CONFIRM begins. FERRY_CONFIRM of the job's tag and, where one
is required, serial makes the port ACTIVE; any other leaves it in CONFIRM and raises E-5405. A retrain that takes more than 5 ms
takes the port DOWN, and its queue entries complete. LANE_BAD of a lane in use, and WIDTH_CHANGE_REQUEST of the peer, choose the
widest group that avoids every bad lane; WIDTH_CHANGE_DONE runs the link on it. -/
def Obligations.FerryLinksTrainAndChangeWidth : Prop :=
  (∀ (s : State) (x : FerryId), (s.ferryAt x.val).st = .down → s.ferryOn x.val = true → s.booted = true →
    ∃ t, exec (.ferryDetect x) s = .next t ∧ (t.ferryAt x.val).st = .training ∧ (t.ferryAt x.val).retrain = false ∧
      SameBut [x.val] s.ferryAt t.ferryAt ∧ Changes s t [.ferry, .power]) ∧
  (∀ (s : State) (x : FerryId) (gen : Fin 4) (lanes : BitVec 8) (g : Nat × Nat), (s.ferryAt x.val).st = .training → 1 ≤ gen.val →
    gen.val ≤ s.ferryGen x.val →
    laneGroup (if (s.ferryAt x.val).mayRise then 8 else (s.ferryAt x.val).width)
      ((255 - lanes.toNat) ||| (s.ferryAt x.val).badLanes) = some g →
    ∃ t, exec (.ferryTrainingEnd x gen lanes) s = .next t ∧ (t.ferryAt x.val).st = .confirm ∧ (t.ferryAt x.val).gen = gen.val ∧
      (t.ferryAt x.val).width = g.1 ∧ (t.ferryAt x.val).lanes = g.2 ∧ t.out = .confirm x (s.jobTag x.val) s.factory.serial :: s.out ∧
      SameBut [x.val] s.ferryAt t.ferryAt ∧ Changes s t [.ferry, .out]) ∧
  (∀ (s : State) (x : FerryId) (tag : U16) (serial : U64) (ok : Bool), (s.ferryAt x.val).st = .confirm →
    ok = (s.jobTag x.val != 0 && tag.toNat == s.jobTag x.val &&
      (s.cell 0x5420 (x.val + 1) == 0 || s.cell 0x5420 (x.val + 1) == serial.toNat)) →
    (ok = false →
      ∃ t, exec (.ferryConfirm x tag serial) s = .next t ∧ t.cell 0x5460 (x.val + 1) = serial.toNat ∧ t.ferry = s.ferry ∧
        Raises s t [(0x5405, 0xFF, x.val :: tag.toNat :: serialParams serial.toNat)] ∧ CellsBut [(0x5460, x.val + 1)] s t ∧
        Changes s t (.led :: Part.report)) ∧
    (ok = true → (s.ferryAt x.val).resends < 15 →
      ∃ t, exec (.ferryConfirm x tag serial) s = .next t ∧ t.cell 0x5460 (x.val + 1) = serial.toNat ∧
        (t.ferryAt x.val).st = .active ∧
        Raises s t [(0x5401, 0xFF, x.val :: ((s.ferryAt x.val).gen * 16 + (s.ferryAt x.val).width) :: serialParams serial.toNat)] ∧
        (∀ y ∈ (t.ferryAt x.val).replay, .flit x y.flit ∈ t.out) ∧
        SameBut [x.val] s.ferryAt t.ferryAt ∧ CellsBut [(0x5460, x.val + 1)] s t ∧
        Changes s t (.led :: .ferry :: Part.report))) ∧
  (∀ (s : State) (x : FerryId), (s.ferryAt x.val).retrain = true → (s.ferryAt x.val).st ≠ .active → (s.ferryAt x.val).st ≠ .down →
    ((s.ferryAt x.val).trainAt + 5000000 < s.now →
      ∃ t, exec (.ferryRetrainTimeout x) s = .next t ∧ (t.ferryAt x.val).st = .down ∧
        (∀ n e b len, e ∈ ((t.loom n).queue 4).entries → e.req = .ferry x b len → e.status ≠ none) ∧
        Raises s t [(0x5402, 0xFF, [x.val, 1])] ∧ SameBut [x.val] s.ferryAt t.ferryAt ∧
        Changes s t (.ferry :: .looms :: .plots :: .sweep :: Part.report)) ∧
    (s.now ≤ (s.ferryAt x.val).trainAt + 5000000 → ∃ t, exec (.ferryRetrainTimeout x) s = .next t ∧ t = s)) ∧
  (∀ (s : State) (x : FerryId) (lane : Fin 8) (g : Nat × Nat), (s.ferryAt x.val).st = .active →
    (s.ferryAt x.val).change = none → bit (s.ferryAt x.val).badLanes lane.val = false → bit (s.ferryAt x.val).lanes lane.val = true →
    s.defects.length < 256 →
    laneGroup (s.ferryAt x.val).width (setBit (s.ferryAt x.val).badLanes lane.val true) = some g →
    ∃ t, exec (.laneBad x lane) s = .next t ∧ (t.ferryAt x.val).change = some (g.2, false) ∧
      (t.ferryAt x.val).badLanes = setBit (s.ferryAt x.val).badLanes lane.val true ∧ (t.ferryAt x.val).asked = some false ∧
      t.out = .widthRequest x s.factory.serial (setBit (s.ferryAt x.val).badLanes lane.val true) :: s.out ∧
      t.defects.length = s.defects.length + 1 ∧ SameBut [x.val] s.ferryAt t.ferryAt ∧
      Changes s t [.ferry, .defects, .out, .sweep]) ∧
  (∀ (s : State) (x : FerryId) (serial : U64) (bad : BitVec 8), (s.ferryAt x.val).st = .active →
    (∀ g, (s.ferryAt x.val).asked = none →
      laneGroup (s.ferryAt x.val).width ((s.ferryAt x.val).badLanes ||| bad.toNat) = some g →
      ∃ t, exec (.widthChangeRequest x serial false bad) s = .next t ∧ (t.ferryAt x.val).change = some (g.2, true) ∧
        (t.ferryAt x.val).badLanes = (s.ferryAt x.val).badLanes ||| bad.toNat ∧ SameBut [x.val] s.ferryAt t.ferryAt ∧
        Changes s t [.ferry, .sweep]) ∧
    ((s.ferryAt x.val).asked = some true → serial.toNat ≤ s.factory.serial →
      ∃ t, exec (.widthChangeRequest x serial false bad) s = .next t ∧
        t.ferryAt x.val = { s.ferryAt x.val with asked := none } ∧ SameBut [x.val] s.ferryAt t.ferryAt ∧ Changes s t [.ferry])) ∧
  (∀ (s : State) (x : FerryId) (c : Nat × Bool), (s.ferryAt x.val).change = some c → (s.ferryAt x.val).again = false →
    (s.ferryAt x.val).resends < 15 →
    ∃ t, exec (.widthChangeDone x) s = .next t ∧ (t.ferryAt x.val).width = maskWidth c.1 ∧ (t.ferryAt x.val).lanes = c.1 ∧
      (t.ferryAt x.val).change = none ∧ (t.ferryAt x.val).st = (s.ferryAt x.val).st ∧
      Tab.get 0 (t.ferryAt x.val).ctr 5 = satAdd 64 (Tab.get 0 (s.ferryAt x.val).ctr 5) 1 ∧
      Raises s t [(0x5403, 0xFF, [x.val, (s.ferryAt x.val).width * 16 + maskWidth c.1, c.1, if c.2 then 1 else 0])] ∧
      (∀ y ∈ (t.ferryAt x.val).replay, .flit x y.flit ∈ t.out) ∧
      SameBut [x.val] s.ferryAt t.ferryAt ∧ Changes s t (.ferry :: Part.report))

/-- Writes for a Ferry port that pass the checks of R371. FERRY_CONFIG stores the word; ENABLE = 0 takes a port that is not DOWN
to DOWN; a new JOB_TAG on an ACTIVE port begins CONFIRM with nothing outstanding; with neither, the port stays as it is.
FERRY_RETRAIN_REQUEST with an unchanged tag retrains an ACTIVE port or one in CONFIRM, and asks the peer. FERRY_OWNER answers
BUSY while the port is ACTIVE, else it stores the owner. SWEEP_REQUEST of a legal sweep on an ACTIVE port with no sweep running
begins it; SWEEP_END brings its status and its result, and E-5501. -/
def Obligations.FerryWritesAndSweeps : Prop :=
  (∀ (s : State) (f : Sender) (x : FerryId) (body : List Byte), WriteArrives s f 0x5410 (x.val + 1) body →
    (bit (ofLe body) 3 = false →
      ∃ t, exec (.ferryConfig f x body) s = .next t ∧ Answers t f .done ∧ t.cell 0x5410 (x.val + 1) = ofLe body ∧
        (bit (ofLe body) 2 = false → (t.ferryAt x.val).st = .down) ∧
        (bit (ofLe body) 2 = true → bits (ofLe body) 31 16 = s.jobTag x.val → t.ferry = s.ferry) ∧
        (bit (ofLe body) 2 = true → bits (ofLe body) 31 16 ≠ s.jobTag x.val → (s.ferryAt x.val).st = .active →
          (t.ferryAt x.val).st = .confirm ∧ (t.ferryAt x.val).replay = [] ∧ (t.ferryAt x.val).queue = [] ∧
          (t.ferryAt x.val).width = (s.ferryAt x.val).width) ∧
        SameBut [x.val] s.ferryAt t.ferryAt ∧ CellsBut [(0x5410, x.val + 1)] s t ∧
        Changes s t [.led, .ferry, .looms, .plots, .sweep, .ev, .sessions, .out, .mailbox]) ∧
    (bit (ofLe body) 3 = true → bit (ofLe body) 2 = true → bits (ofLe body) 31 16 = s.jobTag x.val →
      ((s.ferryAt x.val).st = .active ∨ (s.ferryAt x.val).st = .confirm) →
      ∃ t, exec (.ferryRetrainRequest f x body) s = .next t ∧ Answers t f .done ∧ (t.ferryAt x.val).st = .training ∧
        (t.ferryAt x.val).mayRise = true ∧ (t.ferryAt x.val).replay = (s.ferryAt x.val).replay ∧
        .widthRequest x s.factory.serial 256 ∈ t.out ∧ SameBut [x.val] s.ferryAt t.ferryAt ∧
        CellsBut [(0x5410, x.val + 1)] s t ∧ Changes s t [.led, .ferry, .sweep, .out, .mailbox, .sessions])) ∧
  (∀ (s : State) (f : Sender) (x : FerryId) (body : List Byte), WriteArrives s f 0x5430 (x.val + 1) body →
    ((s.ferryAt x.val).st = .active →
      ∃ t, exec (.ferryOwner f x body) s = .next t ∧ Answers t f .busy ∧ Changes s t Part.reply) ∧
    ((s.ferryAt x.val).st ≠ .active →
      ∃ t, exec (.ferryOwner f x body) s = .next t ∧ Answers t f .done ∧ t.cell 0x5430 (x.val + 1) = ofLe body ∧
        CellsBut [(0x5430, x.val + 1)] s t ∧ Changes s t (.led :: Part.reply))) ∧
  (∀ (s : State) (f : Sender) (body : List Byte), WriteArrives s f 0x5600 1 body →
    (sweepOf body = none → ∃ t, exec (.sweepRequest f body) s = .next t ∧ Answers t f .badValue ∧ Changes s t Part.reply) ∧
    (∀ w, sweepOf body = some w → (s.sweep ≠ none ∨ (s.ferryAt w.port).st ≠ .active) →
      ∃ t, exec (.sweepRequest f body) s = .next t ∧ Answers t f .busy ∧ Changes s t Part.reply) ∧
    (∀ w, sweepOf body = some w → s.sweep = none → (s.ferryAt w.port).st = .active →
      ∃ t, exec (.sweepRequest f body) s = .next t ∧ Answers t f .done ∧ t.sweep = some w ∧
        t.cell 0x5600 2 = Status.code .notReady ∧ CellsBut [(0x5600, 2)] s t ∧ Changes s t (.sweep :: .led :: Part.reply))) ∧
  (∀ (s : State) (st : Status) (counts : List U32) (w : Sweep), s.sweep = some w → st = w.why.getD .done →
    counts.length ≤ w.n * w.n * laneCount w.lanes → (st = .done → counts.length = w.n * w.n * laneCount w.lanes) →
    ∃ t, exec (.sweepEnd st counts) s = .next t ∧ t.sweep = none ∧ t.cell 0x5600 2 = st.code ∧
      (t.measAt 0x5600 3).value = toLe 4 (w.header (st != .done)) ++ wordsLe 4 (counts.map BitVec.toNat) ∧
      (t.measAt 0x5600 3).seq = ((s.measAt 0x5600 3).seq + 1) % 2 ^ 32 ∧ (t.measAt 0x5600 3).ready = true ∧
      Raises s t [(0x5501, 0xFF, [w.port, st.code])] ∧ CellsBut [(0x5600, 2)] s t ∧
      Changes s t (.sweep :: .led :: .meas :: Part.report))

/-! ### Power -/

/-- Regulators and hints. PHASE_ADD runs one more phase. Five implausible sensors or more put a tile's regulator into fallback,
15 mV higher, with E-4505, which names those excluded; twelve plausible ones end it. An open phase lowers its domain's cap by one
share (E-4503), and too few phases fail the tile; a failed sense lowers the cap to 85 % (E-4504). A short in a soft start latches
the site off and, a Reeve being active, makes it ABSENT; a retry that reaches its target leaves it RETIRED, and the third that
fails ends them (E-4502). A hint that has reached the Steward of the tile's quadrant is taken: it runs every phase, and raises
the setpoint where R344 grants it, until its hold ends; no hint there, nothing changes. -/
def Obligations.RegulatorsAndHints : Prop :=
  (∀ (s : State) (tl : Phys) (d : Domain), Tab.get 0 (s.reg tl.val).shed (domainCode d) ≠ 0 →
    ∃ t, exec (.phaseAdd tl d) s = .next t ∧
      Tab.get 0 (t.reg tl.val).shed (domainCode d) + 1 = Tab.get 0 (s.reg tl.val).shed (domainCode d) ∧
      SameBut [tl.val] s.reg t.reg ∧ Changes s t [.regs]) ∧
  (∀ (s : State) (tl : Phys), Tab.get 0 (s.reg tl.val).shed (domainCode .vcore) = 0 →
    ∃ t, exec (.phaseAdd tl .vcore) s = .next t ∧ t = s) ∧
  (∀ (s : State) (tl : Phys) (m : Sensed),
    ((s.reg tl.val).fallback = false → (goodSensors m).length ≤ 11 →
      ∃ t, exec (.sensorFallback tl m) s = .next t ∧ (t.reg tl.val).fallback = true ∧ (t.reg tl.val).badSensors = excluded m ∧
        t.setpoint tl.val = (if s.setpoint tl.val = 0 then 0 else s.setpoint tl.val + 15000) ∧
        Raises s t [(0x4505, 0xFF, [tl.val, excluded m])] ∧ SameBut [tl.val] s.reg t.reg ∧ Changes s t (.regs :: Part.report)) ∧
    ((s.reg tl.val).fallback = true → 12 ≤ (goodSensors m).length →
      ∃ t, exec (.sensorFallbackExit tl m) s = .next t ∧ (t.reg tl.val).fallback = false ∧
        (t.reg tl.val).badSensors = excluded m ∧ SameBut [tl.val] s.reg t.reg ∧ Changes s t [.regs])) ∧
  (∀ (s : State) (site : RegSite) (d : Domain) (i : Fin 7), s.regLive site d i.val = true → s.defects.length < 256 →
    (Tab.get false (s.reg (siteKey site)).opens (phaseKey d i.val) = false →
      ((∀ tl, site = .tile tl → 5 + (if d = .vcore then 1 else 0) ≤ (s.reg (siteKey site)).working .vcore ∧
          2 + (if d = .vmem then 1 else 0) ≤ (s.reg (siteKey site)).working .vmem) →
        ∃ t, exec (.phaseOpen site d i) s = .next t ∧
          (t.reg (siteKey site)).working d + 1 = (s.reg (siteKey site)).working d ∧
          Raises s t [(0x4503, 0xFF, [siteKey site, domainCode d, i.val])] ∧ t.defects.length = s.defects.length + 1 ∧
          SameBut [siteKey site] s.reg t.reg ∧ Changes s t (.regs :: .defects :: Part.report)) ∧
      (∀ tl, site = .tile tl → s.procs.reeveLost = false → ((s.reg tl.val).working .vcore < 5 + (if d = .vcore then 1 else 0) ∨
          (s.reg tl.val).working .vmem < 2 + (if d = .vmem then 1 else 0)) →
        ∃ t, exec (.phaseOpen site d i) s = .next t ∧ (t.site tl.val).st = .absent ∧ (t.site tl.val).bypass = true ∧
          Changes s t (.regs :: .sites :: .epochs :: .defects :: .procs :: .meas :: Part.work))) ∧
    (Tab.get false (s.reg (siteKey site)).senses (phaseKey d i.val) = false →
      ∃ t, exec (.senseFail site d i) s = .next t ∧
        (t.reg (siteKey site)).domainCap d = (s.reg (siteKey site)).working d * phaseShare d * 85 / 100 ∧
        Raises s t [(0x4504, 0xFF, [siteKey site, domainCode d, i.val])] ∧ t.defects.length = s.defects.length + 1 ∧
        SameBut [siteKey site] s.reg t.reg ∧ Changes s t (.regs :: .defects :: Part.report))) ∧
  (∀ (s : State) (tl : Phys) (d : Domain) (t0 : Nat), s.power.rampAt = some t0 → s.now ≤ t0 + 2210000 → d ≠ .vio →
    (s.reg tl.val).latched = false → (s.site tl.val).st ≠ .absent → s.procs.reeveLost = false →
    ∃ t, exec (.shortDetect tl d) s = .next t ∧ (t.reg tl.val).latched = true ∧ (t.reg tl.val).latchedAt = s.now ∧
      (t.site tl.val).st = .absent ∧ (t.site tl.val).bypass = true ∧
      (s.rst.phase = .booting → Tab.get none t.cellar.unbuilt (s.site tl.val).logical = none) ∧
      SameBut [tl.val] s.reg t.reg ∧ Changes s t (.regs :: .sites :: .epochs :: .defects :: .procs :: .meas :: Part.work)) ∧
  (∀ (s : State) (tl : Phys) (d : Domain), (s.reg tl.val).latched = true → (s.reg tl.val).retries < 3 →
    (s.reg tl.val).latchedAt + 100000000 ≤ s.now → s.defects.length < 256 →
    (∃ t, exec (.softStartRetry tl d true) s = .next t ∧ (t.site tl.val).st = .retired ∧ (t.site tl.val).bypass = false ∧
      (t.reg tl.val).latched = false ∧ t.cell 0x7021 1 = (s.cell 0x7021 1 + 1) % 2 ^ 32 ∧ SameBut [tl.val] s.site t.site ∧
      SameBut [tl.val] s.reg t.reg ∧ CellsBut [(0x7021, 1)] s t ∧ Changes s t [.regs, .sites, .led]) ∧
    (∃ t, exec (.softStartRetry tl d false) s = .next t ∧ (t.reg tl.val).latched = true ∧
      (t.reg tl.val).retries = (s.reg tl.val).retries + 1 ∧
      (if (s.reg tl.val).retries + 1 < 3 then
        Raises s t [(0x4501, 0xFF, [tl.val, domainCode d, (s.reg tl.val).retries + 1])] ∧ t.defects = s.defects
      else Raises s t [(0x4501, 0xFF, [tl.val, domainCode d, (s.reg tl.val).retries + 1]), (0x4502, 0xFF, [tl.val, domainCode d])] ∧
        t.defects.length = s.defects.length + 1) ∧
      SameBut [tl.val] s.reg t.reg ∧ Changes s t (.regs :: .defects :: Part.report))) ∧
  (∀ (s : State) (tl : Phys) (p : PlotId) (lead : Byte) (c : BitVec 2) (e : Nat),
    e = stewardEndpoint (quadrant tl.val) → (Tab.get [] s.fabric.taken e).any (s.isHint tl.val p.val lead c) = true →
    ∃ t, exec (.hintReceived tl p lead c) s = .next t ∧
      t.fabric = { s.fabric with taken := Tab.upd [] s.fabric.taken e (dropFirst (s.isHint tl.val p.val lead c)) } ∧
      (t.reg tl.val).allPhases = true ∧
      (t.reg tl.val).shed = [] ∧
      (t.reg tl.val).raiseEnd = max (s.reg tl.val).raiseEnd (s.now + lead.toNat * 1000 + 200000) ∧
      (if s.grants tl.val p.val (10 * c.toNat) = true then
        (t.reg tl.val).raise = max (s.reg tl.val).raise (10 * c.toNat) ∧
          t.cell 0x4000 0xA = satAdd 64 (s.cell 0x4000 0xA) 1 ∧ CellsBut [(0x4000, 0xA)] s t
      else (t.reg tl.val).raise = (s.reg tl.val).raise ∧ t.cell 0x4000 0xB = satAdd 64 (s.cell 0x4000 0xB) 1 ∧
        CellsBut [(0x4000, 0xB)] s t) ∧
      SameBut [tl.val] s.reg t.reg ∧ Changes s t [.fabric, .regs, .led]) ∧
  (∀ (s : State) (tl : Phys) (p : PlotId) (lead : Byte) (c : BitVec 2),
    (Tab.get [] s.fabric.taken (stewardEndpoint (quadrant tl.val))).any (s.isHint tl.val p.val lead c) = false →
    ∃ t, exec (.hintReceived tl p lead c) s = .next t ∧ t = s) ∧
  (∀ (s : State) (tl : Phys), (s.reg tl.val).allPhases = true →
    ((s.reg tl.val).raiseEnd ≤ s.now →
      ∃ t, exec (.hintRaiseHoldEnd tl) s = .next t ∧
        t.reg tl.val = { s.reg tl.val with allPhases := false, raise := 0 } ∧ SameBut [tl.val] s.reg t.reg ∧ Changes s t [.regs]) ∧
    (s.now < (s.reg tl.val).raiseEnd → ∃ t, exec (.hintRaiseHoldEnd tl) s = .next t ∧ t = s))

/-- POWER_SAMPLE once the processors run: the four Stewards take the effective cap, the input power is the newest, sample and time are counted, 4000:04 gives the power,
each VCORE domain that was sampled has its record first in its history, and its tile_cut follows R360. engine_cut rises by 10 mV
where the input power is beyond 26,000 W, or above the effective cap for ten samples in a row, or on the mean of 100; it falls
by 5 mV after ten samples below 97 % of it; else it stays. Before that there is no sample. -/
def Obligations.PowerIsSampledAndCut : Prop :=
  (∀ (s : State) (x : PowerIn), s.booted = false → ∃ t, exec (.powerSample x) s = .next t ∧ t = s) ∧
  (∀ (s : State) (x : PowerIn) (above : Nat) (last : List Nat), s.booted = true →
    above = (if s.effectiveCap < x.inputW then s.power.above + 1 else 0) → last = (x.inputW :: s.power.last100).take 100 →
    ∃ t, exec (.powerSample x) s = .next t ∧ t.power.inputW = some x.inputW ∧ t.power.sampleNo = s.power.sampleNo + 1 ∧
      t.power.sampleAt = s.now ∧ t.power.vbus = x.vbus ∧ (∀ q, q < 4 → Tab.get 0 t.power.stewardCap q = s.effectiveCap) ∧
      (t.measAt 0x4000 4).value = toLe 4 (f32Ratio x.inputW 1) ∧
      (t.measAt 0x4000 4).seq = ((s.measAt 0x4000 4).seq + 1) % 2 ^ 32 ∧
      t.power.engineCut = (if 26000 < x.inputW ∨ 10 ≤ above ∨ s.effectiveCap * last.length < last.sum then s.power.engineCut + 10
        else if x.inputW * 100 < 97 * s.effectiveCap ∧ 0 < s.power.engineCut ∧ 10 ≤ s.power.fallFor + 1 then s.power.engineCut - 5
        else s.power.engineCut) ∧
      ((x.vcore.map Prod.fst).Nodup → ∀ e ∈ x.vcore,
        t.newest e.1.val = sampleWord e.2 ((s.reg e.1.val).senseBad .vcore) (s.site e.1.val).heldSeen (s.reg e.1.val).fallback
          (decide (0 < (s.reg e.1.val).tileCut + s.power.engineCut)) (s.power.sampleNo + 1) ∧
        (t.reg e.1.val).tileCut = ((s.reg e.1.val).cut e.2.current.toNat).tileCut) ∧
      Changes s t (.power :: .regs :: .sites :: .plots :: .meas :: .led :: Part.report))

/-- Power states. PSTATE_ENTRY takes an idle plot to the deepest state that its tolerance and its idle time allow: in P2 its
looms lose all but the Bench, in P3 the resident Bench is drained into the plot's save extents and the Bench unpowered; E-4002 at
most once a second. PSTATE_EXIT brings it back to P0, from P3 with what the save extents hold. P4_ENTRY where R348 allows it, and
P4_EXIT on a trigger, say so in 4000:08 and E-4001; with no trigger P4 stays. LATENCY_TOLERANCE stores the tolerance, a trigger where the state is then too deep; CAP below the sum of
the shares is refused. -/
def Obligations.PowerStatesAndCap : Prop :=
  (∀ (s : State) (p : PlotId) (d : Nat), s.plotExists p.val = true → s.plotIdle p.val = true → (s.plot p.val).wake = false →
    d = ([3, 2, 1].find? (fun d => decide (d ≤ s.deepest p.val) && decide ((s.plot p.val).busyAt + idleBefore d ≤ s.now))).getD 0 →
    s.cell (0x4200 + p.val) 2 < d →
    ∃ t, exec (.pstateEntry p) s = .next t ∧ t.cell (0x4200 + p.val) 2 = d ∧
      (d = 2 → ∀ n ∈ (s.plot p.val).looms, (t.loom n).fg = {} ∧ (t.loom n).accs = [] ∧ (t.loom n).bytes = (s.loom n).bytes) ∧
      (d = 3 → ∀ n ∈ (s.plot p.val).looms, (t.loom n).bench = [] ∧ (t.loom n).fg = {} ∧
        ((s.plot p.val).image ≠ none → (s.plot p.val).saveExt = true → (t.loom n).saved = true)) ∧
      t.cellar = (if d = 3 then (s.savePlot p.val).cellar else s.cellar) ∧
      (if Tab.get 0 s.ev.lastRaise (0x4002 * 2 ^ 40 + p.val) = 0 ∨
          Tab.get 0 s.ev.lastRaise (0x4002 * 2 ^ 40 + p.val) - 1 + second ≤ s.now then Raises s t [(0x4002, p.val, [p.val, d])]
        else Raises s t []) ∧
      SameBut (s.plot p.val).looms s.loom t.loom ∧ CellsBut [(0x4200 + p.val, 2), (0x6010, 4)] s t ∧
      Changes s t (.led :: .looms :: .cellar :: .meas :: Part.report)) ∧
  (∀ (s : State) (p : PlotId), s.cell (0x4200 + p.val) 2 ≠ 0 → s.power.p4 = false →
    ((s.plot p.val).wake = true ∨ s.plotIdle p.val = false ∨ s.deepest p.val < s.cell (0x4200 + p.val) 2) →
    ∃ t, exec (.pstateExit p) s = .next t ∧ t.cell (0x4200 + p.val) 2 = 0 ∧ (t.plot p.val).wake = false ∧
      ((s.cell (0x4200 + p.val) 2 ≠ 3 ∨ (s.plot p.val).image = none) → t.looms = s.looms ∧ SameBut [p.val] s.plot t.plot ∧
        CellsBut [(0x4200 + p.val, 2)] s t ∧ Changes s t (.led :: .plots :: Part.report)) ∧
      (∀ (im : Image) (rs : Nat → List (Nat × Nat)), s.cell (0x4200 + p.val) 2 = 3 → (s.plot p.val).image = some im →
        (∀ n, rs n = saveRanges (s.saveOn p.val (n / 20)) (s.savePlace p.val n im) (residentBytes im)) →
        (∀ n ∈ (s.plot p.val).looms, (s.loom n).saved = true → s.saveLost (rs n) = false) →
        (∀ n ∈ (s.plot p.val).looms, t.loom n = (if (s.loom n).saved = true then
            { (s.loom n).refill (residentRanges im) (s.saveRead (rs n)) with saved := false } else s.loom n)) ∧
        SameBut (s.plot p.val).looms s.loom t.loom ∧ SameBut [p.val] s.plot t.plot ∧ CellsBut [(0x4200 + p.val, 2)] s t ∧
        Changes s t (.led :: .looms :: .plots :: Part.report)) ∧
      Changes s t Part.work) ∧
  (∀ s : State,
    (s.power.p4 = false → s.p4Allowed = true → (∀ p ∈ s.plotsNow, (s.plot p).wake = false) →
      ∃ t, exec .p4Entry s = .next t ∧ t.power = { s.power with p4 := true, p4wake := false } ∧ t.cell 0x4000 8 = 4 ∧
        Raises s t [(0x4001, 0xFF, [4])] ∧ CellsBut [(0x4000, 8)] s t ∧ Changes s t (.power :: .led :: Part.report)) ∧
    (s.power.p4 = true → (s.power.p4wake = true ∨ s.p4Allowed = false ∨ ∃ p ∈ s.plotsNow, (s.plot p).wake = true ∨ s.plotIdle p = false) →
      ∃ t, exec .p4Exit s = .next t ∧ t.power = { s.power with p4 := false, p4wake := false, rampAt := some s.now } ∧
        t.cell 0x4000 8 = 0 ∧ Raises s t [(0x4001, 0xFF, [0])] ∧ CellsBut [(0x4000, 8)] s t ∧
        Changes s t (.power :: .led :: Part.report)) ∧
    (s.power.p4wake = false → s.p4Allowed = true → (∀ p ∈ s.plotsNow, (s.plot p).wake = false ∧ s.plotIdle p = true) →
      ∃ t, exec .p4Exit s = .next t ∧ t = s)) ∧
  (∀ (s : State) (f : Sender) (p : PlotId) (body : List Byte), WriteArrives s f (0x4200 + p.val) 1 body →
    ∃ t, exec (.latencyTolerance f p body) s = .next t ∧ Answers t f .done ∧ t.cell (0x4200 + p.val) 1 = ofLe body ∧
      (t.deepest p.val < t.cell (0x4200 + p.val) 2 → (t.plot p.val).wake = true) ∧
      (t.cell (0x4200 + p.val) 2 ≤ t.deepest p.val → t.plots = s.plots) ∧
      CellsBut [(0x4200 + p.val, 1)] s t ∧ Changes s t [.led, .plots, .power, .out, .mailbox, .sessions]) ∧
  (∀ (s : State) (f : Sender) (body : List Byte), WriteArrives s f 0x4000 1 body →
    (ofLe body < s.shareSum → ∃ t, exec (.cap f body) s = .next t ∧ Answers t f .noSpace ∧ Changes s t Part.reply) ∧
    (s.shareSum ≤ ofLe body →
      ∃ t, exec (.cap f body) s = .next t ∧ Answers t f .done ∧ t.cell 0x4000 1 = ofLe body ∧ CellsBut [(0x4000, 1)] s t ∧
        Changes s t (.led :: Part.reply)))

/-- Cooling. A tray write that leaves SEQ as it was is no reading. A whole reading within R354's bounds, with cooling normal,
keeps it normal; one beyond them makes it degraded, E-4401, and the limit waits for COOL_GRACE where it is below the effective
cap. A reading with no inlet or no flow is not usable: it makes normal cooling degraded once a usable one has come, and else only
its outlet is kept. No usable reading for 1 s, or none at all for 10 s after the Bus stage, degrades it too. COOL_GRACE over, the limit takes
the value of R354, E-4402. Ten seconds without a condition make it normal, E-4403. A site above 100 °C for 1 ms starts the
orderly warm shutdown of an engine in service; else nothing happens. -/
def Obligations.CoolingDegradesAndRecovers : Prop :=
  (∀ (s : State) (inlet outlet flow : U16) (seq : Byte),
    (seq.toNat = s.power.traySeq →
      ∃ t, exec (.coolReading inlet outlet flow seq) s = .next t ∧
        t.power = { s.power with inlet := inlet.toNat, outlet := outlet.toNat, flow := flow.toNat } ∧ Changes s t [.power]) ∧
    (seq.toNat ≠ s.power.traySeq → inlet.toNat ≠ 0x7FFF → outlet.toNat ≠ 0x7FFF → flow.toNat ≠ 0xFFFF → s.power.degraded = false →
      (int16 inlet.toNat ≤ 640 → 3000 ≤ flow.toNat →
        ∃ t, exec (.coolReading inlet outlet flow seq) s = .next t ∧
          t.power.usable = some (s.now, int16 inlet.toNat, flow.toNat) ∧ t.power.degraded = false ∧ t.cell 0x4050 4 = 0 ∧
          (t.measAt 0x4050 1).value = toLe 4 (degF32 (int16 inlet.toNat)) ∧
          (t.measAt 0x4050 2).value = toLe 4 (degF32 (int16 outlet.toNat)) ∧
          (t.measAt 0x4050 3).value = toLe 4 (f32Ratio flow.toNat 100) ∧
          CellsBut [(0x4050, 4)] s t ∧ Changes s t [.power, .meas, .led]) ∧
      ((640 < int16 inlet.toNat ∨ flow.toNat < 3000) → s.cell 0x4050 6 ≠ 0 →
        ∃ t, exec (.coolReading inlet outlet flow seq) s = .next t ∧ t.power.degraded = true ∧ t.power.graceFrom = some s.now ∧
          t.cell 0x4050 4 = 1 ∧ Raises s t [(0x4401, 0xFF, [inlet.toNat, outlet.toNat, flow.toNat])] ∧
          CellsBut [(0x4050, 4), (0x4050, 5)] s t ∧ Changes s t (.power :: .meas :: .led :: Part.report))) ∧
    (seq.toNat ≠ s.power.traySeq → (inlet.toNat = 0x7FFF ∨ flow.toNat = 0xFFFF) →
      (s.power.usable = none →
        ∃ t, exec (.coolReading inlet outlet flow seq) s = .next t ∧
          t.power = { s.power with inlet := inlet.toNat, outlet := outlet.toNat, flow := flow.toNat, traySeq := seq.toNat } ∧
          Changes s t [.power, .meas]) ∧
      (s.power.usable ≠ none → s.power.degraded = false → s.cell 0x4050 6 ≠ 0 →
        ∃ t, exec (.coolReading inlet outlet flow seq) s = .next t ∧ t.power.degraded = true ∧ t.power.badAt = s.now ∧
          t.power.usable = s.power.usable ∧ Raises s t [(0x4401, 0xFF, [inlet.toNat, outlet.toNat, flow.toNat])] ∧
          CellsBut [(0x4050, 4), (0x4050, 5)] s t ∧ Changes s t (.power :: .meas :: .led :: Part.report)))) ∧
  (∀ (s : State), s.power.degraded = false →
    (∀ t0 a b, s.power.usable = some (t0, a, b) → t0 + second ≤ s.now → s.cell 0x4050 6 ≠ 0 →
      ∃ t, exec .coolReadingTimeout s = .next t ∧ t.power.degraded = true ∧
        Raises s t [(0x4401, 0xFF, [s.power.inlet, s.power.outlet, s.power.flow])] ∧
        CellsBut [(0x4050, 4), (0x4050, 5)] s t ∧ Changes s t (.power :: .led :: Part.report)) ∧
    (∀ t0, s.rst.busAt = some t0 → s.power.usable = none → t0 + 10 * second ≤ s.now →
      ∃ t, exec .coolNoDataTimeout s = .next t ∧ t.power.degraded = true ∧ t.power.limited = true ∧
        Raises s t [(0x4401, 0xFF, [s.power.inlet, s.power.outlet, s.power.flow])] ∧ Changes s t (.power :: Part.report))) ∧
  (∀ (s : State) (t0 : Nat), s.power.degraded = true → s.power.limited = false → s.power.graceFrom = some t0 →
    s.coolFormula < s.effectiveCap →
    (t0 + s.cell 0x4050 6 * 1000000 ≤ s.now →
      ∃ t, exec .coolGraceExpire s = .next t ∧ t.power.limited = true ∧
        t.cell 0x4050 5 = (if s.power.hotCut = true then min s.coolFormula (s.cell 0x4050 5) else s.coolFormula) ∧
        Raises s t [(0x4402, 0xFF, [s.coolFormula])] ∧ CellsBut [(0x4050, 5)] s t ∧ Changes s t (.power :: .led :: Part.report)) ∧
    (s.now < t0 + s.cell 0x4050 6 * 1000000 → ∃ t, exec .coolGraceExpire s = .next t ∧ t = s)) ∧
  (∀ (s : State) (t0 : Nat) (a : Int) (b : Nat), s.power.degraded = true → s.power.usable = some (t0, a, b) →
    s.now < t0 + second → a ≤ 640 → 3000 ≤ b → s.power.badAt + 10 * second ≤ s.now →
    ∃ t, exec .coolNormal s = .next t ∧ t.power.degraded = false ∧ t.cell 0x4050 4 = 0 ∧ Raises s t [(0x4403, 0xFF, [])] ∧
      CellsBut [(0x4050, 4)] s t ∧ Changes s t (.power :: .led :: Part.report)) ∧
  (∀ (s : State) (tl : Phys) (tj : U16), 1600 < int16 tj.toNat → s.power.shutdown = 0 → s.rst.ready = true →
    ∃ t, exec (.overtemp tl tj) s = .next t ∧ t.power = { s.power with shutdown := 1 } ∧
      Raises s t [(0x4305, 0xFF, [tl.val, tj.toNat]), (0x4602, 0xFF, [2])] ∧ Changes s t (.power :: Part.work)) ∧
  (∀ (s : State) (tl : Phys) (tj : U16), (int16 tj.toNat ≤ 1600 ∨ s.power.shutdown ≠ 0 ∨ s.rst.ready = false) →
    ∃ t, exec (.overtemp tl tj) s = .next t ∧ t = s)

/-- Low input. LOW_INPUT_DETECT sets the cap to 85 % of the last input power, E-4601; it does nothing where no condition of R362
holds, where a cap that does not rise is in force, or before the processors run. LOW_INPUT_RELEASE lets the cap rise, and ends it
with E-4603 where it binds no more; it does nothing while a condition holds, with no cap, or while it rises. VBUS below 10.2 V for
1 ms starts the orderly warm shutdown of an engine in service, E-4602; out of service it is only noted, and a higher VBUS does
nothing. WARM_SHUTDOWN saves the resident Bench of every plot with save extents, completes every accepted Cellar write, stops
every loom and switches VCORE off; with no shutdown begun it does nothing. -/
def Obligations.LowInputAndShutdown : Prop :=
  (∀ (s : State) (v : Nat) (duty lim : Bool), (v < 114000 ∨ duty = true ∨ lim = true) →
    (s.power.lowCap = none ∨ s.power.rising = true) → s.booted = true →
    ∃ t, exec (.lowInputDetect v duty lim) s = .next t ∧
      t.power = { s.power with lowCap := some (s.power.inputW.getD s.effectiveCap * 85 / 100), rising := false, dutyFree := 0, vbus := v } ∧
      t.effectiveCap ≤ s.power.inputW.getD s.effectiveCap * 85 / 100 ∧
      Raises s t [(0x4601, 0xFF, [v, s.power.inputW.getD 0])] ∧ Changes s t (.power :: Part.report)) ∧
  (∀ (s : State) (v : Nat) (duty lim : Bool),
    ((114000 ≤ v ∧ duty = false ∧ lim = false) ∨ (s.power.lowCap ≠ none ∧ s.power.rising = false) ∨ s.booted = false) →
    ∃ t, exec (.lowInputDetect v duty lim) s = .next t ∧ t = s) ∧
  (∀ (s : State) (v l : Nat), 114000 ≤ v → s.power.lowCap = some l → s.power.rising = false →
    (l < min (s.cell 0x4000 1) (s.cell 0x4050 5) →
      ∃ t, exec (.lowInputRelease v false) s = .next t ∧ t.power = { s.power with rising := true, dutyFree := 0, vbus := v } ∧
        Changes s t [.power]) ∧
    (min (s.cell 0x4000 1) (s.cell 0x4050 5) ≤ l →
      ∃ t, exec (.lowInputRelease v false) s = .next t ∧
        t.power = { s.power with lowCap := none, rising := false, dutyFree := 0, vbus := v } ∧ Raises s t [(0x4603, 0xFF, [v])] ∧
        Changes s t (.power :: Part.report))) ∧
  (∀ (s : State) (v : Nat) (duty : Bool), (v < 114000 ∨ duty = true ∨ s.power.lowCap = none ∨ s.power.rising = true) →
    ∃ t, exec (.lowInputRelease v duty) s = .next t ∧ t = s) ∧
  (∀ (s : State) (v : Nat),
    (v < 102000 → s.power.shutdown = 0 → s.rst.ready = true →
      ∃ t, exec (.vbusLowShutdown v) s = .next t ∧ t.power = { s.power with shutdown := 1, vbus := v } ∧
        Raises s t [(0x4602, 0xFF, [1])] ∧ (∀ id x, s.stepAt id = some x → x.plot < 16 → s.plotExists x.plot = true →
          ∃ y, t.stepAt id = some y ∧ y.st = .discarded) ∧ Changes s t (.power :: Part.work)) ∧
    (v < 102000 → (s.power.shutdown ≠ 0 ∨ s.rst.ready = false) →
      ∃ t, exec (.vbusLowShutdown v) s = .next t ∧ t = { s with power := { s.power with vbus := v } }) ∧
    (102000 ≤ v → ∃ t, exec (.vbusLowShutdown v) s = .next t ∧ t = s)) ∧
  (∀ s : State, s.power.shutdown = 1 →
    ∃ t, exec .warmShutdown s = .next t ∧ t.power = { s.power with shutdown := 2, vcoreOff := true } ∧
      t.cellar = ((s.plotsNow.foldl (fun (a : State) p => a.savePlot p) s).finishWrites).cellar ∧ t.cellar.writes = [] ∧
      (∀ n, (t.loom n).bench = [] ∧ (t.loom n).step = none ∧ (t.loom n).fg = {}) ∧
      (∀ p ∈ s.plotsNow, (s.plot p).image ≠ none → (s.plot p).saveExt = true → ∀ n ∈ (s.plot p).looms, (t.loom n).saved = true) ∧
      CellsBut [(0x6010, 4)] s t ∧ Changes s t [.power, .looms, .cellar, .led, .meas]) ∧
  (∀ s : State, s.power.shutdown ≠ 1 → ∃ t, exec .warmShutdown s = .next t ∧ t = s)

/-! ### The Ledger -/

/-- READ and BLOCK_READ that arrive. One that fails check 3 or 4 of R371 answers that status. A measurement entry that is not
ready, or with NEWER has nothing newer than ARG, answers NOT_READY; a value larger than the path's body limit NO_SPACE. Any other
answers DONE with the entry's bytes, its type, its sequence number and GEN; BLOCK_READ of a BLOB gives the bytes from the offset,
as many as were asked for and fit; another entry, a body that is not one U32 of at least 1, or an offset at or beyond the length is
BAD_VALUE. No entry changes by a read; READ of 8020:02 is the command REPORT, and does nothing here. MEASUREMENT_REFRESH and
EYE_REFRESH: the entry takes the new value and the next sequence number together; the phase error takes none without a reference.
Lanes that are not in use read zero; those in use below a minimum are noted, and forgotten after 60 s at or above both. -/
def Obligations.ReadsReturnTheEntry : Prop :=
  (∀ (s : State) (f : Sender) (newer : Bool) (arg : U32), ∃ t, exec (.read f 0x8020 2 newer arg) s = .next t ∧ t = s) ∧
  (∀ (s : State) (f : Sender) (idx : U16) (sub : Byte) (newer : Bool) (arg : U32) (seq gen : Nat), ¬(idx = 0x8020 ∧ sub = 2) →
    Arrives s f { cmd := .read, idx := idx.toNat, sub := sub.toNat, flags := if newer then 1 else 0, arg := arg.toNat } →
    (∀ st, s.readCheck f.who .read idx.toNat sub.toNat = .inl st →
      ∃ t, exec (.read f idx sub newer arg) s = .next t ∧ Answers t f st ∧ Changes s t Part.reply) ∧
    (∀ r, s.readCheck f.who .read idx.toNat sub.toNat = .inr r → r.meas = true →
      ((s.measOf idx.toNat sub.toNat).ready = false ∨ (s.measOf idx.toNat sub.toNat).running = true ∨
        (newer = true ∧ (s.measOf idx.toNat sub.toNat).seq = arg.toNat)) →
      ∃ t, exec (.read f idx sub newer arg) s = .next t ∧ Answers t f .notReady ∧ Changes s t Part.reply) ∧
    (∀ r, s.readCheck f.who .read idx.toNat sub.toNat = .inr r →
      (r.meas = true → (s.measOf idx.toNat sub.toNat).ready = true ∧ (s.measOf idx.toNat sub.toNat).running = false ∧
        (newer = true → (s.measOf idx.toNat sub.toNat).seq ≠ arg.toNat)) →
      bodyLimit f.who < ((s.heard f).fetch r idx.toNat sub.toNat).1.length →
      ∃ t rp rest, exec (.read f idx sub newer arg) s = .next t ∧ Answers t f .noSpace ∧
        t.out = .reply f.who f.tag.toNat rp :: rest ∧ rp.body = [] ∧ Changes s t (.free :: Part.reply)) ∧
    (∀ r, s.readCheck f.who .read idx.toNat sub.toNat = .inr r →
      (r.meas = true → (s.measOf idx.toNat sub.toNat).ready = true ∧ (s.measOf idx.toNat sub.toNat).running = false ∧
        (newer = true → (s.measOf idx.toNat sub.toNat).seq ≠ arg.toNat)) →
      ((s.heard f).fetch r idx.toNat sub.toNat).1.length ≤ bodyLimit f.who →
      seq = (if r.meas then (s.measOf idx.toNat sub.toNat).seq else 0) →
      gen = (if r.host = .rwp then s.gen idx.toNat sub.toNat else 0) →
      ∃ t rest, exec (.read f idx sub newer arg) s = .next t ∧ Answers t f .done ∧
        t.out = .reply f.who f.tag.toNat ⟨.done, seq, gen, r.ty.code, ((s.heard f).fetch r idx.toNat sub.toNat).1⟩ :: rest ∧
        Changes s t (.free :: Part.reply))) ∧
  (∀ (s : State) (f : Sender) (idx : U16) (sub : Byte) (off : U32) (body : List Byte),
    Arrives s f { cmd := .blockRead, idx := idx.toNat, sub := sub.toNat, arg := off.toNat, body } →
    (∀ st, s.readCheck f.who .blockRead idx.toNat sub.toNat = .inl st →
      ∃ t, exec (.blockRead f idx sub off body) s = .next t ∧ Answers t f st ∧ Changes s t Part.reply) ∧
    (∀ r, s.readCheck f.who .blockRead idx.toNat sub.toNat = .inr r →
      (r.ty ≠ .blob ∨ body.length ≠ 4 ∨ ofLe body = 0 ∨ (0 < r.len ∧ r.len ≤ off.toNat)) →
      ∃ t, exec (.blockRead f idx sub off body) s = .next t ∧ Answers t f .badValue ∧ Changes s t Part.reply) ∧
    (∀ r, s.readCheck f.who .blockRead idx.toNat sub.toNat = .inr r → r.ty = .blob → body.length = 4 → ofLe body ≠ 0 →
      (r.len = 0 ∨ off.toNat < r.len) → r.meas = true →
      ((s.measOf idx.toNat sub.toNat).ready = false ∨ (s.measOf idx.toNat sub.toNat).running = true) →
      ∃ t, exec (.blockRead f idx sub off body) s = .next t ∧ Answers t f .notReady ∧ Changes s t Part.reply)) ∧
  (∀ (s : State) (f : Sender) (idx : U16) (sub : Byte) (off : U32) (body : List Byte) (r : Row),
    Arrives s f { cmd := .blockRead, idx := idx.toNat, sub := sub.toNat, arg := off.toNat, body } →
    s.readCheck f.who .blockRead idx.toNat sub.toNat = .inr r → r.ty = .blob → body.length = 4 → ofLe body ≠ 0 →
    (r.len = 0 ∨ off.toNat < r.len) →
    (r.meas = true → (s.measOf idx.toNat sub.toNat).ready = true ∧ (s.measOf idx.toNat sub.toNat).running = false) →
    (off.toNat < ((s.heard f).fetch r idx.toNat sub.toNat).1.length →
      ∃ t rp rest, exec (.blockRead f idx sub off body) s = .next t ∧ Answers t f .done ∧
        t.out = .reply f.who f.tag.toNat rp :: rest ∧
        rp.seq = (if r.meas then (s.measOf idx.toNat sub.toNat).seq else 0) ∧
        rp.body = (((s.heard f).fetch r idx.toNat sub.toNat).1.drop off.toNat).take (min (ofLe body) (bodyLimit f.who)) ∧
        Changes s t (.free :: Part.reply)) ∧
    (((s.heard f).fetch r idx.toNat sub.toNat).1.length ≤ off.toNat →
      ∃ t, exec (.blockRead f idx sub off body) s = .next t ∧ Answers t f .badValue ∧ Changes s t (.free :: Part.reply))) ∧
  (∀ (s : State) (v : List Byte) (p : PlotId), s.plotExists p.val = true →
    (∃ t, exec (.measurementRefresh 0xA000 4 v) s = .next t ∧
      t.measAt 0xA000 4 = ⟨((s.measAt 0xA000 4).seq + 1) % 2 ^ 32, toLe 4 s.ob.length, true, false⟩ ∧ Changes s t [.meas]) ∧
    (∀ x, x = (s.plot p.val).recent s.now →
      ∃ t, exec (.measurementRefresh (BitVec.ofNat 16 (0xA100 + p.val)) 8 v) s = .next t ∧
        t.measAt (0xA100 + p.val) 8 = ⟨((s.measAt (0xA100 + p.val) 8).seq + 1) % 2 ^ 32,
          toLe 4 (f32Ratio (x.map (fun e => e.2.2)).sum (x.map (fun e => e.2.1)).sum), true, false⟩ ∧ Changes s t [.meas]) ∧
    (∃ t, exec (.measurementRefresh (BitVec.ofNat 16 (0xA100 + p.val)) 9 v) s = .next t ∧
      t.measAt (0xA100 + p.val) 9 = ⟨((s.measAt (0xA100 + p.val) 9).seq + 1) % 2 ^ 32,
        wordsLe 4 (Tab.getList 0 (s.plot p.val).hist 0 32), true, false⟩ ∧ Changes s t [.meas]) ∧
    (∃ t, exec (.measurementRefresh (BitVec.ofNat 16 (0xA100 + p.val)) 10 v) s = .next t ∧
      t.measAt (0xA100 + p.val) 10 =
        ⟨((s.measAt (0xA100 + p.val) 10).seq + 1) % 2 ^ 32, wordsLe 4 (s.stateCounts p.val), true, false⟩ ∧ Changes s t [.meas]) ∧
    (v.length = 4 → (s.bell.st = .acquiring ∨ s.bell.st = .locked) →
      ∃ t, exec (.measurementRefresh 0x5800 5 v) s = .next t ∧
        t.measAt 0x5800 5 = ⟨((s.measAt 0x5800 5).seq + 1) % 2 ^ 32, v, true, false⟩ ∧ Changes s t [.meas]) ∧
    ((v.length ≠ 4 ∨ (s.bell.st ≠ .acquiring ∧ s.bell.st ≠ .locked)) →
      ∃ t, exec (.measurementRefresh 0x5800 5 v) s = .next t ∧ t = s) ∧
    (∀ x, s.worstResidual = some x →
      ∃ t, exec (.measurementRefresh 0x9440 1 v) s = .next t ∧
        t.measAt 0x9440 1 = ⟨((s.measAt 0x9440 1).seq + 1) % 2 ^ 32, toLe 4 x.1, true, false⟩ ∧ t.cell 0x9440 2 = x.2 ∧
        CellsBut [(0x9440, 2)] s t ∧ Changes s t [.meas, .led]) ∧
    (s.worstResidual = none → ∃ t, exec (.measurementRefresh 0x9440 1 v) s = .next t ∧ t = s)) ∧
  (∀ (s : State) (idx : U16) (sub : Byte) (v : List Byte), ¬(idx = 0xA000 ∧ sub = 4) →
    ¬(0xA100 ≤ idx.toNat ∧ idx.toNat < 0xA110 ∧ s.plotExists (idx.toNat - 0xA100) = true ∧ 8 ≤ sub.toNat ∧ sub.toNat ≤ 10) →
    ¬(idx = 0x5800 ∧ sub = 5) → ¬(idx = 0x9440 ∧ sub = 1) →
    ∃ t, exec (.measurementRefresh idx sub v) s = .next t ∧ t = s) ∧
  (∀ (s : State) (kind : Fin 3) (port : Fin 36) (lanes : List (U16 × U16)), port.val < eyePorts kind.val →
    lanes.length = eyeLanes kind.val →
    ∃ t, exec (.eyeRefresh kind port lanes) s = .next t ∧
      t.measAt (eyeEntry kind.val) (port.val + 1) = ⟨((s.measAt (eyeEntry kind.val) (port.val + 1)).seq + 1) % 2 ^ 32,
        ((List.range (eyeLanes kind.val)).flatMap (fun i => if s.laneInUse kind.val port.val i = true then
            toLe 2 (lanes.getD i (0, 0)).1.toNat ++ toLe 2 (lanes.getD i (0, 0)).2.toNat else [0, 0, 0, 0])), true, false⟩ ∧
      (∀ i k e, i < eyeLanes kind.val → k = kind.val * 65536 + port.val * 256 + i → lanes.getD i (0, 0) = e →
        (s.laneInUse kind.val port.val i = false → t.eyes.find? (fun x => x.1 == k) = s.eyes.find? (fun x => x.1 == k)) ∧
        (s.laneInUse kind.val port.val i = true → (e.1.toNat < s.cell 0x9430 2 ∨ e.2.toNat < s.cell 0x9430 1) →
          ∃ x ∈ t.eyes, x.1 = k) ∧
        (∀ t0, s.laneInUse kind.val port.val i = true → s.cell 0x9430 2 ≤ e.1.toNat → s.cell 0x9430 1 ≤ e.2.toNat →
          s.eyes.find? (fun x => x.1 == k) = some (k, some t0) → t0 + 60 * second ≤ s.now → ∀ x ∈ t.eyes, x.1 ≠ k)) ∧
      Changes s t (.meas :: .eyes :: Part.report)) ∧
  (∀ (s : State) (kind : Fin 3) (port : Fin 36) (lanes : List (U16 × U16)),
    (eyePorts kind.val ≤ port.val ∨ lanes.length ≠ eyeLanes kind.val) →
    ∃ t, exec (.eyeRefresh kind port lanes) s = .next t ∧ t = s)

/-- Writes that arrive. The checks of R371 are made in order, and the first that fails gives the status: an index of the
engine's own, DENIED; no such entry, BAD_INDEX; the class or the rights, DENIED; a key that is not held, LOCKED; the body,
BAD_VALUE; nothing changes. A WRITE that passes them is applied whole and answers DONE. A WRITE_PERSIST that passes burns one
more record and raises E-7001, unless the value is the present one, or four are spent, E-7002. PINNED_LEVEL is refused while a
plot exists. A write that the table gives a command of its own does nothing as WRITE or WRITE_PERSIST. -/
def Obligations.WritesAreCheckedThenApplied : Prop :=
  (∀ (s : State) (f : Sender) (idx : U16) (sub : Byte) (body : List Byte),
    (ownRow idx.toNat sub.toNat body = true → ∃ t, exec (.write f idx sub body) s = .next t ∧ t = s) ∧
    (idx = 0x1000 → sub = 0x12 → ∃ t, exec (.writePersist f idx sub body) s = .next t ∧ t = s)) ∧
  (∀ (s : State) (f : Sender) (idx : U16) (sub : Byte) (body : List Byte), ownRow idx.toNat sub.toNat body = false →
    Arrives s f (writeReq idx.toNat sub.toNat body) →
    (∀ st, ((0xF000 ≤ idx.toNat ∧ st = .denied) ∨
        (idx.toNat < 0xF000 ∧ entry idx.toNat sub.toNat = none ∧ st = .badIndex) ∨
        (∃ r, idx.toNat < 0xF000 ∧ entry idx.toNat sub.toNat = some r ∧
          ((s.classOk f.who .write r idx.toNat = false ∧ st = .denied) ∨
          (s.classOk f.who .write r idx.toNat = true ∧
            (s.rightsOk f.who r idx.toNat sub.toNat = false ∨ s.ownerRights f.who idx.toNat sub.toNat body = false) ∧ st = .denied) ∨
          (s.classOk f.who .write r idx.toNat = true ∧ s.rightsOk f.who r idx.toNat sub.toNat = true ∧
            s.ownerRights f.who idx.toNat sub.toNat body = true ∧ s.keysOk f.who r = false ∧ st = .locked) ∨
          (s.classOk f.who .write r idx.toNat = true ∧ s.rightsOk f.who r idx.toNat sub.toNat = true ∧
            s.ownerRights f.who idx.toNat sub.toNat body = true ∧ s.keysOk f.who r = true ∧
            bodyOk s.factory.level s.slotRunning.svn r idx.toNat sub.toNat body = false ∧ st = .badValue)))) →
      ∃ t, exec (.write f idx sub body) s = .next t ∧ Answers t f st ∧ Changes s t Part.reply) ∧
    (∀ r, s.writeCheck f.who .write idx.toNat sub.toNat body = none → entry idx.toNat sub.toNat = some r →
      ∃ t, exec (.write f idx sub body) s = .next t ∧ Answers t f .done ∧
        (r.ty = .blob → t.blobAt idx.toNat sub.toNat = body ∧ t.led = s.led) ∧
        (r.ty ≠ .blob → t.cell idx.toNat sub.toNat = ofLe body ∧ t.blob = s.blob) ∧
        CellsBut [(idx.toNat, sub.toNat)] s t ∧
        (∀ i j, j < 256 → (i, j) ≠ (idx.toNat, sub.toNat) → t.blobAt i j = s.blobAt i j) ∧
        Changes s t (.led :: .blob :: Part.reply))) ∧
  (∀ (s : State) (f : Sender) (idx : U16) (sub : Byte) (body : List Byte) (c : Instr) (recs : List GenRec),
    Arrives s f { cmd := .persist, idx := idx.toNat, sub := sub.toNat, body } →
    ((¬(idx = 0x1000 ∧ sub = 0x12) ∧ c = .writePersist f idx sub body) ∨ (idx = 0x1000 ∧ sub = 0x12 ∧ c = .pinnedLevel f body)) →
    recs = Tab.get [] s.otp (ek idx.toNat sub.toNat) →
    (∀ st, s.writeCheck f.who .persist idx.toNat sub.toNat body = some st →
      ∃ t, exec c s = .next t ∧ Answers t f st ∧ Changes s t Part.reply) ∧
    (s.writeCheck f.who .persist idx.toNat sub.toNat body = none → idx = 0x1000 → sub = 0x12 → s.plotsNow ≠ [] →
      ∃ t, exec c s = .next t ∧ Answers t f .busy ∧ Changes s t Part.reply) ∧
    (s.writeCheck f.who .persist idx.toNat sub.toNat body = none → (idx = 0x1000 ∧ sub = 0x12 → s.plotsNow = []) →
      (s.persistent idx.toNat sub.toNat = body → ∃ t, exec c s = .next t ∧ Answers t f .done ∧ Changes s t Part.reply) ∧
      (s.persistent idx.toNat sub.toNat ≠ body → 4 ≤ recs.length →
        ∃ t, exec c s = .next t ∧ Answers t f .otpExhausted ∧ Raises s t [(0x7002, 0xFF, [idx.toNat, sub.toNat])] ∧
          Changes s t (.mailbox :: Part.report)) ∧
      (s.persistent idx.toNat sub.toNat ≠ body → recs.length < 4 →
        ∃ t, exec c s = .next t ∧ Answers t f .done ∧
          Tab.get [] t.otp (ek idx.toNat sub.toNat) = recs ++ [⟨body, true⟩] ∧ t.persistent idx.toNat sub.toNat = body ∧
          (∀ k, k ≠ ek idx.toNat sub.toNat → (Tab.get [] t.otp k : List GenRec) = Tab.get [] s.otp k) ∧
          Raises s t [(0x7001, 0xFF, [idx.toNat, sub.toNat, recs.length + 1])] ∧ Changes s t (.otp :: .mailbox :: Part.report))))

/-- SUBSCRIBE replaces the requester's subscription and discards what it had still to send. CLOSE_SESSION ends the session it
comes on, SESSION_IDLE_EXPIRE one that was silent for the limit: it exists no more, its keys are free, E-2302 names it and the
cause. REQUEST_REPEAT sends the kept response again and applies nothing; a counter that does not rise drops the frame. EVENT_IRQ
raises the vector that was put off, once 100 µs have passed. EVENT_FRAME sends up to 32 records in order. -/
def Obligations.SubscriptionsSessionsEvents : Prop :=
  (∀ (s : State) (f : Sender) (arg : U32) (body : List Byte), Arrives s f { cmd := .subscribe, arg := arg.toNat, body } →
    plainRequester f.who = true → body.length = 8 →
    (bits (ofLe body) 63 33 ≠ 0 → ∃ t, exec (.subscribe f arg body) s = .next t ∧ Answers t f .badValue ∧ Changes s t Part.reply) ∧
    (∀ fn, f.who = .host fn → bits (ofLe body) 63 33 = 0 →
      ∃ t, exec (.subscribe f arg body) s = .next t ∧ Answers t f .done ∧
        t.ev.sub fn.port = { subscription (ofLe body) (arg.toNat % 2048) with lastIrq := (s.ev.sub fn.port).lastIrq } ∧
        t.ev.sub fn.port.other = s.ev.sub fn.port.other ∧ t.ev.log = s.ev.log ∧ t.ev.seq = s.ev.seq ∧
        Changes s t (.ev :: Part.reply)) ∧
    (∀ n x, f.who = .mgmt n → s.session n.toNat = some x → bits (ofLe body) 63 33 = 0 →
      ∃ t y, exec (.subscribe f arg body) s = .next t ∧ Answers t f .done ∧ t.session n.toNat = some y ∧
        y.sub = { subscription (ofLe body) 0 with sentAt := x.sub.sentAt } ∧ SameBut [n.toNat] s.session t.session ∧
        Changes s t Part.reply)) ∧
  (∀ (s : State) (f : Sender) (n : Byte), f.who = .mgmt n → tablesCanonical s → Arrives s f { cmd := .closeSession, sess := n.toNat } →
    ∃ t, exec (.closeSession f n) s = .next t ∧ Answers t f .done ∧ t.session n.toNat = none ∧
      (∀ k, t.holder k = if s.holder k = 0x3000 + n.toNat then 0 else s.holder k) ∧
      ((∀ k, s.holder k ≠ 0x3000 + n.toNat) → Raises s t [(0x2302, 0xFF, [n.toNat, 0])]) ∧
      Changes s t [.keys, .led, .ev, .sessions, .out]) ∧
  (∀ (s : State) (f : Sender) (n : Byte) (fn : Func), f.who = .host fn → Arrives s f { cmd := .closeSession, sess := n.toNat } →
    (∀ x, s.session n.toNat = some x → fn.vf = none → x.via = some fn.port →
      ∃ t, exec (.closeSession f n) s = .next t ∧ Answers t f .done ∧ t.session n.toNat = none ∧
        Changes s t [.keys, .led, .ev, .sessions, .out, .mailbox]) ∧
    ((∀ x, s.session n.toNat = some x → fn.vf ≠ none ∨ x.via ≠ some fn.port) →
      ∃ t, exec (.closeSession f n) s = .next t ∧ Answers t f .denied ∧ Changes s t Part.reply)) ∧
  (∀ (s : State) (n : Byte) (x : Session), tablesCanonical s → s.session n.toNat = some x →
    (x.lastRx + s.cell 0x2200 3 * 1000000 ≤ s.now →
      ∃ t, exec (.sessionIdleExpire n) s = .next t ∧ t.session n.toNat = none ∧
        (∀ k, t.holder k = if s.holder k = 0x3000 + n.toNat then 0 else s.holder k) ∧
        ((∀ k, s.holder k ≠ 0x3000 + n.toNat) → Raises s t [(0x2302, 0xFF, [n.toNat, 1])]) ∧
        Changes s t [.keys, .led, .ev, .sessions, .out]) ∧
    (s.now < x.lastRx + s.cell 0x2200 3 * 1000000 → ∃ t, exec (.sessionIdleExpire n) s = .next t ∧ t = s)) ∧
  (∀ (s : State) (f : Sender) (n : Byte) (cmd : Byte) (idx : U16) (sub : Byte) (x : Session) (r : Reply), f.who = .mgmt n →
    s.serving = true → s.session n.toNat = some x → x.kept = some r → x.via = none →
    x.prev = some (f.tag.toNat, cmd.toNat, idx.toNat, sub.toNat) → f.authentic = true →
    (x.rxCounter < f.counter.toNat →
      ∃ t, exec (.requestRepeat f cmd idx sub) s = .next t ∧ t.out = .reply f.who f.tag.toNat r :: s.out ∧
        t.session n.toNat = some { x with rxCounter := f.counter.toNat, lastRx := s.now, txCounter := x.txCounter + 1 } ∧
        SameBut [n.toNat] s.session t.session ∧ Changes s t [.out, .sessions]) ∧
    (f.counter.toNat ≤ x.rxCounter →
      ∃ t, exec (.requestRepeat f cmd idx sub) s = .next t ∧ t.cell 0x2200 7 = satAdd 32 (s.cell 0x2200 7) 1 ∧
        CellsBut [(0x2200, 7)] s t ∧ Changes s t (.led :: Part.report))) ∧
  (∀ (s : State) (x : Port), (s.ev.sub x).active = true → (s.ev.sub x).irqDue = true →
    (∀ t0, (s.ev.sub x).lastIrq = some t0 → t0 + 100000 ≤ s.now) →
    ∃ t, exec (.eventIrq x) s = .next t ∧ t.out = .msix { port := x, vf := none } (s.ev.sub x).vector :: s.out ∧
      t.ev.sub x = { s.ev.sub x with irqDue := false, lastIrq := some s.now } ∧ t.ev.sub x.other = s.ev.sub x.other ∧
      t.ev.log = s.ev.log ∧ t.ev.seq = s.ev.seq ∧ Changes s t [.ev, .out]) ∧
  (∀ (s : State) (n : Byte) (x : Session), s.session n.toNat = some x → x.sub.unsent ≠ [] → x.via = none →
    (x.sub.sentAt.filter (fun t0 => decide (s.now < t0 + second))).length + 32 ≤ 2000 →
    ∃ t y, exec (.eventFrame n) s = .next t ∧ t.out = .eventFrame n.toNat (x.sub.unsent.take 32) s.ev.seq :: s.out ∧
      t.session n.toNat = some y ∧ y.sub.unsent = x.sub.unsent.drop 32 ∧ y.txCounter = x.txCounter + 1 ∧
      SameBut [n.toNat] s.session t.session ∧ Changes s t [.sessions, .out])

/-! ### Processors, firmware, sessions, resets -/

/-- LIVENESS_EXCHANGE: an answer clears the count; the fifth exchange in a row without one fails the tile.
FIREWALL_DIGEST_CHECK: a mismatch that persists fails the tile, which is RETIRED. HEARTBEAT_SEND notes the beat; the first of a
standby that took over ends its takeover, and the tile failures that waited for a Reeve are carried out. DROVER_LOSS gives the lost Drover's plots to the other of its pair. REEVE_TAKEOVER and
CONSTABLE_TAKEOVER, after three missed beats: the standby's die is the active one and the event says so; where none is left,
nobody serves. -/
def Obligations.ProcessorsAndLiveness : Prop :=
  (∀ (s : State) (tl : Phys), (s.site tl.val).st ≠ .absent →
    (∃ t, exec (.livenessExchange tl true) s = .next t ∧ t.site tl.val = { s.site tl.val with missed := 0 } ∧
      SameBut [tl.val] s.site t.site ∧ Changes s t [.sites]) ∧
    ((s.site tl.val).missed < 4 →
      ∃ t, exec (.livenessExchange tl false) s = .next t ∧
        t.site tl.val = { s.site tl.val with missed := (s.site tl.val).missed + 1 } ∧
        SameBut [tl.val] s.site t.site ∧ Changes s t [.sites]) ∧
    (4 ≤ (s.site tl.val).missed → s.procs.reeveLost = false →
      ∃ t, exec (.livenessExchange tl false) s = .next t ∧ (t.site tl.val).st = .absent ∧ (t.site tl.val).bypass = true ∧
        Changes s t (.sites :: .epochs :: .defects :: .procs :: .meas :: Part.work)) ∧
    (∀ k : FwTable, s.procs.constableLost = false → s.procs.reeveLost = false →
      ∃ t, exec (.firewallDigestCheck tl k true true) s = .next t ∧ (t.site tl.val).st = .retired ∧
        Changes s t (.sites :: .epochs :: .defects :: .procs :: .meas :: Part.work)) ∧
    (∀ (k : FwTable) (d a : Bool), (d = false ∨ a = false) → ∃ t, exec (.firewallDigestCheck tl k d a) s = .next t ∧ t = s)) ∧
  (∀ s : State, s.rst.ready = true →
    (s.procs.reevesLost < 2 →
      ∃ t, exec (.heartbeatSend .reeve) s = .next t ∧ t.procs.reeveBeat = s.now ∧ t.procs.reeveLost = false ∧
        (s.procs.reeveLost = false → t.procs = { s.procs with reeveBeat := s.now } ∧ Changes s t [.procs]) ∧
        (s.procs.reeveLost = true → s.procs.waitFail = [] → (∀ m ∈ s.fabric.lost, m.cls.val < 2) →
          t.procs = { s.procs with reeveBeat := s.now, reeveLost := false, running := s.procs.running - 1 } ∧
          CellsBut [(0x7100, 1), (0x7100, 2)] s t ∧ Changes s t [.procs, .led]) ∧
        (∀ u c b r, s.procs.reeveLost = true → s.procs.waitFail = [(u, c, b)] → (s.site u).st = .active →
          s.reserveTile = some r → (t.site u).st = (if b then .retired else .absent) ∧ (t.site r).st = .active ∧
          (t.site r).logical = (s.site u).logical ∧ t.procs.waitFail = []) ∧
        Changes s t (.sites :: .epochs :: .defects :: .procs :: .meas :: Part.work)) ∧
    (s.procs.constablesLost < 2 →
      ∃ t, exec (.heartbeatSend .constable) s = .next t ∧ t.procs.constableBeat = s.now ∧ t.procs.constableLost = false ∧
        CellsBut [(0x7100, 1), (0x7100, 2)] s t ∧ Changes s t [.procs, .led]) ∧
    (∀ k : Fin 4, Tab.get false s.procs.droverLost k.val = false →
      ∃ t, exec (.heartbeatSend (.drover k)) s = .next t ∧ Tab.get 0 t.procs.droverBeat k.val = s.now ∧
        (∀ j, j ≠ k.val → Tab.get 0 t.procs.droverBeat j = Tab.get 0 s.procs.droverBeat j) ∧ Changes s t [.procs]) ∧
    (∀ k : Fin 4, s.procs.reeveLost = false → Tab.get false s.procs.droverLost k.val = false →
      Tab.get 0 s.procs.droverBeat k.val + 1000000 < s.now → Tab.get false s.procs.droverLost ((k.val + 2) % 4) = false →
      s.lapseOf none = none →
      ∃ t, exec (.droverLoss k) s = .next t ∧ Tab.get false t.procs.droverLost k.val = true ∧
        (∀ p ∈ s.plotsOfDrover k.val, t.cell (0x3000 + p) 0xB = (k.val + 2) % 4) ∧
        (∀ p, p < 16 → p ∉ s.plotsOfDrover k.val → t.cell (0x3000 + p) 0xB = s.cell (0x3000 + p) 0xB) ∧
        t.cell 0x7110 3 = satAdd 32 (s.cell 0x7110 3) 1 ∧
        Raises s t [(0x7122, 0xFF, [k.val, ((s.plotsOfDrover k.val).map (fun p => 2 ^ p)).sum])] ∧
        Changes s t (.procs :: Part.work)) ∧
    (s.procs.reeveLost = false → s.procs.reeveBeat + 3000000 < s.now →
      (s.procs.reevesLost = 0 → s.lapseOf none = none →
        ∃ t, exec .reeveTakeover s = .next t ∧ t.procs.reeveLost = true ∧ t.procs.reevesLost = 1 ∧
          t.cell 0x7110 1 = (s.cell 0x7110 1 + 1) % 2 ∧ t.cell 0x7110 3 = satAdd 32 (s.cell 0x7110 3) 1 ∧
          Raises s t [(0x7120, 0xFF, [(s.cell 0x7110 1 + 1) % 2])] ∧
          CellsBut [(0x7110, 1), (0x7110, 3), (0x7100, 1), (0x7100, 3)] s t ∧ Changes s t (.procs :: .led :: Part.report)) ∧
      (1 ≤ s.procs.reevesLost →
        ∃ t, exec .reeveTakeover s = .next t ∧ t.procs = { s.procs with reeveLost := true, reevesLost := 2 } ∧ Changes s t [.procs])) ∧
    (s.procs.constableLost = false → s.procs.constableBeat + 3000000 < s.now →
      (s.procs.constablesLost = 0 → s.lapseOf none = none →
        ∃ t, exec .constableTakeover s = .next t ∧ t.procs.constableLost = true ∧ t.procs.constablesLost = 1 ∧
          t.cell 0x7110 2 = (s.cell 0x7110 2 + 1) % 2 ∧ t.cell 0x7110 3 = satAdd 32 (s.cell 0x7110 3) 1 ∧
          Raises s t [(0x7121, 0xFF, [(s.cell 0x7110 2 + 1) % 2])] ∧
          CellsBut [(0x7110, 2), (0x7110, 3), (0x7100, 1), (0x7100, 3)] s t ∧ Changes s t (.procs :: .led :: Part.report)) ∧
      (1 ≤ s.procs.constablesLost →
        ∃ t, exec .constableTakeover s = .next t ∧ t.procs = { s.procs with constableLost := true, constablesLost := 2 } ∧
          Changes s t [.procs])))

/-- A firmware update writes the slot that is not running, and no phase of it touches the slot that runs. UPDATE_REQUEST begins
one, unless one runs; UPDATE_CHUNK begins one too, and feeds it in the phase Program. UPDATE_PHASE_END goes from Invalidate to
Erase, to Program, once every chunk has come to Verify; verified, with the right magic and a security version not below the least, the slot is VALID with
the next UPDATE_SEQ, E-8002; else it is INVALID. BOOT_TIMEOUT counts a boot without READY in 10 s; the third makes the slot
INVALID, and the other one boots, E-8001. -/
def Obligations.FirmwareUpdatesTheIdleSlot : Prop :=
  (∀ (s : State) (f : Sender) (body : List Byte), WriteArrives s f 0x8010 2 body →
    (field body 12 4 ≠ 0 → ∃ t, exec (.updateRequest f body) s = .next t ∧ Answers t f .badValue ∧ Changes s t Part.reply) ∧
    (field body 12 4 = 0 → s.updating = true →
      ∃ t, exec (.updateRequest f body) s = .next t ∧ Answers t f .busy ∧ Changes s t Part.reply) ∧
    (field body 12 4 = 0 → s.updating = false →
      ∃ t, exec (.updateRequest f body) s = .next t ∧ Answers t f .done ∧ t.cell 0x8010 1 = 1 ∧ t.boot.fromHost = true ∧
        t.boot.slotA = s.boot.slotA ∧ t.boot.slotB = s.boot.slotB ∧ t.boot.running = s.boot.running ∧
        CellsBut [(0x8010, 1)] s t ∧ Changes s t (.boot :: .led :: Part.reply))) ∧
  (∀ (s : State) (f : Sender) (body : List Byte), WriteArrives s f 0x8010 3 body → field body 0 8 % 1024 = 0 →
    field body 0 8 < 2 ^ 28 →
    (s.updating = true → (s.cell 0x8010 1 ≠ 3 ∨ s.boot.fromHost = true) →
      ∃ t, exec (.updateChunk f body) s = .next t ∧ Answers t f .busy ∧ Changes s t Part.reply) ∧
    ((s.updating = false ∨ (s.cell 0x8010 1 = 3 ∧ s.boot.fromHost = false)) →
      ∃ t, exec (.updateChunk f body) s = .next t ∧ Answers t f .done ∧ field body 0 8 ∈ t.boot.chunks ∧
        t.cell 0x8010 1 = (if s.updating = true then 3 else 1) ∧ t.boot.fromHost = false ∧
        t.boot.slotA = s.boot.slotA ∧ t.boot.slotB = s.boot.slotB ∧ t.boot.running = s.boot.running ∧
        CellsBut [(0x8010, 1)] s t ∧ Changes s t (.boot :: .led :: Part.reply))) ∧
  (∀ (s : State) (ok : Bool) (h : List Byte), h.length = 166 →
    (∃ t, exec (.updatePhaseEnd ok h) s = .next t ∧ t.boot.running = s.boot.running ∧ t.slotRunning = s.slotRunning) ∧
    (s.cell 0x8010 1 = 1 →
      ∃ t, exec (.updatePhaseEnd ok h) s = .next t ∧ t.cell 0x8010 1 = 2 ∧ t.idleSlot = { s.idleSlot with st := 0 } ∧
        CellsBut [(0x8010, 1)] s t ∧ Changes s t [.boot, .led]) ∧
    (s.cell 0x8010 1 = 2 →
      ∃ t, exec (.updatePhaseEnd ok h) s = .next t ∧ t.cell 0x8010 1 = 3 ∧ t.idleSlot = {} ∧ CellsBut [(0x8010, 1)] s t ∧
        Changes s t [.boot, .led]) ∧
    (s.cell 0x8010 1 = 3 → s.boot.fromHost = true →
      ∃ t, exec (.updatePhaseEnd ok h) s = .next t ∧ t.cell 0x8010 1 = 4 ∧ t.idleSlot = headerSlot h ∧ t.idleSlot.st = 0x7F ∧
        CellsBut [(0x8010, 1)] s t ∧ Changes s t [.boot, .led]) ∧
    (s.cell 0x8010 1 = 3 → s.boot.fromHost = false →
      (s.boot.fed = true → ∃ t, exec (.updatePhaseEnd ok h) s = .next t ∧ t.cell 0x8010 1 = 4 ∧
        t.idleSlot = headerSlot s.boot.head ∧ CellsBut [(0x8010, 1)] s t ∧ Changes s t [.boot, .led]) ∧
      (s.boot.fed = false → ∃ t, exec (.updatePhaseEnd ok h) s = .next t ∧ t = s)) ∧
    ((s.cell 0x8010 1 < 1 ∨ 4 < s.cell 0x8010 1) → ∃ t, exec (.updatePhaseEnd ok h) s = .next t ∧ t = s) ∧
    (s.cell 0x8010 1 = 4 →
      (ok = true → s.idleSlot.magic = 0x4E424653 → ofLe (s.persistent 0x8010 5) ≤ s.idleSlot.svn →
        ∃ t, exec (.updatePhaseEnd ok h) s = .next t ∧ t.cell 0x8010 1 = 5 ∧
          t.idleSlot = { s.idleSlot with st := 0x3F, seq := (s.slotRunning.seq + 1) % 2 ^ 32 } ∧
          Raises s t [(0x8002, 0xFF, [slotBit (!s.boot.running), s.idleSlot.fw])] ∧ CellsBut [(0x8010, 1)] s t ∧
          Changes s t (.boot :: .led :: Part.report)) ∧
      ((ok = false ∨ s.idleSlot.magic ≠ 0x4E424653 ∨ s.idleSlot.svn < ofLe (s.persistent 0x8010 5)) →
        ∃ t, exec (.updatePhaseEnd ok h) s = .next t ∧ t.cell 0x8010 1 = 6 ∧ t.idleSlot = { s.idleSlot with st := 0 } ∧
          CellsBut [(0x8010, 1)] s t ∧ Changes s t [.boot, .led]))) ∧
  (∀ s : State, s.rst.ready = false → s.boot.recovery = false → (s.rst.phase = .booting ∨ s.rst.phase = .warm) →
    s.rst.bootAt + 10 * second ≤ s.now →
    (s.boot.failures + 1 < 3 →
      ∃ t, exec .bootTimeout s = .next t ∧ t.boot = { s.boot with failures := s.boot.failures + 1 } ∧ t.rst.bootAt = s.now ∧
        Changes s t [.boot, .rst]) ∧
    (3 ≤ s.boot.failures + 1 → s.bootable (!s.boot.running) = true →
      ∃ t, exec .bootTimeout s = .next t ∧ t.boot.running = !s.boot.running ∧ (t.boot.slot s.boot.running).st = 0 ∧
        t.slotRunning = s.idleSlot ∧ t.boot.recovery = false ∧ Raises s t [(0x8001, 0xFF, [slotBit (!s.boot.running)])] ∧
        Changes s t (.boot :: .rst :: Part.report)) ∧
    (3 ≤ s.boot.failures + 1 → s.bootable (!s.boot.running) = false →
      ∃ t, exec .bootTimeout s = .next t ∧ t.boot.recovery = true ∧ (t.boot.slot s.boot.running).st = 0 ∧ Changes s t [.boot]))

/-- Sessions. HELLO with a signature that does not verify under the fleet key it names is DENIED, with E-8020, and opens
nothing; one that does, with room for one more session and exchange, begins an exchange. REPORT of a pending exchange opens a
session under the lowest free number, E-2301, and answers with the report; REPORT of none is BAD_INDEX. HELLO_EXPIRE drops an
exchange of 1 s. PARCEL_KEY installs the unwrapped key in its slot, where the session and the writer may, the tag verifies and
no load or enabled path uses the slot. -/
def Obligations.SessionsOpenByExchange : Prop :=
  (∀ (s : State) (f : Sender) (body : List Byte) (signer : List Byte) (ok : Bool) (k : Nat),
    ArrivesOpening s f { cmd := .write, idx := 0x8020, sub := 1, body } → s.writeCheck f.who .write 0x8020 1 body = none →
    k = field body 129 1 → k ≤ 1 → field body 130 6 = 0 →
    ((ok = false ∨ signer ≠ s.persistent 0x8000 (5 + k)) →
      ∃ t, exec (.hello f body signer ok) s = .next t ∧ Answers t f .denied ∧ Raises s t [(0x8020, 0xFF, [k])] ∧
        Changes s t (.mailbox :: Part.report)) ∧
    (ok = true → signer = s.persistent 0x8000 (5 + k) → (s.persistent 0x8000 (5 + k)).any (fun b => b != 0) = true →
      (s.openSessions.length < 32 → s.openExchanges.length < 4 →
        ∃ t, exec (.hello f body signer ok) s = .next t ∧ Answers t f .done ∧
          t.exchanges = s.openExchanges ++ [⟨body.take 32, s.now, viaOf f.who, s.nextExchange⟩] ∧
          t.nextExchange = s.nextExchange + 1 ∧ Changes s t [.exchanges, .nextExchange, .out, .mailbox, .sessions]) ∧
      ((32 ≤ s.openSessions.length ∨ 4 ≤ s.openExchanges.length) →
        ∃ t, exec (.hello f body signer ok) s = .next t ∧ Answers t f .noSpace ∧ Changes s t Part.reply))) ∧
  (∀ (s : State) (f : Sender) (arg : U32) (flags : Nat),
    flags = (match f.who with | .host fn => field (s.box fn).request 9 1 | .mgmt _ => 0) →
    ArrivesOpening s f { cmd := .read, idx := 0x8020, sub := 2, flags, arg := arg.toNat } →
    (∃ r, s.readCheck f.who .read 0x8020 2 = .inr r) →
    (s.openExchanges.find? (fun x => field x.nonce 0 4 == arg.toNat && x.via == viaOf f.who) = none →
      ∃ t, exec (.report f arg) s = .next t ∧ Answers t f .badIndex ∧ Changes s t Part.reply) ∧
    (∀ x n, s.openExchanges.find? (fun x => field x.nonce 0 4 == arg.toNat && x.via == viaOf f.who) = some x →
      1 ≤ n → n ≤ 255 → s.session n = none → (∀ m, 1 ≤ m → m < n → s.session m ≠ none) → s.openSessions.length < 32 →
      ∃ t y rest, exec (.report f arg) s = .next t ∧ Answers t f .done ∧ t.session n = some y ∧ y.exchange = x.number ∧
        y.via = viaOf f.who ∧ y.rxCounter = 0 ∧ x ∉ t.exchanges ∧
        t.out = .reply f.who f.tag.toNat { status := .done, type := Ty.blob.code, body := s.reportBytes x n } :: rest ∧
        Raises s t [(0x2301, 0xFF, [n])] ∧ Changes s t (.exchanges :: .mailbox :: Part.report))) ∧
  (∀ (s : State) (nonce : U32), ∃ t, exec (.helloExpire nonce) s = .next t ∧
    (∀ x, x ∈ t.exchanges ↔ x ∈ s.exchanges ∧ ¬(field x.nonce 0 4 = nonce.toNat ∧ x.at_ + second ≤ s.now)) ∧
    Changes s t [.exchanges]) ∧
  (∀ (s : State) (f : Sender) (p : PlotId) (slot : Fin 2) (body : List Byte) (tagOk : Bool) (x : Session),
    WriteArrives s f (0x8100 + p.val) (2 + slot.val) body → s.session (field body 0 1) = some x →
    (s.hasRights (x.cls (field body 0 1)) p.val = true → field body 1 11 = 0 → tagOk = true →
      s.cell (0x3100 + p.val) 3 ≠ 4 → s.keyInUse p.val slot.val = false →
      ∃ t, exec (.parcelKey f p slot body tagOk) s = .next t ∧ Answers t f .done ∧
        Tab.get [] (t.plot p.val).keys slot.val = padTo 32 (Config.unwrap x.exchange body) ∧
        (∀ k, k ≠ slot.val → Tab.get [] (t.plot p.val).keys k = Tab.get [] (s.plot p.val).keys k) ∧
        SameBut [p.val] s.plot t.plot ∧ Changes s t (.plots :: Part.reply)) ∧
    ((s.hasRights (x.cls (field body 0 1)) p.val = false ∨ (field body 1 11 = 0 ∧ tagOk = false)) →
      ∃ t, exec (.parcelKey f p slot body tagOk) s = .next t ∧ Answers t f .denied ∧ Changes s t Part.reply) ∧
    (s.hasRights (x.cls (field body 0 1)) p.val = true → field body 1 11 = 0 → tagOk = true →
      (s.cell (0x3100 + p.val) 3 = 4 ∨ s.keyInUse p.val slot.val = true) →
      ∃ t, exec (.parcelKey f p slot body tagOk) s = .next t ∧ Answers t f .busy ∧ Changes s t Part.reply))

/-- Cold starts. COLD_START leaves what R425 keeps, OTP, the defect log and the boot slots, and all else as after reset, with
the cause in RESET_CAUSE; VBUS alone brings it only in a shutdown. BUS_STAGE_START with VBUS at 11.4 V: the processors boot, the
host ports train, the tiles are as the factory recorded them where nothing is logged, each Assayer's generator has its seed, the
factory corrections are loaded, every tap is at its baseline or at what its canaries needed, CAP has its persistent default; with
less it waits. COLD_START_READY sets READY and arms the watch; Ethernet ports train in their modes. -/
def Obligations.ColdStartsKeepWhatLasts : Prop :=
  (∀ (s : State) (cause : Fin 4), (cause.val ≠ 3 ∨ s.power.shutdown ≠ 0) →
    ∃ t, exec (.coldStart cause) s = .next t ∧
      t = { State.reset with pending := s.pending, otp := s.otp, defects := s.defects, factory := s.factory,
                             nextExchange := s.nextExchange, boot := t.boot, rst := { cause := cause.val }, out := s.out, free := s.free } ∧
      t.boot.slot s.boot.running = s.boot.slot s.boot.running ∧ t.boot.running = s.boot.running ∧
      (s.updating = false → t.boot.slotA = s.boot.slotA ∧ t.boot.slotB = s.boot.slotB) ∧
      (∀ i j, t.cell i j = entryDefault i j)) ∧
  (∀ (s : State) (cause : Fin 4), cause.val = 3 → s.power.shutdown = 0 → ∃ t, exec (.coldStart cause) s = .next t ∧ t = s) ∧
  (∀ (s : State) (v : Nat) (taps : List (Slot × Fin 3 × Fin 64)), s.rst.phase = .alwaysOn → 114000 ≤ v → s.defects = [] →
    s.bootable s.boot.first = true →
    ∃ t, exec (.busStageStart v taps) s = .next t ∧ t.rst.phase = .booting ∧ t.rst.busAt = some s.now ∧ t.rst.ready = s.rst.ready ∧
      t.boot.running = s.boot.first ∧ t.boot.recovery = false ∧
      (∀ u c, u < 112 → c = (s.factory.site u).tryAgain → t.site u = { c with lfsr := Config.tileSerial u }) ∧
      t.rst.corrected = true ∧ t.samples = [] ∧ t.cell 0x2000 1 = 1 ∧ t.cell 0x2000 0x11 = 1 ∧
      ((∀ n, n < 2688 → 8 ≤ (t.slot n).headroom) → Raises s t []) ∧
      (∀ n d, n < 2688 → d < 3 → min 63 (Config.baselineTap n d) ≤ Tab.get 0 (t.slot n).taps d ∧
        Tab.get 0 (t.slot n).taps d ≤ 63) ∧
      t.cell 0x4000 1 = ofLe (s.persistent 0x4000 2) ∧ t.cellar = {} ∧
      CellsBut [(0x4000, 1), (0x2000, 1), (0x2000, 0x11)] s t ∧
      Changes s t (.rst :: .boot :: .power :: .cellar :: .sites :: .slots :: .led :: .samples :: Part.report)) ∧
  (∀ (s : State) (v : Nat) (taps : List (Slot × Fin 3 × Fin 64)), (s.rst.phase ≠ .alwaysOn ∨ v < 114000) →
    ∃ t, exec (.busStageStart v taps) s = .next t ∧ t = s) ∧
  (∀ s : State, s.rst.phase = .booting → s.boot.recovery = false →
    ∃ t, exec .coldStartReady s = .next t ∧ t.rst.ready = true ∧ t.rst.phase = .ready ∧ t.rst.watch = true ∧
      t.boot.failures = 0 ∧ t.procs.reeveBeat = s.now ∧ t.procs.constableBeat = s.now ∧
      (∀ x, x < 8 → t.ethState x = if s.ethMode x = 0 then s.ethState x else 1) ∧ Changes s t [.rst, .boot, .procs, .led])

/-- Warm resets. WARM_RESET of an engine in service or in recovery, the watchdog of R426, a shutdown's end, and RESET_CMD with
0xA5 while armed, each leave the engine quiesced with their cause, and keep OTP, the defect log, the maps and the taps;
RESET_CMD with 0x5A is a cold start of cause 2; any other value, and any while not armed, only disarms. READY arms the watchdog and every reset disarms
it; it acts only while armed, with AUX in range and no Reeve heartbeat for 1 s. A trigger during a warm reset is
ignored. WARM_RESET_RESTORE brings VCORE and READY back, with what the save extents hold of the resident Bench; a plot whose saved
data cannot be read faults, and the tile failures that waited for a Reeve are carried out. RESET_KEY with 0xC3 arms RESET_CMD for 100 ms; RESET_ARM_EXPIRE disarms
it. -/
def Obligations.WarmResetsQuiesceAndRestore : Prop :=
  (∀ (s : State), s.power.shutdown = 0 → (s.rst.phase = .ready ∨ s.boot.recovery = true) →
    (∀ cause : Fin 4, cause.val < 2 →
      ∃ t, exec (.warmReset cause) s = .next t ∧ Quiesced s t (4 + cause.val)) ∧
    (s.rst.watch = true → s.power.auxOk = true → s.procs.reeveBeat + second ≤ s.now →
      ∃ t, exec .resetWatchdog s = .next t ∧ Quiesced s t 7) ∧
    (∀ t0, s.rst.armedAt = some t0 → s.now < t0 + 100000000 →
      (∃ t, exec (.resetCmd 0xA5) s = .next t ∧ Quiesced s t 5))) ∧
  (∀ (s : State) (cause : Fin 4), s.rst.phase ≠ .ready → s.boot.recovery = false →
    ∃ t, exec (.warmReset cause) s = .next t ∧ t = s) ∧
  (∀ (s : State) (v : Nat), s.power.shutdown = 2 → 114000 ≤ v →
    ∃ t, exec (.shutdownRestart v) s = .next t ∧ Quiesced s t 6) ∧
  (∀ (s : State) (t0 : Nat), s.rst.armedAt = some t0 → s.now < t0 + 100000000 →
    ∃ t, exec (.resetCmd 0x5A) s = .next t ∧ t.rst = { cause := 2 } ∧ t.otp = s.otp ∧ t.defects = s.defects ∧ t.led = [] ∧
      t.plots = [] ∧ t.looms = []) ∧
  (∀ (s : State) (v : Byte), (s.armed = false ∨ (v ≠ 0xA5 ∧ v ≠ 0x5A)) →
    ∃ t, exec (.resetCmd v) s = .next t ∧ t.rst = { s.rst with armedAt := none } ∧ Changes s t [.rst]) ∧
  (∀ s : State, (s.rst.watch = false ∨ s.power.auxOk = false ∨ s.now < s.procs.reeveBeat + second) →
    ∃ t, exec .resetWatchdog s = .next t ∧ t = s) ∧
  (∀ s : State, s.rst.phase = .booting → s.boot.recovery = false →
    ∃ t, exec .coldStartReady s = .next t ∧ t.rst = { s.rst with phase := .ready, ready := true, watch := true }) ∧
  (∀ (s : State) (cause : Fin 4), (cause.val ≠ 3 ∨ s.power.shutdown ≠ 0) →
    ∃ t, exec (.coldStart cause) s = .next t ∧ t.rst = { cause := cause.val }) ∧
  (∀ s : State, s.rst.phase = .warm → s.boot.recovery = false →
    ∃ t, exec .warmResetRestore s = .next t ∧ t.rst.ready = true ∧ t.rst.phase = .ready ∧ t.rst.watch = true ∧
      t.power.vcoreOff = false ∧ t.power.p4 = false ∧
      (∀ rs : Nat → Nat → Image → List (Nat × Nat), s.procs.waitFail = [] →
        (∀ p n im, rs p n im = saveRanges (s.saveOn p (n / 20)) (s.savePlace p n im) (residentBytes im)) →
        (∀ p ∈ s.plotsNow, ∀ im, (s.plot p).image = some im → ∀ n ∈ (s.plot p).looms, (s.loom n).saved = true →
          s.saveLost (rs p n im) = false) →
        (∀ n, (∀ p ∈ s.plotsNow, n ∉ (s.plot p).looms) → t.loom n = s.loom n) ∧
        (∀ p n im, p ∈ s.plotsNow → n ∈ (s.plot p).looms → (s.plot p).image = some im → (s.loom n).saved = true →
          (∀ q ∈ s.plotsNow, n ∈ (s.plot q).looms → q = p) →
          t.loom n = { s.loom n |>.refill (residentRanges im) (s.saveRead (rs p n im)) with saved := false }) ∧
        (s.power.p4 = false → if s.cellar.erase = [] then Raises s t [] else Raises s t [(0x8042, 0xFF, [s.cellar.erase.length])]) ∧
        Changes s t (.rst :: .boot :: .procs :: .power :: .looms :: .led :: Part.report)) ∧
      Changes s t (.rst :: .boot :: .procs :: .power :: .sites :: .epochs :: .defects :: .meas :: Part.work)) ∧
  (∀ (s : State) (v : Byte),
    (v = 0xC3 → ∃ t, exec (.resetKey v) s = .next t ∧ t.rst = { s.rst with armedAt := some s.now } ∧ Changes s t [.rst]) ∧
    (v ≠ 0xC3 → ∃ t, exec (.resetKey v) s = .next t ∧ t = s)) ∧
  (∀ (s : State) (t0 : Nat), s.rst.armedAt = some t0 →
    (t0 + 100000000 ≤ s.now → ∃ t, exec .resetArmExpire s = .next t ∧ t.rst = { s.rst with armedAt := none } ∧ Changes s t [.rst]) ∧
    (s.now < t0 + 100000000 → ∃ t, exec .resetArmExpire s = .next t ∧ t = s))
end

