-- ==== Sys2Proof/Laws/Tab.lean ====
section
/-! SUPPORT. What a table reads after a write, and that every operation on a table keeps the canonical form. -/

namespace Sys2Proof.Machine

variable {α : Type}

theorem Tab.not_mem_erase (t : Tab α) (k : Nat) : ∀ e ∈ Tab.erase k t, e.1 ≠ k := by
  induction t with
  | nil => simp [Tab.erase]
  | cons e t ih =>
    obtain ⟨j, v⟩ := e
    by_cases h : j = k
    · simpa [Tab.erase, h] using ih
    · simpa [Tab.erase, h] using ih

theorem Tab.mem_of_mem_erase (t : Tab α) (k : Nat) : ∀ e ∈ Tab.erase k t, e ∈ t := by
  induction t with
  | nil => simp [Tab.erase]
  | cons e t ih =>
    obtain ⟨j, v⟩ := e
    intro x hx
    by_cases h : j = k
    · rw [Tab.erase, if_pos h] at hx; exact List.mem_cons_of_mem _ (ih x hx)
    · rw [Tab.erase, if_neg h] at hx
      rcases List.mem_cons.1 hx with rfl | hx
      · simp
      · exact List.mem_cons_of_mem _ (ih x hx)

theorem Tab.get_of_not_mem (d : α) (t : Tab α) (k : Nat) (h : ∀ e ∈ t, e.1 ≠ k) : Tab.get d t k = d := by
  induction t with
  | nil => rfl
  | cons e t ih =>
    obtain ⟨j, v⟩ := e
    have hj : j ≠ k := h (j, v) (by simp)
    rw [Tab.get, if_neg hj]
    exact ih (fun e he => h e (by simp [he]))

theorem Tab.get_erase_self (d : α) (t : Tab α) (k : Nat) : Tab.get d (Tab.erase k t) k = d :=
  Tab.get_of_not_mem d _ k (Tab.not_mem_erase t k)

theorem Tab.get_erase_ne (d : α) (t : Tab α) {j k : Nat} (h : j ≠ k) : Tab.get d (Tab.erase j t) k = Tab.get d t k := by
  induction t with
  | nil => rfl
  | cons e t ih =>
    obtain ⟨i, v⟩ := e
    by_cases h1 : i = j
    · subst h1; simp [Tab.erase, Tab.get, h, ih]
    · rw [Tab.erase, if_neg h1, Tab.get, Tab.get, ih]

theorem Tab.get_insert_self (d : α) (t : Tab α) (k : Nat) (v : α) (h : ∀ e ∈ t, e.1 ≠ k) :
    Tab.get d (Tab.insert k v t) k = v := by
  induction t with
  | nil => simp [Tab.insert, Tab.get]
  | cons e t ih =>
    obtain ⟨j, w⟩ := e
    have hj : j ≠ k := h (j, w) (by simp)
    by_cases h1 : k < j
    · simp [Tab.insert, Tab.get, h1]
    · rw [Tab.insert, if_neg h1, Tab.get, if_neg hj]
      exact ih (fun e he => h e (by simp [he]))

theorem Tab.get_insert_ne (d : α) (t : Tab α) {j k : Nat} (v : α) (h : j ≠ k) :
    Tab.get d (Tab.insert j v t) k = Tab.get d t k := by
  induction t with
  | nil => simp [Tab.insert, Tab.get, h]
  | cons e t ih =>
    obtain ⟨i, w⟩ := e
    by_cases h1 : j < i
    · rw [Tab.insert, if_pos h1, Tab.get, if_neg h]
    · rw [Tab.insert, if_neg h1, Tab.get, Tab.get, ih]

/-- A read after a write of the same key. -/
@[simp] theorem Tab.get_set_self [DecidableEq α] (d : α) (t : Tab α) (k : Nat) (v : α) : Tab.get d (Tab.set d t k v) k = v := by
  by_cases h : v = d
  · rw [Tab.set, if_pos h, h]; exact Tab.get_erase_self d t k
  · rw [Tab.set, if_neg h]; exact Tab.get_insert_self d _ k v (Tab.not_mem_erase t k)

/-- A write leaves every other key alone. -/
theorem Tab.get_set_ne [DecidableEq α] (d : α) (t : Tab α) {j k : Nat} (v : α) (h : j ≠ k) :
    Tab.get d (Tab.set d t j v) k = Tab.get d t k := by
  unfold Tab.set
  split
  · exact Tab.get_erase_ne d t h
  · rw [Tab.get_insert_ne d _ v h, Tab.get_erase_ne d t h]

/-- The same where the reader takes another default. -/
theorem Tab.get_set_ne' [DecidableEq α] (d : α) {e : α} (t : Tab α) {j k : Nat} (v : α) (h : j ≠ k) :
    Tab.get e (Tab.set d t j v) k = Tab.get e t k := by
  unfold Tab.set
  split
  · exact Tab.get_erase_ne e t h
  · rw [Tab.get_insert_ne e _ v h, Tab.get_erase_ne e t h]

/-- A read after a write, for any two keys. -/
theorem Tab.get_set [DecidableEq α] (d : α) (t : Tab α) (j k : Nat) (v : α) :
    Tab.get d (Tab.set d t j v) k = if j = k then v else Tab.get d t k := by
  by_cases h : j = k
  · subst h; simp
  · rw [if_neg h, Tab.get_set_ne d t v h]

/-- A read after a change, for any two keys. -/
theorem Tab.get_upd [DecidableEq α] (d : α) (t : Tab α) (j k : Nat) (f : α → α) :
    Tab.get d (Tab.upd d t j f) k = if j = k then f (Tab.get d t k) else Tab.get d t k := by
  unfold Tab.upd
  rw [Tab.get_set]
  by_cases h : j = k
  · subst h; simp
  · simp [h]

@[simp] theorem Tab.get_upd_self [DecidableEq α] (d : α) (t : Tab α) (k : Nat) (f : α → α) :
    Tab.get d (Tab.upd d t k f) k = f (Tab.get d t k) := by rw [Tab.get_upd, if_pos rfl]

/-! ### The canonical form -/

/-- The canonical form, stated on the whole list. -/
theorem Tab.wf_iff [DecidableEq α] (d : α) (t : Tab α) :
    Tab.wf d t = true ↔ t.Pairwise (fun a b => a.1 < b.1) ∧ ∀ e ∈ t, e.2 ≠ d := by
  induction t with
  | nil => simp [Tab.wf]
  | cons e t ih =>
    obtain ⟨j, v⟩ := e
    cases t with
    | nil => simp [Tab.wf]
    | cons e' t =>
      obtain ⟨k, w⟩ := e'
      rw [Tab.wf]
      simp only [Bool.and_eq_true, decide_eq_true_eq, ih, List.pairwise_cons, List.mem_cons, forall_eq_or_imp]
      constructor
      · rintro ⟨⟨hv, hjk⟩, ⟨hk, hp⟩, hw, hd⟩
        exact ⟨⟨⟨hjk, fun a ha => lt_trans hjk (hk a ha)⟩, hk, hp⟩, hv, hw, hd⟩
      · rintro ⟨⟨⟨hjk, -⟩, hk, hp⟩, hv, hw, hd⟩
        exact ⟨⟨hv, hjk⟩, ⟨hk, hp⟩, hw, hd⟩

theorem Tab.mem_insert (t : Tab α) (k : Nat) (v : α) (e : Nat × α) : e ∈ Tab.insert k v t ↔ e = (k, v) ∨ e ∈ t := by
  induction t with
  | nil => simp [Tab.insert]
  | cons x t ih =>
    obtain ⟨j, w⟩ := x
    by_cases h : k < j
    · simp [Tab.insert, h]
    · simp only [Tab.insert, if_neg h, List.mem_cons, ih]; tauto

theorem Tab.pairwise_insert (t : Tab α) (k : Nat) (v : α) (hk : ∀ e ∈ t, e.1 ≠ k) (h : t.Pairwise (fun a b => a.1 < b.1)) :
    (Tab.insert k v t).Pairwise (fun a b => a.1 < b.1) := by
  induction t with
  | nil => simp [Tab.insert]
  | cons x t ih =>
    obtain ⟨j, w⟩ := x
    have hj : j ≠ k := hk (j, w) (by simp)
    have ht := List.pairwise_cons.1 h
    by_cases h1 : k < j
    · rw [Tab.insert, if_pos h1, List.pairwise_cons]
      refine ⟨fun e he => ?_, h⟩
      rcases List.mem_cons.1 he with rfl | he
      · exact h1
      · exact lt_trans h1 (ht.1 e he)
    · rw [Tab.insert, if_neg h1, List.pairwise_cons]
      refine ⟨fun e he => ?_, ih (fun e he => hk e (by simp [he])) ht.2⟩
      rcases (Tab.mem_insert t k v e).1 he with rfl | he
      · change j < k; omega
      · exact ht.1 e he

theorem Tab.pairwise_erase (t : Tab α) (k : Nat) (h : t.Pairwise (fun a b => a.1 < b.1)) :
    (Tab.erase k t).Pairwise (fun a b => a.1 < b.1) := by
  induction t with
  | nil => simp [Tab.erase]
  | cons x t ih =>
    obtain ⟨j, w⟩ := x
    have ht := List.pairwise_cons.1 h
    by_cases h1 : j = k
    · rw [Tab.erase, if_pos h1]; exact ih ht.2
    · rw [Tab.erase, if_neg h1, List.pairwise_cons]
      exact ⟨fun e he => ht.1 e (Tab.mem_of_mem_erase t k e he), ih ht.2⟩

/-- Taking an entry out keeps the canonical form. -/
theorem Tab.wf_erase [DecidableEq α] (d : α) (t : Tab α) (k : Nat) (h : Tab.wf d t = true) : Tab.wf d (Tab.erase k t) = true := by
  rw [Tab.wf_iff] at h ⊢
  exact ⟨Tab.pairwise_erase t k h.1, fun e he => h.2 e (Tab.mem_of_mem_erase t k e he)⟩

/-- A write keeps the canonical form. -/
theorem Tab.wf_set [DecidableEq α] (d : α) (t : Tab α) (k : Nat) (v : α) (h : Tab.wf d t = true) :
    Tab.wf d (Tab.set d t k v) = true := by
  by_cases hv : v = d
  · rw [Tab.set, if_pos hv]; exact Tab.wf_erase d t k h
  · rw [Tab.set, if_neg hv, Tab.wf_iff]
    have h1 := (Tab.wf_iff d _).1 (Tab.wf_erase d t k h)
    refine ⟨Tab.pairwise_insert _ k v (Tab.not_mem_erase t k) h1.1, fun e he => ?_⟩
    rcases (Tab.mem_insert _ k v e).1 he with rfl | he
    · exact hv
    · exact h1.2 e he

/-- A change keeps the canonical form. -/
theorem Tab.wf_upd [DecidableEq α] (d : α) (t : Tab α) (k : Nat) (f : α → α) (h : Tab.wf d t = true) :
    Tab.wf d (Tab.upd d t k f) = true := Tab.wf_set d t k _ h

/-- A run of writes keeps the canonical form. -/
theorem Tab.wf_setList [DecidableEq α] (d : α) (vs : List α) (t : Tab α) (k : Nat) (h : Tab.wf d t = true) :
    Tab.wf d (Tab.setList d t k vs) = true := by
  induction vs generalizing t k with
  | nil => exact h
  | cons v vs ih => exact ih _ _ (Tab.wf_set d t k v h)

theorem Tab.keep_eq_filter (p : Nat → Bool) (t : Tab α) : Tab.keep p t = t.filter (fun e => p e.1) := by
  induction t with
  | nil => rfl
  | cons x t ih =>
    obtain ⟨j, w⟩ := x
    by_cases h : p j = true <;> simp [Tab.keep, h, ih]

/-- Keeping some keys keeps the canonical form. -/
theorem Tab.wf_keep [DecidableEq α] (d : α) (p : Nat → Bool) (t : Tab α) (h : Tab.wf d t = true) : Tab.wf d (Tab.keep p t) = true := by
  rw [Tab.wf_iff] at h ⊢
  rw [Tab.keep_eq_filter]
  exact ⟨h.1.filter _, fun e he => h.2 e (List.mem_filter.1 he).1⟩

/-- A run of writes leaves the keys outside it alone. -/
theorem Tab.get_setList_ne [DecidableEq α] (d : α) (vs : List α) (t : Tab α) (j k : Nat) (h : k < j ∨ j + vs.length ≤ k) :
    Tab.get d (Tab.setList d t j vs) k = Tab.get d t k := by
  induction vs generalizing t j with
  | nil => rfl
  | cons v vs ih =>
    rw [Tab.setList, ih (Tab.set d t j v) (j + 1) (by simp only [List.length_cons] at h; omega), Tab.get_set_ne]
    simp only [List.length_cons] at h; omega

/-- What a run of writes leaves at its own keys. -/
theorem Tab.getList_setList [DecidableEq α] (d : α) (vs : List α) (t : Tab α) (j : Nat) :
    Tab.getList d (Tab.setList d t j vs) j vs.length = vs := by
  induction vs generalizing t j with
  | nil => rfl
  | cons v vs ih =>
    rw [List.length_cons, Tab.getList, Tab.setList, Tab.get_setList_ne d vs _ (j + 1) j (by omega), Tab.get_set_self, ih]

end Sys2Proof.Machine
end

