-- ==== Sys2Proof/Laws/State.lean ====
section
/-! SUPPORT. What each named update leaves of the state: one theorem per update, one equation per field it does not touch; what an
accessor reads after the update it belongs to; what raising an event leaves. -/

namespace Sys2Proof.Machine

@[simp] theorem State.setCell_fields (s : State) (idx sub v : Nat) :
    (s.setCell idx sub v).pending = s.pending ∧ (s.setCell idx sub v).now = s.now ∧ (s.setCell idx sub v).bell = s.bell ∧
    (s.setCell idx sub v).blob = s.blob ∧ (s.setCell idx sub v).meas = s.meas ∧ (s.setCell idx sub v).otp = s.otp ∧
    (s.setCell idx sub v).defects = s.defects ∧ (s.setCell idx sub v).factory = s.factory ∧ (s.setCell idx sub v).ev = s.ev ∧
    (s.setCell idx sub v).sessions = s.sessions ∧ (s.setCell idx sub v).exchanges = s.exchanges ∧
    (s.setCell idx sub v).nextExchange = s.nextExchange ∧ (s.setCell idx sub v).keys = s.keys ∧
    (s.setCell idx sub v).sites = s.sites ∧ (s.setCell idx sub v).slots = s.slots ∧ (s.setCell idx sub v).regs = s.regs ∧
    (s.setCell idx sub v).epochs = s.epochs ∧ (s.setCell idx sub v).fabric = s.fabric ∧
    (s.setCell idx sub v).looms = s.looms ∧ (s.setCell idx sub v).cellar = s.cellar ∧ (s.setCell idx sub v).plots = s.plots ∧
    (s.setCell idx sub v).steps = s.steps ∧ (s.setCell idx sub v).nextStep = s.nextStep ∧ (s.setCell idx sub v).samples = s.samples ∧ (s.setCell idx sub v).ob = s.ob ∧
    (s.setCell idx sub v).nextAdmit = s.nextAdmit ∧ (s.setCell idx sub v).qps = s.qps ∧
    (s.setCell idx sub v).mailbox = s.mailbox ∧ (s.setCell idx sub v).moved = s.moved ∧
    (s.setCell idx sub v).latch = s.latch ∧ (s.setCell idx sub v).paths = s.paths ∧ (s.setCell idx sub v).ethCtr = s.ethCtr ∧
    (s.setCell idx sub v).ferry = s.ferry ∧ (s.setCell idx sub v).sweep = s.sweep ∧ (s.setCell idx sub v).power = s.power ∧
    (s.setCell idx sub v).procs = s.procs ∧ (s.setCell idx sub v).boot = s.boot ∧ (s.setCell idx sub v).rst = s.rst ∧
    (s.setCell idx sub v).eyes = s.eyes ∧ (s.setCell idx sub v).out = s.out ∧ (s.setCell idx sub v).free = s.free := by
  repeat' (first | rfl | constructor)

@[simp] theorem State.setBlob_fields (s : State) (idx sub : Nat) (b : List Byte) :
    (s.setBlob idx sub b).pending = s.pending ∧ (s.setBlob idx sub b).now = s.now ∧ (s.setBlob idx sub b).bell = s.bell ∧
    (s.setBlob idx sub b).led = s.led ∧ (s.setBlob idx sub b).meas = s.meas ∧ (s.setBlob idx sub b).otp = s.otp ∧
    (s.setBlob idx sub b).defects = s.defects ∧ (s.setBlob idx sub b).factory = s.factory ∧ (s.setBlob idx sub b).ev = s.ev ∧
    (s.setBlob idx sub b).sessions = s.sessions ∧ (s.setBlob idx sub b).exchanges = s.exchanges ∧
    (s.setBlob idx sub b).nextExchange = s.nextExchange ∧ (s.setBlob idx sub b).keys = s.keys ∧
    (s.setBlob idx sub b).sites = s.sites ∧ (s.setBlob idx sub b).slots = s.slots ∧ (s.setBlob idx sub b).regs = s.regs ∧
    (s.setBlob idx sub b).epochs = s.epochs ∧ (s.setBlob idx sub b).fabric = s.fabric ∧
    (s.setBlob idx sub b).looms = s.looms ∧ (s.setBlob idx sub b).cellar = s.cellar ∧ (s.setBlob idx sub b).plots = s.plots ∧
    (s.setBlob idx sub b).steps = s.steps ∧ (s.setBlob idx sub b).nextStep = s.nextStep ∧ (s.setBlob idx sub b).samples = s.samples ∧ (s.setBlob idx sub b).ob = s.ob ∧
    (s.setBlob idx sub b).nextAdmit = s.nextAdmit ∧ (s.setBlob idx sub b).qps = s.qps ∧
    (s.setBlob idx sub b).mailbox = s.mailbox ∧ (s.setBlob idx sub b).moved = s.moved ∧
    (s.setBlob idx sub b).latch = s.latch ∧ (s.setBlob idx sub b).paths = s.paths ∧ (s.setBlob idx sub b).ethCtr = s.ethCtr ∧
    (s.setBlob idx sub b).ferry = s.ferry ∧ (s.setBlob idx sub b).sweep = s.sweep ∧ (s.setBlob idx sub b).power = s.power ∧
    (s.setBlob idx sub b).procs = s.procs ∧ (s.setBlob idx sub b).boot = s.boot ∧ (s.setBlob idx sub b).rst = s.rst ∧
    (s.setBlob idx sub b).eyes = s.eyes ∧ (s.setBlob idx sub b).out = s.out ∧ (s.setBlob idx sub b).free = s.free := by
  repeat' (first | rfl | constructor)

@[simp] theorem State.measure_fields (s : State) (idx sub : Nat) (v : List Byte) :
    (s.measure idx sub v).pending = s.pending ∧ (s.measure idx sub v).now = s.now ∧ (s.measure idx sub v).bell = s.bell ∧
    (s.measure idx sub v).led = s.led ∧ (s.measure idx sub v).blob = s.blob ∧ (s.measure idx sub v).otp = s.otp ∧
    (s.measure idx sub v).defects = s.defects ∧ (s.measure idx sub v).factory = s.factory ∧ (s.measure idx sub v).ev = s.ev ∧
    (s.measure idx sub v).sessions = s.sessions ∧ (s.measure idx sub v).exchanges = s.exchanges ∧
    (s.measure idx sub v).nextExchange = s.nextExchange ∧ (s.measure idx sub v).keys = s.keys ∧
    (s.measure idx sub v).sites = s.sites ∧ (s.measure idx sub v).slots = s.slots ∧ (s.measure idx sub v).regs = s.regs ∧
    (s.measure idx sub v).epochs = s.epochs ∧ (s.measure idx sub v).fabric = s.fabric ∧
    (s.measure idx sub v).looms = s.looms ∧ (s.measure idx sub v).cellar = s.cellar ∧ (s.measure idx sub v).plots = s.plots ∧
    (s.measure idx sub v).steps = s.steps ∧ (s.measure idx sub v).nextStep = s.nextStep ∧ (s.measure idx sub v).samples = s.samples ∧ (s.measure idx sub v).ob = s.ob ∧
    (s.measure idx sub v).nextAdmit = s.nextAdmit ∧ (s.measure idx sub v).qps = s.qps ∧
    (s.measure idx sub v).mailbox = s.mailbox ∧ (s.measure idx sub v).moved = s.moved ∧
    (s.measure idx sub v).latch = s.latch ∧ (s.measure idx sub v).paths = s.paths ∧ (s.measure idx sub v).ethCtr = s.ethCtr ∧
    (s.measure idx sub v).ferry = s.ferry ∧ (s.measure idx sub v).sweep = s.sweep ∧ (s.measure idx sub v).power = s.power ∧
    (s.measure idx sub v).procs = s.procs ∧ (s.measure idx sub v).boot = s.boot ∧ (s.measure idx sub v).rst = s.rst ∧
    (s.measure idx sub v).eyes = s.eyes ∧ (s.measure idx sub v).out = s.out ∧ (s.measure idx sub v).free = s.free := by
  repeat' (first | rfl | constructor)

@[simp] theorem State.bump_fields (s : State) (w idx sub n : Nat) :
    (s.bump w idx sub n).pending = s.pending ∧ (s.bump w idx sub n).now = s.now ∧ (s.bump w idx sub n).bell = s.bell ∧
    (s.bump w idx sub n).blob = s.blob ∧ (s.bump w idx sub n).meas = s.meas ∧ (s.bump w idx sub n).otp = s.otp ∧
    (s.bump w idx sub n).defects = s.defects ∧ (s.bump w idx sub n).factory = s.factory ∧ (s.bump w idx sub n).ev = s.ev ∧
    (s.bump w idx sub n).sessions = s.sessions ∧ (s.bump w idx sub n).exchanges = s.exchanges ∧
    (s.bump w idx sub n).nextExchange = s.nextExchange ∧ (s.bump w idx sub n).keys = s.keys ∧
    (s.bump w idx sub n).sites = s.sites ∧ (s.bump w idx sub n).slots = s.slots ∧ (s.bump w idx sub n).regs = s.regs ∧
    (s.bump w idx sub n).epochs = s.epochs ∧ (s.bump w idx sub n).fabric = s.fabric ∧ (s.bump w idx sub n).looms = s.looms ∧
    (s.bump w idx sub n).cellar = s.cellar ∧ (s.bump w idx sub n).plots = s.plots ∧ (s.bump w idx sub n).steps = s.steps ∧
    (s.bump w idx sub n).nextStep = s.nextStep ∧ (s.bump w idx sub n).samples = s.samples ∧ (s.bump w idx sub n).ob = s.ob ∧
    (s.bump w idx sub n).nextAdmit = s.nextAdmit ∧ (s.bump w idx sub n).qps = s.qps ∧
    (s.bump w idx sub n).mailbox = s.mailbox ∧ (s.bump w idx sub n).moved = s.moved ∧ (s.bump w idx sub n).latch = s.latch ∧
    (s.bump w idx sub n).paths = s.paths ∧ (s.bump w idx sub n).ethCtr = s.ethCtr ∧ (s.bump w idx sub n).ferry = s.ferry ∧
    (s.bump w idx sub n).sweep = s.sweep ∧ (s.bump w idx sub n).power = s.power ∧ (s.bump w idx sub n).procs = s.procs ∧
    (s.bump w idx sub n).boot = s.boot ∧ (s.bump w idx sub n).rst = s.rst ∧ (s.bump w idx sub n).eyes = s.eyes ∧
    (s.bump w idx sub n).out = s.out ∧ (s.bump w idx sub n).free = s.free := by
  repeat' (first | rfl | constructor)

@[simp] theorem State.emit_fields (s : State) (o : Out) :
    (s.emit o).pending = s.pending ∧ (s.emit o).now = s.now ∧ (s.emit o).bell = s.bell ∧ (s.emit o).led = s.led ∧
    (s.emit o).blob = s.blob ∧ (s.emit o).meas = s.meas ∧ (s.emit o).otp = s.otp ∧ (s.emit o).defects = s.defects ∧
    (s.emit o).factory = s.factory ∧ (s.emit o).ev = s.ev ∧ (s.emit o).sessions = s.sessions ∧
    (s.emit o).exchanges = s.exchanges ∧ (s.emit o).nextExchange = s.nextExchange ∧ (s.emit o).keys = s.keys ∧
    (s.emit o).sites = s.sites ∧ (s.emit o).slots = s.slots ∧ (s.emit o).regs = s.regs ∧ (s.emit o).epochs = s.epochs ∧
    (s.emit o).fabric = s.fabric ∧ (s.emit o).looms = s.looms ∧ (s.emit o).cellar = s.cellar ∧ (s.emit o).plots = s.plots ∧
    (s.emit o).steps = s.steps ∧ (s.emit o).nextStep = s.nextStep ∧ (s.emit o).samples = s.samples ∧ (s.emit o).ob = s.ob ∧
    (s.emit o).nextAdmit = s.nextAdmit ∧ (s.emit o).qps = s.qps ∧ (s.emit o).mailbox = s.mailbox ∧
    (s.emit o).moved = s.moved ∧ (s.emit o).latch = s.latch ∧ (s.emit o).paths = s.paths ∧ (s.emit o).ethCtr = s.ethCtr ∧
    (s.emit o).ferry = s.ferry ∧ (s.emit o).sweep = s.sweep ∧ (s.emit o).power = s.power ∧ (s.emit o).procs = s.procs ∧
    (s.emit o).boot = s.boot ∧ (s.emit o).rst = s.rst ∧ (s.emit o).eyes = s.eyes ∧ (s.emit o).free = s.free := by
  repeat' (first | rfl | constructor)

@[simp] theorem State.updPlot_fields (s : State) (p : Nat) (f : Plot → Plot) :
    (s.updPlot p f).pending = s.pending ∧ (s.updPlot p f).now = s.now ∧ (s.updPlot p f).bell = s.bell ∧
    (s.updPlot p f).led = s.led ∧ (s.updPlot p f).blob = s.blob ∧ (s.updPlot p f).meas = s.meas ∧
    (s.updPlot p f).otp = s.otp ∧ (s.updPlot p f).defects = s.defects ∧ (s.updPlot p f).factory = s.factory ∧
    (s.updPlot p f).ev = s.ev ∧ (s.updPlot p f).sessions = s.sessions ∧ (s.updPlot p f).exchanges = s.exchanges ∧
    (s.updPlot p f).nextExchange = s.nextExchange ∧ (s.updPlot p f).keys = s.keys ∧ (s.updPlot p f).sites = s.sites ∧
    (s.updPlot p f).slots = s.slots ∧ (s.updPlot p f).regs = s.regs ∧ (s.updPlot p f).epochs = s.epochs ∧
    (s.updPlot p f).fabric = s.fabric ∧ (s.updPlot p f).looms = s.looms ∧ (s.updPlot p f).cellar = s.cellar ∧
    (s.updPlot p f).steps = s.steps ∧ (s.updPlot p f).nextStep = s.nextStep ∧ (s.updPlot p f).samples = s.samples ∧ (s.updPlot p f).ob = s.ob ∧
    (s.updPlot p f).nextAdmit = s.nextAdmit ∧ (s.updPlot p f).qps = s.qps ∧ (s.updPlot p f).mailbox = s.mailbox ∧
    (s.updPlot p f).moved = s.moved ∧ (s.updPlot p f).latch = s.latch ∧ (s.updPlot p f).paths = s.paths ∧
    (s.updPlot p f).ethCtr = s.ethCtr ∧ (s.updPlot p f).ferry = s.ferry ∧ (s.updPlot p f).sweep = s.sweep ∧
    (s.updPlot p f).power = s.power ∧ (s.updPlot p f).procs = s.procs ∧ (s.updPlot p f).boot = s.boot ∧
    (s.updPlot p f).rst = s.rst ∧ (s.updPlot p f).eyes = s.eyes ∧ (s.updPlot p f).out = s.out ∧ (s.updPlot p f).free = s.free := by
  repeat' (first | rfl | constructor)

@[simp] theorem State.updSite_fields (s : State) (t : Nat) (f : Site → Site) :
    (s.updSite t f).pending = s.pending ∧ (s.updSite t f).now = s.now ∧ (s.updSite t f).bell = s.bell ∧
    (s.updSite t f).led = s.led ∧ (s.updSite t f).blob = s.blob ∧ (s.updSite t f).meas = s.meas ∧
    (s.updSite t f).otp = s.otp ∧ (s.updSite t f).defects = s.defects ∧ (s.updSite t f).factory = s.factory ∧
    (s.updSite t f).ev = s.ev ∧ (s.updSite t f).sessions = s.sessions ∧ (s.updSite t f).exchanges = s.exchanges ∧
    (s.updSite t f).nextExchange = s.nextExchange ∧ (s.updSite t f).keys = s.keys ∧ (s.updSite t f).slots = s.slots ∧
    (s.updSite t f).regs = s.regs ∧ (s.updSite t f).epochs = s.epochs ∧ (s.updSite t f).fabric = s.fabric ∧
    (s.updSite t f).looms = s.looms ∧ (s.updSite t f).cellar = s.cellar ∧ (s.updSite t f).plots = s.plots ∧
    (s.updSite t f).steps = s.steps ∧ (s.updSite t f).nextStep = s.nextStep ∧ (s.updSite t f).samples = s.samples ∧ (s.updSite t f).ob = s.ob ∧
    (s.updSite t f).nextAdmit = s.nextAdmit ∧ (s.updSite t f).qps = s.qps ∧ (s.updSite t f).mailbox = s.mailbox ∧
    (s.updSite t f).moved = s.moved ∧ (s.updSite t f).latch = s.latch ∧ (s.updSite t f).paths = s.paths ∧
    (s.updSite t f).ethCtr = s.ethCtr ∧ (s.updSite t f).ferry = s.ferry ∧ (s.updSite t f).sweep = s.sweep ∧
    (s.updSite t f).power = s.power ∧ (s.updSite t f).procs = s.procs ∧ (s.updSite t f).boot = s.boot ∧
    (s.updSite t f).rst = s.rst ∧ (s.updSite t f).eyes = s.eyes ∧ (s.updSite t f).out = s.out ∧ (s.updSite t f).free = s.free := by
  repeat' (first | rfl | constructor)

@[simp] theorem State.updSlot_fields (s : State) (n : Nat) (f : SlotSt → SlotSt) :
    (s.updSlot n f).pending = s.pending ∧ (s.updSlot n f).now = s.now ∧ (s.updSlot n f).bell = s.bell ∧
    (s.updSlot n f).led = s.led ∧ (s.updSlot n f).blob = s.blob ∧ (s.updSlot n f).meas = s.meas ∧
    (s.updSlot n f).otp = s.otp ∧ (s.updSlot n f).defects = s.defects ∧ (s.updSlot n f).factory = s.factory ∧
    (s.updSlot n f).ev = s.ev ∧ (s.updSlot n f).sessions = s.sessions ∧ (s.updSlot n f).exchanges = s.exchanges ∧
    (s.updSlot n f).nextExchange = s.nextExchange ∧ (s.updSlot n f).keys = s.keys ∧ (s.updSlot n f).sites = s.sites ∧
    (s.updSlot n f).regs = s.regs ∧ (s.updSlot n f).epochs = s.epochs ∧ (s.updSlot n f).fabric = s.fabric ∧
    (s.updSlot n f).looms = s.looms ∧ (s.updSlot n f).cellar = s.cellar ∧ (s.updSlot n f).plots = s.plots ∧
    (s.updSlot n f).steps = s.steps ∧ (s.updSlot n f).nextStep = s.nextStep ∧ (s.updSlot n f).samples = s.samples ∧ (s.updSlot n f).ob = s.ob ∧
    (s.updSlot n f).nextAdmit = s.nextAdmit ∧ (s.updSlot n f).qps = s.qps ∧ (s.updSlot n f).mailbox = s.mailbox ∧
    (s.updSlot n f).moved = s.moved ∧ (s.updSlot n f).latch = s.latch ∧ (s.updSlot n f).paths = s.paths ∧
    (s.updSlot n f).ethCtr = s.ethCtr ∧ (s.updSlot n f).ferry = s.ferry ∧ (s.updSlot n f).sweep = s.sweep ∧
    (s.updSlot n f).power = s.power ∧ (s.updSlot n f).procs = s.procs ∧ (s.updSlot n f).boot = s.boot ∧
    (s.updSlot n f).rst = s.rst ∧ (s.updSlot n f).eyes = s.eyes ∧ (s.updSlot n f).out = s.out ∧ (s.updSlot n f).free = s.free := by
  repeat' (first | rfl | constructor)

@[simp] theorem State.updLoom_fields (s : State) (n : Nat) (f : LoomSt → LoomSt) :
    (s.updLoom n f).pending = s.pending ∧ (s.updLoom n f).now = s.now ∧ (s.updLoom n f).bell = s.bell ∧
    (s.updLoom n f).led = s.led ∧ (s.updLoom n f).blob = s.blob ∧ (s.updLoom n f).meas = s.meas ∧
    (s.updLoom n f).otp = s.otp ∧ (s.updLoom n f).defects = s.defects ∧ (s.updLoom n f).factory = s.factory ∧
    (s.updLoom n f).ev = s.ev ∧ (s.updLoom n f).sessions = s.sessions ∧ (s.updLoom n f).exchanges = s.exchanges ∧
    (s.updLoom n f).nextExchange = s.nextExchange ∧ (s.updLoom n f).keys = s.keys ∧ (s.updLoom n f).sites = s.sites ∧
    (s.updLoom n f).slots = s.slots ∧ (s.updLoom n f).regs = s.regs ∧ (s.updLoom n f).epochs = s.epochs ∧
    (s.updLoom n f).fabric = s.fabric ∧ (s.updLoom n f).cellar = s.cellar ∧ (s.updLoom n f).plots = s.plots ∧
    (s.updLoom n f).steps = s.steps ∧ (s.updLoom n f).nextStep = s.nextStep ∧ (s.updLoom n f).samples = s.samples ∧ (s.updLoom n f).ob = s.ob ∧
    (s.updLoom n f).nextAdmit = s.nextAdmit ∧ (s.updLoom n f).qps = s.qps ∧ (s.updLoom n f).mailbox = s.mailbox ∧
    (s.updLoom n f).moved = s.moved ∧ (s.updLoom n f).latch = s.latch ∧ (s.updLoom n f).paths = s.paths ∧
    (s.updLoom n f).ethCtr = s.ethCtr ∧ (s.updLoom n f).ferry = s.ferry ∧ (s.updLoom n f).sweep = s.sweep ∧
    (s.updLoom n f).power = s.power ∧ (s.updLoom n f).procs = s.procs ∧ (s.updLoom n f).boot = s.boot ∧
    (s.updLoom n f).rst = s.rst ∧ (s.updLoom n f).eyes = s.eyes ∧ (s.updLoom n f).out = s.out ∧ (s.updLoom n f).free = s.free := by
  repeat' (first | rfl | constructor)

@[simp] theorem State.newEpoch_fields (s : State) (e : Nat) :
    (s.newEpoch e).pending = s.pending ∧ (s.newEpoch e).now = s.now ∧ (s.newEpoch e).bell = s.bell ∧
    (s.newEpoch e).led = s.led ∧ (s.newEpoch e).blob = s.blob ∧ (s.newEpoch e).meas = s.meas ∧ (s.newEpoch e).otp = s.otp ∧
    (s.newEpoch e).defects = s.defects ∧ (s.newEpoch e).factory = s.factory ∧ (s.newEpoch e).ev = s.ev ∧
    (s.newEpoch e).sessions = s.sessions ∧ (s.newEpoch e).exchanges = s.exchanges ∧
    (s.newEpoch e).nextExchange = s.nextExchange ∧ (s.newEpoch e).keys = s.keys ∧ (s.newEpoch e).sites = s.sites ∧
    (s.newEpoch e).slots = s.slots ∧ (s.newEpoch e).regs = s.regs ∧ (s.newEpoch e).fabric = s.fabric ∧
    (s.newEpoch e).looms = s.looms ∧ (s.newEpoch e).cellar = s.cellar ∧ (s.newEpoch e).plots = s.plots ∧
    (s.newEpoch e).steps = s.steps ∧ (s.newEpoch e).nextStep = s.nextStep ∧ (s.newEpoch e).samples = s.samples ∧ (s.newEpoch e).ob = s.ob ∧
    (s.newEpoch e).nextAdmit = s.nextAdmit ∧ (s.newEpoch e).qps = s.qps ∧ (s.newEpoch e).mailbox = s.mailbox ∧
    (s.newEpoch e).moved = s.moved ∧ (s.newEpoch e).latch = s.latch ∧ (s.newEpoch e).paths = s.paths ∧
    (s.newEpoch e).ethCtr = s.ethCtr ∧ (s.newEpoch e).ferry = s.ferry ∧ (s.newEpoch e).sweep = s.sweep ∧
    (s.newEpoch e).power = s.power ∧ (s.newEpoch e).procs = s.procs ∧ (s.newEpoch e).boot = s.boot ∧
    (s.newEpoch e).rst = s.rst ∧ (s.newEpoch e).eyes = s.eyes ∧ (s.newEpoch e).out = s.out ∧ (s.newEpoch e).free = s.free := by
  repeat' (first | rfl | constructor)

@[simp] theorem State.updBox_fields (s : State) (fn : Func) (g : Mailbox → Mailbox) :
    (s.updBox fn g).pending = s.pending ∧ (s.updBox fn g).now = s.now ∧ (s.updBox fn g).bell = s.bell ∧
    (s.updBox fn g).led = s.led ∧ (s.updBox fn g).blob = s.blob ∧ (s.updBox fn g).meas = s.meas ∧
    (s.updBox fn g).otp = s.otp ∧ (s.updBox fn g).defects = s.defects ∧ (s.updBox fn g).factory = s.factory ∧
    (s.updBox fn g).ev = s.ev ∧ (s.updBox fn g).sessions = s.sessions ∧ (s.updBox fn g).exchanges = s.exchanges ∧
    (s.updBox fn g).nextExchange = s.nextExchange ∧ (s.updBox fn g).keys = s.keys ∧ (s.updBox fn g).sites = s.sites ∧
    (s.updBox fn g).slots = s.slots ∧ (s.updBox fn g).regs = s.regs ∧ (s.updBox fn g).epochs = s.epochs ∧
    (s.updBox fn g).fabric = s.fabric ∧ (s.updBox fn g).looms = s.looms ∧ (s.updBox fn g).cellar = s.cellar ∧
    (s.updBox fn g).plots = s.plots ∧ (s.updBox fn g).steps = s.steps ∧ (s.updBox fn g).nextStep = s.nextStep ∧ (s.updBox fn g).samples = s.samples ∧
    (s.updBox fn g).ob = s.ob ∧ (s.updBox fn g).nextAdmit = s.nextAdmit ∧ (s.updBox fn g).qps = s.qps ∧
    (s.updBox fn g).moved = s.moved ∧ (s.updBox fn g).latch = s.latch ∧ (s.updBox fn g).paths = s.paths ∧
    (s.updBox fn g).ethCtr = s.ethCtr ∧ (s.updBox fn g).ferry = s.ferry ∧ (s.updBox fn g).sweep = s.sweep ∧
    (s.updBox fn g).power = s.power ∧ (s.updBox fn g).procs = s.procs ∧ (s.updBox fn g).boot = s.boot ∧
    (s.updBox fn g).rst = s.rst ∧ (s.updBox fn g).eyes = s.eyes ∧ (s.updBox fn g).out = s.out ∧ (s.updBox fn g).free = s.free := by
  repeat' (first | rfl | constructor)

@[simp] theorem State.updSession_fields (s : State) (n : Nat) (g : Session → Session) :
    (s.updSession n g).pending = s.pending ∧ (s.updSession n g).now = s.now ∧ (s.updSession n g).bell = s.bell ∧
    (s.updSession n g).led = s.led ∧ (s.updSession n g).blob = s.blob ∧ (s.updSession n g).meas = s.meas ∧
    (s.updSession n g).otp = s.otp ∧ (s.updSession n g).defects = s.defects ∧ (s.updSession n g).factory = s.factory ∧
    (s.updSession n g).ev = s.ev ∧ (s.updSession n g).exchanges = s.exchanges ∧
    (s.updSession n g).nextExchange = s.nextExchange ∧ (s.updSession n g).keys = s.keys ∧
    (s.updSession n g).sites = s.sites ∧ (s.updSession n g).slots = s.slots ∧ (s.updSession n g).regs = s.regs ∧
    (s.updSession n g).epochs = s.epochs ∧ (s.updSession n g).fabric = s.fabric ∧ (s.updSession n g).looms = s.looms ∧
    (s.updSession n g).cellar = s.cellar ∧ (s.updSession n g).plots = s.plots ∧ (s.updSession n g).steps = s.steps ∧
    (s.updSession n g).nextStep = s.nextStep ∧ (s.updSession n g).samples = s.samples ∧ (s.updSession n g).ob = s.ob ∧ (s.updSession n g).nextAdmit = s.nextAdmit ∧
    (s.updSession n g).qps = s.qps ∧ (s.updSession n g).mailbox = s.mailbox ∧ (s.updSession n g).moved = s.moved ∧
    (s.updSession n g).latch = s.latch ∧ (s.updSession n g).paths = s.paths ∧ (s.updSession n g).ethCtr = s.ethCtr ∧
    (s.updSession n g).ferry = s.ferry ∧ (s.updSession n g).sweep = s.sweep ∧ (s.updSession n g).power = s.power ∧
    (s.updSession n g).procs = s.procs ∧ (s.updSession n g).boot = s.boot ∧ (s.updSession n g).rst = s.rst ∧
    (s.updSession n g).eyes = s.eyes ∧ (s.updSession n g).out = s.out ∧ (s.updSession n g).free = s.free := by
  repeat' (first | rfl | constructor)

@[simp] theorem State.updQp_fields (s : State) (n : Nat) (f : Qp → Qp) :
    (s.updQp n f).pending = s.pending ∧ (s.updQp n f).now = s.now ∧ (s.updQp n f).bell = s.bell ∧ (s.updQp n f).led = s.led ∧
    (s.updQp n f).blob = s.blob ∧ (s.updQp n f).meas = s.meas ∧ (s.updQp n f).otp = s.otp ∧
    (s.updQp n f).defects = s.defects ∧ (s.updQp n f).factory = s.factory ∧ (s.updQp n f).ev = s.ev ∧
    (s.updQp n f).sessions = s.sessions ∧ (s.updQp n f).exchanges = s.exchanges ∧
    (s.updQp n f).nextExchange = s.nextExchange ∧ (s.updQp n f).keys = s.keys ∧ (s.updQp n f).sites = s.sites ∧
    (s.updQp n f).slots = s.slots ∧ (s.updQp n f).regs = s.regs ∧ (s.updQp n f).epochs = s.epochs ∧
    (s.updQp n f).fabric = s.fabric ∧ (s.updQp n f).looms = s.looms ∧ (s.updQp n f).cellar = s.cellar ∧
    (s.updQp n f).plots = s.plots ∧ (s.updQp n f).steps = s.steps ∧ (s.updQp n f).nextStep = s.nextStep ∧ (s.updQp n f).samples = s.samples ∧
    (s.updQp n f).ob = s.ob ∧ (s.updQp n f).nextAdmit = s.nextAdmit ∧ (s.updQp n f).mailbox = s.mailbox ∧
    (s.updQp n f).moved = s.moved ∧ (s.updQp n f).latch = s.latch ∧ (s.updQp n f).paths = s.paths ∧
    (s.updQp n f).ethCtr = s.ethCtr ∧ (s.updQp n f).ferry = s.ferry ∧ (s.updQp n f).sweep = s.sweep ∧
    (s.updQp n f).power = s.power ∧ (s.updQp n f).procs = s.procs ∧ (s.updQp n f).boot = s.boot ∧ (s.updQp n f).rst = s.rst ∧
    (s.updQp n f).eyes = s.eyes ∧ (s.updQp n f).out = s.out ∧ (s.updQp n f).free = s.free := by
  repeat' (first | rfl | constructor)

@[simp] theorem State.updOb_fields (s : State) (i : Nat) (f : Ob → Ob) :
    (s.updOb i f).pending = s.pending ∧ (s.updOb i f).now = s.now ∧ (s.updOb i f).bell = s.bell ∧ (s.updOb i f).led = s.led ∧
    (s.updOb i f).blob = s.blob ∧ (s.updOb i f).meas = s.meas ∧ (s.updOb i f).otp = s.otp ∧
    (s.updOb i f).defects = s.defects ∧ (s.updOb i f).factory = s.factory ∧ (s.updOb i f).ev = s.ev ∧
    (s.updOb i f).sessions = s.sessions ∧ (s.updOb i f).exchanges = s.exchanges ∧
    (s.updOb i f).nextExchange = s.nextExchange ∧ (s.updOb i f).keys = s.keys ∧ (s.updOb i f).sites = s.sites ∧
    (s.updOb i f).slots = s.slots ∧ (s.updOb i f).regs = s.regs ∧ (s.updOb i f).epochs = s.epochs ∧
    (s.updOb i f).fabric = s.fabric ∧ (s.updOb i f).looms = s.looms ∧ (s.updOb i f).cellar = s.cellar ∧
    (s.updOb i f).plots = s.plots ∧ (s.updOb i f).steps = s.steps ∧ (s.updOb i f).nextStep = s.nextStep ∧ (s.updOb i f).samples = s.samples ∧
    (s.updOb i f).nextAdmit = s.nextAdmit ∧ (s.updOb i f).qps = s.qps ∧ (s.updOb i f).mailbox = s.mailbox ∧
    (s.updOb i f).moved = s.moved ∧ (s.updOb i f).latch = s.latch ∧ (s.updOb i f).paths = s.paths ∧
    (s.updOb i f).ethCtr = s.ethCtr ∧ (s.updOb i f).ferry = s.ferry ∧ (s.updOb i f).sweep = s.sweep ∧
    (s.updOb i f).power = s.power ∧ (s.updOb i f).procs = s.procs ∧ (s.updOb i f).boot = s.boot ∧ (s.updOb i f).rst = s.rst ∧
    (s.updOb i f).eyes = s.eyes ∧ (s.updOb i f).out = s.out ∧ (s.updOb i f).free = s.free := by
  repeat' (first | rfl | constructor)

@[simp] theorem State.updStep_fields (s : State) (id : Nat) (f : Step → Step) :
    (s.updStep id f).pending = s.pending ∧ (s.updStep id f).now = s.now ∧ (s.updStep id f).bell = s.bell ∧
    (s.updStep id f).led = s.led ∧ (s.updStep id f).blob = s.blob ∧ (s.updStep id f).meas = s.meas ∧
    (s.updStep id f).otp = s.otp ∧ (s.updStep id f).defects = s.defects ∧ (s.updStep id f).factory = s.factory ∧
    (s.updStep id f).ev = s.ev ∧ (s.updStep id f).sessions = s.sessions ∧ (s.updStep id f).exchanges = s.exchanges ∧
    (s.updStep id f).nextExchange = s.nextExchange ∧ (s.updStep id f).keys = s.keys ∧ (s.updStep id f).sites = s.sites ∧
    (s.updStep id f).slots = s.slots ∧ (s.updStep id f).regs = s.regs ∧ (s.updStep id f).epochs = s.epochs ∧
    (s.updStep id f).fabric = s.fabric ∧ (s.updStep id f).looms = s.looms ∧ (s.updStep id f).cellar = s.cellar ∧
    (s.updStep id f).plots = s.plots ∧ (s.updStep id f).nextStep = s.nextStep ∧ (s.updStep id f).samples = s.samples ∧ (s.updStep id f).ob = s.ob ∧
    (s.updStep id f).nextAdmit = s.nextAdmit ∧ (s.updStep id f).qps = s.qps ∧ (s.updStep id f).mailbox = s.mailbox ∧
    (s.updStep id f).moved = s.moved ∧ (s.updStep id f).latch = s.latch ∧ (s.updStep id f).paths = s.paths ∧
    (s.updStep id f).ethCtr = s.ethCtr ∧ (s.updStep id f).ferry = s.ferry ∧ (s.updStep id f).sweep = s.sweep ∧
    (s.updStep id f).power = s.power ∧ (s.updStep id f).procs = s.procs ∧ (s.updStep id f).boot = s.boot ∧
    (s.updStep id f).rst = s.rst ∧ (s.updStep id f).eyes = s.eyes ∧ (s.updStep id f).out = s.out ∧
    (s.updStep id f).free = s.free := by
  repeat' (first | rfl | constructor)

@[simp] theorem State.updChan_fields (s : State) (k : Nat) (f : Chan → Chan) :
    (s.updChan k f).pending = s.pending ∧ (s.updChan k f).now = s.now ∧ (s.updChan k f).bell = s.bell ∧
    (s.updChan k f).led = s.led ∧ (s.updChan k f).blob = s.blob ∧ (s.updChan k f).meas = s.meas ∧
    (s.updChan k f).otp = s.otp ∧ (s.updChan k f).defects = s.defects ∧ (s.updChan k f).factory = s.factory ∧
    (s.updChan k f).ev = s.ev ∧ (s.updChan k f).sessions = s.sessions ∧ (s.updChan k f).exchanges = s.exchanges ∧
    (s.updChan k f).nextExchange = s.nextExchange ∧ (s.updChan k f).keys = s.keys ∧ (s.updChan k f).sites = s.sites ∧
    (s.updChan k f).slots = s.slots ∧ (s.updChan k f).regs = s.regs ∧ (s.updChan k f).epochs = s.epochs ∧
    (s.updChan k f).looms = s.looms ∧ (s.updChan k f).cellar = s.cellar ∧ (s.updChan k f).plots = s.plots ∧
    (s.updChan k f).steps = s.steps ∧ (s.updChan k f).nextStep = s.nextStep ∧ (s.updChan k f).samples = s.samples ∧ (s.updChan k f).ob = s.ob ∧
    (s.updChan k f).nextAdmit = s.nextAdmit ∧ (s.updChan k f).qps = s.qps ∧ (s.updChan k f).mailbox = s.mailbox ∧
    (s.updChan k f).moved = s.moved ∧ (s.updChan k f).latch = s.latch ∧ (s.updChan k f).paths = s.paths ∧
    (s.updChan k f).ethCtr = s.ethCtr ∧ (s.updChan k f).ferry = s.ferry ∧ (s.updChan k f).sweep = s.sweep ∧
    (s.updChan k f).power = s.power ∧ (s.updChan k f).procs = s.procs ∧ (s.updChan k f).boot = s.boot ∧
    (s.updChan k f).rst = s.rst ∧ (s.updChan k f).eyes = s.eyes ∧ (s.updChan k f).out = s.out ∧ (s.updChan k f).free = s.free := by
  repeat' (first | rfl | constructor)

@[simp] theorem State.updFerry_fields (s : State) (x : Nat) (f : Ferry → Ferry) :
    (s.updFerry x f).pending = s.pending ∧ (s.updFerry x f).now = s.now ∧ (s.updFerry x f).bell = s.bell ∧
    (s.updFerry x f).led = s.led ∧ (s.updFerry x f).blob = s.blob ∧ (s.updFerry x f).meas = s.meas ∧
    (s.updFerry x f).otp = s.otp ∧ (s.updFerry x f).defects = s.defects ∧ (s.updFerry x f).factory = s.factory ∧
    (s.updFerry x f).ev = s.ev ∧ (s.updFerry x f).sessions = s.sessions ∧ (s.updFerry x f).exchanges = s.exchanges ∧
    (s.updFerry x f).nextExchange = s.nextExchange ∧ (s.updFerry x f).keys = s.keys ∧ (s.updFerry x f).sites = s.sites ∧
    (s.updFerry x f).slots = s.slots ∧ (s.updFerry x f).regs = s.regs ∧ (s.updFerry x f).epochs = s.epochs ∧
    (s.updFerry x f).fabric = s.fabric ∧ (s.updFerry x f).looms = s.looms ∧ (s.updFerry x f).cellar = s.cellar ∧
    (s.updFerry x f).plots = s.plots ∧ (s.updFerry x f).steps = s.steps ∧ (s.updFerry x f).nextStep = s.nextStep ∧ (s.updFerry x f).samples = s.samples ∧
    (s.updFerry x f).ob = s.ob ∧ (s.updFerry x f).nextAdmit = s.nextAdmit ∧ (s.updFerry x f).qps = s.qps ∧
    (s.updFerry x f).mailbox = s.mailbox ∧ (s.updFerry x f).moved = s.moved ∧ (s.updFerry x f).latch = s.latch ∧
    (s.updFerry x f).paths = s.paths ∧ (s.updFerry x f).ethCtr = s.ethCtr ∧ (s.updFerry x f).sweep = s.sweep ∧
    (s.updFerry x f).power = s.power ∧ (s.updFerry x f).procs = s.procs ∧ (s.updFerry x f).boot = s.boot ∧
    (s.updFerry x f).rst = s.rst ∧ (s.updFerry x f).eyes = s.eyes ∧ (s.updFerry x f).out = s.out ∧
    (s.updFerry x f).free = s.free := by
  repeat' (first | rfl | constructor)

@[simp] theorem State.updReg_fields (s : State) (k : Nat) (f : Reg → Reg) :
    (s.updReg k f).pending = s.pending ∧ (s.updReg k f).now = s.now ∧ (s.updReg k f).bell = s.bell ∧
    (s.updReg k f).led = s.led ∧ (s.updReg k f).blob = s.blob ∧ (s.updReg k f).meas = s.meas ∧ (s.updReg k f).otp = s.otp ∧
    (s.updReg k f).defects = s.defects ∧ (s.updReg k f).factory = s.factory ∧ (s.updReg k f).ev = s.ev ∧
    (s.updReg k f).sessions = s.sessions ∧ (s.updReg k f).exchanges = s.exchanges ∧
    (s.updReg k f).nextExchange = s.nextExchange ∧ (s.updReg k f).keys = s.keys ∧ (s.updReg k f).sites = s.sites ∧
    (s.updReg k f).slots = s.slots ∧ (s.updReg k f).epochs = s.epochs ∧ (s.updReg k f).fabric = s.fabric ∧
    (s.updReg k f).looms = s.looms ∧ (s.updReg k f).cellar = s.cellar ∧ (s.updReg k f).plots = s.plots ∧
    (s.updReg k f).steps = s.steps ∧ (s.updReg k f).nextStep = s.nextStep ∧ (s.updReg k f).samples = s.samples ∧ (s.updReg k f).ob = s.ob ∧
    (s.updReg k f).nextAdmit = s.nextAdmit ∧ (s.updReg k f).qps = s.qps ∧ (s.updReg k f).mailbox = s.mailbox ∧
    (s.updReg k f).moved = s.moved ∧ (s.updReg k f).latch = s.latch ∧ (s.updReg k f).paths = s.paths ∧
    (s.updReg k f).ethCtr = s.ethCtr ∧ (s.updReg k f).ferry = s.ferry ∧ (s.updReg k f).sweep = s.sweep ∧
    (s.updReg k f).power = s.power ∧ (s.updReg k f).procs = s.procs ∧ (s.updReg k f).boot = s.boot ∧
    (s.updReg k f).rst = s.rst ∧ (s.updReg k f).eyes = s.eyes ∧ (s.updReg k f).out = s.out ∧ (s.updReg k f).free = s.free := by
  repeat' (first | rfl | constructor)

@[simp] theorem raisePort_fields (x : Port) (r : EventRec) (s : State) :
    (raisePort x r s).pending = s.pending ∧ (raisePort x r s).now = s.now ∧ (raisePort x r s).bell = s.bell ∧
    (raisePort x r s).led = s.led ∧ (raisePort x r s).blob = s.blob ∧ (raisePort x r s).meas = s.meas ∧
    (raisePort x r s).otp = s.otp ∧ (raisePort x r s).defects = s.defects ∧ (raisePort x r s).factory = s.factory ∧
    (raisePort x r s).sessions = s.sessions ∧ (raisePort x r s).exchanges = s.exchanges ∧
    (raisePort x r s).nextExchange = s.nextExchange ∧ (raisePort x r s).keys = s.keys ∧ (raisePort x r s).sites = s.sites ∧
    (raisePort x r s).slots = s.slots ∧ (raisePort x r s).regs = s.regs ∧ (raisePort x r s).epochs = s.epochs ∧
    (raisePort x r s).fabric = s.fabric ∧ (raisePort x r s).looms = s.looms ∧ (raisePort x r s).cellar = s.cellar ∧
    (raisePort x r s).plots = s.plots ∧ (raisePort x r s).steps = s.steps ∧ (raisePort x r s).nextStep = s.nextStep ∧ (raisePort x r s).samples = s.samples ∧
    (raisePort x r s).ob = s.ob ∧ (raisePort x r s).nextAdmit = s.nextAdmit ∧ (raisePort x r s).qps = s.qps ∧
    (raisePort x r s).mailbox = s.mailbox ∧ (raisePort x r s).moved = s.moved ∧ (raisePort x r s).latch = s.latch ∧
    (raisePort x r s).paths = s.paths ∧ (raisePort x r s).ethCtr = s.ethCtr ∧ (raisePort x r s).ferry = s.ferry ∧
    (raisePort x r s).sweep = s.sweep ∧ (raisePort x r s).power = s.power ∧ (raisePort x r s).procs = s.procs ∧
    (raisePort x r s).boot = s.boot ∧ (raisePort x r s).rst = s.rst ∧ (raisePort x r s).eyes = s.eyes ∧
    (raisePort x r s).free = s.free := by
  unfold raisePort
  dsimp only
  split <;> simp

@[simp] theorem State.raise_fields (s : State) (ev plot : Nat) (params : List Nat) :
    (s.raise ev plot params).pending = s.pending ∧ (s.raise ev plot params).now = s.now ∧
    (s.raise ev plot params).bell = s.bell ∧ (s.raise ev plot params).led = s.led ∧ (s.raise ev plot params).blob = s.blob ∧
    (s.raise ev plot params).meas = s.meas ∧ (s.raise ev plot params).otp = s.otp ∧
    (s.raise ev plot params).defects = s.defects ∧ (s.raise ev plot params).factory = s.factory ∧
    (s.raise ev plot params).exchanges = s.exchanges ∧ (s.raise ev plot params).nextExchange = s.nextExchange ∧
    (s.raise ev plot params).keys = s.keys ∧ (s.raise ev plot params).sites = s.sites ∧
    (s.raise ev plot params).slots = s.slots ∧ (s.raise ev plot params).regs = s.regs ∧
    (s.raise ev plot params).epochs = s.epochs ∧ (s.raise ev plot params).fabric = s.fabric ∧
    (s.raise ev plot params).looms = s.looms ∧ (s.raise ev plot params).cellar = s.cellar ∧
    (s.raise ev plot params).plots = s.plots ∧ (s.raise ev plot params).steps = s.steps ∧
    (s.raise ev plot params).nextStep = s.nextStep ∧ (s.raise ev plot params).samples = s.samples ∧ (s.raise ev plot params).ob = s.ob ∧
    (s.raise ev plot params).nextAdmit = s.nextAdmit ∧ (s.raise ev plot params).qps = s.qps ∧
    (s.raise ev plot params).mailbox = s.mailbox ∧ (s.raise ev plot params).moved = s.moved ∧
    (s.raise ev plot params).latch = s.latch ∧ (s.raise ev plot params).paths = s.paths ∧
    (s.raise ev plot params).ethCtr = s.ethCtr ∧ (s.raise ev plot params).ferry = s.ferry ∧
    (s.raise ev plot params).sweep = s.sweep ∧ (s.raise ev plot params).power = s.power ∧
    (s.raise ev plot params).procs = s.procs ∧ (s.raise ev plot params).boot = s.boot ∧
    (s.raise ev plot params).rst = s.rst ∧ (s.raise ev plot params).eyes = s.eyes ∧ (s.raise ev plot params).free = s.free := by
  simp only [State.raise]
  simp

@[simp] theorem State.raiseLimited_fields (s : State) (ev scope period plot : Nat) (params : List Nat) :
    (s.raiseLimited ev scope period plot params).pending = s.pending ∧
    (s.raiseLimited ev scope period plot params).now = s.now ∧ (s.raiseLimited ev scope period plot params).bell = s.bell ∧
    (s.raiseLimited ev scope period plot params).led = s.led ∧ (s.raiseLimited ev scope period plot params).blob = s.blob ∧
    (s.raiseLimited ev scope period plot params).meas = s.meas ∧ (s.raiseLimited ev scope period plot params).otp = s.otp ∧
    (s.raiseLimited ev scope period plot params).defects = s.defects ∧
    (s.raiseLimited ev scope period plot params).factory = s.factory ∧
    (s.raiseLimited ev scope period plot params).exchanges = s.exchanges ∧
    (s.raiseLimited ev scope period plot params).nextExchange = s.nextExchange ∧
    (s.raiseLimited ev scope period plot params).keys = s.keys ∧
    (s.raiseLimited ev scope period plot params).sites = s.sites ∧
    (s.raiseLimited ev scope period plot params).slots = s.slots ∧
    (s.raiseLimited ev scope period plot params).regs = s.regs ∧
    (s.raiseLimited ev scope period plot params).epochs = s.epochs ∧
    (s.raiseLimited ev scope period plot params).fabric = s.fabric ∧
    (s.raiseLimited ev scope period plot params).looms = s.looms ∧
    (s.raiseLimited ev scope period plot params).cellar = s.cellar ∧
    (s.raiseLimited ev scope period plot params).plots = s.plots ∧
    (s.raiseLimited ev scope period plot params).steps = s.steps ∧
    (s.raiseLimited ev scope period plot params).nextStep = s.nextStep ∧ (s.raiseLimited ev scope period plot params).samples = s.samples ∧
    (s.raiseLimited ev scope period plot params).ob = s.ob ∧
    (s.raiseLimited ev scope period plot params).nextAdmit = s.nextAdmit ∧
    (s.raiseLimited ev scope period plot params).qps = s.qps ∧
    (s.raiseLimited ev scope period plot params).mailbox = s.mailbox ∧
    (s.raiseLimited ev scope period plot params).moved = s.moved ∧
    (s.raiseLimited ev scope period plot params).latch = s.latch ∧
    (s.raiseLimited ev scope period plot params).paths = s.paths ∧
    (s.raiseLimited ev scope period plot params).ethCtr = s.ethCtr ∧
    (s.raiseLimited ev scope period plot params).ferry = s.ferry ∧
    (s.raiseLimited ev scope period plot params).sweep = s.sweep ∧
    (s.raiseLimited ev scope period plot params).power = s.power ∧
    (s.raiseLimited ev scope period plot params).procs = s.procs ∧
    (s.raiseLimited ev scope period plot params).boot = s.boot ∧ (s.raiseLimited ev scope period plot params).rst = s.rst ∧
    (s.raiseLimited ev scope period plot params).eyes = s.eyes ∧ (s.raiseLimited ev scope period plot params).free = s.free := by
  unfold State.raiseLimited
  dsimp only
  split <;> simp

@[simp] theorem State.plot_updPlot (s : State) (p q : Nat) (f : Plot → Plot) :
    (s.updPlot p f).plot q = if p = q then f (s.plot q) else s.plot q := by
  simp [State.plot, State.updPlot, Tab.get_upd]

@[simp] theorem State.site_updSite (s : State) (p q : Nat) (f : Site → Site) :
    (s.updSite p f).site q = if p = q then f (s.site q) else s.site q := by
  simp [State.site, State.updSite, Tab.get_upd]

@[simp] theorem State.slot_updSlot (s : State) (p q : Nat) (f : SlotSt → SlotSt) :
    (s.updSlot p f).slot q = if p = q then f (s.slot q) else s.slot q := by
  simp [State.slot, State.updSlot, Tab.get_upd]

@[simp] theorem State.loom_updLoom (s : State) (p q : Nat) (f : LoomSt → LoomSt) :
    (s.updLoom p f).loom q = if p = q then f (s.loom q) else s.loom q := by
  simp [State.loom, State.updLoom, Tab.get_upd]

@[simp] theorem State.qp_updQp (s : State) (p q : Nat) (f : Qp → Qp) :
    (s.updQp p f).qp q = if p = q then f (s.qp q) else s.qp q := by
  simp [State.qp, State.updQp, Tab.get_upd]

@[simp] theorem State.obAt_updOb (s : State) (p q : Nat) (f : Ob → Ob) :
    (s.updOb p f).obAt q = if p = q then f (s.obAt q) else s.obAt q := by
  simp [State.obAt, State.updOb, Tab.get_upd]

@[simp] theorem State.chan_updChan (s : State) (p q : Nat) (f : Chan → Chan) :
    (s.updChan p f).chan q = if p = q then f (s.chan q) else s.chan q := by
  simp [State.chan, State.updChan, Tab.get_upd]

@[simp] theorem State.ferryAt_updFerry (s : State) (p q : Nat) (f : Ferry → Ferry) :
    (s.updFerry p f).ferryAt q = if p = q then f (s.ferryAt q) else s.ferryAt q := by
  simp [State.ferryAt, State.updFerry, Tab.get_upd]

@[simp] theorem State.reg_updReg (s : State) (p q : Nat) (f : Reg → Reg) :
    (s.updReg p f).reg q = if p = q then f (s.reg q) else s.reg q := by
  simp [State.reg, State.updReg, Tab.get_upd]

@[simp] theorem State.stepAt_updStep (s : State) (i j : Nat) (f : Step → Step) :
    (s.updStep i f).stepAt j = if i = j then (s.stepAt j).map f else s.stepAt j := by
  simp [State.stepAt, State.updStep, Tab.get_upd]

@[simp] theorem State.session_updSession (s : State) (i j : Nat) (f : Session → Session) :
    (s.updSession i f).session j = if i = j then (s.session j).map f else s.session j := by
  simp [State.session, State.updSession, Tab.get_upd]

/-! ### Ledger cells -/

@[simp] theorem State.cell_setCell_self (s : State) (idx sub v : Nat) : (s.setCell idx sub v).cell idx sub = v := by
  simp [State.cell, State.setCell]

/-- A write of one cell leaves every other one. -/
theorem State.cell_setCell_ne (s : State) (idx sub v i j : Nat) (h : ek idx sub ≠ ek i j) :
    (s.setCell idx sub v).cell i j = s.cell i j := by
  simp only [State.cell, State.setCell]
  exact Tab.get_set_ne' _ _ _ h

@[simp] theorem State.cell_bump_self (s : State) (w idx sub n : Nat) :
    (s.bump w idx sub n).cell idx sub = satAdd w (s.cell idx sub) n := by
  simp [State.bump]

@[simp] theorem State.blobAt_setBlob_self (s : State) (idx sub : Nat) (b : List Byte) :
    (s.setBlob idx sub b).blobAt idx sub = b := by
  simp [State.blobAt, State.setBlob]

/-! ### Events -/

/-- An event is entered in the log, with the next sequence number. -/
theorem State.raise_seq (s : State) (ev plot : Nat) (params : List Nat) : (s.raise ev plot params).ev.seq = s.ev.seq + 1 := by
  simp only [State.raise, raisePort]
  repeat' split
  all_goals rfl

/-- The newest record of the log is the event just raised (R390). -/
theorem State.raise_log (s : State) (ev plot : Nat) (params : List Nat) (h : s.ev.log.length < 1024) :
    (s.raise ev plot params).ev.log = s.ev.log ++ [{ seq := s.ev.seq + 1, ev, plot, time := s.now, params }] := by
  have h1 : ¬ 1024 < s.ev.log.length + 1 := by omega
  simp only [State.raise, raisePort, List.length_append, List.length_singleton, if_neg h1]
  repeat' split
  all_goals rfl

end Sys2Proof.Machine
end

