-- ==== Sys2Proof/Laws/Inner.lean ====
section
/-! SUPPORT. The reach of the operations that plots, the fabric and the Cellar share: they touch the Ledger's scalars, the events and
what leaves the engine, the fabric, looms, Cellar, plots, steps, requests and rings, and nothing else. One theorem per operation. -/

set_option linter.unusedSimpArgs false
set_option linter.unusedTactic false
set_option linter.unreachableTactic false

namespace Sys2Proof.Machine

/-- A state without the parts that the operations on plots, fabric and Cellar work on. -/
def State.fixed (s : State) : State :=
  { s with led := [], ev := {}, sessions := [], out := [], fabric := {}, looms := [], cellar := {}, plots := [], steps := [],
           nextStep := 0, samples := [], ob := [], nextAdmit := 0, qps := [], free := 0 }

/-- Two states differ in those parts at most. -/
@[reducible] def Inner (s t : State) : Prop := t.fixed = s.fixed

theorem ite_fixed (c : Prop) [Decidable c] (a b : State) : (if c then a else b).fixed = if c then a.fixed else b.fixed := by
  split <;> rfl

theorem Inner.trans {s t u : State} (h : Inner s t) (h' : Inner t u) : Inner s u := Eq.trans h' h

theorem Inner.foldl {α : Type} {f : State → α → State} (h : ∀ s x, Inner s (f s x)) (l : List α) (s : State) : Inner s (l.foldl f s) := by
  induction l generalizing s with
  | nil => rfl
  | cons x l ih => exact (h s x).trans (ih _)

theorem Inner.foldlOn {α β : Type} (g : β → State) {f : β → α → β} (h : ∀ b x, Inner (g b) (g (f b x))) (l : List α) (b : β) :
    Inner (g b) (g (l.foldl f b)) := by
  induction l generalizing b with
  | nil => rfl
  | cons x l ih => exact (h b x).trans (ih _)

@[simp] theorem foldl_fixed {α : Type} (f : State → α → State) (h : ∀ s x, (f s x).fixed = s.fixed) (l : List α) (s : State) :
    (l.foldl f s).fixed = s.fixed := by
  induction l generalizing s with
  | nil => rfl
  | cons x l ih => rw [List.foldl_cons, ih, h]

@[simp] theorem State.setCell_fixed (s : State) (i j v : Nat) : (s.setCell i j v).fixed = s.fixed := rfl
@[simp] theorem State.bump_fixed (s : State) (w i j n : Nat) : (s.bump w i j n).fixed = s.fixed := rfl
@[simp] theorem State.emit_fixed (s : State) (o : Out) : (s.emit o).fixed = s.fixed := rfl
@[simp] theorem State.updPlot_fixed (s : State) (p : Nat) (f : Plot → Plot) : (s.updPlot p f).fixed = s.fixed := rfl
@[simp] theorem State.updLoom_fixed (s : State) (n : Nat) (f : LoomSt → LoomSt) : (s.updLoom n f).fixed = s.fixed := rfl
@[simp] theorem State.updQp_fixed (s : State) (n : Nat) (f : Qp → Qp) : (s.updQp n f).fixed = s.fixed := rfl
@[simp] theorem State.updOb_fixed (s : State) (n : Nat) (f : Ob → Ob) : (s.updOb n f).fixed = s.fixed := rfl
@[simp] theorem State.updStep_fixed (s : State) (n : Nat) (f : Step → Step) : (s.updStep n f).fixed = s.fixed := rfl
@[simp] theorem State.updChan_fixed (s : State) (n : Nat) (f : Chan → Chan) : (s.updChan n f).fixed = s.fixed := rfl
@[simp] theorem State.updSession_fixed (s : State) (n : Nat) (g : Session → Session) : (s.updSession n g).fixed = s.fixed := rfl

@[simp] theorem raisePort_fixed (x : Port) (r : EventRec) (s : State) : (raisePort x r s).fixed = s.fixed := by
  unfold raisePort
  dsimp only
  split <;> rfl

@[simp] theorem State.raise_fixed (s : State) (ev plot : Nat) (params : List Nat) : (s.raise ev plot params).fixed = s.fixed := by
  unfold State.raise
  simp only [raisePort_fixed]
  rfl

@[simp] theorem State.raiseLimited_fixed (s : State) (ev scope period plot : Nat) (params : List Nat) :
    (s.raiseLimited ev scope period plot params).fixed = s.fixed := by
  unfold State.raiseLimited
  dsimp only
  split
  · rfl
  · simp only [State.raise_fixed]
    rfl

theorem fixed_led (s : State) (x : Tab Nat) : ({ s with led := x } : State).fixed = s.fixed := rfl
theorem fixed_ev (s : State) (x : Events) : ({ s with ev := x } : State).fixed = s.fixed := rfl
theorem fixed_out (s : State) (x : List Out) : ({ s with out := x } : State).fixed = s.fixed := rfl
theorem fixed_fabric (s : State) (x : Fabric) : ({ s with fabric := x } : State).fixed = s.fixed := rfl
theorem fixed_looms (s : State) (x : Tab LoomSt) : ({ s with looms := x } : State).fixed = s.fixed := rfl
theorem fixed_cellar (s : State) (x : Cellar) : ({ s with cellar := x } : State).fixed = s.fixed := rfl
theorem fixed_plots (s : State) (x : Tab Plot) : ({ s with plots := x } : State).fixed = s.fixed := rfl
theorem fixed_steps (s : State) (x : Tab (Option Step)) : ({ s with steps := x } : State).fixed = s.fixed := rfl
theorem fixed_ob (s : State) (x : Tab Ob) : ({ s with ob := x } : State).fixed = s.fixed := rfl
theorem fixed_samples (s : State) (x : List Sample) : ({ s with samples := x } : State).fixed = s.fixed := rfl
theorem fixed_qps (s : State) (x : Tab Qp) : ({ s with qps := x } : State).fixed = s.fixed := rfl
theorem fixed_free (s : State) (x : Nat) : ({ s with free := x } : State).fixed = s.fixed := rfl
theorem fixed_nextStep (s : State) (x : Nat) : ({ s with nextStep := x } : State).fixed = s.fixed := rfl
theorem fixed_nextAdmit (s : State) (x : Nat) : ({ s with nextAdmit := x } : State).fixed = s.fixed := rfl
theorem fixed_draw (s : State) : s.draw.2.fixed = s.fixed := rfl

theorem Inner.ite {s a b : State} {c : Prop} [Decidable c] (ha : Inner s a) (hb : Inner s b) : Inner s (if c then a else b) := by
  split
  · exact ha
  · exact hb

theorem Inner.rfl' {s : State} : Inner s s := rfl

/-! ### CellarOps -/

@[simp] theorem State.cstore_inner (s : State) (a : Nat) (bs : List Byte) :
    Inner s (s.cstore a bs) := by
  unfold State.cstore
  try dsimp only
  repeat' split
  all_goals first | (simp_all [Inner, ite_fixed, ↓fixed_steps, ↓fixed_cellar, ↓fixed_fabric, ↓fixed_ob, ↓fixed_led, ↓fixed_free, ↓fixed_plots, ↓fixed_samples]; done) | rfl

@[simp] theorem State.poison_inner (s : State) (lt r : Nat) :
    Inner s (s.poison lt r) := by
  unfold State.poison
  try dsimp only
  repeat' split
  all_goals first | (simp_all [Inner, ite_fixed, ↓fixed_steps, ↓fixed_cellar, ↓fixed_fabric, ↓fixed_ob, ↓fixed_led, ↓fixed_free, ↓fixed_plots, ↓fixed_samples]; done) | rfl

@[simp] theorem State.poisonUnit_inner (s : State) (lt r : Nat) :
    Inner s (s.poisonUnit lt r) := by
  unfold State.poisonUnit
  try dsimp only
  repeat' split
  all_goals first | (simp_all [Inner, ite_fixed, ↓fixed_steps, ↓fixed_cellar, ↓fixed_fabric, ↓fixed_ob, ↓fixed_led, ↓fixed_free, ↓fixed_plots, ↓fixed_samples]; done) | rfl

@[simp] theorem State.checkCodes_inner (s : State) (lt r : Nat) (ks : List Nat) (e : EccFound) :
    Inner s (s.checkCodes lt r ks e) := by
  unfold State.checkCodes
  try dsimp only
  repeat' split
  all_goals first | (simp_all [Inner, ite_fixed, ↓fixed_steps, ↓fixed_cellar, ↓fixed_fabric, ↓fixed_ob, ↓fixed_led, ↓fixed_free, ↓fixed_plots, ↓fixed_samples]; done) | rfl

@[simp] theorem State.unpoison_inner (s : State) (lt r : Nat) :
    Inner s (s.unpoison lt r) := by
  unfold State.unpoison
  try dsimp only
  repeat' split
  all_goals first | (simp_all [Inner, ite_fixed, ↓fixed_steps, ↓fixed_cellar, ↓fixed_fabric, ↓fixed_ob, ↓fixed_led, ↓fixed_free, ↓fixed_plots, ↓fixed_samples]; done) | rfl

@[simp] theorem State.applyDelta_inner (s : State) (w : CWrite) :
    Inner s (s.applyDelta w) := by
  unfold State.applyDelta
  try dsimp only
  repeat' split
  all_goals first | (simp_all [Inner, ite_fixed, ↓fixed_steps, ↓fixed_cellar, ↓fixed_fabric, ↓fixed_ob, ↓fixed_led, ↓fixed_free, ↓fixed_plots, ↓fixed_samples]; done) | rfl

@[simp] theorem State.deltaNow_inner (s : State) (w : CWrite) :
    Inner s (s.deltaNow w) := by
  have h := State.applyDelta_inner s w
  unfold State.deltaNow
  try dsimp only
  all_goals first | (simp_all [Inner, ite_fixed, ↓fixed_steps, ↓fixed_cellar, ↓fixed_fabric, ↓fixed_ob, ↓fixed_led, ↓fixed_free, ↓fixed_plots, ↓fixed_samples]; done) | rfl

@[simp] theorem State.settleRow_inner (s : State) (lt r : Nat) :
    Inner s (s.settleRow lt r) := by
  unfold State.settleRow
  try dsimp only
  all_goals first | (simp_all [Inner, ite_fixed, ↓fixed_steps, ↓fixed_cellar, ↓fixed_fabric, ↓fixed_ob, ↓fixed_led, ↓fixed_free, ↓fixed_plots, ↓fixed_samples]; done) | rfl

/-! ### PlotOps -/

@[simp] theorem State.emitResult_inner (s : State) (n : Nat) (x : Port) (index : Nat) (d : List Nat) :
    Inner s (s.emitResult n x index d) := by
  unfold State.emitResult
  try dsimp only
  repeat' split
  all_goals first | (simp_all [Inner, ite_fixed, ↓fixed_steps, ↓fixed_cellar, ↓fixed_fabric, ↓fixed_ob, ↓fixed_led, ↓fixed_free, ↓fixed_plots, ↓fixed_samples]; done) | rfl

@[simp] theorem State.ringWrite_inner (s : State) (n : Nat) (r : Result) :
    Inner s (s.ringWrite n r) := by
  unfold State.ringWrite
  try dsimp only
  repeat' split
  all_goals first | (simp_all [Inner, ite_fixed, ↓fixed_steps, ↓fixed_cellar, ↓fixed_fabric, ↓fixed_ob, ↓fixed_led, ↓fixed_free, ↓fixed_plots, ↓fixed_samples]; done) | rfl

@[simp] theorem State.ringIrq_inner (s : State) (n : Nat) :
    Inner s (s.ringIrq n) := by
  unfold State.ringIrq
  try dsimp only
  repeat' split
  all_goals first | (simp_all [Inner, ite_fixed, ↓fixed_steps, ↓fixed_cellar, ↓fixed_fabric, ↓fixed_ob, ↓fixed_led, ↓fixed_free, ↓fixed_plots, ↓fixed_samples]; done) | rfl

@[simp] theorem State.postOne_inner (s : State) (n : Nat) (r : Result) :
    Inner s (s.postOne n r) := by
  unfold State.postOne
  try dsimp only
  repeat' split
  all_goals first | (simp_all [Inner, ite_fixed, ↓fixed_steps, ↓fixed_cellar, ↓fixed_fabric, ↓fixed_ob, ↓fixed_led, ↓fixed_free, ↓fixed_plots, ↓fixed_samples]; done) | rfl

@[simp] theorem State.post_inner (s : State) (n : Nat) (rs : List Result) :
    Inner s (s.post n rs) := by
  unfold State.post
  try dsimp only
  repeat' split
  all_goals first | (simp_all [Inner, ite_fixed, ↓fixed_steps, ↓fixed_cellar, ↓fixed_fabric, ↓fixed_ob, ↓fixed_led, ↓fixed_free, ↓fixed_plots, ↓fixed_samples]; done) | rfl

@[simp] theorem State.flushRing_inner (s : State) (n : Nat) (x0 : Nat) :
    Inner s (s.flushRing n x0) := by
  induction x0 generalizing s with
  | zero => exact rfl
  | succ k ih =>
    unfold State.flushRing
    try dsimp only
    repeat' split
    all_goals first | (simp_all [Inner]; done) | rfl

@[simp] theorem State.flush_inner (s : State) (n : Nat) :
    Inner s (s.flush n) := by
  unfold State.flush
  try dsimp only
  repeat' split
  all_goals first | (simp_all [Inner, ite_fixed, ↓fixed_steps, ↓fixed_cellar, ↓fixed_fabric, ↓fixed_ob, ↓fixed_led, ↓fixed_free, ↓fixed_plots, ↓fixed_samples]; done) | rfl

@[simp] theorem State.noteBusy_inner (s : State) (p : Nat) :
    Inner s (s.noteBusy p) := by
  unfold State.noteBusy
  try dsimp only
  repeat' split
  all_goals first | (simp_all [Inner, ite_fixed, ↓fixed_steps, ↓fixed_cellar, ↓fixed_fabric, ↓fixed_ob, ↓fixed_led, ↓fixed_free, ↓fixed_plots, ↓fixed_samples]; done) | rfl

@[simp] theorem State.updPool_inner (s : State) (p m : Nat) (f : PoolSt → PoolSt) :
    Inner s (s.updPool p m f) := by
  unfold State.updPool
  try dsimp only
  repeat' split
  all_goals first | (simp_all [Inner, ite_fixed, ↓fixed_steps, ↓fixed_cellar, ↓fixed_fabric, ↓fixed_ob, ↓fixed_led, ↓fixed_free, ↓fixed_plots, ↓fixed_samples]; done) | rfl

@[simp] theorem State.returnFrame_inner (s : State) (p m frame : Nat) :
    Inner s (s.returnFrame p m frame) := by
  unfold State.returnFrame
  try dsimp only
  repeat' split
  all_goals first | (simp_all [Inner, ite_fixed, ↓fixed_steps, ↓fixed_cellar, ↓fixed_fabric, ↓fixed_ob, ↓fixed_led, ↓fixed_free, ↓fixed_plots, ↓fixed_samples]; done) | rfl

@[simp] theorem State.releaseRemote_inner (s : State) (p m slot : Nat) :
    Inner s (s.releaseRemote p m slot) := by
  unfold State.releaseRemote
  try dsimp only
  repeat' split
  all_goals first | (simp_all [Inner, ite_fixed, ↓fixed_steps, ↓fixed_cellar, ↓fixed_fabric, ↓fixed_ob, ↓fixed_led, ↓fixed_free, ↓fixed_plots, ↓fixed_samples]; done) | rfl

theorem State.allocFrame_inner (s : State) (p m j : Nat) (r : Nat × State) (h : s.allocFrame p m j = some r) : Inner s r.2 := by
  unfold State.allocFrame at h
  repeat' split at h
  · simp at h
  · simp at h
  · obtain rfl := Option.some.inj h
    rfl

theorem State.giveBlock_inner (s : State) (i : Nat) (f : Nat → Ob → Ob) (t : State) (h : s.giveBlock i f = some t) : Inner s t := by
  unfold State.giveBlock at h
  simp only [Option.bind_eq_some_iff, Option.map_eq_some_iff] at h
  obtain ⟨x, -, b, -, rfl⟩ := h
  simp [Inner]

@[simp] theorem State.releasePage_inner (s : State) (i : Nat) (d : Bool) (j : Nat) :
    Inner s (s.releasePage i d j) := by
  unfold State.releasePage
  try dsimp only
  repeat' split
  all_goals first | (simp_all [Inner, ite_fixed, ↓fixed_steps, ↓fixed_cellar, ↓fixed_fabric, ↓fixed_ob, ↓fixed_led, ↓fixed_free, ↓fixed_plots, ↓fixed_samples]; done) | rfl

@[simp] theorem State.releasePages_inner (s : State) (i : Nat) :
    Inner s (s.releasePages i) := by
  unfold State.releasePages
  try dsimp only
  repeat' split
  all_goals first | (simp_all [Inner, ite_fixed, ↓fixed_steps, ↓fixed_cellar, ↓fixed_fabric, ↓fixed_ob, ↓fixed_led, ↓fixed_free, ↓fixed_plots, ↓fixed_samples]; done) | rfl

@[simp] theorem State.transferEnd_inner (s : State) (i : Nat) (d : Bool) (j : Nat) :
    Inner s (s.transferEnd i d j) := by
  unfold State.transferEnd
  try dsimp only
  repeat' split
  all_goals first | (simp_all [Inner, ite_fixed, ↓fixed_steps, ↓fixed_cellar, ↓fixed_fabric, ↓fixed_ob, ↓fixed_led, ↓fixed_free, ↓fixed_plots, ↓fixed_samples]; done) | rfl

@[simp] theorem State.maybeFree_inner (s : State) (i : Nat) :
    Inner s (s.maybeFree i) := by
  unfold State.maybeFree
  try dsimp only
  repeat' split
  all_goals first | (simp_all [Inner, ite_fixed, ↓fixed_steps, ↓fixed_cellar, ↓fixed_fabric, ↓fixed_ob, ↓fixed_led, ↓fixed_free, ↓fixed_plots, ↓fixed_samples]; done) | rfl

@[simp] theorem State.dropSamples_inner (s : State) (id p : Nat) :
    Inner s (s.dropSamples id p) := by
  unfold State.dropSamples
  try dsimp only
  repeat' split
  all_goals first | (simp_all [Inner, ite_fixed, ↓fixed_steps, ↓fixed_cellar, ↓fixed_fabric, ↓fixed_ob, ↓fixed_led, ↓fixed_free, ↓fixed_plots, ↓fixed_samples]; done) | rfl

@[simp] theorem State.cancelSamples_inner (s : State) (i : Nat) :
    Inner s (s.cancelSamples i) := by
  unfold State.cancelSamples
  try dsimp only
  repeat' split
  all_goals first | (simp_all [Inner, ite_fixed, ↓fixed_steps, ↓fixed_cellar, ↓fixed_fabric, ↓fixed_ob, ↓fixed_led, ↓fixed_free, ↓fixed_plots, ↓fixed_samples]; done) | rfl

@[simp] theorem State.endCore_inner (s : State) (i : Nat) (st : ReqState) (final : Status) :
    Inner s (s.endCore i st final) := by
  unfold State.endCore
  try dsimp only
  repeat' split
  all_goals first | (simp_all [Inner, ite_fixed, ↓fixed_steps, ↓fixed_cellar, ↓fixed_fabric, ↓fixed_ob, ↓fixed_led, ↓fixed_free, ↓fixed_plots, ↓fixed_samples]; done) | rfl

@[simp] theorem State.endRequest_inner (s : State) (i : Nat) (st : ReqState) (final : Status) (tag : Nat) /-TODO ReqState-/ :
    Inner s (s.endRequest i st final tag) := by
  unfold State.endRequest
  try dsimp only
  repeat' split
  all_goals first | (simp_all [Inner, ite_fixed, ↓fixed_steps, ↓fixed_cellar, ↓fixed_fabric, ↓fixed_ob, ↓fixed_led, ↓fixed_free, ↓fixed_plots, ↓fixed_samples]; done) | rfl

@[simp] theorem State.settleCore_inner (s : State) (i : Nat) :
    Inner s (s.settleCore i).1 := by
  unfold State.settleCore
  try dsimp only
  repeat' split
  all_goals first | (simp_all [Inner, ite_fixed, ↓fixed_steps, ↓fixed_cellar, ↓fixed_fabric, ↓fixed_ob, ↓fixed_led, ↓fixed_free, ↓fixed_plots, ↓fixed_samples]; done) | rfl

@[simp] theorem State.postAll_inner (s : State) (es : List (Nat × Result)) :
    Inner s (s.postAll es) := by
  unfold State.postAll
  try dsimp only
  repeat' split
  all_goals first | (simp_all [Inner, ite_fixed, ↓fixed_steps, ↓fixed_cellar, ↓fixed_fabric, ↓fixed_ob, ↓fixed_led, ↓fixed_free, ↓fixed_plots, ↓fixed_samples]; done) | rfl

@[simp] theorem State.settle_inner (s : State) (i : Nat) :
    Inner s (s.settle i) := by
  unfold State.settle
  try dsimp only
  repeat' split
  all_goals first | (simp_all [Inner, ite_fixed, ↓fixed_steps, ↓fixed_cellar, ↓fixed_fabric, ↓fixed_ob, ↓fixed_led, ↓fixed_free, ↓fixed_plots, ↓fixed_samples]; done) | rfl

@[simp] theorem State.drainCore_inner (s : State) (i : Nat) :
    Inner s (s.drainCore i) := by
  unfold State.drainCore
  try dsimp only
  repeat' split
  all_goals first | (simp_all [Inner, ite_fixed, ↓fixed_steps, ↓fixed_cellar, ↓fixed_fabric, ↓fixed_ob, ↓fixed_led, ↓fixed_free, ↓fixed_plots, ↓fixed_samples]; done) | rfl

@[simp] theorem State.startDrain_inner (s : State) (i : Nat) :
    Inner s (s.startDrain i) := by
  unfold State.startDrain
  try dsimp only
  repeat' split
  all_goals first | (simp_all [Inner, ite_fixed, ↓fixed_steps, ↓fixed_cellar, ↓fixed_fabric, ↓fixed_ob, ↓fixed_led, ↓fixed_free, ↓fixed_plots, ↓fixed_samples]; done) | rfl

@[simp] theorem State.newTag_inner (s : State) (p : Nat) :
    Inner s (s.newTag p).2 := by
  unfold State.newTag
  try dsimp only
  repeat' split
  all_goals first | (simp_all [Inner, ite_fixed, ↓fixed_steps, ↓fixed_cellar, ↓fixed_fabric, ↓fixed_ob, ↓fixed_led, ↓fixed_free, ↓fixed_plots, ↓fixed_samples]; done) | rfl

@[simp] theorem State.pickStep_inner (s : State) (n : Nat) :
    Inner s (s.pickStep n) := by
  unfold State.pickStep
  try dsimp only
  repeat' split
  all_goals first | (simp_all [Inner, ite_fixed, ↓fixed_steps, ↓fixed_cellar, ↓fixed_fabric, ↓fixed_ob, ↓fixed_led, ↓fixed_free, ↓fixed_plots, ↓fixed_samples]; done) | rfl

@[simp] theorem State.discard_inner (s : State) (id : Nat) :
    Inner s (s.discard id) := by
  unfold State.discard
  try dsimp only
  repeat' split
  all_goals first | (simp_all [Inner, ite_fixed, ↓fixed_steps, ↓fixed_cellar, ↓fixed_fabric, ↓fixed_ob, ↓fixed_led, ↓fixed_free, ↓fixed_plots, ↓fixed_samples]; done) | rfl

@[simp] theorem State.discardAll_inner (s : State) (p : Nat) :
    Inner s (s.discardAll p) := by
  unfold State.discardAll
  try dsimp only
  repeat' split
  all_goals first | (simp_all [Inner, ite_fixed, ↓fixed_steps, ↓fixed_cellar, ↓fixed_fabric, ↓fixed_ob, ↓fixed_led, ↓fixed_free, ↓fixed_plots, ↓fixed_samples]; done) | rfl

@[simp] theorem State.dropStep_inner (s : State) (id : Nat) :
    Inner s (s.dropStep id) := by
  unfold State.dropStep
  split
  · rfl
  · rename_i x h
    refine (fixed_steps _ _).trans ?_
    refine (foldl_fixed _ (fun s n => ?_) _ _).trans ?_
    · rw [ite_fixed, State.updLoom_fixed, ite_self]
    · exact (foldl_fixed _ (fun s n => State.updOb_fixed _ _ _) _ _).trans (State.noteBusy_inner _ _)

@[simp] theorem State.cutStep_inner (s : State) (id : Nat) :
    Inner s (s.cutStep id) := by
  unfold State.cutStep
  try dsimp only
  repeat' split
  all_goals first | (simp_all [Inner, ite_fixed, ↓fixed_steps, ↓fixed_cellar, ↓fixed_fabric, ↓fixed_ob, ↓fixed_led, ↓fixed_free, ↓fixed_plots, ↓fixed_samples]; done) | rfl

@[simp] theorem State.faultPlot_inner (s : State) (p : Nat) (poisonedFor : Nat → Bool) :
    Inner s (s.faultPlot p poisonedFor) := by
  unfold State.faultPlot
  try dsimp only
  repeat' split
  all_goals first | (simp_all [Inner, ite_fixed, ↓fixed_steps, ↓fixed_cellar, ↓fixed_fabric, ↓fixed_ob, ↓fixed_led, ↓fixed_free, ↓fixed_plots, ↓fixed_samples]; done) | rfl

@[simp] theorem State.addrFault_inner (s : State) (p n : Nat) :
    Inner s (s.addrFault p n) := by
  unfold State.addrFault
  try dsimp only
  repeat' split
  all_goals first | (simp_all [Inner, ite_fixed, ↓fixed_steps, ↓fixed_cellar, ↓fixed_fabric, ↓fixed_ob, ↓fixed_led, ↓fixed_free, ↓fixed_plots, ↓fixed_samples]; done) | rfl

/-! ### BenchOps -/

@[simp] theorem State.partFault_inner (s : State) (p : Nat) :
    Inner s (s.partFault p) := by
  unfold State.partFault
  try dsimp only
  repeat' split
  all_goals first | (simp_all [Inner, ite_fixed, ↓fixed_steps, ↓fixed_cellar, ↓fixed_fabric, ↓fixed_ob, ↓fixed_led, ↓fixed_free, ↓fixed_plots, ↓fixed_samples]; done) | rfl

/-! ### FabricOps -/

@[simp] theorem State.takeChan_inner (s : State) (plot t e : Nat) :
    Inner s (s.takeChan plot t e).2 := by
  unfold State.takeChan
  try dsimp only
  repeat' split
  all_goals first | (simp_all [Inner, ite_fixed, ↓fixed_steps, ↓fixed_cellar, ↓fixed_fabric, ↓fixed_ob, ↓fixed_led, ↓fixed_free, ↓fixed_plots, ↓fixed_samples]; done) | rfl

@[simp] theorem State.enqueue_inner (s : State) (t e : Nat) (m : Transit) :
    Inner s (s.enqueue t e m) := by
  have h := State.takeChan_inner s m.msg.plot.toNat t e
  unfold State.enqueue
  try dsimp only
  repeat' split
  all_goals first | (simp_all [Inner, ite_fixed, ↓fixed_steps, ↓fixed_cellar, ↓fixed_fabric, ↓fixed_ob, ↓fixed_led, ↓fixed_free, ↓fixed_plots, ↓fixed_samples]; done) | rfl

@[simp] theorem State.retryChans_inner (s : State) :
    Inner s (s.retryChans) := by
  unfold State.retryChans
  try dsimp only
  repeat' split
  all_goals first | (simp_all [Inner, ite_fixed, ↓fixed_steps, ↓fixed_cellar, ↓fixed_fabric, ↓fixed_ob, ↓fixed_led, ↓fixed_free, ↓fixed_plots, ↓fixed_samples]; done) | rfl

@[simp] theorem State.countFallback_inner (s : State) (m : Msg) :
    Inner s (s.countFallback m) := by
  unfold State.countFallback
  try dsimp only
  repeat' split
  all_goals first | (simp_all [Inner, ite_fixed, ↓fixed_steps, ↓fixed_cellar, ↓fixed_fabric, ↓fixed_ob, ↓fixed_led, ↓fixed_free, ↓fixed_plots, ↓fixed_samples]; done) | rfl

@[simp] theorem State.release_inner (s : State) (m : Transit) :
    Inner s (s.release m) := by
  unfold State.release
  try dsimp only
  repeat' split
  all_goals first | (simp_all [Inner, ite_fixed, ↓fixed_steps, ↓fixed_cellar, ↓fixed_fabric, ↓fixed_ob, ↓fixed_led, ↓fixed_free, ↓fixed_plots, ↓fixed_samples]; done) | rfl

@[simp] theorem State.deliver_inner (s : State) (m : Msg) :
    Inner s (s.deliver m) := by
  unfold State.deliver
  try dsimp only
  repeat' split
  all_goals first | (simp_all [Inner, ite_fixed, ↓fixed_steps, ↓fixed_cellar, ↓fixed_fabric, ↓fixed_ob, ↓fixed_led, ↓fixed_free, ↓fixed_plots, ↓fixed_samples]; done) | rfl

@[simp] theorem State.dimension_inner (s : State) (t aim goal : Nat) (m : Transit) :
    Inner s (s.dimension t aim goal m) := by
  unfold State.dimension
  try dsimp only
  repeat' split
  all_goals first | (simp_all [Inner, ite_fixed, ↓fixed_steps, ↓fixed_cellar, ↓fixed_fabric, ↓fixed_ob, ↓fixed_led, ↓fixed_free, ↓fixed_plots, ↓fixed_samples]; done) | rfl

@[simp] theorem State.placeTile_inner (s : State) (t goal : Nat) (m : Transit) :
    Inner s (s.placeTile t goal m) := by
  unfold State.placeTile
  try dsimp only
  repeat' split
  all_goals first | (simp_all [Inner, ite_fixed, ↓fixed_steps, ↓fixed_cellar, ↓fixed_fabric, ↓fixed_ob, ↓fixed_led, ↓fixed_free, ↓fixed_plots, ↓fixed_samples]; done) | rfl

@[simp] theorem State.place_inner (s : State) (t : Nat) (m : Transit) :
    Inner s (s.place t m) := by
  unfold State.place
  try dsimp only
  repeat' split
  all_goals first | (simp_all [Inner, ite_fixed, ↓fixed_steps, ↓fixed_cellar, ↓fixed_fabric, ↓fixed_ob, ↓fixed_led, ↓fixed_free, ↓fixed_plots, ↓fixed_samples]; done) | rfl

@[simp] theorem State.inject_inner (s : State) (m : Msg) :
    Inner s (s.inject m) := by
  unfold State.inject
  try dsimp only
  repeat' split
  all_goals first | (simp_all [Inner, ite_fixed, ↓fixed_steps, ↓fixed_cellar, ↓fixed_fabric, ↓fixed_ob, ↓fixed_led, ↓fixed_free, ↓fixed_plots, ↓fixed_samples]; done) | rfl

@[simp] theorem State.takeMsg_inner (s : State) (e : Nat) (want : Msg → Bool) :
    Inner s (s.takeMsg e want) := by
  unfold State.takeMsg
  try dsimp only
  repeat' split
  all_goals first | (simp_all [Inner, ite_fixed, ↓fixed_steps, ↓fixed_cellar, ↓fixed_fabric, ↓fixed_ob, ↓fixed_led, ↓fixed_free, ↓fixed_plots, ↓fixed_samples]; done) | rfl

@[simp] theorem State.sendDelta_inner (s : State) (w : CWrite) :
    Inner s (s.sendDelta w) := by
  unfold State.sendDelta
  try dsimp only
  repeat' split
  all_goals first | (simp_all [Inner, ite_fixed, ↓fixed_steps, ↓fixed_cellar, ↓fixed_fabric, ↓fixed_ob, ↓fixed_led, ↓fixed_free, ↓fixed_plots, ↓fixed_samples]; done) | rfl

@[simp] theorem State.redirect_inner (s : State) (old new : Nat) :
    Inner s (s.redirect old new) := by
  unfold State.redirect
  try dsimp only
  repeat' split
  all_goals first | (simp_all [Inner, ite_fixed, ↓fixed_steps, ↓fixed_cellar, ↓fixed_fabric, ↓fixed_ob, ↓fixed_led, ↓fixed_free, ↓fixed_plots, ↓fixed_samples]; done) | rfl

@[simp] theorem State.unpark_inner (s : State) :
    Inner s s.unpark := by
  unfold State.unpark
  exact foldl_fixed _ (fun s m => State.inject_inner s _) _ _

@[simp] theorem State.rederive_inner (s : State) (p : Nat) (r : Route) :
    Inner s (s.rederive p r) := by
  unfold State.rederive
  try dsimp only
  refine Inner.trans (t := _) ?_ (Inner.foldlOn (g := fun a : State × List (Nat × Nat × Nat) × List Nat => a.1) (fun b x => ?_) _ _)
  · exact rfl
  · have h := State.takeChan_inner b.1 p x.1 x.2
    try dsimp only
    split <;> simp_all [Inner]

@[simp] theorem State.rederiveAll_inner (s old : State) :
    Inner s (s.rederiveAll old) := by
  unfold State.rederiveAll
  try dsimp only
  refine Inner.foldl (fun s x => ?_) _ _
  repeat' split
  all_goals first | (simp_all [Inner, ite_fixed, ↓fixed_steps, ↓fixed_cellar, ↓fixed_fabric, ↓fixed_ob, ↓fixed_led, ↓fixed_free, ↓fixed_plots, ↓fixed_samples]; done) | rfl

@[simp] theorem State.checkCycles_inner (s : State) (p : Nat) (rs : List Route) :
    Inner s (s.checkCycles p rs).1 := by
  unfold State.checkCycles
  try dsimp only
  repeat' split
  all_goals first | (simp_all [Inner, ite_fixed, ↓fixed_steps, ↓fixed_cellar, ↓fixed_fabric, ↓fixed_ob, ↓fixed_led, ↓fixed_free, ↓fixed_plots, ↓fixed_samples]; done) | rfl

/-! ### FaultOps -/

@[simp] theorem State.groupBits_inner (s : State) :
    Inner s (s.groupBits) := by
  unfold State.groupBits
  try dsimp only
  repeat' split
  all_goals first | (simp_all [Inner, ite_fixed, ↓fixed_steps, ↓fixed_cellar, ↓fixed_fabric, ↓fixed_ob, ↓fixed_led, ↓fixed_free, ↓fixed_plots, ↓fixed_samples]; done) | rfl

@[simp] theorem State.noteLapse_inner (s : State) (x0 : Option Nat) :
    Inner s (s.noteLapse x0) := by
  unfold State.noteLapse
  try dsimp only
  repeat' split
  all_goals first | (simp_all [Inner, ite_fixed, ↓fixed_steps, ↓fixed_cellar, ↓fixed_fabric, ↓fixed_ob, ↓fixed_led, ↓fixed_free, ↓fixed_plots, ↓fixed_samples]; done) | rfl

@[simp] theorem State.spillTile_inner (s : State) (t : Nat) :
    Inner s (s.spillTile t) := by
  unfold State.spillTile
  refine Inner.trans (t := _) ?_ (foldl_fixed _ (fun s m => State.inject_inner s _) _ _)
  refine Inner.trans (t := _) ?_ (foldl_fixed _ (fun s m => State.release_inner s _) _ _)
  exact foldl_fixed _ (fun _ _ => State.updChan_fixed _ _ _) _ _

@[simp] theorem State.freshLooms_inner (s : State) (lt : Nat) :
    Inner s (s.freshLooms lt) := by
  unfold State.freshLooms
  exact foldl_fixed _ (fun _ _ => State.updLoom_fixed _ _ _) _ _

@[simp] theorem State.losePages_inner (s : State) (p : Nat) :
    Inner s (s.losePages p) := by
  unfold State.losePages
  split
  · exact rfl
  · refine Inner.foldl (fun s i => Inner.foldl (fun s e => ?_) _ _) _ _
    try dsimp only
    repeat' split
    all_goals first | (simp_all [Inner, ite_fixed, ↓fixed_steps, ↓fixed_cellar, ↓fixed_fabric, ↓fixed_ob, ↓fixed_led, ↓fixed_free, ↓fixed_plots, ↓fixed_samples]; done) | rfl

@[simp] theorem State.loseBoth_inner (s : State) (lt m : Nat) :
    Inner s (s.loseBoth lt m) := by
  unfold State.loseBoth
  try dsimp only
  repeat' split
  all_goals first | (simp_all [Inner, ite_fixed, ↓fixed_steps, ↓fixed_cellar, ↓fixed_fabric, ↓fixed_ob, ↓fixed_led, ↓fixed_free, ↓fixed_plots, ↓fixed_samples]; done) | rfl

@[simp] theorem State.rebuildState_inner (s : State) :
    Inner s (s.rebuildState) := by
  unfold State.rebuildState
  try dsimp only
  repeat' split
  all_goals first | (simp_all [Inner, ite_fixed, ↓fixed_steps, ↓fixed_cellar, ↓fixed_fabric, ↓fixed_ob, ↓fixed_led, ↓fixed_free, ↓fixed_plots, ↓fixed_samples]; done) | rfl

@[simp] theorem State.newCellar_inner (s : State) (lt : Nat) :
    Inner s (s.newCellar lt) := by
  unfold State.newCellar
  try dsimp only
  repeat' split
  all_goals first | (simp_all [Inner, ite_fixed, ↓fixed_steps, ↓fixed_cellar, ↓fixed_fabric, ↓fixed_ob, ↓fixed_led, ↓fixed_free, ↓fixed_plots, ↓fixed_samples]; done) | rfl

@[simp] theorem State.discardOn_inner (s : State) (t lt : Nat) :
    Inner s (s.discardOn t lt) := by
  unfold State.discardOn
  try dsimp only
  repeat' split
  all_goals first | (simp_all [Inner, ite_fixed, ↓fixed_steps, ↓fixed_cellar, ↓fixed_fabric, ↓fixed_ob, ↓fixed_led, ↓fixed_free, ↓fixed_plots, ↓fixed_samples]; done) | rfl

/-! ### Fabric -/

@[simp] theorem State.sendTransfer_inner (s : State) (k u : Nat) (m : Transit) (left : Nat) :
    Inner s (s.sendTransfer k u m left) := by
  unfold State.sendTransfer
  try dsimp only
  repeat' split
  all_goals first | (simp_all [Inner, ite_fixed, ↓fixed_steps, ↓fixed_cellar, ↓fixed_fabric, ↓fixed_ob, ↓fixed_led, ↓fixed_free, ↓fixed_plots, ↓fixed_samples]; done) | rfl

@[simp] theorem State.passOn_inner (s : State) (n : Nat) (m : Msg) :
    Inner s (s.passOn n m) := by
  unfold State.passOn
  try dsimp only
  repeat' split
  all_goals first | (simp_all [Inner, ite_fixed, ↓fixed_steps, ↓fixed_cellar, ↓fixed_fabric, ↓fixed_ob, ↓fixed_led, ↓fixed_free, ↓fixed_plots, ↓fixed_samples]; done) | rfl

@[simp] theorem State.land_inner (s : State) (n stream : Nat) (w : Window) (m : Msg) :
    Inner s (s.land n stream w m) := by
  unfold State.land
  try dsimp only
  repeat' split
  all_goals first | (simp_all [Inner, ite_fixed, ↓fixed_steps, ↓fixed_cellar, ↓fixed_fabric, ↓fixed_ob, ↓fixed_led, ↓fixed_free, ↓fixed_plots, ↓fixed_samples]; done) | rfl

@[simp] theorem State.countStale_inner (s : State) (sender : Nat) :
    Inner s (s.countStale sender) := by
  unfold State.countStale
  try dsimp only
  repeat' split
  all_goals first | (simp_all [Inner, ite_fixed, ↓fixed_steps, ↓fixed_cellar, ↓fixed_fabric, ↓fixed_ob, ↓fixed_led, ↓fixed_free, ↓fixed_plots, ↓fixed_samples]; done) | rfl

@[simp] theorem State.rewriteStale_inner (s : State) (ls : List Nat) :
    Inner s (s.rewriteStale ls) := by
  unfold State.rewriteStale
  try dsimp only
  repeat' split
  all_goals first | (simp_all [Inner, ite_fixed, ↓fixed_steps, ↓fixed_cellar, ↓fixed_fabric, ↓fixed_ob, ↓fixed_led, ↓fixed_free, ↓fixed_plots, ↓fixed_samples]; done) | rfl

/-! ### Sequencer -/

theorem State.seq_inner (s : State) (l : Loom) (op : Nat) (act : Nat → Nat → State → State)
    (hact : ∀ p id s, Inner s (act p id s)) : Inner s (s.seq l op act) := by
  unfold State.seq
  try dsimp only
  repeat' split
  all_goals first | exact hact _ _ _ | simp [Inner]

@[simp] theorem State.advance_inner (s : State) (n : Nat) :
    Inner s (s.advance n) := by
  unfold State.advance
  try dsimp only
  repeat' split
  all_goals first | (simp_all [Inner, ite_fixed, ↓fixed_steps, ↓fixed_cellar, ↓fixed_fabric, ↓fixed_ob, ↓fixed_led, ↓fixed_free, ↓fixed_plots, ↓fixed_samples]; done) | rfl

@[simp] theorem State.advanceWith_inner (s : State) (n : Nat) (f : LoomSt → LoomSt) :
    Inner s (s.advanceWith n f) := by
  unfold State.advanceWith
  try dsimp only
  repeat' split
  all_goals first | (simp_all [Inner, ite_fixed, ↓fixed_steps, ↓fixed_cellar, ↓fixed_fabric, ↓fixed_ob, ↓fixed_led, ↓fixed_free, ↓fixed_plots, ↓fixed_samples]; done) | rfl

@[simp] theorem State.interlock_inner (s : State) (p n k by_ : Nat) :
    Inner s (s.interlock p n k by_) := by
  unfold State.interlock
  try dsimp only
  repeat' split
  all_goals first | (simp_all [Inner, ite_fixed, ↓fixed_steps, ↓fixed_cellar, ↓fixed_fabric, ↓fixed_ob, ↓fixed_led, ↓fixed_free, ↓fixed_plots, ↓fixed_samples]; done) | rfl

@[simp] theorem State.stallFor_inner (s : State) (p n : Nat) (why : Stall) (count : Option Nat) :
    Inner s (s.stallFor p n why count) := by
  unfold State.stallFor
  try dsimp only
  repeat' split
  all_goals first | (simp_all [Inner, ite_fixed, ↓fixed_steps, ↓fixed_cellar, ↓fixed_fabric, ↓fixed_ob, ↓fixed_led, ↓fixed_free, ↓fixed_plots, ↓fixed_samples]; done) | rfl

@[simp] theorem State.upsets_inner (s : State) (n : Nat) (ws : List BenchWord) :
    Inner s (s.upsets n ws) := by
  unfold State.upsets
  try dsimp only
  repeat' split
  all_goals first | (simp_all [Inner, ite_fixed, ↓fixed_steps, ↓fixed_cellar, ↓fixed_fabric, ↓fixed_ob, ↓fixed_led, ↓fixed_free, ↓fixed_plots, ↓fixed_samples]; done) | rfl

@[simp] theorem State.badFormat_inner (s : State) (p : Nat) :
    Inner s (s.badFormat p) := by
  unfold State.badFormat
  try dsimp only
  repeat' split
  all_goals first | (simp_all [Inner, ite_fixed, ↓fixed_steps, ↓fixed_cellar, ↓fixed_fabric, ↓fixed_ob, ↓fixed_led, ↓fixed_free, ↓fixed_plots, ↓fixed_samples]; done) | rfl

/-! ### Array -/

@[simp] theorem State.count9210_inner (s : State) (sub n : Nat) :
    Inner s (s.count9210 sub n) := by
  unfold State.count9210
  try dsimp only
  repeat' split
  all_goals first | (simp_all [Inner, ite_fixed, ↓fixed_steps, ↓fixed_cellar, ↓fixed_fabric, ↓fixed_ob, ↓fixed_led, ↓fixed_free, ↓fixed_plots, ↓fixed_samples]; done) | rfl

@[simp] theorem State.countFormat_inner (s : State) (fmt : Nat) (cs ws : List Nat) :
    Inner s (s.countFormat fmt cs ws) := by
  unfold State.countFormat
  try dsimp only
  repeat' split
  all_goals first | (simp_all [Inner, ite_fixed, ↓fixed_steps, ↓fixed_cellar, ↓fixed_fabric, ↓fixed_ob, ↓fixed_led, ↓fixed_free, ↓fixed_plots, ↓fixed_samples]; done) | rfl

@[simp] theorem State.ageSamples_inner (s : State) (n : Nat) :
    Inner s (s.ageSamples n) := by
  unfold State.ageSamples
  try dsimp only
  repeat' split
  all_goals first | (simp_all [Inner, ite_fixed, ↓fixed_steps, ↓fixed_cellar, ↓fixed_fabric, ↓fixed_ob, ↓fixed_led, ↓fixed_free, ↓fixed_plots, ↓fixed_samples]; done) | rfl

/-! ### Full -/

@[simp] theorem State.sendAppend_inner (s : State) (p n : Nat) (l : LoomSt) (op : FullOp) :
    Inner s (s.sendAppend p n l op) := by
  cases op <;> first | exact Inner.rfl' | skip
  unfold State.sendAppend
  try dsimp only
  repeat' split
  all_goals first | (simp_all [Inner, ite_fixed, ↓fixed_steps, ↓fixed_cellar, ↓fixed_fabric, ↓fixed_ob, ↓fixed_led, ↓fixed_free, ↓fixed_plots, ↓fixed_samples]; done) | rfl

@[simp] theorem State.updFresh_inner (s : State) (n id : Nat) (f : Sample → Sample) :
    Inner s (s.updFresh n id f) := by
  unfold State.updFresh
  try dsimp only
  repeat' split
  all_goals first | (simp_all [Inner, ite_fixed, ↓fixed_steps, ↓fixed_cellar, ↓fixed_fabric, ↓fixed_ob, ↓fixed_led, ↓fixed_free, ↓fixed_plots, ↓fixed_samples]; done) | rfl

@[simp] theorem State.copyFull_inner (s : State) (id n : Nat) (l : LoomSt) (wrong : List (Nat × U32)) (op : FullOp) :
    Inner s (s.copyFull id n l wrong op) := by
  cases op <;> exact Inner.rfl'

/-! ### Queues -/

@[simp] theorem State.sendPieces_inner (s : State) (p n q t attempt : Nat) (r : QReq) (data : List Byte) :
    Inner s (s.sendPieces p n q t attempt r data) := by
  unfold State.sendPieces
  refine Inner.foldlOn (g := fun a : State × List Byte => a.1) (fun a x => ?_) _ _
  dsimp only
  split
  · exact Inner.rfl'
  · exact State.inject_inner _ _

@[simp] theorem State.badWait_inner (s : State) (p n : Nat) :
    Inner s (s.badWait p n) := by
  unfold State.badWait
  try dsimp only
  repeat' split
  all_goals first | (simp_all [Inner, ite_fixed, ↓fixed_steps, ↓fixed_cellar, ↓fixed_fabric, ↓fixed_ob, ↓fixed_led, ↓fixed_free, ↓fixed_plots, ↓fixed_samples]; done) | rfl

@[simp] theorem State.linkDiscard_inner (s : State) (p id : Nat) :
    Inner s (s.linkDiscard p id) := by
  unfold State.linkDiscard
  try dsimp only
  repeat' split
  all_goals first | (simp_all [Inner, ite_fixed, ↓fixed_steps, ↓fixed_cellar, ↓fixed_fabric, ↓fixed_ob, ↓fixed_led, ↓fixed_free, ↓fixed_plots, ↓fixed_samples]; done) | rfl

/-! ### Assayer -/

@[simp] theorem State.checked_inner (s : State) (x : Sample) (f : Sample → Sample) :
    Inner s (s.checked x f) := by
  unfold State.checked
  try dsimp only
  repeat' split
  all_goals first | (simp_all [Inner, ite_fixed, ↓fixed_steps, ↓fixed_cellar, ↓fixed_fabric, ↓fixed_ob, ↓fixed_led, ↓fixed_free, ↓fixed_plots, ↓fixed_samples]; done) | rfl

/-! ### Cellar -/

@[simp] theorem State.answerRead_inner (s : State) (tag : Nat) (st : Status) (data : List Byte) :
    Inner s (s.answerRead tag st data) := by
  unfold State.answerRead
  try dsimp only
  repeat' split
  all_goals first | (simp_all [Inner, ite_fixed, ↓fixed_steps, ↓fixed_cellar, ↓fixed_fabric, ↓fixed_ob, ↓fixed_led, ↓fixed_free, ↓fixed_plots, ↓fixed_samples]; done) | rfl

@[simp] theorem State.cellarFault_inner (s : State) (tag : Nat) (src : Option Nat) :
    Inner s (s.cellarFault tag src) := by
  unfold State.cellarFault
  try dsimp only
  repeat' split
  all_goals first | (simp_all [Inner, ite_fixed, ↓fixed_steps, ↓fixed_cellar, ↓fixed_fabric, ↓fixed_ob, ↓fixed_led, ↓fixed_free, ↓fixed_plots, ↓fixed_samples]; done) | rfl

@[simp] theorem State.poisonedRead_inner (s : State) (tag lt r : Nat) :
    Inner s (s.poisonedRead tag lt r) := by
  unfold State.poisonedRead
  try dsimp only
  repeat' split
  all_goals first | (simp_all [Inner, ite_fixed, ↓fixed_steps, ↓fixed_cellar, ↓fixed_fabric, ↓fixed_ob, ↓fixed_led, ↓fixed_free, ↓fixed_plots, ↓fixed_samples]; done) | rfl

@[simp] theorem State.returnRead_inner (s : State) (tag a n : Nat) (data : List Byte) :
    Inner s (s.returnRead tag a n data) := by
  unfold State.returnRead
  try dsimp only
  repeat' split
  all_goals first | (simp_all [Inner, ite_fixed, ↓fixed_steps, ↓fixed_cellar, ↓fixed_fabric, ↓fixed_ob, ↓fixed_led, ↓fixed_free, ↓fixed_plots, ↓fixed_samples]; done) | rfl

@[simp] theorem State.goodRead_inner (s : State) (tag a n : Nat) :
    Inner s (s.goodRead tag a n) := by
  unfold State.goodRead
  try dsimp only
  repeat' split
  all_goals first | (simp_all [Inner, ite_fixed, ↓fixed_steps, ↓fixed_cellar, ↓fixed_fabric, ↓fixed_ob, ↓fixed_led, ↓fixed_free, ↓fixed_plots, ↓fixed_samples]; done) | rfl

@[simp] theorem State.parcelWritten_inner (s : State) (p n : Nat) :
    Inner s (s.parcelWritten p n) := by
  unfold State.parcelWritten
  try dsimp only
  repeat' split
  all_goals first | (simp_all [Inner, ite_fixed, ↓fixed_steps, ↓fixed_cellar, ↓fixed_fabric, ↓fixed_ob, ↓fixed_led, ↓fixed_free, ↓fixed_plots, ↓fixed_samples]; done) | rfl

@[simp] theorem State.writeDone_inner (s : State) (w : CWrite) :
    Inner s (s.writeDone w) := by
  unfold State.writeDone
  try dsimp only
  repeat' split
  all_goals first | (simp_all [Inner, ite_fixed, ↓fixed_steps, ↓fixed_cellar, ↓fixed_fabric, ↓fixed_ob, ↓fixed_led, ↓fixed_free, ↓fixed_plots, ↓fixed_samples]; done) | rfl

@[simp] theorem State.noteAppend_inner (s : State) (id : Nat) (x : Append) :
    Inner s (s.noteAppend id x) := by
  unfold State.noteAppend
  try dsimp only
  repeat' split
  all_goals first | (simp_all [Inner, ite_fixed, ↓fixed_steps, ↓fixed_cellar, ↓fixed_fabric, ↓fixed_ob, ↓fixed_led, ↓fixed_free, ↓fixed_plots, ↓fixed_samples]; done) | rfl

@[simp] theorem State.scrubNext_inner (s : State) (t c : Nat) (e : EccFound) :
    Inner s (s.scrubNext t c e) := by
  unfold State.scrubNext
  try dsimp only
  repeat' split
  all_goals first | (simp_all [Inner, ite_fixed, ↓fixed_steps, ↓fixed_cellar, ↓fixed_fabric, ↓fixed_ob, ↓fixed_led, ↓fixed_free, ↓fixed_plots, ↓fixed_samples]; done) | rfl

@[simp] theorem State.restoreRow_inner (s : State) (lt r : Nat) :
    Inner s (s.restoreRow lt r) := by
  unfold State.restoreRow
  try dsimp only
  repeat' split
  · exact Inner.rfl'
  · exact Inner.rfl'
  · exact State.poisonUnit_inner s lt r
  · exact Inner.trans (State.cstore_inner s _ _) (Inner.trans (State.cstore_inner _ _ _) (State.applyDelta_inner _ _))
  · exact State.cstore_inner s _ _

@[simp] theorem State.clearErased_inner (s : State) (lt r : Nat) :
    Inner s (s.clearErased lt r) := by
  unfold State.clearErased
  try dsimp only
  repeat' split
  all_goals first | (simp_all [Inner, ite_fixed, ↓fixed_steps, ↓fixed_cellar, ↓fixed_fabric, ↓fixed_ob, ↓fixed_led, ↓fixed_free, ↓fixed_plots, ↓fixed_samples]; done) | rfl

/-! ### Pantry -/

@[simp] theorem State.movedPage_inner (s : State) (i : Nat) (d : Bool) (j : Nat) :
    Inner s (s.movedPage i d j) := by
  unfold State.movedPage
  try dsimp only
  repeat' split
  all_goals first | (simp_all [Inner, ite_fixed, ↓fixed_steps, ↓fixed_cellar, ↓fixed_fabric, ↓fixed_ob, ↓fixed_led, ↓fixed_free, ↓fixed_plots, ↓fixed_samples]; done) | rfl

@[simp] theorem State.lostTransferEnd_inner (s : State) (i : Nat) (d : Bool) (j : Nat) :
    Inner s (s.lostTransferEnd i d j) := by
  unfold State.lostTransferEnd
  try dsimp only
  repeat' split
  all_goals first | (simp_all [Inner, ite_fixed, ↓fixed_steps, ↓fixed_cellar, ↓fixed_fabric, ↓fixed_ob, ↓fixed_led, ↓fixed_free, ↓fixed_plots, ↓fixed_samples]; done) | rfl

@[simp] theorem State.fillFails_inner (s : State) (p request : Nat) (draft : Bool) (page : Nat) (why : Status) :
    Inner s (s.fillFails p request draft page why) := by
  unfold State.fillFails
  try dsimp only
  repeat' split
  all_goals first | (simp_all [Inner, ite_fixed, ↓fixed_steps, ↓fixed_cellar, ↓fixed_fabric, ↓fixed_ob, ↓fixed_led, ↓fixed_free, ↓fixed_plots, ↓fixed_samples]; done) | rfl

/-! ### Images -/

@[simp] theorem State.cancelAll_inner (s : State) (p : Nat) :
    Inner s (s.cancelAll p) := by
  unfold State.cancelAll
  try dsimp only
  repeat' split
  all_goals first | (simp_all [Inner, ite_fixed, ↓fixed_steps, ↓fixed_cellar, ↓fixed_fabric, ↓fixed_ob, ↓fixed_led, ↓fixed_free, ↓fixed_plots, ↓fixed_samples]; done) | rfl

@[simp] theorem State.releaseExtents_inner (s : State) (p : Nat) :
    Inner s (s.releaseExtents p) := by
  unfold State.releaseExtents
  try dsimp only
  repeat' split
  all_goals first | (simp_all [Inner, ite_fixed, ↓fixed_steps, ↓fixed_cellar, ↓fixed_fabric, ↓fixed_ob, ↓fixed_led, ↓fixed_free, ↓fixed_plots, ↓fixed_samples]; done) | rfl

@[simp] theorem State.releaseRoutes_inner (s : State) (p : Nat) :
    Inner s (s.releaseRoutes p) := by
  unfold State.releaseRoutes
  try dsimp only
  repeat' split
  all_goals first | (simp_all [Inner, ite_fixed, ↓fixed_steps, ↓fixed_cellar, ↓fixed_fabric, ↓fixed_ob, ↓fixed_led, ↓fixed_free, ↓fixed_plots, ↓fixed_samples]; done) | rfl

@[simp] theorem State.takePlan_inner (s : State) (p : Nat) (im : Image) :
    Inner s (s.takePlan p im) := by
  unfold State.takePlan
  try dsimp only
  repeat' split
  all_goals first | (simp_all [Inner, ite_fixed, ↓fixed_steps, ↓fixed_cellar, ↓fixed_fabric, ↓fixed_ob, ↓fixed_led, ↓fixed_free, ↓fixed_plots, ↓fixed_samples]; done) | rfl

@[simp] theorem State.checkLoad_inner (s : State) (p : Nat) (im : Image) (gen : Nat) (x : Port) :
    Inner s (s.checkLoad p im gen x).1 := by
  unfold State.checkLoad
  try dsimp only
  repeat' split
  all_goals first | (simp_all [Inner, ite_fixed, ↓fixed_steps, ↓fixed_cellar, ↓fixed_fabric, ↓fixed_ob, ↓fixed_led, ↓fixed_free, ↓fixed_plots, ↓fixed_samples]; done) | rfl

@[simp] theorem State.takeEngine_inner (s : State) (p use : Nat) (xs : List Nat) :
    Inner s (s.takeEngine p use xs) := by
  unfold State.takeEngine
  try dsimp only
  repeat' split
  all_goals first | (simp_all [Inner, ite_fixed, ↓fixed_steps, ↓fixed_cellar, ↓fixed_fabric, ↓fixed_ob, ↓fixed_led, ↓fixed_free, ↓fixed_plots, ↓fixed_samples]; done) | rfl

@[simp] theorem State.takeSave_inner (s : State) (p : Nat) (im : Image) :
    Inner s (s.takeSave p im) := by
  unfold State.takeSave
  repeat' split
  · exact Inner.rfl'
  · exact (Inner.foldl (fun s t => State.takeEngine_inner s p 6 _) _ _).trans (State.updPlot_fixed _ _ _)
  · exact Inner.rfl'

@[simp] theorem State.ringTake_inner (s : State) (p : Nat) (im : Image) (e : ManifestEntry) :
    Inner s (s.ringTake p im e) := by
  unfold State.ringTake
  try dsimp only
  repeat' split
  all_goals first | (simp_all [Inner, ite_fixed, ↓fixed_steps, ↓fixed_cellar, ↓fixed_fabric, ↓fixed_ob, ↓fixed_led, ↓fixed_free, ↓fixed_plots, ↓fixed_samples]; done) | rfl

@[simp] theorem State.ringFilled_inner (s : State) (p n : Nat) (range : Nat × Nat) :
    Inner s (s.ringFilled p n range) := by
  unfold State.ringFilled
  try dsimp only
  repeat' split
  all_goals first | (simp_all [Inner, ite_fixed, ↓fixed_steps, ↓fixed_cellar, ↓fixed_fabric, ↓fixed_ob, ↓fixed_led, ↓fixed_free, ↓fixed_plots, ↓fixed_samples]; done) | rfl

@[simp] theorem State.checkPieces_inner (s : State) (p n : Nat) (r : QReq) (e : EccFound) :
    Inner s (s.checkPieces p n r e) := by
  unfold State.checkPieces
  try dsimp only
  repeat' split
  all_goals first | (simp_all [Inner, ite_fixed, ↓fixed_steps, ↓fixed_cellar, ↓fixed_fabric, ↓fixed_ob, ↓fixed_led, ↓fixed_free, ↓fixed_plots, ↓fixed_samples]; done) | rfl

@[simp] theorem State.takePieces_inner (s : State) (p n q t attempt : Nat) (r : QReq) :
    Inner s (s.takePieces p n q t attempt r).1 := by
  unfold State.takePieces
  refine Inner.foldlOn (g := fun a : State × List Byte => a.1) (fun a x => ?_) _ _
  split
  · exact Inner.rfl'
  · exact State.takeMsg_inner _ _ _

/-! ### Plots -/

@[simp] theorem State.toCool_inner (s : State) (i : Nat) :
    Inner s (s.toCool i) := by
  unfold State.toCool
  try dsimp only
  repeat' split
  all_goals first | (simp_all [Inner, ite_fixed, ↓fixed_steps, ↓fixed_cellar, ↓fixed_fabric, ↓fixed_ob, ↓fixed_led, ↓fixed_free, ↓fixed_plots, ↓fixed_samples]; done) | rfl

@[simp] theorem State.coolClass_inner (mark m c : Nat) (x : PoolSt) (s : State) (x0 : Nat) (x1 : List (Nat × Ob)) :
    Inner s (State.coolClass mark m c x s x0 x1) := by
  induction x1 generalizing s x0 with
  | nil => exact rfl
  | cons e es ih =>
    obtain ⟨i, o⟩ := e
    unfold State.coolClass
    split
    · exact rfl
    · exact Inner.trans (State.toCool_inner s i) (ih _ _)

@[simp] theorem State.coolPool_inner (s : State) (p m : Nat) :
    Inner s (s.coolPool p m) := by
  unfold State.coolPool
  split
  · exact Inner.rfl'
  · exact Inner.foldl (fun s c => State.coolClass_inner _ _ _ _ _ _ _) _ _

@[simp] theorem State.coolLow_inner (s : State) (p m : Nat) :
    Inner s (s.coolLow p m) := by
  unfold State.coolLow
  try dsimp only
  repeat' split
  all_goals first | (simp_all [Inner, ite_fixed, ↓fixed_steps, ↓fixed_cellar, ↓fixed_fabric, ↓fixed_ob, ↓fixed_led, ↓fixed_free, ↓fixed_plots, ↓fixed_samples]; done) | rfl

@[simp] theorem State.takeServing_inner (s : State) (p : Nat) :
    Inner s (s.takeServing p) := by
  unfold State.takeServing
  try dsimp only
  repeat' split
  all_goals first | (simp_all [Inner, ite_fixed, ↓fixed_steps, ↓fixed_cellar, ↓fixed_fabric, ↓fixed_ob, ↓fixed_led, ↓fixed_free, ↓fixed_plots, ↓fixed_samples]; done) | rfl

@[simp] theorem State.startGap_inner (s : State) (p m : Nat) :
    Inner s (s.startGap p m) := by
  unfold State.startGap
  try dsimp only
  repeat' split
  all_goals first | (simp_all [Inner, ite_fixed, ↓fixed_steps, ↓fixed_cellar, ↓fixed_fabric, ↓fixed_ob, ↓fixed_led, ↓fixed_free, ↓fixed_plots, ↓fixed_samples]; done) | rfl

@[simp] theorem State.settlePages_inner (s : State) (i c : Nat) :
    Inner s (s.settlePages i c) := by
  unfold State.settlePages
  refine Inner.foldl (fun s x => ?_) _ _
  try dsimp only
  repeat' split
  all_goals first | (simp_all [Inner, ite_fixed, ↓fixed_steps, ↓fixed_cellar, ↓fixed_fabric, ↓fixed_ob, ↓fixed_led, ↓fixed_free, ↓fixed_plots, ↓fixed_samples]; done) | rfl

@[simp] theorem State.leave_inner (s : State) (i : Nat) :
    Inner s (s.leave i).1 := by
  unfold State.leave
  try dsimp only
  repeat' split
  all_goals first | (simp_all [Inner, ite_fixed, ↓fixed_steps, ↓fixed_cellar, ↓fixed_fabric, ↓fixed_ob, ↓fixed_led, ↓fixed_free, ↓fixed_plots, ↓fixed_samples]; done) | rfl

@[simp] theorem State.countCommit_inner (s : State) (i : Nat) (r : StepReq) (c tokens k : Nat) (smp : Bool) :
    Inner s (s.countCommit i r c tokens k smp) := by
  unfold State.countCommit
  try dsimp only
  repeat' split
  all_goals first | (simp_all [Inner, ite_fixed, ↓fixed_steps, ↓fixed_cellar, ↓fixed_fabric, ↓fixed_ob, ↓fixed_led, ↓fixed_free, ↓fixed_plots, ↓fixed_samples]; done) | rfl

@[simp] theorem State.turnAfter_inner (s : State) (i : Nat) (more smp spent turnEnd : Bool) :
    Inner s (s.turnAfter i more smp spent turnEnd) := by
  unfold State.turnAfter
  try dsimp only
  repeat' split
  all_goals first | (simp_all [Inner, ite_fixed, ↓fixed_steps, ↓fixed_cellar, ↓fixed_fabric, ↓fixed_ob, ↓fixed_led, ↓fixed_free, ↓fixed_plots, ↓fixed_samples]; done) | rfl

@[simp] theorem State.commitWith_inner (s : State) (r : StepReq) (e : StepEnd) (trained : Bool) :
    Inner s (s.commitWith r e trained).1 := by
  unfold State.commitWith
  dsimp only
  rw [apply_ite Prod.fst]
  refine Inner.ite ?_ ?_ <;> dsimp only
  · refine Inner.trans ?_ (State.maybeFree_inner _ _)
    refine Inner.trans ?_ (State.settleCore_inner _ _)
    refine Inner.trans ?_ (State.drainCore_inner _ _)
    refine Inner.ite ?_ ?_ <;> simp [Inner]
  · refine Inner.ite ?_ ?_ <;> simp [Inner]

@[simp] theorem State.commitReq_inner (s : State) (driven : Bool) (r : StepReq) (out : Option StreamOut) :
    Inner s (s.commitReq driven r out).1 := by
  unfold State.commitReq
  dsimp only
  rw [apply_ite Prod.fst]
  refine Inner.ite ?_ ?_
  · refine Inner.trans ?_ (State.leave_inner _ _)
    refine Inner.trans (State.bump_fixed _ _ _ _ _) (State.bump_fixed _ _ _ _ _)
  · exact State.commitWith_inner _ _ _ _

@[simp] theorem State.unbind_inner (s : State) (p : Nat) :
    Inner s (s.unbind p) := by
  unfold State.unbind
  exact foldl_fixed _ (fun _ _ => State.updQp_fixed _ _ _) _ _

/-! ### Requests -/

@[simp] theorem State.countIgnored_inner (s : State) (n : Nat) :
    Inner s (s.countIgnored n) := by
  unfold State.countIgnored
  try dsimp only
  repeat' split
  all_goals first | (simp_all [Inner, ite_fixed, ↓fixed_steps, ↓fixed_cellar, ↓fixed_fabric, ↓fixed_ob, ↓fixed_led, ↓fixed_free, ↓fixed_plots, ↓fixed_samples]; done) | rfl

@[simp] theorem State.consume_inner (s : State) (n : Nat) (x0 : Nat) (x1 : Nat) :
    Inner s (s.consume n x0 x1) := by
  induction x1 generalizing s x0 with
  | zero => exact rfl
  | succ k ih =>
    unfold State.consume
    try dsimp only
    refine Inner.trans ?_ (ih _ _)
    repeat' split
    all_goals first | (simp_all [Inner, ite_fixed, ↓fixed_steps, ↓fixed_cellar, ↓fixed_fabric, ↓fixed_ob, ↓fixed_led, ↓fixed_free, ↓fixed_plots, ↓fixed_samples]; done) | rfl

@[simp] theorem State.refuseSub_inner (s : State) (n : Nat) (e : Sub) (st : Status) :
    Inner s (s.refuseSub n e st) := by
  unfold State.refuseSub
  try dsimp only
  repeat' split
  all_goals first | (simp_all [Inner, ite_fixed, ↓fixed_steps, ↓fixed_cellar, ↓fixed_fabric, ↓fixed_ob, ↓fixed_led, ↓fixed_free, ↓fixed_plots, ↓fixed_samples]; done) | rfl

@[simp] theorem State.ack_inner (s : State) (i : Nat) (e : Sub) :
    Inner s (s.ack i e) := by
  unfold State.ack
  try dsimp only
  repeat' split
  all_goals first | (simp_all [Inner, ite_fixed, ↓fixed_steps, ↓fixed_cellar, ↓fixed_fabric, ↓fixed_ob, ↓fixed_led, ↓fixed_free, ↓fixed_plots, ↓fixed_samples]; done) | rfl

/-! ### HostPorts -/

@[simp] theorem State.countContext_inner (s : State) (n : Nat) :
    Inner s (s.countContext n) := by
  unfold State.countContext
  try dsimp only
  repeat' split
  all_goals first | (simp_all [Inner, ite_fixed, ↓fixed_steps, ↓fixed_cellar, ↓fixed_fabric, ↓fixed_ob, ↓fixed_led, ↓fixed_free, ↓fixed_plots, ↓fixed_samples]; done) | rfl

/-! ### Power -/

@[simp] theorem State.restoreLoom_inner (s : State) (p n : Nat) (im : Image) :
    Inner s (s.restoreLoom p n im) := by
  unfold State.restoreLoom
  try dsimp only
  repeat' split
  all_goals first | (simp_all [Inner, ite_fixed, ↓fixed_steps, ↓fixed_cellar, ↓fixed_fabric, ↓fixed_ob, ↓fixed_led, ↓fixed_free, ↓fixed_plots, ↓fixed_samples]; done) | rfl

end Sys2Proof.Machine
end

