-- ==== Sys2Proof/Laws/Claims.lean ====
section
/-! SUPPORT. What the words of Safety.lean follow from: raising events, serving a Ledger request that arrives, and frames. -/

namespace Sys2Proof.Machine

/-! ### Lookups that read one part only -/

theorem State.cell_of_led {s t : State} (h : t.led = s.led) (i j : Nat) : t.cell i j = s.cell i j := by
  simp only [State.cell, h]

/-- The value of a cell after a write to a cell. -/
theorem State.cell_setCell (s : State) (a b v i j : Nat) (hb : b < 256) (hj : j < 256) :
    (s.setCell a b v).cell i j = if a = i ∧ b = j then v else s.cell i j := by
  by_cases h : a = i ∧ b = j
  · obtain ⟨rfl, rfl⟩ := h
    simp
  · rw [if_neg h, State.cell_setCell_ne]
    simp only [ek]
    omega

@[simp] theorem State.cell_raise (s : State) (ev p : Nat) (ps : List Nat) (i j : Nat) : (s.raise ev p ps).cell i j = s.cell i j :=
  State.cell_of_led (by simp) i j

@[simp] theorem State.cell_emit (s : State) (o : Out) (i j : Nat) : (s.emit o).cell i j = s.cell i j := rfl

@[simp] theorem State.cell_updSite (s : State) (n : Nat) (g : Site → Site) (i j : Nat) : (s.updSite n g).cell i j = s.cell i j := rfl
@[simp] theorem State.cell_updSlot (s : State) (n : Nat) (g : SlotSt → SlotSt) (i j : Nat) :
    (s.updSlot n g).cell i j = s.cell i j := rfl
@[simp] theorem State.cell_updLoom (s : State) (n : Nat) (g : LoomSt → LoomSt) (i j : Nat) :
    (s.updLoom n g).cell i j = s.cell i j := rfl
@[simp] theorem State.cell_updPlot (s : State) (n : Nat) (g : Plot → Plot) (i j : Nat) : (s.updPlot n g).cell i j = s.cell i j := rfl
@[simp] theorem State.cell_updOb (s : State) (n : Nat) (g : Ob → Ob) (i j : Nat) : (s.updOb n g).cell i j = s.cell i j := rfl
@[simp] theorem State.cell_updQp (s : State) (n : Nat) (g : Qp → Qp) (i j : Nat) : (s.updQp n g).cell i j = s.cell i j := rfl
@[simp] theorem State.cell_updFerry (s : State) (n : Nat) (g : Ferry → Ferry) (i j : Nat) :
    (s.updFerry n g).cell i j = s.cell i j := rfl
@[simp] theorem State.cell_updReg (s : State) (n : Nat) (g : Reg → Reg) (i j : Nat) : (s.updReg n g).cell i j = s.cell i j := rfl
@[simp] theorem State.cell_updBox (s : State) (fn : Func) (g : Mailbox → Mailbox) (i j : Nat) :
    (s.updBox fn g).cell i j = s.cell i j := rfl
@[simp] theorem State.cell_updSession (s : State) (n : Nat) (g : Session → Session) (i j : Nat) :
    (s.updSession n g).cell i j = s.cell i j := rfl

/-- A write of one cell changes no other. -/
theorem CellsBut.setCell {ks : List (Nat × Nat)} {s t : State} (h : CellsBut ks s t) (a b v : Nat) (hb : b < 256) (m : (a, b) ∈ ks) :
    CellsBut ks s (t.setCell a b v) := by
  intro i j hj hn
  rw [State.cell_setCell _ _ _ _ _ _ hb hj]
  split
  · rename_i e
    exact absurd (e.1 ▸ e.2 ▸ m) hn
  · exact h i j hj hn

/-- An operation that keeps what State.fixed keeps changes the working parts at most. -/
theorem Changes.of_fixed {s t : State} (h : t.fixed = s.fixed) : Changes s t Part.work := by
  intro p hp
  simp only [State.fixed, State.mk.injEq] at h
  cases p <;> simp_all [Part.work, Part.same]

theorem Changes.refl (s : State) (ps : List Part) : Changes s s ps := by
  intro p _
  cases p <;> rfl

theorem Changes.trans {s t u : State} {ps : List Part} (h : Changes s t ps) (h' : Changes t u ps) : Changes s u ps := by
  intro p hp
  have a := h p hp
  have b := h' p hp
  cases p <;> exact Eq.trans b a

theorem Changes.mono {s t : State} {ps qs : List Part} (h : Changes s t ps) (m : ∀ p, p ∈ ps → p ∈ qs) : Changes s t qs :=
  fun p hp => h p (fun hm => hp (m p hm))

theorem CellsBut.of_led {ks : List (Nat × Nat)} {s t : State} (h : t.led = s.led) : CellsBut ks s t :=
  fun i j _ _ => State.cell_of_led h i j

/-! ### Events -/

/-- Where no event is raised the sequence number stands. -/
theorem Raises.nil {s t : State} (h : t.ev.seq = s.ev.seq) : Raises s t [] := ⟨by simpa using h, t.ev.log, by simp⟩

theorem raisePort_log (x : Port) (r : EventRec) (s : State) : (raisePort x r s).ev.log = s.ev.log := by
  unfold raisePort
  dsimp only
  split <;> rfl

/-- What a raise does to the log: the record is appended, and one record beyond 1,024 leaves it at the front. -/
theorem State.raise_log_all (s : State) (ev plot : Nat) (ps : List Nat) :
    (s.raise ev plot ps).ev.log =
      if 1024 < (s.ev.log ++ [({ seq := s.ev.seq + 1, ev, plot, time := s.now, params := ps } : EventRec)]).length
      then (s.ev.log ++ [({ seq := s.ev.seq + 1, ev, plot, time := s.now, params := ps } : EventRec)]).drop 1
      else s.ev.log ++ [({ seq := s.ev.seq + 1, ev, plot, time := s.now, params := ps } : EventRec)] := by
  simp only [State.raise, raisePort_log]

/-- One more event is raised. -/
theorem Raises.raise {s t : State} {es : List (Nat × Nat × List Nat)} (h : Raises s t es) (n : es.length < 1024)
    (ev plot : Nat) (ps : List Nat) : Raises s (t.raise ev plot ps) (es ++ [(ev, plot, ps)]) := by
  obtain ⟨h1, old, h2⟩ := h
  refine ⟨by simp [State.raise_seq, h1]; omega, ?_⟩
  rw [State.raise_log_all]
  simp only [State.raise_fields]
  have e : t.ev.log ++ [({ seq := t.ev.seq + 1, ev := ev, plot := plot, time := t.now, params := ps } : EventRec)]
      = old ++ (es ++ [(ev, plot, ps)]).mapIdx (fun i e =>
        ({ seq := s.ev.seq + 1 + i, ev := e.1, plot := e.2.1, time := t.now, params := e.2.2 } : EventRec)) := by
    rw [h2, List.mapIdx_append]
    simp [h1]
    omega
  rw [e]
  split
  · rename_i g
    cases old with
    | nil => simp at g; omega
    | cons a o => exact ⟨o, rfl⟩
  · exact ⟨old, rfl⟩

/-- Later updates that leave the event log and the time alone raise nothing more. -/
theorem Raises.congr {s t u : State} {es : List (Nat × Nat × List Nat)} (h : Raises s t es) (he : u.ev = t.ev) (hn : u.now = t.now) :
    Raises s u es := by
  simp only [Raises, he, hn]
  exact h

/-- One event raised after updates that raise none. -/
theorem Raises.one {s t : State} (h : t.ev.seq = s.ev.seq) (ev plot : Nat) (ps : List Nat) :
    Raises s (t.raise ev plot ps) [(ev, plot, ps)] := (Raises.nil h).raise (by simp) ev plot ps

/-! ### Ledger requests -/

/-- Taking a request's counter touches nothing but the sessions. -/
@[simp] theorem State.heard_fields (s : State) (f : Sender) :
    (s.heard f).pending = s.pending ∧ (s.heard f).now = s.now ∧ (s.heard f).bell = s.bell ∧ (s.heard f).led = s.led ∧
    (s.heard f).blob = s.blob ∧ (s.heard f).meas = s.meas ∧ (s.heard f).otp = s.otp ∧ (s.heard f).defects = s.defects ∧
    (s.heard f).factory = s.factory ∧ (s.heard f).ev = s.ev ∧ (s.heard f).exchanges = s.exchanges ∧
    (s.heard f).nextExchange = s.nextExchange ∧ (s.heard f).keys = s.keys ∧ (s.heard f).sites = s.sites ∧
    (s.heard f).slots = s.slots ∧ (s.heard f).regs = s.regs ∧ (s.heard f).epochs = s.epochs ∧ (s.heard f).fabric = s.fabric ∧
    (s.heard f).looms = s.looms ∧ (s.heard f).cellar = s.cellar ∧ (s.heard f).plots = s.plots ∧ (s.heard f).steps = s.steps ∧
    (s.heard f).nextStep = s.nextStep ∧ (s.heard f).samples = s.samples ∧ (s.heard f).ob = s.ob ∧ (s.heard f).nextAdmit = s.nextAdmit ∧ (s.heard f).qps = s.qps ∧
    (s.heard f).mailbox = s.mailbox ∧ (s.heard f).moved = s.moved ∧ (s.heard f).latch = s.latch ∧ (s.heard f).paths = s.paths ∧
    (s.heard f).ethCtr = s.ethCtr ∧ (s.heard f).ferry = s.ferry ∧ (s.heard f).sweep = s.sweep ∧ (s.heard f).power = s.power ∧
    (s.heard f).procs = s.procs ∧ (s.heard f).boot = s.boot ∧ (s.heard f).rst = s.rst ∧ (s.heard f).eyes = s.eyes ∧
    (s.heard f).out = s.out ∧ (s.heard f).free = s.free := by
  unfold State.heard
  split <;> simp

/-- Answering touches nothing but what has left the engine, the mailboxes and the sessions. -/
@[simp] theorem State.answer_fields (s : State) (f : Sender) (q : Req) (r : Reply) :
    (s.answer f q r).pending = s.pending ∧ (s.answer f q r).now = s.now ∧ (s.answer f q r).bell = s.bell ∧
    (s.answer f q r).led = s.led ∧ (s.answer f q r).blob = s.blob ∧ (s.answer f q r).meas = s.meas ∧
    (s.answer f q r).otp = s.otp ∧ (s.answer f q r).defects = s.defects ∧ (s.answer f q r).factory = s.factory ∧
    (s.answer f q r).ev = s.ev ∧ (s.answer f q r).exchanges = s.exchanges ∧ (s.answer f q r).nextExchange = s.nextExchange ∧
    (s.answer f q r).keys = s.keys ∧ (s.answer f q r).sites = s.sites ∧ (s.answer f q r).slots = s.slots ∧
    (s.answer f q r).regs = s.regs ∧ (s.answer f q r).epochs = s.epochs ∧ (s.answer f q r).fabric = s.fabric ∧
    (s.answer f q r).looms = s.looms ∧ (s.answer f q r).cellar = s.cellar ∧ (s.answer f q r).plots = s.plots ∧
    (s.answer f q r).steps = s.steps ∧ (s.answer f q r).nextStep = s.nextStep ∧ (s.answer f q r).samples = s.samples ∧ (s.answer f q r).ob = s.ob ∧
    (s.answer f q r).nextAdmit = s.nextAdmit ∧ (s.answer f q r).qps = s.qps ∧ (s.answer f q r).moved = s.moved ∧
    (s.answer f q r).latch = s.latch ∧ (s.answer f q r).paths = s.paths ∧ (s.answer f q r).ethCtr = s.ethCtr ∧
    (s.answer f q r).ferry = s.ferry ∧ (s.answer f q r).sweep = s.sweep ∧ (s.answer f q r).power = s.power ∧
    (s.answer f q r).procs = s.procs ∧ (s.answer f q r).boot = s.boot ∧ (s.answer f q r).rst = s.rst ∧
    (s.answer f q r).eyes = s.eyes ∧ (s.answer f q r).free = s.free := by
  unfold State.answer
  dsimp only
  split <;> simp

@[simp] theorem State.cell_heard (s : State) (f : Sender) (i j : Nat) : (s.heard f).cell i j = s.cell i j :=
  State.cell_of_led (by simp) i j

@[simp] theorem State.cell_answer (s : State) (f : Sender) (q : Req) (r : Reply) (i j : Nat) :
    (s.answer f q r).cell i j = s.cell i j := State.cell_of_led (by simp) i j

/-- The checks of a request do not depend on its session. -/
@[simp] theorem State.writeCheck_heard (s : State) (f : Sender) (w : Requester) (c : Cmd) (i j : Nat) (b : List Byte) :
    (s.heard f).writeCheck w c i j b = s.writeCheck w c i j b := by
  unfold State.heard
  split <;> rfl

@[simp] theorem State.gen_heard (s : State) (f : Sender) (i j : Nat) : (s.heard f).gen i j = s.gen i j := by
  unfold State.heard State.gen
  cases f.who <;> rfl

@[simp] theorem State.accepts_heard (s : State) (f : Sender) (i : Nat) : (s.heard f).accepts i = s.accepts i := by
  unfold State.heard
  split <;> rfl

/-- A request that arrives is carried out, and then answered. -/
theorem State.serve_arrives {s : State} {f : Sender} {q : Req} (h : Arrives s f q) (act : State → State × Reply) :
    s.serve f q act = (act (s.heard f)).1.answer f q (act (s.heard f)).2 := by
  obtain ⟨h1, h2, h3, hl, hs, h4⟩ := h
  have hl' : ¬ bodyLimit f.who < q.body.length := by omega
  have ha : (s.heard f).accepts q.idx = true := by rw [State.accepts_heard]; exact h3
  cases hw : f.who with
  | host fn =>
    have hh : s.heard f = s := by simp [State.heard, hw]
    rw [hh] at ha ⊢
    rw [hw] at hl'
    simp [State.serve, h1, h2, h3, hs, hw, hl']
  | mgmt n =>
    simp only [hw] at h4
    obtain ⟨h5, h6, x, h7, h8, h9, h10⟩ := h4
    have hh : s.heard f = s.updSession n.toNat (fun x => { x with rxCounter := f.counter.toNat, lastRx := s.now }) := by
      simp [State.heard, hw]
    rw [hh] at ha
    have h9' : ¬ f.counter.toNat ≤ x.rxCounter := by omega
    rw [hw] at hl'
    simp only [State.serve, h1, h2, hs, hw, h5, h6, h7, h8, h9', h10, hh, ha, hl']
    simp

/-- The response of a request is its last effect. -/
theorem State.answer_answers (s : State) (f : Sender) (q : Req) (r : Reply) : Answers (s.answer f q r) f r.status := by
  unfold State.answer Answers
  cases hw : f.who with
  | host fn =>
    refine ⟨⟨r, s.out, by simp [State.emit, State.updBox], rfl⟩, ?_⟩
    intro g hg
    cases hg
    simp [State.box, State.updBox, Mailbox.respond]
  | mgmt n => exact ⟨⟨r, s.out, by simp [State.emit, State.updSession], rfl⟩, fun g hg => by cases hg⟩

/-- A WRITE that passes every check takes its effect, and is answered DONE. -/
theorem State.serveWrite_arrives {s : State} {f : Sender} {idx sub : Nat} {body : List Byte} (h : WriteArrives s f idx sub body)
    (cond : State → Option Status) (act : State → State) (hc : cond (s.heard f) = none) :
    s.serveWrite f idx sub body cond act = (act (s.heard f)).answer f (writeReq idx sub body) { status := .done } := by
  unfold State.serveWrite
  refine (State.serve_arrives (q := writeReq idx sub body) h.1 _).trans ?_
  simp [h.2, hc]

/-- A WRITE that passes the checks but not the entry's conditions of state changes nothing and is answered with their status. -/
theorem State.serveWrite_refused {s : State} {f : Sender} {idx sub : Nat} {body : List Byte} (h : WriteArrives s f idx sub body)
    (cond : State → Option Status) (act : State → State) (st : Status) (hc : cond (s.heard f) = some st) :
    s.serveWrite f idx sub body cond act = (s.heard f).answer f (writeReq idx sub body) { status := st } := by
  unfold State.serveWrite
  refine (State.serve_arrives (q := writeReq idx sub body) h.1 _).trans ?_
  simp [h.2, hc]

/-- A WRITE that arrives and fails a check changes nothing and is answered with that check's status. -/
theorem State.serveWrite_checked {s : State} {f : Sender} {idx sub : Nat} {body : List Byte} (h : Arrives s f (writeReq idx sub body))
    (cond : State → Option Status) (act : State → State) (st : Status) (hc : s.writeCheck f.who .write idx sub body = some st) :
    s.serveWrite f idx sub body cond act = (s.heard f).answer f (writeReq idx sub body) { status := st, gen := s.gen idx sub } := by
  unfold State.serveWrite
  refine (State.serve_arrives (q := writeReq idx sub body) h _).trans ?_
  simp [hc]

end Sys2Proof.Machine
end

