-- ==== Sys2Proof/Laws/Kept.lean ====
section
/-! SUPPORT. What no shared operation touches: the factory's values, the queue of waiting commands, the OTP records. One theorem per
operation; WRITE_PERSIST's burn and the cold start are treated apart. -/

set_option linter.unusedSimpArgs false
set_option linter.unusedTactic false
set_option linter.unreachableTactic false

namespace Sys2Proof.Machine

/-- What lasts: factory values, waiting commands, OTP records. -/
@[reducible] def Kept (s t : State) : Prop := t.factory = s.factory ∧ t.pending = s.pending ∧ t.otp = s.otp

theorem ite_factory (c : Prop) [Decidable c] (a b : State) : (if c then a else b).factory = if c then a.factory else b.factory := by
  split <;> rfl
theorem ite_pending (c : Prop) [Decidable c] (a b : State) : (if c then a else b).pending = if c then a.pending else b.pending := by
  split <;> rfl
theorem ite_otp (c : Prop) [Decidable c] (a b : State) : (if c then a else b).otp = if c then a.otp else b.otp := by
  split <;> rfl

theorem Kept.trans {s t u : State} (h : Kept s t) (h' : Kept t u) : Kept s u :=
  ⟨h'.1.trans h.1, h'.2.1.trans h.2.1, h'.2.2.trans h.2.2⟩

theorem Kept.foldl {α : Type} {f : State → α → State} (h : ∀ s x, Kept s (f s x)) (l : List α) (s : State) : Kept s (l.foldl f s) := by
  induction l generalizing s with
  | nil => exact ⟨rfl, rfl, rfl⟩
  | cons x l ih => exact (h s x).trans (ih _)

theorem Kept.foldlOn {α β : Type} (g : β → State) {f : β → α → β} (h : ∀ b x, Kept (g b) (g (f b x))) (l : List α) (b : β) :
    Kept (g b) (g (l.foldl f b)) := by
  induction l generalizing b with
  | nil => exact ⟨rfl, rfl, rfl⟩
  | cons x l ih => exact (h b x).trans (ih _)

/-- A fold that may fail: what it has kept so far when it succeeds. -/
theorem Kept.foldlOpt {α β : Type} (s : State) {f : Option State × β → α → Option State × β}
    (h : ∀ b x t, (∀ u, b.1 = some u → Kept s u) → (f b x).1 = some t → Kept s t) (l : List α) (b : Option State × β)
    (hb : ∀ u, b.1 = some u → Kept s u) (t : State) (ht : (l.foldl f b).1 = some t) : Kept s t := by
  induction l generalizing b with
  | nil => exact hb t ht
  | cons x l ih => exact ih (f b x) (fun u hu => h b x u hb hu) ht

@[simp] theorem foldl_factory {α : Type} (f : State → α → State) (h : ∀ s x, (f s x).factory = s.factory) (l : List α) (s : State) :
    (l.foldl f s).factory = s.factory := by
  induction l generalizing s with
  | nil => rfl
  | cons x l ih => rw [List.foldl_cons, ih, h]

@[simp] theorem foldl_pending {α : Type} (f : State → α → State) (h : ∀ s x, (f s x).pending = s.pending) (l : List α) (s : State) :
    (l.foldl f s).pending = s.pending := by
  induction l generalizing s with
  | nil => rfl
  | cons x l ih => rw [List.foldl_cons, ih, h]

@[simp] theorem foldl_otp {α : Type} (f : State → α → State) (h : ∀ s x, (f s x).otp = s.otp) (l : List α) (s : State) :
    (l.foldl f s).otp = s.otp := by
  induction l generalizing s with
  | nil => rfl
  | cons x l ih => rw [List.foldl_cons, ih, h]

theorem State.raise_kept (s : State) (ev plot : Nat) (params : List Nat) : Kept s (s.raise ev plot params) := by simp [Kept]
theorem State.setCell_kept (s : State) (idx sub v : Nat) : Kept s (s.setCell idx sub v) := by simp [Kept]
theorem State.updSite_kept (s : State) (t : Nat) (f : Site → Site) : Kept s (s.updSite t f) := by simp [Kept]
theorem State.bump_kept (s : State) (w idx sub n : Nat) : Kept s (s.bump w idx sub n) := by simp [Kept]
theorem State.updOb_kept (s : State) (i : Nat) (f : Ob → Ob) : Kept s (s.updOb i f) := by simp [Kept]
theorem State.updPlot_kept (s : State) (p : Nat) (f : Plot → Plot) : Kept s (s.updPlot p f) := by simp [Kept]
theorem Kept.ite {s a b : State} {c : Prop} [Decidable c] (ha : Kept s a) (hb : Kept s b) : Kept s (if c then a else b) := by
  split
  · exact ha
  · exact hb
theorem Kept.rfl' {s : State} : Kept s s := ⟨rfl, rfl, rfl⟩

/-! ### Ops -/

@[simp] theorem State.setHolder_kept (s : State) (k h : Nat) :
    Kept s (s.setHolder k h) := by
  unfold State.setHolder
  try dsimp only
  repeat' split
  all_goals simp_all [Kept, ite_factory, ite_pending, ite_otp]

@[simp] theorem State.newEpochs_kept (s : State) (ls : List Nat) :
    Kept s (s.newEpochs ls) := by
  unfold State.newEpochs
  try dsimp only
  repeat' split
  all_goals simp_all [Kept, ite_factory, ite_pending, ite_otp]

@[simp] theorem State.mapChanged_kept (s : State) :
    Kept s (s.mapChanged) := by
  unfold State.mapChanged
  try dsimp only
  repeat' split
  all_goals simp_all [Kept, ite_factory, ite_pending, ite_otp]

@[simp] theorem State.logDefect_kept (s : State) (kind site detail promoted event : Nat) :
    Kept s (s.logDefect kind site detail promoted event) := by
  unfold State.logDefect
  try dsimp only
  repeat' split
  all_goals simp_all [Kept, ite_factory, ite_pending, ite_otp]

@[simp] theorem State.draw_kept (s : State) :
    Kept s (s.draw).2 := by
  unfold State.draw
  try dsimp only
  repeat' split
  all_goals simp_all [Kept, ite_factory, ite_pending, ite_otp]

/-! ### Serve -/

@[simp] theorem State.answer_kept (s : State) (f : Sender) (q : Req) (r : Reply) :
    Kept s (s.answer f q r) := by
  unfold State.answer
  try dsimp only
  repeat' split
  all_goals simp_all [Kept, ite_factory, ite_pending, ite_otp]

@[simp] theorem State.dropFrame_kept (s : State) (sub : Nat) :
    Kept s (s.dropFrame sub) := by
  unfold State.dropFrame
  try dsimp only
  repeat' split
  all_goals simp_all [Kept, ite_factory, ite_pending, ite_otp]

@[simp] theorem State.serve_kept (s : State) (f : Sender) (q : Req) (act : State → State × Reply) (hact : ∀ s, Kept s (act s).1) :
    Kept s (s.serve f q act) := by
  unfold State.serve
  try dsimp only
  repeat' split
  all_goals simp_all [Kept, ite_factory, ite_pending, ite_otp]

@[simp] theorem State.serveWrite_kept (s : State) (f : Sender) (idx sub : Nat) (body : List Byte) (cond : State → Option Status) (act : State → State) (hact : ∀ s, Kept s (act s)) :
    Kept s (s.serveWrite f idx sub body cond act) := by
  refine State.serve_kept _ _ _ _ fun s => ?_
  repeat' split
  all_goals simp_all [Kept]

/-! ### CellarOps -/

@[simp] theorem State.cstore_kept (s : State) (a : Nat) (bs : List Byte) :
    Kept s (s.cstore a bs) := by
  unfold State.cstore
  try dsimp only
  repeat' split
  all_goals simp_all [Kept, ite_factory, ite_pending, ite_otp]

@[simp] theorem State.poison_kept (s : State) (lt r : Nat) :
    Kept s (s.poison lt r) := by
  unfold State.poison
  try dsimp only
  repeat' split
  all_goals simp_all [Kept, ite_factory, ite_pending, ite_otp]

@[simp] theorem State.poisonUnit_kept (s : State) (lt r : Nat) :
    Kept s (s.poisonUnit lt r) := by
  unfold State.poisonUnit
  try dsimp only
  repeat' split
  all_goals simp_all [Kept, ite_factory, ite_pending, ite_otp]

@[simp] theorem State.checkCodes_kept (s : State) (lt r : Nat) (ks : List Nat) (e : EccFound) :
    Kept s (s.checkCodes lt r ks e) := by
  unfold State.checkCodes
  try dsimp only
  repeat' split
  all_goals simp_all [Kept, ite_factory, ite_pending, ite_otp]

@[simp] theorem State.unpoison_kept (s : State) (lt r : Nat) :
    Kept s (s.unpoison lt r) := by
  unfold State.unpoison
  try dsimp only
  repeat' split
  all_goals simp_all [Kept, ite_factory, ite_pending, ite_otp]

@[simp] theorem State.measureRows_kept (s : State) (lt done : Nat) :
    Kept s (s.measureRows lt done) := by
  unfold State.measureRows
  try dsimp only
  repeat' split
  all_goals simp_all [Kept, ite_factory, ite_pending, ite_otp]

@[simp] theorem State.rebuildUnit_kept (s : State) (lt r : Nat) :
    Kept s (s.rebuildUnit lt r) := by
  unfold State.rebuildUnit
  try dsimp only
  repeat' split
  all_goals simp_all [Kept, ite_factory, ite_pending, ite_otp]

@[simp] theorem State.unitWrite_kept (s : State) (lt r off plot : Nat) (data : List Byte) :
    Kept s (s.unitWrite lt r off plot data) := by
  unfold State.unitWrite
  try dsimp only
  repeat' split
  all_goals simp_all [Kept, ite_factory, ite_pending, ite_otp]

@[simp] theorem State.applyDelta_kept (s : State) (w : CWrite) :
    Kept s (s.applyDelta w) := by
  unfold State.applyDelta
  try dsimp only
  repeat' split
  all_goals simp_all [Kept, ite_factory, ite_pending, ite_otp]

@[simp] theorem State.deltaNow_kept (s : State) (w : CWrite) :
    Kept s (s.deltaNow w) := by
  have h := State.applyDelta_kept s w
  unfold State.deltaNow
  try dsimp only
  all_goals simp_all [Kept, ite_factory, ite_pending, ite_otp]

@[simp] theorem State.settleRow_kept (s : State) (lt r : Nat) :
    Kept s (s.settleRow lt r) := by
  unfold State.settleRow
  try dsimp only
  all_goals simp_all [Kept, ite_factory, ite_pending, ite_otp]

@[simp] theorem State.settledWrite_kept (s : State) (a plot : Nat) (data : List Byte) :
    Kept s (s.settledWrite a plot data) := by
  unfold State.settledWrite
  try dsimp only
  repeat' split
  all_goals simp_all [Kept, ite_factory, ite_pending, ite_otp]

@[simp] theorem State.longWrite_kept (s : State) (a plot : Nat) (x0 : Nat) (x1 : List Byte) :
    Kept s (s.longWrite a plot x0 x1) := by
  induction x0 generalizing s a x1 with
  | zero => exact ⟨rfl, rfl, rfl⟩
  | succ n ih =>
    unfold State.longWrite
    split
    · exact ⟨rfl, rfl, rfl⟩
    · simp_all [Kept]

/-! ### PlotOps -/

@[simp] theorem State.emitResult_kept (s : State) (n : Nat) (x : Port) (index : Nat) (d : List Nat) :
    Kept s (s.emitResult n x index d) := by
  unfold State.emitResult
  try dsimp only
  repeat' split
  all_goals simp_all [Kept, ite_factory, ite_pending, ite_otp]

@[simp] theorem State.ringWrite_kept (s : State) (n : Nat) (r : Result) :
    Kept s (s.ringWrite n r) := by
  unfold State.ringWrite
  try dsimp only
  repeat' split
  all_goals simp_all [Kept, ite_factory, ite_pending, ite_otp]

@[simp] theorem State.ringIrq_kept (s : State) (n : Nat) :
    Kept s (s.ringIrq n) := by
  unfold State.ringIrq
  try dsimp only
  repeat' split
  all_goals simp_all [Kept, ite_factory, ite_pending, ite_otp]

@[simp] theorem State.postOne_kept (s : State) (n : Nat) (r : Result) :
    Kept s (s.postOne n r) := by
  unfold State.postOne
  try dsimp only
  repeat' split
  all_goals simp_all [Kept, ite_factory, ite_pending, ite_otp]

@[simp] theorem State.post_kept (s : State) (n : Nat) (rs : List Result) :
    Kept s (s.post n rs) := by
  unfold State.post
  try dsimp only
  repeat' split
  all_goals simp_all [Kept, ite_factory, ite_pending, ite_otp]

@[simp] theorem State.flushRing_kept (s : State) (n : Nat) (x0 : Nat) :
    Kept s (s.flushRing n x0) := by
  induction x0 generalizing s with
  | zero => exact ⟨rfl, rfl, rfl⟩
  | succ k ih =>
    unfold State.flushRing
    try dsimp only
    repeat' split
    all_goals simp_all [Kept]

@[simp] theorem State.flush_kept (s : State) (n : Nat) :
    Kept s (s.flush n) := by
  unfold State.flush
  try dsimp only
  repeat' split
  all_goals simp_all [Kept, ite_factory, ite_pending, ite_otp]

@[simp] theorem State.failoverEnd_kept (s : State) (x : Port) :
    Kept s (s.failoverEnd x) := by
  unfold State.failoverEnd
  try dsimp only
  repeat' split
  all_goals simp_all [Kept, ite_factory, ite_pending, ite_otp]

@[simp] theorem State.failoverEnds_kept (s : State) :
    Kept s (s.failoverEnds) := by
  unfold State.failoverEnds
  try dsimp only
  repeat' split
  all_goals simp_all [Kept, ite_factory, ite_pending, ite_otp]

@[simp] theorem State.noteBusy_kept (s : State) (p : Nat) :
    Kept s (s.noteBusy p) := by
  unfold State.noteBusy
  try dsimp only
  repeat' split
  all_goals simp_all [Kept, ite_factory, ite_pending, ite_otp]

@[simp] theorem State.wakeP4_kept (s : State) :
    Kept s (s.wakeP4) := by
  unfold State.wakeP4
  try dsimp only
  repeat' split
  all_goals simp_all [Kept, ite_factory, ite_pending, ite_otp]

@[simp] theorem State.trigger_kept (s : State) (p : Nat) :
    Kept s (s.trigger p) := by
  unfold State.trigger
  try dsimp only
  repeat' split
  all_goals simp_all [Kept, ite_factory, ite_pending, ite_otp]

@[simp] theorem State.updPool_kept (s : State) (p m : Nat) (f : PoolSt → PoolSt) :
    Kept s (s.updPool p m f) := by
  unfold State.updPool
  try dsimp only
  repeat' split
  all_goals simp_all [Kept, ite_factory, ite_pending, ite_otp]

@[simp] theorem State.returnFrame_kept (s : State) (p m frame : Nat) :
    Kept s (s.returnFrame p m frame) := by
  unfold State.returnFrame
  try dsimp only
  repeat' split
  all_goals simp_all [Kept, ite_factory, ite_pending, ite_otp]

@[simp] theorem State.releaseRemote_kept (s : State) (p m slot : Nat) :
    Kept s (s.releaseRemote p m slot) := by
  unfold State.releaseRemote
  try dsimp only
  repeat' split
  all_goals simp_all [Kept, ite_factory, ite_pending, ite_otp]

theorem State.allocFrame_kept (s : State) (p m j : Nat) (r : Nat × State) (h : s.allocFrame p m j = some r) : Kept s r.2 := by
  unfold State.allocFrame at h
  repeat' split at h
  all_goals simp_all [Kept]
  all_goals (subst h; simp)

theorem State.giveBlock_kept (s : State) (i : Nat) (f : Nat → Ob → Ob) (t : State) (h : s.giveBlock i f = some t) : Kept s t := by
  unfold State.giveBlock at h
  simp only [Option.bind_eq_some_iff, Option.map_eq_some_iff] at h
  obtain ⟨x, -, b, -, rfl⟩ := h
  simp [Kept]

theorem State.holdPage_kept (s : State) (i : Nat) (d : Bool) (j : Nat) (t : State) (h : s.holdPage i d j = some t) : Kept s t := by
  have hf : ∀ (xs : List Nat) (a : Option State), (∀ u, a = some u → Kept s u) →
      xs.foldl (fun t _ => t.bind (fun s => s.giveBlock i (Ob.addBlock d))) a = some t → Kept s t := by
    intro xs
    induction xs with
    | nil => intro a ha h; exact ha t h
    | cons x xs ih =>
      intro a ha h
      refine ih _ (fun u hu => ?_) h
      obtain ⟨v, hv, hu⟩ := Option.bind_eq_some_iff.1 hu
      exact (ha v hv).trans (State.giveBlock_kept _ _ _ _ hu)
  unfold State.holdPage at h
  dsimp only at h
  split at h
  · obtain rfl := Option.some.inj h
    exact Kept.rfl'
  · refine hf _ _ (fun u hu => ?_) h
    split at hu
    · exact State.giveBlock_kept _ _ _ _ hu
    · obtain rfl := Option.some.inj hu
      exact Kept.rfl'

@[simp] theorem State.releasePage_kept (s : State) (i : Nat) (d : Bool) (j : Nat) :
    Kept s (s.releasePage i d j) := by
  unfold State.releasePage
  try dsimp only
  repeat' split
  all_goals simp_all [Kept, ite_factory, ite_pending, ite_otp]

@[simp] theorem State.releasePages_kept (s : State) (i : Nat) :
    Kept s (s.releasePages i) := by
  unfold State.releasePages
  try dsimp only
  repeat' split
  all_goals simp_all [Kept, ite_factory, ite_pending, ite_otp]

@[simp] theorem State.transferEnd_kept (s : State) (i : Nat) (d : Bool) (j : Nat) :
    Kept s (s.transferEnd i d j) := by
  unfold State.transferEnd
  try dsimp only
  repeat' split
  all_goals simp_all [Kept, ite_factory, ite_pending, ite_otp]

@[simp] theorem State.maybeFree_kept (s : State) (i : Nat) :
    Kept s (s.maybeFree i) := by
  unfold State.maybeFree
  try dsimp only
  repeat' split
  all_goals simp_all [Kept, ite_factory, ite_pending, ite_otp]

@[simp] theorem State.dropSamples_kept (s : State) (id p : Nat) :
    Kept s (s.dropSamples id p) := by
  unfold State.dropSamples
  try dsimp only
  repeat' split
  all_goals simp_all [Kept, ite_factory, ite_pending, ite_otp]

@[simp] theorem State.cancelSamples_kept (s : State) (i : Nat) :
    Kept s (s.cancelSamples i) := by
  unfold State.cancelSamples
  try dsimp only
  repeat' split
  all_goals simp_all [Kept, ite_factory, ite_pending, ite_otp]

@[simp] theorem State.endCore_kept (s : State) (i : Nat) (st : ReqState) (final : Status) :
    Kept s (s.endCore i st final) := by
  unfold State.endCore
  try dsimp only
  repeat' split
  all_goals simp_all [Kept, ite_factory, ite_pending, ite_otp]

@[simp] theorem State.endRequest_kept (s : State) (i : Nat) (st : ReqState) (final : Status) (tag : Nat) /-TODO ReqState-/ :
    Kept s (s.endRequest i st final tag) := by
  unfold State.endRequest
  try dsimp only
  repeat' split
  all_goals simp_all [Kept, ite_factory, ite_pending, ite_otp]

@[simp] theorem State.settleCore_kept (s : State) (i : Nat) :
    Kept s (s.settleCore i).1 := by
  unfold State.settleCore
  try dsimp only
  repeat' split
  all_goals simp_all [Kept, ite_factory, ite_pending, ite_otp]

@[simp] theorem State.postAll_kept (s : State) (es : List (Nat × Result)) :
    Kept s (s.postAll es) := by
  unfold State.postAll
  try dsimp only
  repeat' split
  all_goals simp_all [Kept, ite_factory, ite_pending, ite_otp]

@[simp] theorem State.settle_kept (s : State) (i : Nat) :
    Kept s (s.settle i) := by
  unfold State.settle
  try dsimp only
  repeat' split
  all_goals simp_all [Kept, ite_factory, ite_pending, ite_otp]

@[simp] theorem State.drainCore_kept (s : State) (i : Nat) :
    Kept s (s.drainCore i) := by
  unfold State.drainCore
  try dsimp only
  repeat' split
  all_goals simp_all [Kept, ite_factory, ite_pending, ite_otp]

@[simp] theorem State.startDrain_kept (s : State) (i : Nat) :
    Kept s (s.startDrain i) := by
  unfold State.startDrain
  try dsimp only
  repeat' split
  all_goals simp_all [Kept, ite_factory, ite_pending, ite_otp]

@[simp] theorem State.newTag_kept (s : State) (p : Nat) :
    Kept s (s.newTag p).2 := by
  unfold State.newTag
  try dsimp only
  repeat' split
  all_goals simp_all [Kept, ite_factory, ite_pending, ite_otp]

@[simp] theorem State.pickStep_kept (s : State) (n : Nat) :
    Kept s (s.pickStep n) := by
  unfold State.pickStep
  try dsimp only
  repeat' split
  all_goals simp_all [Kept, ite_factory, ite_pending, ite_otp]

@[simp] theorem State.discard_kept (s : State) (id : Nat) :
    Kept s (s.discard id) := by
  unfold State.discard
  try dsimp only
  repeat' split
  all_goals simp_all [Kept, ite_factory, ite_pending, ite_otp]

@[simp] theorem State.discardAll_kept (s : State) (p : Nat) :
    Kept s (s.discardAll p) := by
  unfold State.discardAll
  try dsimp only
  repeat' split
  all_goals simp_all [Kept, ite_factory, ite_pending, ite_otp]

@[simp] theorem State.dropStep_kept (s : State) (id : Nat) :
    Kept s (s.dropStep id) := by
  unfold State.dropStep
  try dsimp only
  repeat' split
  all_goals simp_all [Kept, ite_factory, ite_pending, ite_otp]

@[simp] theorem State.cutStep_kept (s : State) (id : Nat) :
    Kept s (s.cutStep id) := by
  unfold State.cutStep
  try dsimp only
  repeat' split
  all_goals simp_all [Kept, ite_factory, ite_pending, ite_otp]

@[simp] theorem State.faultPlot_kept (s : State) (p : Nat) (poisonedFor : Nat → Bool) :
    Kept s (s.faultPlot p poisonedFor) := by
  unfold State.faultPlot
  try dsimp only
  repeat' split
  all_goals simp_all [Kept, ite_factory, ite_pending, ite_otp]

@[simp] theorem State.addrFault_kept (s : State) (p n : Nat) :
    Kept s (s.addrFault p n) := by
  unfold State.addrFault
  try dsimp only
  repeat' split
  all_goals simp_all [Kept, ite_factory, ite_pending, ite_otp]

/-! ### BenchOps -/

@[simp] theorem State.partFault_kept (s : State) (p : Nat) :
    Kept s (s.partFault p) := by
  unfold State.partFault
  try dsimp only
  repeat' split
  all_goals simp_all [Kept, ite_factory, ite_pending, ite_otp]

/-! ### FabricOps -/

@[simp] theorem State.updChan_kept (s : State) (k : Nat) (f : Chan → Chan) :
    Kept s (s.updChan k f) := by
  unfold State.updChan
  try dsimp only
  repeat' split
  all_goals simp_all [Kept, ite_factory, ite_pending, ite_otp]

@[simp] theorem State.takeChan_kept (s : State) (plot t e : Nat) :
    Kept s (s.takeChan plot t e).2 := by
  unfold State.takeChan
  try dsimp only
  repeat' split
  all_goals simp_all [Kept, ite_factory, ite_pending, ite_otp]

@[simp] theorem State.enqueue_kept (s : State) (t e : Nat) (m : Transit) :
    Kept s (s.enqueue t e m) := by
  have h := State.takeChan_kept s m.msg.plot.toNat t e
  unfold State.enqueue
  try dsimp only
  repeat' split
  all_goals simp_all [Kept, ite_factory, ite_pending, ite_otp]

@[simp] theorem State.retryChans_kept (s : State) :
    Kept s (s.retryChans) := by
  unfold State.retryChans
  try dsimp only
  repeat' split
  all_goals simp_all [Kept, ite_factory, ite_pending, ite_otp]

@[simp] theorem State.countFallback_kept (s : State) (m : Msg) :
    Kept s (s.countFallback m) := by
  unfold State.countFallback
  try dsimp only
  repeat' split
  all_goals simp_all [Kept, ite_factory, ite_pending, ite_otp]

@[simp] theorem State.release_kept (s : State) (m : Transit) :
    Kept s (s.release m) := by
  unfold State.release
  try dsimp only
  repeat' split
  all_goals simp_all [Kept, ite_factory, ite_pending, ite_otp]

@[simp] theorem State.deliver_kept (s : State) (m : Msg) :
    Kept s (s.deliver m) := by
  unfold State.deliver
  try dsimp only
  repeat' split
  all_goals simp_all [Kept, ite_factory, ite_pending, ite_otp]

@[simp] theorem State.dimension_kept (s : State) (t aim goal : Nat) (m : Transit) :
    Kept s (s.dimension t aim goal m) := by
  unfold State.dimension
  try dsimp only
  repeat' split
  all_goals simp_all [Kept, ite_factory, ite_pending, ite_otp]

@[simp] theorem State.placeTile_kept (s : State) (t goal : Nat) (m : Transit) :
    Kept s (s.placeTile t goal m) := by
  unfold State.placeTile
  try dsimp only
  repeat' split
  all_goals simp_all [Kept, ite_factory, ite_pending, ite_otp]

@[simp] theorem State.place_kept (s : State) (t : Nat) (m : Transit) :
    Kept s (s.place t m) := by
  unfold State.place
  try dsimp only
  repeat' split
  all_goals simp_all [Kept, ite_factory, ite_pending, ite_otp]

@[simp] theorem State.inject_kept (s : State) (m : Msg) :
    Kept s (s.inject m) := by
  unfold State.inject
  try dsimp only
  repeat' split
  all_goals simp_all [Kept, ite_factory, ite_pending, ite_otp]

@[simp] theorem State.takeMsg_kept (s : State) (e : Nat) (want : Msg → Bool) :
    Kept s (s.takeMsg e want) := by
  unfold State.takeMsg
  try dsimp only
  repeat' split
  all_goals simp_all [Kept, ite_factory, ite_pending, ite_otp]

@[simp] theorem State.sendDelta_kept (s : State) (w : CWrite) :
    Kept s (s.sendDelta w) := by
  unfold State.sendDelta
  try dsimp only
  repeat' split
  all_goals simp_all [Kept, ite_factory, ite_pending, ite_otp]

@[simp] theorem State.writeUnit_kept (s : State) (lt r off plot parcel : Nat) (data : List Byte) :
    Kept s (s.writeUnit lt r off plot parcel data) := by
  unfold State.writeUnit
  try dsimp only
  repeat' split
  all_goals simp_all [Kept, ite_factory, ite_pending, ite_otp]

@[simp] theorem State.redirect_kept (s : State) (old new : Nat) :
    Kept s (s.redirect old new) := by
  unfold State.redirect
  try dsimp only
  repeat' split
  all_goals simp_all [Kept, ite_factory, ite_pending, ite_otp]

@[simp] theorem State.unpark_kept (s : State) :
    Kept s s.unpark := by
  unfold State.unpark
  try dsimp only
  repeat' split
  all_goals simp_all [Kept, ite_factory, ite_pending, ite_otp]

@[simp] theorem State.rederive_kept (s : State) (p : Nat) (r : Route) :
    Kept s (s.rederive p r) := by
  unfold State.rederive
  try dsimp only
  refine Kept.trans (t := _) ?_ (Kept.foldlOn (g := fun a : State × List (Nat × Nat × Nat) × List Nat => a.1) (fun b x => ?_) _ _)
  · exact ⟨rfl, rfl, rfl⟩
  · have h := State.takeChan_kept b.1 p x.1 x.2
    try dsimp only
    split <;> simp_all [Kept]

@[simp] theorem State.rederiveAll_kept (s old : State) :
    Kept s (s.rederiveAll old) := by
  unfold State.rederiveAll
  try dsimp only
  refine Kept.foldl (fun s x => ?_) _ _
  repeat' split
  all_goals simp_all [Kept, ite_factory, ite_pending, ite_otp]

@[simp] theorem State.checkCycles_kept (s : State) (p : Nat) (rs : List Route) :
    Kept s (s.checkCycles p rs).1 := by
  unfold State.checkCycles
  try dsimp only
  repeat' split
  all_goals simp_all [Kept, ite_factory, ite_pending, ite_otp]

@[simp] theorem State.updFerry_kept (s : State) (x : Nat) (f : Ferry → Ferry) :
    Kept s (s.updFerry x f) := by
  unfold State.updFerry
  try dsimp only
  repeat' split
  all_goals simp_all [Kept, ite_factory, ite_pending, ite_otp]

@[simp] theorem State.enqueueFrame_kept (s : State) (x loom ticket attempt : Nat) (bs : List Byte) :
    Kept s (s.enqueueFrame x loom ticket attempt bs) := by
  unfold State.enqueueFrame
  try dsimp only
  repeat' split
  all_goals simp_all [Kept, ite_factory, ite_pending, ite_otp]

@[simp] theorem State.staleOut_kept (s : State) (x : Nat) (m : Msg) :
    Kept s (s.staleOut x m) := by
  unfold State.staleOut
  try dsimp only
  repeat' split
  all_goals simp_all [Kept, ite_factory, ite_pending, ite_otp]

/-! ### FaultOps -/

@[simp] theorem State.groupBits_kept (s : State) :
    Kept s (s.groupBits) := by
  unfold State.groupBits
  try dsimp only
  repeat' split
  all_goals simp_all [Kept, ite_factory, ite_pending, ite_otp]

@[simp] theorem State.noteLapse_kept (s : State) (x0 : Option Nat) :
    Kept s (s.noteLapse x0) := by
  unfold State.noteLapse
  try dsimp only
  repeat' split
  all_goals simp_all [Kept, ite_factory, ite_pending, ite_otp]

@[simp] theorem State.spillTile_kept (s : State) (t : Nat) :
    Kept s (s.spillTile t) := by
  unfold State.spillTile
  try dsimp only
  repeat' split
  all_goals simp_all [Kept, ite_factory, ite_pending, ite_otp]

@[simp] theorem State.freshLooms_kept (s : State) (lt : Nat) :
    Kept s (s.freshLooms lt) := by
  unfold State.freshLooms
  try dsimp only
  repeat' split
  all_goals simp_all [Kept, ite_factory, ite_pending, ite_otp]

@[simp] theorem State.losePages_kept (s : State) (p : Nat) :
    Kept s (s.losePages p) := by
  unfold State.losePages
  split
  · exact ⟨rfl, rfl, rfl⟩
  · refine Kept.foldl (fun s i => Kept.foldl (fun s e => ?_) _ _) _ _
    try dsimp only
    repeat' split
    all_goals simp_all [Kept, ite_factory, ite_pending, ite_otp]

@[simp] theorem State.loseBoth_kept (s : State) (lt m : Nat) :
    Kept s (s.loseBoth lt m) := by
  unfold State.loseBoth
  try dsimp only
  repeat' split
  all_goals simp_all [Kept, ite_factory, ite_pending, ite_otp]

@[simp] theorem State.reissueOne_kept (s : State) (w : CWrite) (data : List Byte) :
    Kept s (s.reissueOne w data) := by
  unfold State.reissueOne
  try dsimp only
  repeat' split
  all_goals simp_all [Kept, ite_factory, ite_pending, ite_otp]

@[simp] theorem State.reissue_kept (s : State) (ws : List (CWrite × List Byte)) :
    Kept s (s.reissue ws) := by
  unfold State.reissue
  try dsimp only
  repeat' split
  all_goals simp_all [Kept, ite_factory, ite_pending, ite_otp]

@[simp] theorem State.rebuildState_kept (s : State) :
    Kept s (s.rebuildState) := by
  unfold State.rebuildState
  try dsimp only
  repeat' split
  all_goals simp_all [Kept, ite_factory, ite_pending, ite_otp]

@[simp] theorem State.newCellar_kept (s : State) (lt : Nat) :
    Kept s (s.newCellar lt) := by
  unfold State.newCellar
  try dsimp only
  repeat' split
  all_goals simp_all [Kept, ite_factory, ite_pending, ite_otp]

@[simp] theorem State.beginRecovery_kept (s : State) :
    Kept s (s.beginRecovery) := by
  unfold State.beginRecovery
  try dsimp only
  repeat' split
  all_goals simp_all [Kept, ite_factory, ite_pending, ite_otp]

@[simp] theorem State.endRecovery_kept (s : State) :
    Kept s (s.endRecovery) := by
  unfold State.endRecovery
  try dsimp only
  repeat' split
  all_goals simp_all [Kept, ite_factory, ite_pending, ite_otp]

@[simp] theorem State.discardOn_kept (s : State) (t lt : Nat) :
    Kept s (s.discardOn t lt) := by
  unfold State.discardOn
  try dsimp only
  repeat' split
  all_goals simp_all [Kept, ite_factory, ite_pending, ite_otp]

@[simp] theorem State.promote_kept (s : State) (t lt r cause kind : Nat) (sound : Bool) :
    Kept s (s.promote t lt r cause kind sound) := by
  unfold State.promote
  extract_lets s1 s2 s3 ws s4 s5 s6 s7
  have h1 : Kept s s1 := (State.updSite_kept _ _ _).trans (State.updSite_kept _ _ _)
  have h2 : Kept s1 s2 := (State.newEpochs_kept _ _).trans (State.mapChanged_kept _)
  have h3 : Kept s2 s3 := (State.logDefect_kept _ _ _ _ _ _).trans (State.raise_kept _ _ _ _)
  have h4 : Kept s3 s4 := Kept.foldl (fun s m => State.loseBoth_kept s lt m) _ _
  have h5 : Kept s4 s5 := ((State.newCellar_kept _ _).trans (State.freshLooms_kept _ _)).trans (State.groupBits_kept _)
  have h6 : Kept s5 s6 := ((State.redirect_kept _ _ _).trans (State.spillTile_kept _ _)).trans (State.reissue_kept _ _)
  have h7 : Kept s6 s7 := (State.rederiveAll_kept _ _).trans (State.rebuildState_kept _)
  have h : Kept s s7 := h1.trans (h2.trans (h3.trans (h4.trans (h5.trans (h6.trans h7)))))
  split
  · exact h.trans (State.raise_kept _ _ _ _)
  · exact h

@[simp] theorem State.orphan_kept (s : State) (t lt cause kind : Nat) (sound : Bool) :
    Kept s (s.orphan t lt cause kind sound) := by
  unfold State.orphan
  extract_lets s1 s2 s3 s4 s5 c6 s6 s7 s8
  have h1 : Kept s s1 := State.updSite_kept _ _ _
  have h2 : Kept s1 s2 := (State.newEpochs_kept _ _).trans (State.mapChanged_kept _)
  have h3 : Kept s2 s3 := (State.logDefect_kept _ _ _ _ _ _).trans (State.raise_kept _ _ _ _)
  have h4 : Kept s3 s4 := Kept.foldl (fun s m => State.loseBoth_kept s lt m) _ _
  have h5 : Kept s4 s5 := Kept.foldl (fun s p => State.faultPlot_kept s p _) _ _
  have h6 : Kept s5 s6 := ⟨rfl, rfl, rfl⟩
  have h7 : Kept s6 s7 := ((State.freshLooms_kept _ _).trans (State.groupBits_kept _)).trans (State.raise_kept _ _ _ _)
  have h8 : Kept s7 s8 := (State.spillTile_kept _ _).trans (State.rederiveAll_kept _ _)
  exact h1.trans (h2.trans (h3.trans (h4.trans (h5.trans (h6.trans (h7.trans (h8.trans
    ((State.rebuildState_kept _).trans (State.endRecovery_kept _)))))))))

@[simp] theorem State.endHold_kept (s : State) (t : Nat) :
    Kept s (s.endHold t) := by
  unfold State.endHold
  try dsimp only
  repeat' split
  all_goals simp_all [Kept, ite_factory, ite_pending, ite_otp]

@[simp] theorem State.failIdle_kept (s : State) (t kind cause : Nat) (sound : Bool) :
    Kept s (s.failIdle t kind cause sound) := by
  unfold State.failIdle
  exact ((((State.updSite_kept _ _ _).trans (State.mapChanged_kept _)).trans (State.logDefect_kept _ _ _ _ _ _)).trans
    (State.raise_kept _ _ _ _)).trans (State.rederiveAll_kept _ _)

@[simp] theorem State.failNow_kept (s : State) (t : Nat) (cause : TileCause) (sound : Bool) :
    Kept s (s.failNow t cause sound) := by
  unfold State.failNow
  try dsimp only
  repeat' split
  all_goals simp_all [Kept, ite_factory, ite_pending, ite_otp]

@[simp] theorem State.failTile_kept (s : State) (t : Nat) (cause : TileCause) (sound : Bool) :
    Kept s (s.failTile t cause sound) := by
  unfold State.failTile
  try dsimp only
  repeat' split
  all_goals simp_all [Kept, ite_factory, ite_pending, ite_otp]

@[simp] theorem State.failWaiting_kept (s : State) :
    Kept s (s.failWaiting) := by
  unfold State.failWaiting
  try dsimp only
  repeat' split
  all_goals simp_all [Kept, ite_factory, ite_pending, ite_otp]

@[simp] theorem State.useSpare_kept (s : State) (x : Slot) (n event : Nat) :
    Kept s (s.useSpare x n event) := by
  unfold State.useSpare
  try dsimp only
  repeat' split
  all_goals simp_all [Kept, ite_factory, ite_pending, ite_otp]

@[simp] theorem State.failSlot_kept (s : State) (x : Slot) (event : Nat) :
    Kept s (s.failSlot x event) := by
  unfold State.failSlot
  try dsimp only
  repeat' split
  all_goals simp_all [Kept, ite_factory, ite_pending, ite_otp]

@[simp] theorem State.startShutdown_kept (s : State) (cause : Nat) :
    Kept s (s.startShutdown cause) := by
  unfold State.startShutdown
  try dsimp only
  repeat' split
  all_goals simp_all [Kept, ite_factory, ite_pending, ite_otp]

/-! ### Timing -/

@[simp] theorem State.noteHeadroom_kept (s : State) (x : Slot) (old : Nat) :
    Kept s (s.noteHeadroom x old) := by
  unfold State.noteHeadroom
  try dsimp only
  repeat' split
  all_goals simp_all [Kept, ite_factory, ite_pending, ite_otp]

@[simp] theorem State.raiseTap_kept (s : State) (x : Slot) (d : Nat) :
    Kept s (s.raiseTap x d) := by
  unfold State.raiseTap
  try dsimp only
  repeat' split
  all_goals simp_all [Kept, ite_factory, ite_pending, ite_otp]

@[simp] theorem State.canaryDead_kept (s : State) (x : Slot) :
    Kept s (s.canaryDead x) := by
  unfold State.canaryDead
  try dsimp only
  repeat' split
  all_goals simp_all [Kept, ite_factory, ite_pending, ite_otp]

@[simp] theorem State.canaryFail_kept (s : State) (x : Slot) (d : Nat) :
    Kept s (s.canaryFail x d) := by
  unfold State.canaryFail
  try dsimp only
  repeat' split
  all_goals simp_all [Kept, ite_factory, ite_pending, ite_otp]

@[simp] theorem State.passNs_kept (s : State) :
    Kept s (s.passNs) := by
  unfold State.passNs
  try dsimp only
  repeat' split
  all_goals simp_all [Kept, ite_factory, ite_pending, ite_otp]

@[simp] theorem State.countTick_kept (s : State) (instant : Option Nat) (corr : Int) :
    Kept s (s.countTick instant corr) := by
  unfold State.countTick
  try dsimp only
  repeat' split
  all_goals simp_all [Kept, ite_factory, ite_pending, ite_otp]

/-! ### Fabric -/

@[simp] theorem State.sendTransfer_kept (s : State) (k u : Nat) (m : Transit) (left : Nat) :
    Kept s (s.sendTransfer k u m left) := by
  unfold State.sendTransfer
  try dsimp only
  repeat' split
  all_goals simp_all [Kept, ite_factory, ite_pending, ite_otp]

@[simp] theorem State.passOn_kept (s : State) (n : Nat) (m : Msg) :
    Kept s (s.passOn n m) := by
  unfold State.passOn
  try dsimp only
  repeat' split
  all_goals simp_all [Kept, ite_factory, ite_pending, ite_otp]

@[simp] theorem State.land_kept (s : State) (n stream : Nat) (w : Window) (m : Msg) :
    Kept s (s.land n stream w m) := by
  unfold State.land
  try dsimp only
  repeat' split
  all_goals simp_all [Kept, ite_factory, ite_pending, ite_otp]

@[simp] theorem State.accept_kept (s : State) (e : Nat) (m : Msg) :
    Kept s (s.accept e m) := by
  unfold State.accept
  try dsimp only
  repeat' split
  all_goals simp_all [Kept, ite_factory, ite_pending, ite_otp]

@[simp] theorem State.countStale_kept (s : State) (sender : Nat) :
    Kept s (s.countStale sender) := by
  unfold State.countStale
  try dsimp only
  repeat' split
  all_goals simp_all [Kept, ite_factory, ite_pending, ite_otp]

@[simp] theorem State.reissueStale_kept (s : State) :
    Kept s (s.reissueStale) := by
  unfold State.reissueStale
  try dsimp only
  repeat' split
  all_goals simp_all [Kept, ite_factory, ite_pending, ite_otp]

@[simp] theorem State.rewriteStale_kept (s : State) (ls : List Nat) :
    Kept s (s.rewriteStale ls) := by
  unfold State.rewriteStale
  try dsimp only
  repeat' split
  all_goals simp_all [Kept, ite_factory, ite_pending, ite_otp]

/-! ### Sequencer -/

theorem State.seq_kept (s : State) (l : Loom) (op : Nat) (act : Nat → Nat → State → State)
    (hact : ∀ p id s, Kept s (act p id s)) : Kept s (s.seq l op act) := by
  unfold State.seq
  try dsimp only
  repeat' split
  all_goals first | exact hact _ _ _ | simp [Kept]

@[simp] theorem State.advance_kept (s : State) (n : Nat) :
    Kept s (s.advance n) := by
  unfold State.advance
  try dsimp only
  repeat' split
  all_goals simp_all [Kept, ite_factory, ite_pending, ite_otp]

@[simp] theorem State.advanceWith_kept (s : State) (n : Nat) (f : LoomSt → LoomSt) :
    Kept s (s.advanceWith n f) := by
  unfold State.advanceWith
  try dsimp only
  repeat' split
  all_goals simp_all [Kept, ite_factory, ite_pending, ite_otp]

@[simp] theorem State.interlock_kept (s : State) (p n k by_ : Nat) :
    Kept s (s.interlock p n k by_) := by
  unfold State.interlock
  try dsimp only
  repeat' split
  all_goals simp_all [Kept, ite_factory, ite_pending, ite_otp]

@[simp] theorem State.stallFor_kept (s : State) (p n : Nat) (why : Stall) (count : Option Nat) :
    Kept s (s.stallFor p n why count) := by
  unfold State.stallFor
  try dsimp only
  repeat' split
  all_goals simp_all [Kept, ite_factory, ite_pending, ite_otp]

@[simp] theorem State.benchParity_kept (s : State) (l : Loom) (p id : Nat) :
    Kept s (s.benchParity l p id) := by
  unfold State.benchParity
  try dsimp only
  repeat' split
  all_goals simp_all [Kept, ite_factory, ite_pending, ite_otp]

@[simp] theorem State.upsets_kept (s : State) (n : Nat) (ws : List BenchWord) :
    Kept s (s.upsets n ws) := by
  unfold State.upsets
  try dsimp only
  repeat' split
  all_goals simp_all [Kept, ite_factory, ite_pending, ite_otp]

@[simp] theorem State.benchGate_kept (s : State) (l : Loom) (p id : Nat) (ranges : List (Nat × Nat)) (act : State → State)
    (hact : ∀ s, Kept s (act s)) : Kept s (s.benchGate l p id ranges act) := by
  unfold State.benchGate
  try dsimp only
  repeat' split
  all_goals simp_all [Kept, ite_factory, ite_pending, ite_otp]

@[simp] theorem State.badFormat_kept (s : State) (p : Nat) :
    Kept s (s.badFormat p) := by
  unfold State.badFormat
  try dsimp only
  repeat' split
  all_goals simp_all [Kept, ite_factory, ite_pending, ite_otp]

/-! ### Array -/

@[simp] theorem State.count9210_kept (s : State) (sub n : Nat) :
    Kept s (s.count9210 sub n) := by
  unfold State.count9210
  try dsimp only
  repeat' split
  all_goals simp_all [Kept, ite_factory, ite_pending, ite_otp]

@[simp] theorem State.countFormat_kept (s : State) (fmt : Nat) (cs ws : List Nat) :
    Kept s (s.countFormat fmt cs ws) := by
  unfold State.countFormat
  try dsimp only
  repeat' split
  all_goals simp_all [Kept, ite_factory, ite_pending, ite_otp]

@[simp] theorem State.offer_kept (s : State) (x : Sample) :
    Kept s (s.offer x) := by
  unfold State.offer
  try dsimp only
  repeat' split
  all_goals simp_all [Kept, ite_factory, ite_pending, ite_otp]

@[simp] theorem State.ageSamples_kept (s : State) (n : Nat) :
    Kept s (s.ageSamples n) := by
  unfold State.ageSamples
  try dsimp only
  repeat' split
  all_goals simp_all [Kept, ite_factory, ite_pending, ite_otp]

@[simp] theorem State.witness_kept (s : State) (l : Loom) (p id ip : Nat) (w : Weights) (a : Narrow) (accs : List Acc) :
    Kept s (s.witness l p id ip w a accs) := by
  unfold State.witness
  try dsimp only
  repeat' split
  all_goals simp_all [Kept, ite_factory, ite_pending, ite_otp]

/-! ### Full -/

@[simp] theorem State.sendAppend_kept (s : State) (p n : Nat) (l : LoomSt) (op : FullOp) :
    Kept s (s.sendAppend p n l op) := by
  cases op <;> first | exact Kept.rfl' | skip
  unfold State.sendAppend
  try dsimp only
  repeat' split
  all_goals simp_all [Kept, ite_factory, ite_pending, ite_otp]

@[simp] theorem State.updFresh_kept (s : State) (n id : Nat) (f : Sample → Sample) :
    Kept s (s.updFresh n id f) := by
  unfold State.updFresh
  try dsimp only
  repeat' split
  all_goals simp_all [Kept, ite_factory, ite_pending, ite_otp]

@[simp] theorem State.copyFull_kept (s : State) (id n : Nat) (l : LoomSt) (wrong : List (Nat × U32)) (op : FullOp) :
    Kept s (s.copyFull id n l wrong op) := by
  cases op <;> exact Kept.rfl'

/-! ### Queues -/

@[simp] theorem State.sendPieces_kept (s : State) (p n q t attempt : Nat) (r : QReq) (data : List Byte) :
    Kept s (s.sendPieces p n q t attempt r data) := by
  unfold State.sendPieces
  refine Kept.foldlOn (g := fun a : State × List Byte => a.1) (fun a x => ?_) _ _
  dsimp only
  split
  · exact Kept.rfl'
  · exact State.inject_kept _ _

@[simp] theorem State.issueTo_kept (s : State) (p : Nat) (l : Loom) (q : Nat) (r : QReq) :
    Kept s (s.issueTo p l q r) := by
  unfold State.issueTo
  try dsimp only
  repeat' split
  all_goals simp_all [Kept, ite_factory, ite_pending, ite_otp]

@[simp] theorem State.badWait_kept (s : State) (p n : Nat) :
    Kept s (s.badWait p n) := by
  unfold State.badWait
  try dsimp only
  repeat' split
  all_goals simp_all [Kept, ite_factory, ite_pending, ite_otp]

@[simp] theorem State.linkDiscard_kept (s : State) (p id : Nat) :
    Kept s (s.linkDiscard p id) := by
  unfold State.linkDiscard
  try dsimp only
  repeat' split
  all_goals simp_all [Kept, ite_factory, ite_pending, ite_otp]

/-! ### Assayer -/

@[simp] theorem State.checked_kept (s : State) (x : Sample) (f : Sample → Sample) :
    Kept s (s.checked x f) := by
  unfold State.checked
  try dsimp only
  repeat' split
  all_goals simp_all [Kept, ite_factory, ite_pending, ite_otp]

@[simp] theorem State.newResidual_kept (s : State) (p layer lim : Nat) (win : List (Nat × Nat × Nat × Bool)) :
    Kept s (s.newResidual p layer lim win) := by
  unfold State.newResidual
  try dsimp only
  repeat' split
  all_goals simp_all [Kept, ite_factory, ite_pending, ite_otp]

/-! ### Cellar -/

@[simp] theorem State.answerRead_kept (s : State) (tag : Nat) (st : Status) (data : List Byte) :
    Kept s (s.answerRead tag st data) := by
  unfold State.answerRead
  try dsimp only
  repeat' split
  all_goals simp_all [Kept, ite_factory, ite_pending, ite_otp]

@[simp] theorem State.cellarFault_kept (s : State) (tag : Nat) (src : Option Nat) :
    Kept s (s.cellarFault tag src) := by
  unfold State.cellarFault
  try dsimp only
  repeat' split
  all_goals simp_all [Kept, ite_factory, ite_pending, ite_otp]

@[simp] theorem State.poisonedRead_kept (s : State) (tag lt r : Nat) :
    Kept s (s.poisonedRead tag lt r) := by
  unfold State.poisonedRead
  try dsimp only
  repeat' split
  all_goals simp_all [Kept, ite_factory, ite_pending, ite_otp]

@[simp] theorem State.returnRead_kept (s : State) (tag a n : Nat) (data : List Byte) :
    Kept s (s.returnRead tag a n data) := by
  unfold State.returnRead
  try dsimp only
  repeat' split
  all_goals simp_all [Kept, ite_factory, ite_pending, ite_otp]

@[simp] theorem State.goodRead_kept (s : State) (tag a n : Nat) :
    Kept s (s.goodRead tag a n) := by
  unfold State.goodRead
  try dsimp only
  repeat' split
  all_goals simp_all [Kept, ite_factory, ite_pending, ite_otp]

@[simp] theorem State.parcelWritten_kept (s : State) (p n : Nat) :
    Kept s (s.parcelWritten p n) := by
  unfold State.parcelWritten
  try dsimp only
  repeat' split
  all_goals simp_all [Kept, ite_factory, ite_pending, ite_otp]

@[simp] theorem State.writeDone_kept (s : State) (w : CWrite) :
    Kept s (s.writeDone w) := by
  unfold State.writeDone
  try dsimp only
  repeat' split
  all_goals simp_all [Kept, ite_factory, ite_pending, ite_otp]

@[simp] theorem State.splitWrite_kept (s : State) (a plot : Nat) (data : List Byte) :
    Kept s (s.splitWrite a plot data) := by
  unfold State.splitWrite
  try dsimp only
  repeat' split
  all_goals simp_all [Kept, ite_factory, ite_pending, ite_otp]

@[simp] theorem State.noteAppend_kept (s : State) (id : Nat) (x : Append) :
    Kept s (s.noteAppend id x) := by
  unfold State.noteAppend
  try dsimp only
  repeat' split
  all_goals simp_all [Kept, ite_factory, ite_pending, ite_otp]

@[simp] theorem State.scrubNext_kept (s : State) (t c : Nat) (e : EccFound) :
    Kept s (s.scrubNext t c e) := by
  unfold State.scrubNext
  try dsimp only
  repeat' split
  all_goals simp_all [Kept, ite_factory, ite_pending, ite_otp]

@[simp] theorem State.restoreRow_kept (s : State) (lt r : Nat) :
    Kept s (s.restoreRow lt r) := by
  unfold State.restoreRow
  try dsimp only
  repeat' split
  · exact Kept.rfl'
  · exact Kept.rfl'
  · exact State.poisonUnit_kept s lt r
  · exact Kept.trans (State.cstore_kept s _ _) (Kept.trans (State.cstore_kept _ _ _) (State.applyDelta_kept _ _))
  · exact State.cstore_kept s _ _

@[simp] theorem State.clearErased_kept (s : State) (lt r : Nat) :
    Kept s (s.clearErased lt r) := by
  unfold State.clearErased
  try dsimp only
  repeat' split
  all_goals simp_all [Kept, ite_factory, ite_pending, ite_otp]

@[simp] theorem State.rebuildComplete_kept (s : State) (lt : Nat) (u : Unbuilt) :
    Kept s (s.rebuildComplete lt u) := by
  unfold State.rebuildComplete
  try dsimp only
  repeat' split
  all_goals simp_all [Kept, ite_factory, ite_pending, ite_otp]

/-! ### Pantry -/

@[simp] theorem State.putFrame_kept (s : State) (p : Nat) (im : Image) (x : Pool) (f : Nat) (data : List Byte) :
    Kept s (s.putFrame p im x f data) := by
  unfold State.putFrame
  refine Kept.foldl (fun s x => ?_) _ _
  try dsimp only
  repeat' split
  all_goals simp_all [Kept, ite_factory, ite_pending, ite_otp]

@[simp] theorem State.movedPage_kept (s : State) (i : Nat) (d : Bool) (j : Nat) :
    Kept s (s.movedPage i d j) := by
  unfold State.movedPage
  try dsimp only
  repeat' split
  all_goals simp_all [Kept, ite_factory, ite_pending, ite_otp]

@[simp] theorem State.lostTransferEnd_kept (s : State) (i : Nat) (d : Bool) (j : Nat) :
    Kept s (s.lostTransferEnd i d j) := by
  unfold State.lostTransferEnd
  try dsimp only
  repeat' split
  all_goals simp_all [Kept, ite_factory, ite_pending, ite_otp]

@[simp] theorem State.fillFails_kept (s : State) (p request : Nat) (draft : Bool) (page : Nat) (why : Status) :
    Kept s (s.fillFails p request draft page why) := by
  unfold State.fillFails
  try dsimp only
  repeat' split
  all_goals simp_all [Kept, ite_factory, ite_pending, ite_otp]

/-! ### Images -/

@[simp] theorem State.cancelAll_kept (s : State) (p : Nat) :
    Kept s (s.cancelAll p) := by
  unfold State.cancelAll
  try dsimp only
  repeat' split
  all_goals simp_all [Kept, ite_factory, ite_pending, ite_otp]

@[simp] theorem State.releaseExtents_kept (s : State) (p : Nat) :
    Kept s (s.releaseExtents p) := by
  unfold State.releaseExtents
  try dsimp only
  repeat' split
  all_goals simp_all [Kept, ite_factory, ite_pending, ite_otp]

@[simp] theorem State.releaseRoutes_kept (s : State) (p : Nat) :
    Kept s (s.releaseRoutes p) := by
  unfold State.releaseRoutes
  try dsimp only
  repeat' split
  all_goals simp_all [Kept, ite_factory, ite_pending, ite_otp]

@[simp] theorem State.clearLooms_kept (s : State) (p : Nat) :
    Kept s (s.clearLooms p) := by
  unfold State.clearLooms
  try dsimp only
  repeat' split
  all_goals simp_all [Kept, ite_factory, ite_pending, ite_otp]

@[simp] theorem State.unloadImage_kept (s : State) (p : Nat) :
    Kept s (s.unloadImage p) := by
  unfold State.unloadImage
  try dsimp only
  repeat' split
  all_goals simp_all [Kept, ite_factory, ite_pending, ite_otp]

@[simp] theorem State.failLoad_kept (s : State) (p : Nat) :
    Kept s (s.failLoad p) := by
  unfold State.failLoad
  try dsimp only
  repeat' split
  all_goals simp_all [Kept, ite_factory, ite_pending, ite_otp]

@[simp] theorem State.takePlan_kept (s : State) (p : Nat) (im : Image) :
    Kept s (s.takePlan p im) := by
  unfold State.takePlan
  try dsimp only
  repeat' split
  all_goals simp_all [Kept, ite_factory, ite_pending, ite_otp]

@[simp] theorem State.checkLoad_kept (s : State) (p : Nat) (im : Image) (gen : Nat) (x : Port) :
    Kept s (s.checkLoad p im gen x).1 := by
  unfold State.checkLoad
  try dsimp only
  repeat' split
  all_goals simp_all [Kept, ite_factory, ite_pending, ite_otp]

@[simp] theorem State.takeEngine_kept (s : State) (p use : Nat) (xs : List Nat) :
    Kept s (s.takeEngine p use xs) := by
  unfold State.takeEngine
  try dsimp only
  repeat' split
  all_goals simp_all [Kept, ite_factory, ite_pending, ite_otp]

@[simp] theorem State.takeSave_kept (s : State) (p : Nat) (im : Image) :
    Kept s (s.takeSave p im) := by
  unfold State.takeSave
  repeat' split
  · exact Kept.rfl'
  · exact (Kept.foldl (fun s t => State.takeEngine_kept s p 6 _) _ _).trans (State.updPlot_kept _ _ _)
  · exact Kept.rfl'

@[simp] theorem State.ringTake_kept (s : State) (p : Nat) (im : Image) (e : ManifestEntry) :
    Kept s (s.ringTake p im e) := by
  unfold State.ringTake
  try dsimp only
  repeat' split
  all_goals simp_all [Kept, ite_factory, ite_pending, ite_otp]

@[simp] theorem State.ringFilled_kept (s : State) (p n : Nat) (range : Nat × Nat) :
    Kept s (s.ringFilled p n range) := by
  unfold State.ringFilled
  try dsimp only
  repeat' split
  all_goals simp_all [Kept, ite_factory, ite_pending, ite_otp]

@[simp] theorem State.sendParcel_kept (s : State) (p n port a : Nat) (bytes : List Byte) :
    Kept s (s.sendParcel p n port a bytes) := by
  unfold State.sendParcel
  try dsimp only
  repeat' split
  all_goals simp_all [Kept, ite_factory, ite_pending, ite_otp]

@[simp] theorem State.checkPieces_kept (s : State) (p n : Nat) (r : QReq) (e : EccFound) :
    Kept s (s.checkPieces p n r e) := by
  unfold State.checkPieces
  try dsimp only
  repeat' split
  all_goals simp_all [Kept, ite_factory, ite_pending, ite_otp]

@[simp] theorem State.takePieces_kept (s : State) (p n q t attempt : Nat) (r : QReq) :
    Kept s (s.takePieces p n q t attempt r).1 := by
  unfold State.takePieces
  refine Kept.foldlOn (g := fun a : State × List Byte => a.1) (fun a x => ?_) _ _
  split
  · exact Kept.rfl'
  · exact State.takeMsg_kept _ _ _

@[simp] theorem State.entryEffect_kept (s : State) (p n q : Nat) (e : QEntry) (st : Status) (data : List Byte) (ecc : EccFound)
    (stale : Bool) : Kept s (s.entryEffect p n q e st data ecc stale).1 := by
  unfold State.entryEffect
  try dsimp only
  repeat' split
  all_goals simp_all [Kept, ite_factory, ite_pending, ite_otp]

/-! ### Plots -/

@[simp] theorem State.toCool_kept (s : State) (i : Nat) :
    Kept s (s.toCool i) := by
  unfold State.toCool
  try dsimp only
  repeat' split
  all_goals simp_all [Kept, ite_factory, ite_pending, ite_otp]

theorem State.allocPages_kept (s : State) (p i m : Nat) (d : Bool) (hi : Nat) (t : State)
    (h : (s.allocPages p i m d hi).1 = some t) : Kept s t := by
  refine Kept.foldlOpt s (fun b x u hb hu => ?_) _ _ (fun u hu => ?_) t h
  · cases hb1 : b.1 with
    | none => rw [hb1] at hu; simp_all
    | some v =>
      have hv := hb v hb1
      rw [hb1] at hu
      dsimp only at hu
      split at hu
      · exact hb u hu
      · split at hu
        · rename_i s1 ha
          obtain ⟨w, hw, ha⟩ := Option.bind_eq_some_iff.1 ha
          have h0 := State.holdPage_kept _ _ _ _ _ hw
          have h1 := State.allocFrame_kept _ _ _ _ _ ha
          obtain rfl := Option.some.inj hu
          exact hv.trans (h0.trans (h1.trans (by simp [Kept])))
        · simp at hu
        · exact hb u hu
  · obtain rfl := Option.some.inj hu
    exact ⟨rfl, rfl, rfl⟩

theorem State.allocFor_kept (s : State) (p i : Nat) (o : Ob) (hi : Nat) (t : State) (h : (s.allocFor p i o hi).1 = some t) :
    Kept s t := by
  have ha : ∀ u, (match s.pool p o.mslot with
      | some _ => s.allocPages p i o.mslot false hi
      | none => (some s, 0)).1 = some u → Kept s u := by
    intro u hu
    split at hu
    · exact State.allocPages_kept _ _ _ _ _ _ _ hu
    · obtain rfl := Option.some.inj hu
      exact ⟨rfl, rfl, rfl⟩
  unfold State.allocFor at h
  dsimp only at h
  split at h
  · simp at h
  · rename_i h1 _
    obtain rfl := Option.some.inj h
    exact ha _ h1
  · rename_i s1 _ h1 _
    split at h
    · obtain rfl := Option.some.inj h
      exact ha _ h1
    · exact (ha _ h1).trans (State.allocPages_kept _ _ _ _ _ _ _ h)

@[simp] theorem State.consider_kept (p : Nat) (mdl : Model) (t : State × List StepReq × Nat × Nat) (c : Nat × Ob × Option Nat) :
    Kept t.1 (State.consider p mdl t c).1 := by
  unfold State.consider
  try dsimp only
  split
  · simp [Kept]
  · split
    · exact ⟨rfl, rfl, rfl⟩
    · split
      · simp [Kept]
      · rename_i s1 h
        exact State.allocFor_kept _ _ _ _ _ _ h

@[simp] theorem State.coolClass_kept (mark m c : Nat) (x : PoolSt) (s : State) (x0 : Nat) (x1 : List (Nat × Ob)) :
    Kept s (State.coolClass mark m c x s x0 x1) := by
  induction x1 generalizing s x0 with
  | nil => exact ⟨rfl, rfl, rfl⟩
  | cons e es ih =>
    obtain ⟨i, o⟩ := e
    unfold State.coolClass
    split
    · exact ⟨rfl, rfl, rfl⟩
    · exact Kept.trans (State.toCool_kept s i) (ih _ _)

@[simp] theorem State.coolPool_kept (s : State) (p m : Nat) :
    Kept s (s.coolPool p m) := by
  unfold State.coolPool
  split
  · exact Kept.rfl'
  · exact Kept.foldl (fun s c => State.coolClass_kept _ _ _ _ _ _ _) _ _

@[simp] theorem State.coolLow_kept (s : State) (p m : Nat) :
    Kept s (s.coolLow p m) := by
  unfold State.coolLow
  try dsimp only
  repeat' split
  all_goals simp_all [Kept, ite_factory, ite_pending, ite_otp]

@[simp] theorem State.takeServing_kept (s : State) (p : Nat) :
    Kept s (s.takeServing p) := by
  unfold State.takeServing
  try dsimp only
  repeat' split
  all_goals simp_all [Kept, ite_factory, ite_pending, ite_otp]

@[simp] theorem State.startGap_kept (s : State) (p m : Nat) :
    Kept s (s.startGap p m) := by
  unfold State.startGap
  try dsimp only
  repeat' split
  all_goals simp_all [Kept, ite_factory, ite_pending, ite_otp]

@[simp] theorem State.settlePages_kept (s : State) (i c : Nat) :
    Kept s (s.settlePages i c) := by
  unfold State.settlePages
  refine Kept.foldl (fun s x => ?_) _ _
  try dsimp only
  repeat' split
  all_goals simp_all [Kept, ite_factory, ite_pending, ite_otp]

@[simp] theorem State.leave_kept (s : State) (i : Nat) :
    Kept s (s.leave i).1 := by
  unfold State.leave
  try dsimp only
  repeat' split
  all_goals simp_all [Kept, ite_factory, ite_pending, ite_otp]

@[simp] theorem State.countCommit_kept (s : State) (i : Nat) (r : StepReq) (c tokens k : Nat) (smp : Bool) :
    Kept s (s.countCommit i r c tokens k smp) := by
  unfold State.countCommit
  try dsimp only
  repeat' split
  all_goals simp_all [Kept, ite_factory, ite_pending, ite_otp]

@[simp] theorem State.turnAfter_kept (s : State) (i : Nat) (more smp spent turnEnd : Bool) :
    Kept s (s.turnAfter i more smp spent turnEnd) := by
  unfold State.turnAfter
  try dsimp only
  repeat' split
  all_goals simp_all [Kept, ite_factory, ite_pending, ite_otp]

@[simp] theorem State.commitWith_kept (s : State) (r : StepReq) (e : StepEnd) (trained : Bool) :
    Kept s (s.commitWith r e trained).1 := by
  unfold State.commitWith
  dsimp only
  rw [apply_ite Prod.fst]
  refine Kept.ite ?_ ?_ <;> dsimp only
  · refine Kept.trans ?_ (State.maybeFree_kept _ _)
    refine Kept.trans ?_ (State.settleCore_kept _ _)
    refine Kept.trans ?_ (State.drainCore_kept _ _)
    refine Kept.ite ?_ ?_ <;> simp [Kept]
  · refine Kept.ite ?_ ?_ <;> simp [Kept]

@[simp] theorem State.commitReq_kept (s : State) (driven : Bool) (r : StepReq) (out : Option StreamOut) :
    Kept s (s.commitReq driven r out).1 := by
  unfold State.commitReq
  dsimp only
  rw [apply_ite Prod.fst]
  exact Kept.ite (((State.bump_kept _ _ _ _ _).trans (State.bump_kept _ _ _ _ _)).trans (State.leave_kept _ _))
    (State.commitWith_kept _ _ _ _)

@[simp] theorem State.unbind_kept (s : State) (p : Nat) :
    Kept s (s.unbind p) := by
  unfold State.unbind
  try dsimp only
  repeat' split
  all_goals simp_all [Kept, ite_factory, ite_pending, ite_otp]

@[simp] theorem State.zeroUnits_kept (s : State) (x : Nat) (us : List Nat) :
    Kept s (s.zeroUnits x us) := by
  unfold State.zeroUnits
  exact Kept.foldl (fun s u => State.settledWrite_kept s _ _ _) _ _

@[simp] theorem State.eraseExtent_kept (s : State) (x : Nat) :
    Kept s (s.eraseExtent x) := by
  have h : ∀ t : State, Kept s t → ∀ e, Kept s { t with cellar := e } := fun t h e => ⟨h.1, h.2.1, h.2.2⟩
  unfold State.eraseExtent
  exact h _ (State.zeroUnits_kept s x _) _

@[simp] theorem State.forgetPlot_kept (s : State) (p : Nat) :
    Kept s (s.forgetPlot p) := by
  unfold State.forgetPlot
  try dsimp only
  repeat' split
  all_goals simp_all [Kept, ite_factory, ite_pending, ite_otp]

/-! ### Requests -/

@[simp] theorem State.countIgnored_kept (s : State) (n : Nat) :
    Kept s (s.countIgnored n) := by
  unfold State.countIgnored
  try dsimp only
  repeat' split
  all_goals simp_all [Kept, ite_factory, ite_pending, ite_otp]

@[simp] theorem State.consume_kept (s : State) (n : Nat) (x0 : Nat) (x1 : Nat) :
    Kept s (s.consume n x0 x1) := by
  induction x1 generalizing s x0 with
  | zero => exact ⟨rfl, rfl, rfl⟩
  | succ k ih =>
    unfold State.consume
    try dsimp only
    refine Kept.trans ?_ (ih _ _)
    repeat' split
    all_goals simp_all [Kept, ite_factory, ite_pending, ite_otp]

@[simp] theorem State.refuseSub_kept (s : State) (n : Nat) (e : Sub) (st : Status) :
    Kept s (s.refuseSub n e st) := by
  unfold State.refuseSub
  try dsimp only
  repeat' split
  all_goals simp_all [Kept, ite_factory, ite_pending, ite_otp]

@[simp] theorem State.ringFetched_kept (s : State) (n : Nat) :
    Kept s (s.ringFetched n) := by
  unfold State.ringFetched
  try dsimp only
  repeat' split
  all_goals simp_all [Kept, ite_factory, ite_pending, ite_otp]

theorem State.submission_kept (s : State) (n : Nat) (e : Sub) (op : Nat) (act : State → Nat → State × Option Status)
    (hact : ∀ s p, Kept s (act s p).1) : Kept s (s.submission n e op act) := by
  unfold State.submission
  try dsimp only
  repeat' split
  all_goals simp_all [Kept]

@[simp] theorem State.ack_kept (s : State) (i : Nat) (e : Sub) :
    Kept s (s.ack i e) := by
  unfold State.ack
  try dsimp only
  repeat' split
  all_goals simp_all [Kept, ite_factory, ite_pending, ite_otp]

/-! ### HostPorts -/

@[simp] theorem State.releaseKey_kept (s : State) (k cause : Nat) :
    Kept s (s.releaseKey k cause) := by
  unfold State.releaseKey
  try dsimp only
  repeat' split
  all_goals simp_all [Kept, ite_factory, ite_pending, ite_otp]

@[simp] theorem State.releaseKeysOf_kept (s : State) (h cause : Nat) :
    Kept s (s.releaseKeysOf h cause) := by
  unfold State.releaseKeysOf
  try dsimp only
  repeat' split
  all_goals simp_all [Kept, ite_factory, ite_pending, ite_otp]

@[simp] theorem State.takeKey_kept (s : State) (w : Requester) (k : Nat) :
    Kept s (s.takeKey w k).2 := by
  unfold State.takeKey
  try dsimp only
  repeat' split
  all_goals simp_all [Kept, ite_factory, ite_pending, ite_otp]

@[simp] theorem State.giveKey_kept (s : State) (w : Requester) (k : Nat) :
    Kept s (s.giveKey w k).2 := by
  unfold State.giveKey
  try dsimp only
  repeat' split
  all_goals simp_all [Kept, ite_factory, ite_pending, ite_otp]

@[simp] theorem State.endSession_kept (s : State) (n cause keyCause : Nat) :
    Kept s (s.endSession n cause keyCause) := by
  unfold State.endSession
  try dsimp only
  repeat' split
  all_goals simp_all [Kept, ite_factory, ite_pending, ite_otp]

@[simp] theorem State.endVia_kept (s : State) (x : Port) :
    Kept s (s.endVia x) := by
  unfold State.endVia
  try dsimp only
  repeat' split
  all_goals simp_all [Kept, ite_factory, ite_pending, ite_otp]

@[simp] theorem State.portsTrain_kept (s : State) :
    Kept s (s.portsTrain) := by
  unfold State.portsTrain
  try dsimp only
  repeat' split
  all_goals simp_all [Kept, ite_factory, ite_pending, ite_otp]

@[simp] theorem State.clearFuncs_kept (s : State) (x : Port) (one : Option Nat) :
    Kept s (s.clearFuncs x one) := by
  unfold State.clearFuncs
  try dsimp only
  repeat' split
  all_goals simp_all [Kept, ite_factory, ite_pending, ite_otp]

@[simp] theorem State.stopQps_kept (s : State) (ns : List Nat) (reason : Nat) :
    Kept s (s.stopQps ns reason) := by
  unfold State.stopQps
  try dsimp only
  repeat' split
  all_goals simp_all [Kept, ite_factory, ite_pending, ite_otp]

@[simp] theorem State.failover_kept (s : State) (x : Port) :
    Kept s (s.failover x) := by
  unfold State.failover
  try dsimp only
  repeat' split
  all_goals simp_all [Kept, ite_factory, ite_pending, ite_otp]

@[simp] theorem State.rewriteRing_kept (s : State) (n : Nat) :
    Kept s (s.rewriteRing n) := by
  unfold State.rewriteRing
  try dsimp only
  refine Kept.foldl (fun s x => ?_) _ _
  try dsimp only
  repeat' split
  all_goals simp_all [Kept, ite_factory, ite_pending, ite_otp]

@[simp] theorem State.countContext_kept (s : State) (n : Nat) :
    Kept s (s.countContext n) := by
  unfold State.countContext
  try dsimp only
  repeat' split
  all_goals simp_all [Kept, ite_factory, ite_pending, ite_otp]

@[simp] theorem State.dropRing_kept (s : State) (n : Nat) :
    Kept s (s.dropRing n) := by
  unfold State.dropRing
  refine Kept.foldl (fun s x => ?_) _ _
  try dsimp only
  repeat' split
  all_goals simp_all [Kept, ite_factory, ite_pending, ite_otp]

@[simp] theorem State.disableQp_kept (s : State) (n : Nat) :
    Kept s (s.disableQp n) := by
  unfold State.disableQp
  try dsimp only
  repeat' split
  all_goals simp_all [Kept, ite_factory, ite_pending, ite_otp]

@[simp] theorem State.countFields_kept (s : State) (k : Nat) (v : U64) :
    Kept s (s.countFields k v) := by
  unfold State.countFields
  try dsimp only
  repeat' split
  all_goals simp_all [Kept, ite_factory, ite_pending, ite_otp]

/-! ### Ethernet -/

@[simp] theorem State.clearPath_kept (s : State) (p i : Nat) :
    Kept s (s.clearPath p i) := by
  unfold State.clearPath
  try dsimp only
  repeat' split
  all_goals simp_all [Kept, ite_factory, ite_pending, ite_otp]

@[simp] theorem State.writePath_kept (s : State) (f : Sender) (p i : Nat) (body : List Byte) :
    Kept s (s.writePath f p i body) := by
  unfold State.writePath
  try dsimp only
  repeat' split
  all_goals simp_all [Kept, ite_factory, ite_pending, ite_otp]

/-! ### Ferry -/

@[simp] theorem State.dropFerry_kept (s : State) (x : Nat) :
    Kept s (s.dropFerry x) := by
  unfold State.dropFerry
  try dsimp only
  repeat' split
  all_goals simp_all [Kept, ite_factory, ite_pending, ite_otp]

@[simp] theorem State.spoilSweep_kept (s : State) (x : Nat) (why : Status) :
    Kept s (s.spoilSweep x why) := by
  unfold State.spoilSweep
  try dsimp only
  repeat' split
  all_goals simp_all [Kept, ite_factory, ite_pending, ite_otp]

@[simp] theorem State.ferryDown_kept (s : State) (x cause : Nat) :
    Kept s (s.ferryDown x cause) := by
  unfold State.ferryDown
  try dsimp only
  repeat' split
  all_goals simp_all [Kept, ite_factory, ite_pending, ite_otp]

@[simp] theorem State.ferryRetrain_kept (s : State) (x : Nat) (rise : Bool) :
    Kept s (s.ferryRetrain x rise) := by
  unfold State.ferryRetrain
  try dsimp only
  repeat' split
  all_goals simp_all [Kept, ite_factory, ite_pending, ite_otp]

@[simp] theorem State.sendConfirm_kept (s : State) (x : Nat) :
    Kept s (s.sendConfirm x) := by
  unfold State.sendConfirm
  try dsimp only
  repeat' split
  all_goals simp_all [Kept, ite_factory, ite_pending, ite_otp]

@[simp] theorem State.sendRequest_kept (s : State) (x : Nat) (retrain : Bool) :
    Kept s (s.sendRequest x retrain) := by
  unfold State.sendRequest
  try dsimp only
  repeat' split
  all_goals simp_all [Kept, ite_factory, ite_pending, ite_otp]

@[simp] theorem State.resend_kept (s : State) (x : FerryId) :
    Kept s (s.resend x) := by
  unfold State.resend
  try dsimp only
  repeat' split
  all_goals simp_all [Kept, ite_factory, ite_pending, ite_otp]

@[simp] theorem State.frameIn_kept (s : State) (x : Nat) (cls : Fin 4) (flits : Nat) (bs : List Byte) :
    Kept s (s.frameIn x cls flits bs) := by
  unfold State.frameIn
  try dsimp only
  repeat' split
  all_goals simp_all [Kept, ite_factory, ite_pending, ite_otp]

@[simp] theorem State.flitIn_kept (s : State) (x : Nat) (y : Flit) :
    Kept s (s.flitIn x y) := by
  unfold State.flitIn
  try dsimp only
  repeat' split
  all_goals simp_all [Kept, ite_factory, ite_pending, ite_otp]

@[simp] theorem State.askRetry_kept (s : State) (port : FerryId) :
    Kept s (s.askRetry port) := by
  unfold State.askRetry
  try dsimp only
  repeat' split
  all_goals simp_all [Kept, ite_factory, ite_pending, ite_otp]

@[simp] theorem State.newJob_kept (s : State) (x : Nat) :
    Kept s (s.newJob x) := by
  unfold State.newJob
  try dsimp only
  repeat' split
  all_goals simp_all [Kept, ite_factory, ite_pending, ite_otp]

@[simp] theorem State.configure_kept (s : State) (x v : Nat) :
    Kept s (s.configure x v) := by
  unfold State.configure
  try dsimp only
  repeat' split
  all_goals simp_all [Kept, ite_factory, ite_pending, ite_otp]

@[simp] theorem State.chooseWidth_kept (s : State) (x : Nat) (peer : Bool) :
    Kept s (s.chooseWidth x peer) := by
  unfold State.chooseWidth
  try dsimp only
  repeat' split
  all_goals simp_all [Kept, ite_factory, ite_pending, ite_otp]

@[simp] theorem State.follow_kept (s : State) (x : Nat) (retrain : Bool) (bad : Nat) :
    Kept s (s.follow x retrain bad) := by
  unfold State.follow
  try dsimp only
  repeat' split
  all_goals simp_all [Kept, ite_factory, ite_pending, ite_otp]

/-! ### Power -/

@[simp] theorem State.checkPhases_kept (s : State) (site : RegSite) :
    Kept s (s.checkPhases site) := by
  unfold State.checkPhases
  try dsimp only
  repeat' split
  all_goals simp_all [Kept, ite_factory, ite_pending, ite_otp]

@[simp] theorem State.noRebuild_kept (s : State) (lt : Nat) :
    Kept s (s.noRebuild lt) := by
  unfold State.noRebuild
  try dsimp only
  repeat' split
  all_goals simp_all [Kept, ite_factory, ite_pending, ite_otp]

@[simp] theorem State.saveWrite_kept (s : State) (rs : List (Nat × Nat)) (bs : List Byte) :
    Kept s (s.saveWrite rs bs) := by
  induction rs generalizing s bs with
  | nil => exact Kept.rfl'
  | cons r rs ih => exact (State.longWrite_kept _ _ _ _ _).trans (ih _ _)

@[simp] theorem State.saveLoom_kept (s : State) (p n : Nat) (im : Image) :
    Kept s (s.saveLoom p n im) := by
  unfold State.saveLoom
  try dsimp only
  repeat' split
  all_goals simp_all [Kept, ite_factory, ite_pending, ite_otp]

@[simp] theorem State.restoreLoom_kept (s : State) (p n : Nat) (im : Image) :
    Kept s (s.restoreLoom p n im) := by
  unfold State.restoreLoom
  try dsimp only
  repeat' split
  all_goals simp_all [Kept, ite_factory, ite_pending, ite_otp]

@[simp] theorem State.savePlot_kept (s : State) (p : Nat) :
    Kept s (s.savePlot p) := by
  unfold State.savePlot
  try dsimp only
  repeat' split
  all_goals simp_all [Kept, ite_factory, ite_pending, ite_otp]

@[simp] theorem State.restorePlot_kept (s : State) (p : Nat) :
    Kept s (s.restorePlot p) := by
  unfold State.restorePlot
  try dsimp only
  repeat' split
  all_goals simp_all [Kept, ite_factory, ite_pending, ite_otp]

@[simp] theorem State.setPstate_kept (s : State) (p d : Nat) :
    Kept s (s.setPstate p d) := by
  unfold State.setPstate
  try dsimp only
  repeat' split
  all_goals simp_all [Kept, ite_factory, ite_pending, ite_otp]

@[simp] theorem State.setLimit_kept (s : State) (v : Nat) :
    Kept s (s.setLimit v) := by
  unfold State.setLimit
  try dsimp only
  repeat' split
  all_goals simp_all [Kept, ite_factory, ite_pending, ite_otp]

@[simp] theorem State.applyCool_kept (s : State) :
    Kept s (s.applyCool) := by
  unfold State.applyCool
  try dsimp only
  repeat' split
  all_goals simp_all [Kept, ite_factory, ite_pending, ite_otp]

@[simp] theorem State.degrade_kept (s : State) :
    Kept s (s.degrade) := by
  unfold State.degrade
  try dsimp only
  repeat' split
  all_goals simp_all [Kept, ite_factory, ite_pending, ite_otp]

@[simp] theorem State.coolState_kept (s : State) :
    Kept s (s.coolState) := by
  unfold State.coolState
  try dsimp only
  repeat' split
  all_goals simp_all [Kept, ite_factory, ite_pending, ite_otp]

@[simp] theorem State.coolCut_kept (s : State) (hot : Bool) :
    Kept s (s.coolCut hot) := by
  unfold State.coolCut
  try dsimp only
  repeat' split
  all_goals simp_all [Kept, ite_factory, ite_pending, ite_otp]

@[simp] theorem State.endPace_kept (s : State) :
    Kept s (s.endPace) := by
  unfold State.endPace
  try dsimp only
  repeat' split
  all_goals simp_all [Kept, ite_factory, ite_pending, ite_otp]

@[simp] theorem State.setPace_kept (s : State) (slot pct natural : Nat) :
    Kept s (s.setPace slot pct natural) := by
  unfold State.setPace
  try dsimp only
  repeat' split
  all_goals simp_all [Kept, ite_factory, ite_pending, ite_otp]

@[simp] theorem State.pace_kept (s : State) (xs : List (Loom × Int)) (natural : List (Loom × Nat)) :
    Kept s (s.pace xs natural).1 := by
  unfold State.pace
  split
  · exact ⟨rfl, rfl, rfl⟩
  · try dsimp only
    generalize hs1 : ((s.measure 0x4040 2 _).setCell 0x4040 3 _) = s1
    have h1 : Kept s s1 := by rw [← hs1]; simp [Kept]
    generalize hs2 : (if s1.cell 0x4040 4 = _ then s1 else s1.endPace) = s2
    have h2 : Kept s1 s2 := by rw [← hs2]; split <;> simp [Kept]
    have h3 := h1.trans h2
    repeat' split
    all_goals refine h3.trans ?_
    all_goals simp_all [Kept, ite_factory, ite_pending, ite_otp]

@[simp] theorem State.thermal_kept (s : State) (xs : List (Loom × Int)) (natural : List (Loom × Nat)) :
    Kept s (s.thermal xs natural) := by
  unfold State.thermal
  try dsimp only
  repeat' split
  all_goals simp_all [Kept, ite_factory, ite_pending, ite_otp]

@[simp] theorem State.lowDone_kept (s : State) :
    Kept s (s.lowDone) := by
  unfold State.lowDone
  try dsimp only
  repeat' split
  all_goals simp_all [Kept, ite_factory, ite_pending, ite_otp]

@[simp] theorem State.finishWrites_kept (s : State) :
    Kept s (s.finishWrites) := by
  unfold State.finishWrites
  try dsimp only
  repeat' split
  all_goals simp_all [Kept, ite_factory, ite_pending, ite_otp]

@[simp] theorem State.lowSample_kept (s : State) (duty : Bool) :
    Kept s (s.lowSample duty) := by
  unfold State.lowSample
  try dsimp only
  repeat' split
  all_goals simp_all [Kept, ite_factory, ite_pending, ite_otp]

@[simp] theorem State.keepSample_kept (s : State) (d : Domain) (place : Nat) (w : Nat) :
    Kept s (s.keepSample d place w) := by
  unfold State.keepSample
  try dsimp only
  repeat' split
  all_goals simp_all [Kept, ite_factory, ite_pending, ite_otp]

@[simp] theorem State.takeTile_kept (s : State) (d : Domain) (e : Phys × DomainSample) :
    Kept s (s.takeTile d e) := by
  unfold State.takeTile
  try dsimp only
  repeat' split
  all_goals simp_all [Kept, ite_factory, ite_pending, ite_otp]

@[simp] theorem State.plotSample_kept (s : State) (p now : Nat) :
    Kept s (s.plotSample p now) := by
  unfold State.plotSample
  try dsimp only
  repeat' split
  all_goals simp_all [Kept, ite_factory, ite_pending, ite_otp]

@[simp] theorem State.agreeCap_kept (s : State) :
    Kept s (s.agreeCap) := by
  unfold State.agreeCap
  try dsimp only
  repeat' split
  all_goals simp_all [Kept, ite_factory, ite_pending, ite_otp]

@[simp] theorem State.engineSample_kept (s : State) (w : Nat) :
    Kept s (s.engineSample w) := by
  unfold State.engineSample
  try dsimp only
  repeat' split
  all_goals simp_all [Kept, ite_factory, ite_pending, ite_otp]

@[simp] theorem State.rateSample_kept (s : State) (natural : List (Loom × Nat)) :
    Kept s (s.rateSample natural) := by
  unfold State.rateSample
  try dsimp only
  repeat' split
  all_goals simp_all [Kept, ite_factory, ite_pending, ite_otp]

@[simp] theorem State.inputSample_kept (s : State) (x : PowerIn) (base : Nat) :
    Kept s (s.inputSample x base) := by
  unfold State.inputSample
  try dsimp only
  repeat' split
  all_goals simp_all [Kept, ite_factory, ite_pending, ite_otp]

/-! ### LedgerRead -/

@[simp] theorem State.drawEth_kept (s : State) (port : Nat) :
    Kept s (s.drawEth port).2 := by
  unfold State.drawEth
  refine Kept.foldlOn (g := fun t : List Nat × State => t.2) (fun t k => ?_) _ _
  try dsimp only
  split
  all_goals simp_all [Kept, ite_factory, ite_pending, ite_otp]

@[simp] theorem State.fetch_kept (s : State) (r : Row) (idx sub : Nat) :
    Kept s (s.fetch r idx sub).2 := by
  unfold State.fetch
  try dsimp only
  repeat' split
  all_goals simp_all [Kept, ite_factory, ite_pending, ite_otp]

@[simp] theorem State.readReply_kept (s : State) (w : Requester) (idx sub : Nat) (newer : Bool) (arg : Nat) :
    Kept s (s.readReply w idx sub newer arg).1 := by
  unfold State.readReply
  try dsimp only
  repeat' split
  all_goals simp_all [Kept, ite_factory, ite_pending, ite_otp]

@[simp] theorem State.blockReply_kept (s : State) (w : Requester) (idx sub offset : Nat) (body : List Byte) :
    Kept s (s.blockReply w idx sub offset body).1 := by
  unfold State.blockReply
  try dsimp only
  repeat' split
  all_goals simp_all [Kept, ite_factory, ite_pending, ite_otp]

/-! ### Ledger -/

@[simp] theorem State.store_kept (s : State) (idx sub : Nat) (body : List Byte) :
    Kept s (s.store idx sub body) := by
  unfold State.store
  try dsimp only
  repeat' split
  all_goals simp_all [Kept, ite_factory, ite_pending, ite_otp]

@[simp] theorem State.eyeLane_kept (s : State) (kind port lane : Nat) (v : Nat × Nat) :
    Kept s (s.eyeLane kind port lane v) := by
  unfold State.eyeLane
  try dsimp only
  repeat' split
  all_goals simp_all [Kept, ite_factory, ite_pending, ite_otp]

/-! ### Faults -/

@[simp] theorem State.reeveBack_kept (s : State) :
    Kept s (s.reeveBack) := by
  unfold State.reeveBack
  try dsimp only
  repeat' split
  all_goals simp_all [Kept, ite_factory, ite_pending, ite_otp]

@[simp] theorem State.moveDrover_kept (s : State) (p k : Nat) :
    Kept s (s.moveDrover p k) := by
  unfold State.moveDrover
  try dsimp only
  repeat' split
  all_goals simp_all [Kept, ite_factory, ite_pending, ite_otp]

/-! ### Security -/

@[simp] theorem State.bootSelect_kept (s : State) :
    Kept s (s.bootSelect) := by
  unfold State.bootSelect
  try dsimp only
  repeat' split
  all_goals simp_all [Kept, ite_factory, ite_pending, ite_otp]

@[simp] theorem State.setIdleSlot_kept (s : State) (v : FlashSlot) :
    Kept s (s.setIdleSlot v) := by
  unfold State.setIdleSlot
  try dsimp only
  repeat' split
  all_goals simp_all [Kept, ite_factory, ite_pending, ite_otp]

/-! ### Startup -/

@[simp] theorem State.replay_kept (s : State) (r : DefectRec) :
    Kept s (s.replay r) := by
  unfold State.replay
  try dsimp only
  repeat' split
  all_goals simp_all [Kept, ite_factory, ite_pending, ite_otp]

@[simp] theorem State.buildMap_kept (s : State) :
    Kept s (s.buildMap) := by
  unfold State.buildMap
  try dsimp only
  repeat' split
  all_goals simp_all [Kept, ite_factory, ite_pending, ite_otp]

@[simp] theorem State.resetExit_kept (s : State) :
    Kept s (s.resetExit) := by
  unfold State.resetExit
  try dsimp only
  repeat' split
  all_goals simp_all [Kept, ite_factory, ite_pending, ite_otp]

@[simp] theorem State.startTaps_kept (s : State) (taps : List (Slot × Fin 3 × Fin 64)) :
    Kept s (s.startTaps taps) := by
  unfold State.startTaps
  refine Kept.trans (Kept.foldl (fun s n => ?_) _ _) (Kept.foldl (fun s n => ?_) _ _)
  · simp [Kept]
  · split <;> simp [Kept]

@[simp] theorem State.goReady_kept (s : State) :
    Kept s (s.goReady) := by
  unfold State.goReady
  try dsimp only
  repeat' split
  all_goals simp_all [Kept, ite_factory, ite_pending, ite_otp]

@[simp] theorem State.stopLooms_kept (s : State) :
    Kept s (s.stopLooms) := by
  unfold State.stopLooms
  try dsimp only
  repeat' split
  all_goals simp_all [Kept, ite_factory, ite_pending, ite_otp]

@[simp] theorem State.pageReset_kept (s : State) (i : Nat) (e : Bool × Nat) :
    Kept s (s.pageReset i e) := by
  unfold State.pageReset
  try dsimp only
  repeat' split
  all_goals simp_all [Kept, ite_factory, ite_pending, ite_otp]

@[simp] theorem State.obReset_kept (s : State) (i : Nat) :
    Kept s (s.obReset i) := by
  unfold State.obReset
  try dsimp only
  repeat' split
  all_goals simp_all [Kept, ite_factory, ite_pending, ite_otp]

@[simp] theorem State.plotReset_kept (s : State) (p : Nat) :
    Kept s (s.plotReset p) := by
  unfold State.plotReset
  try dsimp only
  repeat' split
  all_goals simp_all [Kept, ite_factory, ite_pending, ite_otp]

@[simp] theorem State.linksDown_kept (s : State) :
    Kept s (s.linksDown) := by
  unfold State.linksDown
  try dsimp only
  repeat' split
  all_goals simp_all [Kept, ite_factory, ite_pending, ite_otp]

@[simp] theorem State.fabricReset_kept (s : State) :
    Kept s (s.fabricReset) := by
  unfold State.fabricReset
  try dsimp only
  repeat' split
  all_goals simp_all [Kept, ite_factory, ite_pending, ite_otp]

@[simp] theorem State.warm_kept (s : State) (cause : Nat) :
    Kept s (s.warm cause) := by
  unfold State.warm
  try dsimp only
  repeat' split
  all_goals simp_all [Kept, ite_factory, ite_pending, ite_otp]

@[simp] theorem State.warmTrigger_kept (s : State) (cause : Nat) :
    Kept s (s.warmTrigger cause) := by
  unfold State.warmTrigger
  try dsimp only
  repeat' split
  all_goals simp_all [Kept, ite_factory, ite_pending, ite_otp]

@[simp] theorem State.coresUp_kept (s : State) :
    Kept s (s.coresUp) := by
  unfold State.coresUp
  try dsimp only
  repeat' split
  all_goals simp_all [Kept, ite_factory, ite_pending, ite_otp]

end Sys2Proof.Machine
end

