-- ==== Sys2Proof/Laws/Memory.lean ====
section
/-! SUPPORT. The two memories, the Cellar and a loom's Bench: every operation on them keeps the canonical form, and a store is read
back and changes nothing else. -/

namespace Sys2Proof.Machine

/-! ### The Cellar -/

theorem reset_cellarCanonical : cellarCanonical State.reset := rfl

/-- A store keeps the Cellar's memory canonical. -/
theorem cstore_cellarCanonical (s : State) (a : Nat) (bs : List Byte) (h : cellarCanonical s) : cellarCanonical (s.cstore a bs) :=
  Tab.wf_setList 0 bs s.cellar.mem a h

/-- Losing a logical tile's Cellar keeps it canonical. -/
theorem newCellar_cellarCanonical (s : State) (lt : Nat) (h : cellarCanonical s) : cellarCanonical (s.newCellar lt) :=
  Tab.wf_keep 0 _ s.cellar.mem h

/-- An operation that leaves the memory alone keeps it canonical. -/
theorem cellar_of_mem {s t : State} (h : t.cellar.mem = s.cellar.mem) (hs : cellarCanonical s) : cellarCanonical t := by
  unfold cellarCanonical; rw [h]; exact hs

/-- What was stored is read back. -/
@[simp] theorem cbytes_cstore (s : State) (a : Nat) (bs : List Byte) : (s.cstore a bs).cbytes a bs.length = bs :=
  Tab.getList_setList 0 bs s.cellar.mem a

/-- A byte outside what was stored reads as before. -/
theorem cellar_get_cstore (s : State) (a k : Nat) (bs : List Byte) (h : k < a ∨ a + bs.length ≤ k) :
    Tab.get 0 (s.cstore a bs).cellar.mem k = Tab.get 0 s.cellar.mem k :=
  Tab.get_setList_ne 0 bs s.cellar.mem a k h

/-! ### The Bench -/

/-- A loom's Bench is in canonical form: addresses rise, and no byte that reads zero is listed. -/
def benchCanonical (l : LoomSt) : Prop := Tab.wf (0 : Byte) l.bench = true

theorem reset_benchCanonical (n : Nat) : benchCanonical (State.reset.loom n) := rfl

/-- A store keeps the Bench canonical. -/
theorem store_benchCanonical (l : LoomSt) (a : Nat) (bs : List Byte) (h : benchCanonical l) : benchCanonical (l.store a bs) :=
  Tab.wf_setList 0 _ l.bench a h

/-- What stays after a loss is in canonical form. -/
theorem lose_benchCanonical (n : Nat) (keep : List (Nat × Nat)) (l : LoomSt) (h : benchCanonical l) : benchCanonical (l.lose n keep) :=
  Tab.wf_keep 0 _ l.bench h

theorem unpower_benchCanonical (n : Nat) (l : LoomSt) : benchCanonical (l.unpower n) := rfl

/-- A Bench that is filled back from the save extents stays in canonical form. -/
theorem refill_benchCanonical (rs : List (Nat × Nat)) (bs : List Byte) (l : LoomSt) (h : benchCanonical l) :
    benchCanonical (l.refill rs bs) := by
  induction rs generalizing bs l with
  | nil => exact h
  | cons r rs ih => exact ih _ _ (store_benchCanonical l r.1 _ h)

/-- As many bytes. -/
@[simp] theorem length_overBlank (l : LoomSt) (a : Nat) (bs : List Byte) : (l.overBlank a bs).length = bs.length := by
  induction bs generalizing a with
  | nil => rfl
  | cons b bs ih => simp [LoomSt.overBlank, ih]

/-- Differences of differences are the bytes again. -/
theorem overBlank_overBlank (l : LoomSt) (a : Nat) (bs : List Byte) : l.overBlank a (l.overBlank a bs) = bs := by
  induction bs generalizing a with
  | nil => rfl
  | cons b bs ih => simp [LoomSt.overBlank, ih]

/-- What an unlisted address reads depends on the losses alone. -/
theorem overBlank_congr {l m : LoomSt} (h : l.void = m.void) (a : Nat) (bs : List Byte) : l.overBlank a bs = m.overBlank a bs := by
  induction bs generalizing a with
  | nil => rfl
  | cons b bs ih => simp [LoomSt.overBlank, LoomSt.blank, h, ih]

/-- A byte outside what was stored reads as before. -/
theorem byte_store (l : LoomSt) (a k : Nat) (bs : List Byte) (h : k < a ∨ a + bs.length ≤ k) :
    (l.store a bs).bytes k 1 = l.bytes k 1 := by
  have hk : Tab.get 0 (l.store a bs).bench k = Tab.get 0 l.bench k := by
    refine Tab.get_setList_ne 0 _ l.bench a k ?_
    rcases h with h | h
    · exact Or.inl h
    · refine Or.inr ?_
      rw [length_overBlank, List.length_take]
      omega
  simp only [LoomSt.bytes, Tab.getList, hk]
  exact overBlank_congr rfl k _

/-- What was stored within the 4 MiB is read back. -/
theorem bytes_store (l : LoomSt) (a : Nat) (bs : List Byte) (h : a + bs.length ≤ benchSize) : (l.store a bs).bytes a bs.length = bs := by
  have hg : Tab.getList 0 (l.store a bs).bench a bs.length = l.overBlank a bs := by
    unfold LoomSt.store
    rw [List.take_of_length_le (by omega)]
    have := Tab.getList_setList (0 : Byte) (l.overBlank a bs) l.bench a
    rwa [length_overBlank] at this
  unfold LoomSt.bytes
  rw [hg, overBlank_congr (m := l) (l := l.store a bs) rfl, overBlank_overBlank]

end Sys2Proof.Machine
end

