-- ==== Sys2Proof/Tests/Slice0.lean ====
section
/-!
SUPPORT. Tests of the model on small states: for each statement a state and operands that meet its hypotheses, clause by clause;
worked examples of the spec; and ill-formed commands, which are refused by the well-formedness check.
-/

namespace Sys2Proof.Tests

set_option Elab.async false

open Sys2Proof Sys2Proof.Machine

/-! ### Helpers -/

/-- An active tile with a logical number. -/
def active (lt : Nat) : Site := { st := .active, logical := lt }

/-- An engine in service: three active tiles, one RESERVE tile; both host ports up; cooling NORMAL. -/
def live : State :=
  { State.reset with
    now := 50000000
    rst := { phase := .ready, ready := true, watch := true, busAt := some 0 }
    sites := [(5, active 0), (6, active 1), (7, { st := .reserve }), (9, active 2)]
    led := [(ek 0x2000 1, 2), (ek 0x2000 2, 0x1006), (ek 0x2000 0x11, 2), (ek 0x2000 0x12, 0x1006), (ek 0x4050 4, 0)] }

/-- Scalar entries with these values. -/
def withCells (s : State) (cs : List (Nat × Nat × Nat)) : State := cs.foldl (fun s c => s.setCell c.1 c.2.1 c.2.2) s

/-- Plot 2, SERVING, with looms 0, 1 and 20 (tiles T005 and T006). -/
def plotted : State :=
  withCells { live with plots := [(2, { looms := [0, 1, 20], rightsA := true })] }
    [(0x3002, 1, 2), (0x3002, 2, 1), (0x3002, 3, 3), (0x3002, 5, 100), (0x3002, 6, 64), (0x3002, 7, 8), (0x3002, 8, 1000)]

/-- Loom 0. -/
def loom0 : Loom := ⟨0, 0, 0⟩

/-- A pool of BF16 frames: one layer, one head of 32 elements, four frames; the word that describes it (R212). -/
def pool0 : Pool := ⟨0, 1, 1, 1, 1, 0xC, 0, false, 4, 0, 1, 1, 0⟩
def poolWord0 : BitVec 128 :=
  BitVec.ofNat 128 (2 ^ 119 + 2 ^ 112 + 2 ^ 106 + 2 ^ 102 + 0xC * 2 ^ 98 + 4 * 2 ^ 71 + 2 ^ 41 + 2 ^ 33)

/-- Extent record (R184): image extent, USE, no TILE; the plan gives it this extent of logical tile 0. -/
def extent0 (image use : Nat) (e : Fin 176) : ExtentRec :=
  ⟨BitVec.ofNat 128 (2 * 2 ^ 124 + image * 2 ^ 109 + 0x7F * 2 ^ 102 + use * 2 ^ 100), 0, e⟩

/-- Header of an image of this class with one loom, `routes` routes, two sections, two extents and F_DECL 1.6 (R181). -/
def header0 (magic klass routes : Nat) : Header :=
  ⟨BitVec.ofNat 64 (magic + 2 ^ 32 + 2 * 2 ^ 48), BitVec.ofNat 64 klass, 77, BitVec.ofNat 64 (1 + routes * 2 ^ 16), 2, 0x3FCCCCCD, 64, 0⟩

/-- A model slot, and an image with two extents: Pantry and page list. -/
def model0 : Model := ⟨0, 64, 8, 512, 2, 4096, false, none⟩
def image0 : Image :=
  { header := header0 0x4E435733 0x016C0300 0, sections := [⟨1, 128, 64⟩, ⟨2, 192, 64⟩],
    looms := [{ loom := loom0, words := [0xFFFF] }], extents := [extent0 0 1 0, extent0 1 0 1], patches := [0], routes := [],
    split := false, weightPart := 0, actPart := 0, streams := [], preamble := 1, pools := [poolWord0], models := [model0], manifest := [],
    resident := [], signer := [9] }

theorem test_R212_descriptor : poolOf poolWord0 = pool0 := by decide

/-- Plot 2's loom 0 runs step 7, attempt 3, and stands at a word with this opcode. -/
def running (op : Nat) (l : LoomSt → LoomSt) : State :=
  plotted.updLoom 0 (fun x => l { x with program := [BitVec.ofNat 64 (op * 2 ^ 58)], step := some 7, attempt := 3 })

/-- A sender at port A's physical function, with the frame of this request waiting in the mailbox. -/
def hostA : Sender := ⟨.host ⟨.a, none⟩, 0x1234, 0, false⟩

/-- The request stands in port A's mailbox. -/
def asked (s : State) (q : Req) : State :=
  s.updBox ⟨.a, none⟩ (fun m => { m with busy := true, request := q.bytes 0x1234 })

/-! ### Witnesses: the whole machine, canaries, holds, tiles, time -/

theorem witness_StepRunsTheFrontCommand : { live with pending := [.tickEdge, .p4Exit] }.pending = .tickEdge :: [.p4Exit] := by
  decide

theorem witness_IdleStepLetsTimePass : live.pending = [] := by decide

theorem witness_WellFormedCommandsRun :
    Instr.wf .tickEdge = true ∧ Instr.wf (.cellarRead 1 0 4096 {}) = false ∧ exec .p4Exit live = .next live :=
  ⟨rfl, rfl, rfl⟩

theorem witness_OtpRecordsOnlyGrow :
    otpBounded State.reset ∧ step { State.reset with pending := [.p4Exit] } = .next State.reset :=
  ⟨fun k => by simp [State.reset, Tab.get], rfl⟩

theorem witness_TablesStayCanonical : tablesCanonical live := by
  unfold tablesCanonical cellarCanonical
  decide

/-- The next state of an outcome. -/
def nextOf : Host.Outcome State Fault Refusal → Option State
  | .next t => some t
  | _ => none

/-- Slot T005.0.0 serves loom 0; slot T005.0.5 is its row's spare, in use by none. -/
def slot0 : Slot := ⟨5, 0, 0⟩
def spare0 : Slot := ⟨5, 0, 5⟩

theorem witness_CanariesRaiseTaps :
    (live.watched slot0 = true ∧ (∀ d, d < 3 → (5 : BitVec 3).getLsbD d = false → Tab.get 0 (live.slot slot0.n).taps d ≠ 63) ∧
      live.inBeat slot0 = false ∧ (5 : BitVec 3).getLsbD 1 = false ∧ Tab.get false (live.slot slot0.n).trims 1 = false ∧
      Tab.get 0 (live.slot slot0.n).rose 1 = 0) ∧
    (let s := running 1 id
     s.watched slot0 = true ∧ s.inBeat slot0 = true) ∧
    (let s := live.updSlot spare0.n (fun y => { y with taps := [(2, 63)] })
     s.watched spare0 = true ∧ s.loomAt spare0 = none ∧ s.defects.length < 256 ∧ (3 : BitVec 3).getLsbD 2 = false ∧
      Tab.get 0 (s.slot spare0.n).taps 2 = 63) ∧
    (live.updSlot slot0.n (fun y => { y with taps := [(1, 55)], trims := [(1, true)] })).slot slot0.n =
      { taps := [(1, 55)], trims := [(1, true)] } := by
  decide

theorem test_canary_raises_one_tap :
    (nextOf (exec (.canaryTest slot0 5) live)).map (fun t => ((t.slot slot0.n).taps, t.cell 0x9100 3)) = some ([(1, 1)], 1) := by
  decide

theorem test_trim_at_55_raises_E9101 :
    (nextOf (exec (.trimApply slot0) (live.updSlot slot0.n (fun y => { y with taps := [(1, 55)], trims := [(1, true)] })))).map
      (fun t => t.ev.log.map EventRec.ev) = some [0x9101] := by decide

/-- Tile T005 is held since 1 ms ago. -/
def held (ago : Nat) : State := live.updSite 5 (fun c => { c with held := some (live.now - ago) })

/-- The readings of sixteen sensors that agree. -/
def reads (v : U16) : Sensed := ⟨Vector.replicate 16 v, 0, 0⟩

theorem witness_HoldsBeginAndEnd :
    ((live.reg 5).sensed (reads 6099) < 6100 ∧ (live.site 5).held = none ∧ (live.site 5).st ≠ .absent) ∧
    (6300 ≤ ((held 10000).reg 5).sensed (reads 6300) ∧ ((held 10000).site 5).held = some (live.now - 10000) ∧
      live.now - 10000 + 10000 ≤ live.now) ∧
    ((held 2000000).vbusOk = true ∧ (∀ u, u < 112 → u ≠ 5 → ((held 2000000).site u).held = none) ∧
      live.now - 2000000 + 2000000 ≤ (held 2000000).now ∧ ((held 2000000).site 5).st ≠ .absent ∧
      (held 2000000).procs.reeveLost = false) ∧
    (let s : State := { held 20000001 with power := { live.power with vbus := 100000 } }
     s.vbusOk = false ∧ (s.site 5).held = some (s.now - 20000001) ∧ s.now - 20000001 + 20000000 < s.now ∧
       s.power.shutdown = 0 ∧ s.rst.ready = true) ∧
    (let s := (held 20000001).updSite 6 (fun c => { c with held := some live.now })
     (s.site 6).held ≠ none ∧ (s.site 5).held = some (s.now - 20000001) ∧ s.power.shutdown = 0 ∧ s.rst.ready = true) := by
  decide

theorem witness_TilesFailAndReservesAreUsed :
    (live.site 7).st = .reserve ∧ live.defects.length < 256 ∧ (live.site 5).st = .active ∧ live.reserveTile = some 7 ∧
    live.procs.reeveLost = false ∧
    (let s : State := { live with procs := { live.procs with reeveLost := true, waitFail := [(6, .localHold, false)] } }
     s.procs.reeveLost = true ∧ (∀ x ∈ s.procs.waitFail, x.1 ≠ 5)) := by
  decide

theorem witness_TheBellDisciplinesTheCount :
    live.bell.st = .free ∧
    (let s : State := { live with bell := { live.bell with st := .locked, edgeBase := live.now - 200, corr := 3 } }
     s.bell.st = .locked ∧ s.bell.edgeBase + 200 ≤ s.now ∧ s.bell.corr ≠ 0 ∧ s.bell.lastSlew + 10000 ≤ s.now) := by
  decide

/-- The Bell with a time load armed at this instant. -/
def loading (at_ : Nat) : State := { live with bell := { live.bell with load := some (77, at_) } }

theorem witness_TicksAreCountedAndSet :
    (live.bell.load = none ∧ inWindow live.now live.nearInstant = true ∧ live.bell.lastCounted ≠ some live.nearInstant) ∧
    (let s : State := { live with now := 50050000 }
     inWindow s.now s.nearInstant = false) ∧
    ((loading (live.now - 1000)).bell.load = some (77, live.now - 1000) ∧ live.now - 1000 + 1000 ≤ live.now) ∧
    ((loading (live.now - 999)).bell.load = some (77, live.now - 999) ∧ live.now < live.now - 999 + 1000) ∧
    (let s : State := { live with now := 50001001, bell := { live.bell with lastCounted := some 49900000, watch := true } }
     1000 < s.now ∧ s.bell.lastCounted = some 49900000 ∧ 49900000 < (s.now - 1001) / s.bell.period * s.bell.period ∧
       s.bell.watch = true ∧ s.bell.missRaised = false) := by
  decide

theorem witness_TicksAreCountedAndSet_writes :
    (let s := asked live (writeReq 0x5800 4 (toLe 8 1000000))
     WriteArrives s hostA 0x5800 4 (toLe 8 1000000) ∧ s.plotsNow = []) ∧
    (let s := asked plotted (writeReq 0x5800 4 (toLe 8 1000000))
     WriteArrives s hostA 0x5800 4 (toLe 8 1000000) ∧ s.plotsNow ≠ []) ∧
    (let s := asked live (writeReq 0x5800 3 (toLe 4 100000))
     WriteArrives s hostA 0x5800 3 (toLe 4 100000)) := by
  simp only [WriteArrives, Arrives, hostA]
  decide

/-! ### Witnesses: the fabric -/

/-- A message of one transfer for loom 20 (tile T006), from loom 0. -/
def msg1 : Msg :=
  { epoch := 1, dest := 0x0100, src := 0x0000, plot := 2, cls := 0, kind := 0, payload := List.replicate 128 7 }

/-- It waits at T005's eastern output, channel 3. -/
def waiting1 : Transit := { msg := msg1, set := 1, via := none, holds := none }
def routed : State := plotted.updChan (chanKey 5 1 3) (fun c => { c with waiting := [waiting1] })

/-- A message of two transfers at the same output, and one of which this many transfers are left. -/
def waiting2 : Transit := { waiting1 with msg := { msg1 with payload := List.replicate 129 7 } }
def routed2 : State := plotted.updChan (chanKey 5 1 3) (fun c => { c with waiting := [waiting2] })
def going (left : Nat) : State := plotted.updChan (chanKey 5 1 3) (fun c => { c with sending := [(0, some (waiting2, left))] })

theorem witness_MessagesMoveWholeOnCredit :
    ((routed.updSite 5 (fun c => { c with held := some 0 })).nodeHeld 5 = true) ∧
    (routed.nodeHeld 5 = false ∧ routed.nodeDown 5 = false ∧ routed.nextNode 5 1 12 = some 6 ∧ routed.nodeHeld 6 = false) ∧
    (Tab.get none ((going 2).chan (chanKey 5 1 3)).sending (Machine.rotation ((going 2).chan (chanKey 5 1 3)).turn) =
      some (waiting2, 2)) ∧
    (Tab.get none (routed2.chan (chanKey 5 1 3)).sending (Machine.rotation (routed2.chan (chanKey 5 1 3)).turn) = none ∧
      (routed2.chan (chanKey 5 1 3)).pick (Machine.rotation (routed2.chan (chanKey 5 1 3)).turn) = some waiting2 ∧
      waiting2.len = 2) ∧
    (Tab.get none ((going 1).chan (chanKey 5 1 3)).sending (Machine.rotation ((going 1).chan (chanKey 5 1 3)).turn) =
        some (waiting2, 1) ∧
      (going 1).siteOf waiting2.msg.dest.toNat = some 6 ∧ waiting2.via = none ∧ waiting2.holds = none) ∧
    (Tab.get none (routed.chan (chanKey 5 1 3)).sending (Machine.rotation (routed.chan (chanKey 5 1 3)).turn) = none ∧
      waiting1.len = 1 ∧ (routed.chan (chanKey 5 1 3)).pick (Machine.rotation (routed.chan (chanKey 5 1 3)).turn) = some waiting1 ∧
      routed.siteOf waiting1.msg.dest.toNat = some 6) ∧
    (Tab.get none (plotted.chan (chanKey 5 1 3)).sending (Machine.rotation (plotted.chan (chanKey 5 1 3)).turn) = none ∧
      (plotted.chan (chanKey 5 1 3)).pick (Machine.rotation (plotted.chan (chanKey 5 1 3)).turn) = none) := by
  decide +kernel

theorem test_message_reaches_its_endpoint :
    (nextOf (exec (.messageForward 5 1 3) routed)).map (fun t =>
      (Tab.get [] t.fabric.inbox 0x0100, (t.chan (chanKey 5 1 3)).turn, Tab.get 0 (t.chan (chanKey 5 1 3)).used 1)) =
      some ([msg1], 1, 1) := by
  decide +kernel

/-- Loom 20 has this message in its inbox. -/
def received (m : Msg) : State := { plotted with fabric := { plotted.fabric with inbox := [(0x0100, [m])] } }

/-- Plot 2 runs this image program on loom 20. -/
def placed (x : Program) : State := plotted.updPlot 2 (fun y => { y with image := some { image0 with looms := [x] } })

/-- Its loom 20 lands the operand stream at Bench address 4096; in the second, it passes operands on to loom 0. -/
def landingHere : State :=
  { placed ⟨⟨1, 0, 0⟩, [], none, [(0, .raw 4096 1024)], none, []⟩ with
    fabric := { plotted.fabric with inbox := [(0x0100, [msg1])] } }
def passingOn : State :=
  { placed ⟨⟨1, 0, 0⟩, [], some loom0, [], none, []⟩ with fabric := { plotted.fabric with inbox := [(0x0100, [msg1])] } }

/-- A reply from this endpoint that loom 0 has accepted, for this message. -/
def replied (m : Msg) (lost : Bool) : State :=
  { plotted with
    procs := { plotted.procs with reeveLost := lost }
    fabric := { plotted.fabric with
      taken := [(0, [{ msg1 with dest := 0, src := 0x0100, plot := 0x1F, cls := 3, kind := 6, payload := [] }])], lost := [m] } }

theorem witness_ReceiptChecksPlotThenEpoch :
    (Tab.get [] (received { msg1 with plot := 3 }).fabric.inbox 0x0100 = { msg1 with plot := 3 } :: [] ∧
      (received { msg1 with plot := 3 }).tagAccepted 0x0100 { msg1 with plot := 3 } = false) ∧
    ((received { msg1 with epoch := 2 }).tagAccepted 0x0100 { msg1 with epoch := 2 } = true ∧
      (2 : U16).toNat ≠ (received { msg1 with epoch := 2 }).epoch 0x0100) ∧
    ((received msg1).tagAccepted 0x0100 msg1 = true ∧ msg1.epoch.toNat = (received msg1).epoch 0x0100 ∧
      endpointLoom 0x0100 = some 20 ∧ (received msg1).windowOf 20 (0x0100 % 8) = none ∧
      ((received msg1).programOf 20).bind Program.passTo = none) ∧
    ({ msg1 with kind := 4 } : Msg).kind = 4 ∧
    ((endpointLoom (0xC010 : U16).toNat).isNone = true ∧ (msg1.cls ≠ 3 ∨ msg1.kind ≠ 6 ∨ engineFerry 0xC010 = none)) ∧
    (let m : Msg := { msg1 with dest := 0xC315, src := 0, plot := 0x1F, cls := 3, kind := 6, payload := [] }
     let s : State := { plotted with fabric := { plotted.fabric with inbox := [(0xC315, [m])] } }
     s.tagAccepted 0xC315 m = true ∧ m.epoch.toNat = s.epoch 0xC315 ∧ (endpointLoom 0xC315).isNone = true ∧
       engineFerry 0xC315 = some 0) ∧
    (let s := landingHere
     s.tagAccepted 0x0100 msg1 = true ∧ msg1.epoch.toNat = s.epoch 0x0100 ∧ msg1.kind ≠ 4 ∧ endpointLoom 0x0100 = some 20 ∧
       s.ownerOf 20 = some 2 ∧ s.windowOf 20 (0x0100 % 8) = some (.raw 4096 1024) ∧ (s.programOf 20).bind Program.passTo = none ∧
       (landing (Tab.get 0 (s.loom 20).inPos (0x0100 % 8)) msg1.payload (.raw 4096 1024)).1.all
         (fun x => s.partOk 2 .fabricIn msg1.kind.toNat x.1 x.2.length) = true) ∧
    (let s := withCells landingHere [(0x6102, 1, 1), (0x6102, 2, 1)]
     (landing (Tab.get 0 (s.loom 20).inPos (0x0100 % 8)) msg1.payload (.raw 4096 1024)).1.any
         (fun x => !s.partOk 2 .fabricIn msg1.kind.toNat x.1 x.2.length) = true ∧ s.plotState 2 = 2 ∧
       s.windowOf 20 (0x0100 % 8) = some (.raw 4096 1024)) ∧
    (let s := passingOn
     s.tagAccepted 0x0100 msg1 = true ∧ msg1.epoch.toNat = s.epoch 0x0100 ∧ 0x0100 % 8 = 0 ∧ s.windowOf 20 0 = none ∧
       (s.programOf 20).bind Program.passTo = some loom0 ∧
       Tab.get false s.fabric.stale (staleKey (loomEndpoint 20 0) (loomEndpoint loom0.n 0)) = false) ∧
    (endpointLoom (0 : U16).toNat = some 0 ∧
      (Tab.get [] (replied msg1 false).fabric.taken 0).any (fun x => x.cls == 3 && x.kind == 6 && x.src == 0x0100) = true ∧
      (replied msg1 false).fabric.lost.find? (fun x => x.src == 0 && x.dest == 0x0100) = some msg1 ∧ msg1.cls.val < 2) ∧
    (∀ b, (replied { msg1 with cls := 2 } b).procs.reeveLost = b ∧
      (Tab.get [] (replied { msg1 with cls := 2 } b).fabric.taken 0).any (fun x => x.cls == 3 && x.kind == 6 && x.src == 0x0100) = true ∧
      (replied { msg1 with cls := 2 } b).fabric.lost.find? (fun x => x.src == 0 && x.dest == 0x0100) = some { msg1 with cls := 2 }) ∧
    (let x : Step := { plot := 2, mslot := 0, attempt := 3, reqs := [], st := .discarded }
     let s : State := { plotted with steps := [(7, some x)] }
     s.stepAt 7 = some x ∧ x.st = .discarded ∧ s.power.shutdown = 0) := by
  decide +kernel

/-! ### Witnesses: sequencers, cell arrays, Fuller, queues -/

/-- How a state of these tests shows that loom 0 runs. -/
theorem runs_of {s : State} {op : Nat} (h : (s.loom 0).step = some 7 ∧ s.ownerOf 0 = some 2 ∧ s.slotOf 0 = some 120 ∧
    (s.site 5).held = none ∧ retries op (s.loom 0).stall = true ∧
    ((s.loom 0).program[(s.loom 0).ip]?).map opOf = some op) : Runs s loom0 op 2 7 := by
  obtain ⟨h1, h2, h3, h4, h5, h6⟩ := h
  refine ⟨h1, h2, ⟨120, h3, h4⟩, h5, ?_⟩
  obtain ⟨w, hw, ho⟩ := Option.map_eq_some_iff.mp h6
  exact ⟨w, hw, ho⟩

/-- Eight 8-bit weights in one column, no scales; eight activations. -/
def wreg : WRegion := ⟨0, 8, 8, 1, false, none, 0, none, 0, 0⟩
def areg : ARegion := ⟨128, 8, 8, none, 0⟩

/-- Bench word 0 of loom 0 has lost its parity. -/
def flipped (op : Nat) : State := (running op id).upsets loom0.n [0]

/-- Loom 0 at a PASS of a sampled step with 64 columns in its array. -/
def passing (sampled : Bool) : State :=
  { running 3 (fun l => { l with fg := { fmt := 8, rows := 8, cols := 64 } }) with
    steps := [(7, some { plot := 2, mslot := 0, attempt := 3, reqs := [], sampled })] }

theorem witness_LoadExchangePass :
    (Runs (running 1 id) loom0 1 2 7 ∧ ((running 1 id).loom loom0.n).stall = none ∧ loadLegal wreg = true ∧
      BenchReady (running 1 id) loom0 (loadReads wreg) ∧ running 1 id = (running 1 id).upsets loom0.n []) ∧
    (Runs (running 2 (fun l => { l with stall := some .exchange })) loom0 2 2 7 ∧
      ((running 2 (fun l => { l with stall := some .exchange })).loom loom0.n).stall = some .exchange ∧
      BenchReady (running 2 (fun l => { l with stall := some .exchange })) loom0 (loadReads wreg)) ∧
    (loadLegal { wreg with fmt := 0xF } = false ∧ (running 1 id).plotState 2 = 2) ∧
    (Runs (flipped 1) loom0 1 2 7 ∧ BenchFilled (flipped 1) loom0 (loadReads wreg) ∧
      ((flipped 1).loom loom0.n).parityBad (loadReads wreg) = true ∧ (running 1 id).slotOf loom0.n = some 120 ∧
      ((running 1 id).slot 120).parity.1 ≠ 7 + 1) ∧
    (Runs (running 2 (fun l => { l with bgReady := true })) loom0 2 2 7 ∧
      ((running 2 (fun l => { l with bgReady := true })).loom loom0.n).bgReady = true) ∧
    (Runs (running 2 id) loom0 2 2 7 ∧ ((running 2 id).loom loom0.n).bgReady = false ∧
      ((running 2 id).loom loom0.n).stall = none) := by
  refine ⟨⟨runs_of (by decide), by decide, by decide, ?_, rfl⟩, ⟨runs_of (by decide), by decide, ?_⟩, by decide,
    ⟨runs_of (by decide), ?_, by decide⟩, ⟨runs_of (by decide), by decide⟩, runs_of (by decide), by decide, by decide⟩ <;>
    (first | unfold BenchReady BenchFilled | unfold BenchFilled) <;> decide

theorem witness_LoadExchangePass_pass :
    (Runs (passing true) loom0 3 2 7 ∧ passLegal ((passing true).loom loom0.n).fg areg = true ∧ (passing true).slotOf loom0.n = some 120 ∧
      BenchFilled (passing true) loom0 (narrowReads areg ((passing true).loom loom0.n).fg.block) ∧
      ((passing true).loom loom0.n).parityBad (narrowReads areg ((passing true).loom loom0.n).fg.block) = false ∧
      (∀ x, (passing true).stepAt 7 = some x → x.sampled = true) ∧ ((passing true).site (slotTile 120)).assayerOff = false ∧
      64 ≤ ((passing true).loom loom0.n).fg.cols) ∧
    (∀ x, (passing false).stepAt 7 = some x → x.sampled = false) ∧
    (((passing true).upsets loom0.n [16]).loom loom0.n).parityBad (narrowReads areg ((passing true).loom loom0.n).fg.block) = true := by
  refine ⟨⟨runs_of (by decide), by decide, by decide, ?_, by decide, ?_, by decide, by decide⟩, ?_, by decide⟩
  · unfold BenchFilled; decide
  · intro x h; have := Option.some.inj h; rw [← this]
  · intro x h; have := Option.some.inj h; rw [← this]

/-- Loom 0 with one accumulator of a PASS. -/
def accState : State := running 4 (fun l => { l with accs := [⟨0, 0, 0, -6272, -2, .finite, 0, 0, false⟩] })

/-- A program that leaves one partial at the end of the Bench, and one that reads the first word. -/
def parts0 : FullOp := .partials 0x3FFFFC
def sqrt0 : FullOp := .map1 .sqrt ⟨0, 1, 0xE⟩ 64

/-- What a program writes there. -/
def writes (s : State) (op : FullOp) : Written := fullWrites s 2 7 loom0.n (s.loom loom0.n) [] op

/-- Split mode: one bank of weights, one of activations. -/
def split (s : State) : State := withCells s [(0x6102, 1, 1), (0x6102, 2, 1), (0x6102, 3, 1)]

theorem witness_FullerWritesOnlyItsResults :
    (accState.fullLegal 2 loom0.n (.map1 .sqrt ⟨0, 1, 8⟩ 64) = false ∧ accState.plotState 2 = 2) ∧
    (Runs accState loom0 4 2 7 ∧ accState.fullLegal 2 loom0.n parts0 = true ∧ accState.fullAstray 2 loom0.n parts0 = false ∧
      (FullOp_query parts0).any (fun q => accState.attnWaits 2 loom0.n q) = false ∧
      (accState.fullReads 2 loom0.n parts0).any (fun r => !accState.partOk 2 .fuller 0 r.1 r.2) = false ∧
      (writes accState parts0).1.any (fun e => !accState.partOk 2 (FullOp_writer parts0) 0 e.1 e.2.length) = false ∧
      BenchFilled accState loom0 (accState.fullReads 2 loom0.n parts0) ∧
      (accState.loom loom0.n).parityBad (accState.fullReads 2 loom0.n parts0) = false ∧
      (∀ e ∈ (writes accState parts0).1, e.2 ≠ [] →
        (accState.loom loom0.n).pendingIn (lineRange e.1 e.2.length).1 (lineRange e.1 e.2.length).2 = false)) ∧
    ((split accState).fullReads 2 loom0.n sqrt0).any (fun r => !(split accState).partOk 2 .fuller 0 r.1 r.2) = true ∧
    ((writes (split accState) (.partials 0)).1.any
      (fun e => !(split accState).partOk 2 (FullOp_writer (.partials 0)) 0 e.1 e.2.length) = true ∧ (split accState).plotState 2 = 2) ∧
    (Runs (flipped 4) loom0 4 2 7 ∧ ((flipped 4).loom loom0.n).parityBad ((running 4 id).fullReads 2 loom0.n sqrt0) = true ∧
      BenchFilled (flipped 4) loom0 ((running 4 id).fullReads 2 loom0.n sqrt0) ∧ (running 4 id).fullLegal 2 loom0.n sqrt0 = true ∧
      (running 4 id).slotOf loom0.n = some 120 ∧ ((running 4 id).slot 120).parity.1 ≠ 7 + 1) := by
  refine ⟨by decide, ⟨runs_of (by decide), by decide, by decide, by decide, by decide, by decide, ?_, by decide, by decide⟩, by decide,
    by decide, runs_of (by decide), by decide, ?_, by decide⟩ <;> (unfold BenchFilled; decide)

/-- A SEND of this many transfers from Bench address 0. -/
def sent (n : BitVec 6) : SendSrc := .raw 0 n

theorem witness_SendIsTaggedAndChecked :
    (let s : State := { running 5 id with fabric := { plotted.fabric with stale := [(staleKey (loomEndpoint loom0.n 0) 0x0100, true)] } }
     Tab.get false s.fabric.stale (staleKey (loomEndpoint loom0.n 0) (0x0100 : U16).toNat) = true) ∧
    (Runs (running 5 id) loom0 5 2 7 ∧
      Tab.get false (running 5 id).fabric.stale (staleKey (loomEndpoint loom0.n 0) (0x0100 : U16).toNat) = false ∧
      sendLegal (sent 32) = true ∧ (sendReads (sent 32)).any (fun r => !(running 5 id).partOk 2 .fabricOut 0 r.1 r.2) = false) ∧
    (endpointLoom (0x0200 : U16).toNat = some 40 ∧ (running 5 id).ownerOf 40 ≠ some 2 ∧ (running 5 id).plotState 2 = 2) ∧
    (endpointLoom (0x0100 : U16).toNat = some 20 ∧ (running 5 id).ownerOf 20 = some 2 ∧
      BenchFilled (running 5 id) loom0 (sendReads (sent 32)) ∧
      ((running 5 id).loom loom0.n).parityBad (sendReads (sent 32)) = false ∧ sendTransfers (sent 32) ≤ 32 ∧
      (let m : Msg := { epoch := 1, dest := 0x0100, src := 0, plot := 2, cls := 0, kind := 0,
                        payload := ((running 5 id).loom 0).sendBytes (sent 32) }
       (running 5 id).mayInject m = true)) ∧
    (endpointLoom (0x8000 : U16).toNat = none ∧ bit (0x8000 : U16).toNat 15 = true ∧ ¬ (sendTransfers (sent 33) ≤ 32) ∧
      sendLegal (sent 33) = true ∧ ¬ (sendTransfers (sent 3) ≤ 2)) ∧
    (Runs (flipped 5) loom0 5 2 7 ∧ ((flipped 5).loom loom0.n).parityBad (sendReads (sent 1)) = true ∧
      BenchFilled (flipped 5) loom0 (sendReads (sent 1)) ∧ (running 5 id).slotOf loom0.n = some 120 ∧
      ((running 5 id).slot 120).parity.1 ≠ 7 + 1) := by
  refine ⟨by decide, ⟨runs_of (by decide), by decide⟩, by decide, ⟨by decide, by decide, ?_, by decide, by decide, by decide +kernel⟩,
    by decide, runs_of (by decide), by decide, ?_, by decide⟩ <;> (unfold BenchFilled; decide)

/-- An Ethernet read of 64 bytes on path 0, which is off. Loom 0 with entries of it outstanding in queue 3, under the running attempt. -/
def eth0 : QReq := .ether 0 0 64 false 0
def queued (op n : Nat) (st : Option Status) : State :=
  running op (fun l => { l with queues := [(3, { issued := n, entries := (List.range n).map (fun t =>
    ⟨t, eth0, 3, st, [], t⟩) })] })

theorem witness_QueueEntriesAreIssuedAndAwaited :
    (Runs (queued 6 15 none) loom0 6 2 7 ∧ queueTakes 3 eth0 = true ∧
      (queued 6 15 none).badRange 2 loom0.n eth0 = false ∧ (queued 6 15 none).rangeHeld 2 loom0.n eth0 = false ∧
      leavesByFabric eth0 = false ∧ BenchReady (queued 6 15 none) loom0 (sourceRange eth0) ∧
      ((((queued 6 15 none).loom loom0.n).queue 3).entries.filter (fun e => e.status.isNone)).length < queueDepth 3) ∧
    ((running 6 id).badRange 2 loom0.n (.fill 0 0 16) = true ∧ queueTakes 0 (.fill 0 0 16) = true ∧ (running 6 id).plotState 2 = 2 ∧
      Runs (running 6 id) loom0 6 2 7) ∧
    (Runs (queued 6 16 none) loom0 6 2 7 ∧
      queueDepth 3 ≤ ((((queued 6 16 none).loom loom0.n).queue 3).entries.filter (fun e => e.status.isNone)).length ∧
      ((queued 6 16 none).loom loom0.n).stall = none) ∧
    (Runs (queued 7 1 (some .done)) loom0 7 2 7 ∧
      (((queued 7 1 (some .done)).loom loom0.n).queue 3).entries.find?
        (fun e => e.isTicket ((queued 7 1 (some .done)).loom loom0.n).attempt (0 : Byte).toNat) =
        some ⟨0, eth0, 3, some .done, [], 0⟩) ∧
    (Runs (queued 7 1 none) loom0 7 2 7 ∧
      (((queued 7 1 none).loom loom0.n).queue 3).entries.find?
        (fun e => e.isTicket ((queued 7 1 none).loom loom0.n).attempt (0 : Byte).toNat) =
        some ⟨0, eth0, 3, none, [], 0⟩) ∧
    (Runs (queued 8 2 (some .integrity)) loom0 8 2 7 ∧
      (((queued 8 2 (some .integrity)).loom loom0.n).queue 3).entries.all
        (fun e => e.attempt != ((queued 8 2 (some .integrity)).loom loom0.n).attempt || e.status.isSome) = true) ∧
    (Runs (queued 8 2 none) loom0 8 2 7 ∧
      (((queued 8 2 none).loom loom0.n).queue 3).entries.any
        (fun e => e.attempt == ((queued 8 2 none).loom loom0.n).attempt && e.status.isNone) = true) := by
  refine ⟨⟨runs_of (by decide), by decide, by decide, by decide, by decide, ?_, by decide⟩,
    ⟨by decide, by decide, by decide, runs_of (by decide)⟩, ⟨runs_of (by decide), by decide, by decide⟩,
    ⟨runs_of (by decide), by decide⟩, ⟨runs_of (by decide), by decide⟩, ⟨runs_of (by decide), by decide⟩,
    runs_of (by decide), by decide⟩
  unfold BenchReady BenchFilled
  decide

/-- Loom 0 at a HINT word with lead 40 µs and class 3, its last hint this long ago. -/
def hinting (ago : Nat) : State :=
  running 9 (fun l => { l with program := [BitVec.ofNat 64 (9 * 2 ^ 58 + 40 * 256 + 3)], lastHint := some (live.now - ago) })

/-- Step 7 in flight, and loom 0 at STEPEND. -/
def ending : State := { running 0xB id with steps := [(7, some { plot := 2, mslot := 0, attempt := 3, reqs := [] })] }

theorem witness_HintsBranchesStepEnds :
    (Runs (hinting 100000) loom0 9 2 7 ∧
      bits (((hinting 100000).loom loom0.n).program.getD ((hinting 100000).loom loom0.n).ip 0).toNat 15 8 = (40 : Byte).toNat ∧
      bits (((hinting 100000).loom loom0.n).program.getD ((hinting 100000).loom loom0.n).ip 0).toNat 1 0 = (3 : BitVec 2).toNat ∧
      ((hinting 100000).loom loom0.n).lastHint = some (live.now - 100000)) ∧
    (Runs (hinting 99999) loom0 9 2 7 ∧ ((hinting 99999).loom loom0.n).lastHint = some (live.now - 99999) ∧
      (hinting 99999).now < live.now - 99999 + 100000) ∧
    Runs (running 0xA id) loom0 0xA 2 7 ∧
    (Runs ending loom0 0xB 2 7 ∧ ending.stepDone 2 loom0.n = true ∧
      ending.stepAt 7 = some { plot := 2, mslot := 0, attempt := 3, reqs := [] }) ∧
    (((running 12 id).loom loom0.n).step = some 7 ∧ (running 12 id).ownerOf loom0.n = some 2 ∧
      (running 12 id).slotOf loom0.n = some 120 ∧ ((running 12 id).site (slotTile 120)).held = none ∧
      ((running 12 id).loom loom0.n).stall = none ∧
      (((running 12 id).loom loom0.n).program[((running 12 id).loom loom0.n).ip]?).map opOf = some 12 ∧
      (running 12 id).plotState 2 = 2) := by
  refine ⟨⟨runs_of (by decide), by decide, by decide, by decide⟩, ⟨runs_of (by decide), by decide, by decide⟩, runs_of (by decide),
    ⟨runs_of (by decide), by decide, by decide⟩, by decide⟩

/-! ### Witnesses: the Assayer -/

/-- A sample of slot T005.0.0 with no accumulators, of an array with no rows; and one with an accumulator that is not recomputed. -/
def sample0 : Sample :=
  { tile := 5, slot := 120, loom := 0, ip := 0, plot := 2, step := 7, attempt := 3, first := 0, w := { fmt := 8, cols := 64 }, afmt := 8,
    acodes := [], asf := 0, ascales := [], accs := [], forInt := true, forQual := false, limit := 0x3D000000, hold := false }
def sampleBad : Sample := { sample0 with accs := [⟨0, 0, 0, 12345, -2, .finite, 0, 0, false⟩] }
def sampled (x : Sample) : State := { plotted with samples := [x] }

theorem witness_AssayerCompares :
    ((sampled sample0).nextSample 5 2 Sample.forInt = some sample0 ∧ sample0.agrees = true ∧ plotted.defects.length < 256) ∧
    (let s := (sampled sampleBad).updSite 5 (fun c => { c with spareFor := Tab.set none c.spareFor 0 (some 0) })
     s.nextSample 5 2 Sample.forInt = some sampleBad ∧ sampleBad.agrees = false ∧ s.loomAt (slotOfKey sampleBad.slot) = none ∧
       sampleBad.hold = false) ∧
    (let x := { sampleBad with hold := true }
     let z : Step := { plot := 2, mslot := 0, attempt := 3, reqs := [], ended := [0, 1] }
     let s := { (sampled x).updSite 5 (fun c => { c with spareFor := Tab.set none c.spareFor 0 (some 0) }) with steps := [(7, some z)] }
     s.nextSample 5 2 Sample.forInt = some x ∧ x.agrees = false ∧ s.loomAt (slotOfKey x.slot) = none ∧ s.stepAt x.step = some z) ∧
    (let s := sampled sampleBad
     s.nextSample 5 2 Sample.forInt = some sampleBad ∧ s.loomAt (slotOfKey sampleBad.slot) = some 0 ∧
       Tab.get none (s.site (slotOfKey sampleBad.slot).tile.val).spareFor (slotOfKey sampleBad.slot).row.val = none ∧
       Tab.get false (s.site (slotOfKey sampleBad.slot).tile.val).spareBad (slotOfKey sampleBad.slot).row.val = false ∧
       s.epochFree (loomEndpoint 0 0) = true ∧ (s.loom 0).step = none ∧ s.lapseOf none = none) := by
  decide +kernel

/-- A sample of a quality layer's operation whose outputs were all 1.0, and a plot whose image watches that layer. -/
def quality0 : Sample := { sample0 with forInt := false, forQual := true, y := some (List.replicate 64 0x3F800000, 0x3F800000) }
def watching (x : Sample) (above : Bool) : State :=
  (sampled x).updPlot 2 (fun y => { y with image := some { image0 with quality := [[(loom0, 0)]] }, quality := [(0, [(6, 0, 4, false)])],
                                           qualityOver := [(0, above)] })

theorem witness_QualityResidualOverTheWindow :
    ((watching { quality0 with y := none } false).nextSample 5 2 ((watching { quality0 with y := none } false).ofLayer 2 0) = some { quality0 with y := none }) ∧
    (∀ above, (watching quality0 above).nextSample 5 2 ((watching quality0 above).ofLayer 2 (0 : Byte).toNat) = some quality0 ∧
      Tab.get false ((watching quality0 above).plot 2).qualityOver 0 = above ∧
      (let win := (Tab.get [] ((watching quality0 above).plot 2).quality 0 ++
          [(quality0.step, quality0.qualitySums (List.replicate 64 0x3F800000) 0x3F800000)]).drop (1 + 1 - 256)
       (win.map (fun e => e.2.2.1)).sum ≠ 0 ∧ (∀ e ∈ win, e.2.2.2 = false) ∧
         f32less quality0.limit (sqrtF32 (win.map (fun e => e.2.1)).sum (win.map (fun e => e.2.2.1)).sum 0) = true)) := by
  decide +kernel

/-! ### Witnesses: the Cellar -/

/-- Plot 2 owns extent 0 of logical tile 0 (weights); its address field of byte 16. -/
def celled : State := { plotted with cellar := { plotted.cellar with owner := [(0, 3)], use := [(0, 1)] } }
def addr16 : BitVec 40 := 16

/-- Logical tile 0's units are not rebuilt. -/
def lostUnits : State := { celled with cellar := { celled.cellar with unbuilt := [(0, some {})], rebuild := some (0, 0) } }

/-- A message at the Cellar controller of logical tile `lt`. -/
def atCtrl (s : State) (t : Nat) (m : Msg) : State := { s with fabric := { s.fabric with taken := [(ctrl t, [m])] } }

theorem witness_CellarReads :
    (unitOk addr16 4080 = true ∧ unitOk addr16 4081 = false ∧ celled.cellarHeld (caTile 16) = false ∧
      celled.addrOk 16 = true ∧ celled.tagOwns 2 16 = true ∧ celled.poisoned 0 (dataRow 0 16) = false ∧
      (0, dataRow 0 16) ∉ celled.fillingUnits 2 ∧ celled.built 0 (dataRow 0 16) = true ∧
      deadCodes { wrong := [(0, 1), (5, 2)] } (codewordsOf 16 4080) = false ∧
      0 < countWrong { wrong := [(0, 1), (5, 2)] } (codewordsOf 16 4080) 2 ∧
      countWrong { wrong := [(0, 1)] } (codewordsOf 16 4080) 2 = 0 ∧ celled.physOf 0 = some 5 ∧
      (Tab.get [] celled.fabric.taken (ctrl 5)).find? (isReadRequest 2 16 64) = none) ∧
    (let m : Msg := { msg1 with dest := 0, src := 0x0102, cls := 2, kind := 3, payload := readPayload 16 64 }
     (Tab.get [] (atCtrl celled 5 m).fabric.taken (ctrl 5)).find? (isReadRequest 2 16 64) = some m) ∧
    (lostUnits.built 0 (dataRow 0 16) = false ∧ lostUnits.chainHeld 0 (dataRow 0 16) = false ∧ lostUnits.canSupply 0 (dataRow 0 16) = true ∧
      lostUnits.addrOk 16 = true ∧ lostUnits.tagOwns 2 16 = true ∧ lostUnits.poisoned 0 (dataRow 0 16) = false) ∧
    (deadCodes { wrong := [(0, 3)] } (codewordsOf 16 64) = true ∧ celled.chainHeld 0 (dataRow 0 16) = false ∧
      celled.canSupply 0 (dataRow 0 16) = true ∧ (celled.poison 1 (dataRow 0 16)).canSupply 0 (dataRow 0 16) = false ∧
      (celled.poison 1 (dataRow 0 16)).poisoned 0 (dataRow 0 16) = false ∧
      (celled.poison 1 (dataRow 0 16)).chainHeld 0 (dataRow 0 16) = false) ∧
    (celled.tagOwns 3 16 = false ∧ celled.addrOk 0xB0000000 = false ∧ celled.addrOk 0xAFFFFFFF = true) ∧
    ((celled.poison 0 (dataRow 0 16)).poisoned (caTile 16) (dataRow (caTile 16 % 12) (caOffset 16)) = true ∧
      (celled.poison 0 (dataRow 0 16)).tagOwns 2 16 = true) := by
  decide +kernel

/-- A write of two bytes whose parity delta waits. -/
def waitingWrite : CWrite := ⟨0, 0, dataRow 0 16, 16, [1, 2], 2, false, 0⟩
def written : State := { celled with cellar := { celled.cellar with writes := [waitingWrite], nextId := 1 } }

/-- The engine's VC2 message of this kind and reference. -/
def engineMsg (kind : BitVec 3) (ref : Nat) (payload : List Byte) : Msg :=
  { msg1 with plot := 0x1F, cls := 2, kind, payload, ref }

theorem witness_CellarWritesAndTheirParity :
    (unitOk addr16 2 = true ∧ celled.cellarHeld 0 = false ∧ celled.addrOk 16 = true ∧ celled.tagOwns 2 16 = true ∧
      celled.built 0 (dataRow 0 16) = true ∧ celled.poisoned 0 (dataRow 0 16) = false ∧
      (∀ m ∈ Tab.get [] celled.fabric.taken (ctrl ((celled.physOf 0).getD 112)),
        (isDataWrite 2 [5, 6] m && parcelOf 16 m.ref != 0) = false) ∧ celled.physOf (0 / 12 * 12 + dataRow 0 16 % 12) = some 6) ∧
    (let s := atCtrl written 6 (engineMsg 2 0 [1, 2])
     s.cellar.writes.find? (fun x => x.id == 0) = some waitingWrite ∧ waitingWrite.applied = false ∧
       s.deltaPath waitingWrite = some (ctrl 5, ctrl 6) ∧ s.arrived (ctrl 6) (isVc2 0x1F 2 0) = true ∧
       s.cellarHeld waitingWrite.parityTile = false ∧ s.built waitingWrite.parityTile waitingWrite.row = true) ∧
    (written.cellar.writes.find? (fun x => x.id == 0 && x.applied) = none) ∧
    (∀ parcel, parcel < 2 →
      let w := { waitingWrite with applied := true, parcel }
      let s := atCtrl { written with cellar := { written.cellar with writes := [w] } } 5 (engineMsg 6 0 [])
      s.cellar.writes.find? (fun x => x.id == 0 && x.applied) = some w ∧ s.deltaPath w = some (ctrl 5, ctrl 6) ∧
        s.arrived (ctrl 5) (isVc2 0x1F 6 0) = true ∧ w.plot < 16) := by
  decide +kernel

theorem witness_CellarWritesAndTheirParity_chain :
    ((List.replicate 4096 (0 : Byte)).length = 4096 ∧ 0 ∈ others 3 ∧ 1 ∈ others 3 ∧ chainPrev 3 0 = none ∧ chainPrev 3 1 = some 0 ∧
      chainNext 3 0 = 1 ∧ chainNext 3 1 = 2 ∧ live.physOf 0 = some 5 ∧ live.physOf 1 = some 6 ∧ live.physOf 2 = some 9 ∧
      live.built 1 5 = true ∧ live.poisoned 1 5 = false ∧ live.cellarHeld 1 = false ∧ live.built 0 5 = true ∧
      live.poisoned 0 5 = false ∧ live.cellarHeld 0 = false ∧ deadCodes {} (List.range 128) = false) ∧
    (let s := atCtrl live 6 (engineMsg 4 (chainRef 3 5) (List.replicate 4096 1))
     s.arrived (ctrl 6) (fun x => isVc2 0x1F 4 (chainRef 3 5) x && x.payload == List.replicate 4096 1) = true) := by
  decide +kernel

theorem test_write_lands_and_leaves_its_delta :
    (nextOf (exec (.cellarWrite addr16 2 [5, 6]) celled)).map (fun t =>
      (t.cbytes (unitAddr 0 (dataRow 0 16) + 16) 2, t.cellar.writes.map CWrite.delta)) = some ([5, 6], [[5, 6]]) := by decide +kernel

/-- The example of R157 and R146: tile 57, offset 0x00123456. -/
theorem test_R146_example :
    caTile 0x3900123456 = 57 ∧ caOffset 0x3900123456 = 0x00123456 ∧ dataRow (57 % 12) 0x00123456 = 317 ∧
      geometry (4096 * 317 + 0x00123456 % 4096) = (42, 4, 3, 0) := by decide

theorem witness_RefreshAndRebuild :
    (live.refreshNs 5 ≠ 0 ∧ Tab.get 0 live.cellar.refresh (5 * 48) / 4096 = { live with now := 63999 }.now / live.refreshNs 5 ∧
      Tab.get 0 live.cellar.refresh (5 * 48) % 4096 < 2048) ∧
    (let s : State := { live with now := 63999, cellar := { live.cellar with refresh := [(5 * 48, 2048)] } }
     s.refreshNs 5 ≠ 0 ∧ Tab.get 0 s.cellar.refresh (5 * 48) / 4096 = s.now / s.refreshNs 5 ∧
       2048 ≤ Tab.get 0 s.cellar.refresh (5 * 48) % 4096 ∧
       s.poisoned (s.site 5).logical (scrubAt 0 (Tab.get 0 s.cellar.scrub (5 * 48) % scrubAccesses)).1 = false ∧
       s.built (s.site 5).logical (scrubAt 0 (Tab.get 0 s.cellar.scrub (5 * 48) % scrubAccesses)).1 = true ∧
       deadCodes { wrong := [(0, 1)] } (codewordsOf (512 * (scrubAt 0 0).2) 512) = false ∧
       0 < countWrong { wrong := [(0, 1)] } (codewordsOf (512 * (scrubAt 0 0).2) 512) 1) ∧
    (live.refreshNs 5 ≠ 0 ∧ Tab.get 0 live.cellar.refresh (5 * 48) / 4096 ≠ live.now / live.refreshNs 5) ∧
    (live.refreshNs 8 = 0 ∧ (30 : Fin 32).val ≠ 31 ∧ (30 : Fin 32).val ≠ 15) ∧
    (live.wheelRuns 5 = true ∧ live.cell 0x6030 6 = 64 ∧ 1360 < int16 (1361 : U16).toNat) ∧
    ((withCells live [(0x6030, 6, 32)]).wheelRuns 5 = true ∧ (withCells live [(0x6030, 6, 32)]).cell 0x6030 6 = 32 ∧
      int16 (1312 : U16).toNat ≤ 1312) ∧
    live.wheelRuns 7 = false ∧
    (let s : State := { live with cellar := { live.cellar with waiting := [1], unbuilt := [(1, some {})] } }
     s.cellar.rebuild = none ∧ s.cellar.waiting.head? = some 1) ∧
    (lostUnits.cellar.rebuild = some (0, 0) ∧ Tab.get none lostUnits.cellar.unbuilt 0 = some {} ∧ lostUnits.cellarHeld 0 = false ∧
      lostUnits.chainHeld 0 1 = false ∧ lostUnits.nextUnbuilt 0 {} = some (0, 1) ∧ lostUnits.poisoned 0 1 = false ∧ lostUnits.canSupply 0 1 = true ∧
      Tab.get 0 lostUnits.cellar.erase (rowExtent 0 1) = 0) := by
  decide +kernel

/-! ### Witnesses: the Pantry -/

/-- Request 99 of plot 2 in Order Book entry 3, with page 0 at this word; path 0 has USE 1. -/
def paged (w : Nat) (f : Ob → Ob) : State :=
  let s := (celled.updPlot 2 (fun y => { y with image := some image0, pools := [(0, { desc := pool0, used := [0], remote := [] })] }))
  (s.setBlob 0x5102 1 (wordsLe 8 [0, 2 ^ 61 + 2 ^ 59, 0, 0, 0, 0, 0, 0])).updOb 3 (fun o => f { o with
    request := 99, plot := 2, mslot := 0, st := .pausedCool, committed := 64, provisional := 64, pageHead := 3, qp := 64,
    main := [(0, w)] })

theorem witness_CellarWritesAndTheirParity_append :
    let z : Step := { plot := 2, mslot := 0, attempt := 0, reqs := [] }
    let s := atCtrl { paged (pgWord 1 0) (fun o => { o with st := .decode, committed := 63, provisional := 64, step := some 7 }) with
        steps := [(7, some z)] } 5
      { engineMsg 2 (appendRef 0 0 99 63 0 0) (List.replicate 64 0 ++ List.replicate 64 0) with plot := 2 }
    (s.physOf (0 / 176) = some 5 ∧
      s.arrived (ctrl 5) (isAppend 2 (appendRef 0 0 99 63 0 0) (List.replicate 64 0) []) = true ∧ (s.obAt 3).step = some 7 ∧
      s.stepAt 7 = some z ∧ z.st = .running) ∧
    s.findReq 2 99 = some 3 ∧ s.pool 2 0 = some { desc := pool0, used := [0], remote := [] } ∧
    (s.plot 2).image = some image0 ∧ s.listOf 2 3 0 = some false ∧
    imageExtent image0 (portionAt pool0 0 (pgFrame ((s.obAt 3).page false (63 / 64)))).1 = some 0 ∧
    ((s.obAt 3).committed ≤ 63 ∧ 63 < (s.obAt 3).provisional ∧ 0 < pool0.layers.toNat ∧ 0 < pool0.kvHeads.toNat ∧
      (List.replicate 64 (0 : Byte)).length = poolCb pool0 ∧ ([] : List Byte).length = poolSb pool0 ∧
      pgState ((s.obAt 3).page false 0) = 1 ∧
      ∀ y ∈ rangeUnits 0 (63 * 64) 64 ++ rangeUnits 0 (perExtent pool0 * codeSize pool0) 0, s.rowHeld y.1 y.2 = false) ∧
    ¬ ((s.obAt 3).committed ≤ 64 ∧ 64 < (s.obAt 3).provisional) := by
  decide +kernel

theorem witness_SpillsMoveOnePage :
    (let s := paged (pgWord 2 0) id
     s.pageCtx 2 99 false = some (3, s.obAt 3, 0, { desc := pool0, used := [0], remote := [] }, image0) ∧
       s.findReq 2 99 = some 3 ∧ (s.obAt 3).find (fun d j => (s.obAt 3).spillable d j) = some (false, 0) ∧
       s.spillPath 2 = some 0 ∧ (s.obAt 3).st = .pausedCool ∧ (s.obAt 3).filling = false ∧ s.hintHolds (s.obAt 3) = false ∧
       s.frameHeld image0 pool0 (pgFrame ((s.obAt 3).page false 0)) = false ∧
       s.frameLost image0 pool0 (pgFrame ((s.obAt 3).page false 0)) = none) ∧
    (let s := paged (pgWord 3 0) (fun o => { o with moving := [0], remoteOf := [(0, 1)], spillBy := [(0, 60000000)] })
     s.pageCtx 2 99 false = some (3, s.obAt 3, 0, { desc := pool0, used := [0], remote := [] }, image0) ∧
       (s.obAt 3).moving.contains (pageKey false 0) = true ∧ pgState ((s.obAt 3).page false 0) = 3 ∧
       (s.obAt 3).st = .pausedCool ∧ (s.obAt 3).late s.now false 0 = false) ∧
    (let s := paged (pgWord 3 0) (fun o => { o with moving := [0], remoteOf := [(0, 1)], spillBy := [(0, 1)] })
     s.pageCtx 2 99 false = some (3, s.obAt 3, 0, { desc := pool0, used := [0], remote := [] }, image0) ∧
       (s.obAt 3).moving.contains (pageKey false 0) = true ∧ pgState ((s.obAt 3).page false 0) = 3 ∧
       (s.obAt 3).st.live = true ∧ (s.obAt 3).st ≠ .draining ∧ (s.obAt 3).late s.now false 0 = true) := by
  refine ⟨⟨rfl, ?_⟩, ⟨rfl, ?_⟩, ⟨rfl, ?_⟩⟩ <;> decide +kernel

theorem witness_FillsBringThePageBack :
    (let s := paged (pgWord 4 0) (fun o => { o with filling := true })
     s.pageCtx 2 99 false = some (3, s.obAt 3, 0, { desc := pool0, used := [0], remote := [] }, image0) ∧
       s.findReq 2 99 = some 3 ∧ (s.obAt 3).find (fun d j => pgState ((s.obAt 3).page d j) == 4) = some (false, 0) ∧
       s.spillPath 2 = some 0 ∧ (s.obAt 3).fillsRun = true ∧
       PoolSt.pick { desc := pool0, used := [0], remote := [] } (0 % 1) s.cellar.writes.length (fun f => s.frameBusy 2 pool0 f) = some 1) ∧
    (let s := paged (pgWord 5 0) (fun o => { o with moving := [0], remoteOf := [(0, 1)], tries := [(0, 1)] })
     s.pageCtx 2 99 false = some (3, s.obAt 3, 0, { desc := pool0, used := [0], remote := [] }, image0) ∧
       (s.obAt 3).moving.contains (pageKey false 0) = true ∧ pgState ((s.obAt 3).page false 0) = 5 ∧
       (s.obAt 3).st.live = true ∧ (s.obAt 3).st ≠ .draining ∧ Tab.get 0 (s.obAt 3).tries (pageKey false 0) < 2 ∧
       s.spillPath 2 = some 0 ∧ s.frameHeld image0 pool0 (pgFrame ((s.obAt 3).page false 0)) = false) ∧
    (let s := paged (pgWord 5 0) (fun o => { o with moving := [0], remoteOf := [(0, 1)], tries := [(0, 2)] })
     2 ≤ Tab.get 0 (s.obAt 3).tries (pageKey false 0) ∧ (s.obAt 3).consumed = false ∧
       pgState ((s.obAt 3).page false 0) = 5) := by
  refine ⟨⟨rfl, ?_⟩, ⟨rfl, ?_⟩, ?_⟩ <;> decide +kernel

/-! ### Witnesses: loads -/

/-- Plot 2 is CREATED with a quota of extents and no image. -/
def created : State := withCells plotted [(0x3002, 1, 1), (0x3002, 4, 20)]

/-- The load descriptor names map generation 1; it stands in the mailbox. -/
def loadBody : List Byte := List.replicate 12 0 ++ 1 :: List.replicate 19 0
def loadAsked (s : State) : State := asked s (writeReq 0x3102 0x10 loadBody)

theorem witness_LoadsAreCheckedBeforeTheyAreTaken :
    (WriteArrives (loadAsked created) hostA 0x3102 0x10 loadBody ∧ field loadBody 16 16 / 2 = 0 ∧
      (loadAsked created).plotState 2 = 1 ∧ ((loadAsked created).plot 2).drain = none ∧ (loadAsked created).cell 0x3102 3 = 0) ∧
    (loadAsked created).classMatches { image0 with header := header0 0x4E435733 0x02600300 0 } = false ∧
    ((loadAsked created).classMatches image0 = true ∧ (loadAsked created).imageBad 2 { image0 with header := header0 0 0x016C0300 0 } = some .badValue) ∧
    ((loadAsked created).imageBad 2 image0 = none ∧ (loadAsked created).planBad 2 image0 2 = some .busy ∧
      field loadBody 12 4 = 1 ∧ (loadAsked created).planBad 2 image0 1 = none) ∧
    (let s := loadAsked (withCells plotted [(0x3002, 1, 4)])
     WriteArrives s hostA 0x3102 0x10 loadBody ∧ s.plotState 2 = 4) ∧
    (let s := (paged (pgWord 3 0) (fun o => { o with moving := [0] })).updPlot 2 (fun y => { y with
        drain := some .reload, loading := some (image0, 0, .a) })
     (s.plot 2).drain = some .reload ∧ (s.plot 2).loading = some (image0, 0, .a) ∧ s.plotDrained 2 = false) ∧
    (let s := (paged (pgWord 2 0) id).updPlot 2 (fun y => { y with drain := some .reload, loading := some (image0, 0, .a) })
     (s.plot 2).drain = some .reload ∧ s.plotDrained 2 = true) := by
  simp only [WriteArrives, Arrives, hostA]
  decide +kernel

/-! ### Witnesses: images, Parcels, routes, completions -/

/-- Plot 2 with a load in progress in this phase. -/
def loadingImage (im : Image) (phase : Nat) : State :=
  (withCells created [(0x3102, 3, phase)]).updPlot 2 (fun y => { y with loading := some (im, 1, .a) })

theorem witness_ImagesAreAuthenticatedApplied :
    (let s := (loadingImage image0 2).setBlob 0x8102 1 [9]
     (s.plot 2).loading = some (image0, 1, .a) ∧ s.cell 0x3102 3 = 2 ∧ (s.plot 2).abandon = false ∧ s.constableBusy = false ∧
       image0.signer = s.blobAt 0x8102 1 ∧ (s.blobAt 0x8102 1).any (fun b => b != 0) = true) ∧
    (let s : State := { loadingImage image0 2 with procs := { live.procs with constableLost := true } }
     (s.plot 2).loading = some (image0, 1, .a) ∧ s.constableBusy = true) ∧
    ((loadingImage image0 2).blobAt 0x8102 1).any (fun b => b != 0) = false ∧
    (let s := loadingImage image0 3
     s.cell 0x3102 3 = 3 ∧ (s.plot 2).abandon = false ∧ s.constableBusy = false ∧ copyExtents image0 ≤ (s.firstFree 2 (copyExtents image0)).length ∧
       1 = s.cell 0x7021 1 ∧ onCycle (image0.routes.filter (fun r => r.cls == 0)) = [] ∧
       onCycle (image0.routes.filter (fun r => r.cls == 1)) = [] ∧ (image0.looms.map (fun y => y.loom.n)).Nodup) ∧
    (let s := loadingImage image0 4
     s.cell 0x3102 3 = 4 ∧ (∀ n, n < image0.manifest.length → (s.plot 2).written.contains n = true) ∧
       (∀ w ∈ s.cellar.writes, w.plot ≠ 2) ∧ s.plotState 2 = 1) := by
  decide +kernel

/-- A Parcel of one BF16 block for image 77, manifest entry 0; and one with another magic number. -/
def parcel0 : List Byte :=
  wordsLe 8 [0x4E504C33 + 0xC * 2 ^ 32 + 2 ^ 48, 0, 0, 77, 0, 0, 0, 0] ++ List.replicate 4032 0
def imageP : Image := { image0 with manifest := [⟨0, 0, 0, 0⟩] }
def parcelState : State :=
  let s := (loadingImage imageP 4).updPlot 2 (fun y => { y with image := some imageP, keys := [(0, [1])] })
  { s.setBlob 0x5102 1 (wordsLe 8 [0, 2 ^ 61, 0, 0, 0, 0, 0, 0]) with cellar := celled.cellar }

/-- The same Parcel for a ring that loom 0 reads, held by a Parcel that loom 0 has, or has not, filled. -/
def imageRing : Image := { imageP with streams := [{ layer := 4, ring := [0], readers := [loom0], bytes := 4096, rIn := 10, bMin := 0 }] }
def ringState (filled : List Nat) : State :=
  parcelState.updPlot 2 (fun y => { y with image := some imageRing, ring := [(0, some filled)] })

theorem witness_ParcelIsWholeOrNothing :
    parcel0.length = 4096 ∧ (parcelState.plot 2).image = some imageP ∧ imageP.manifest[0]? = some ⟨0, 0, 0, 0⟩ ∧
    parcelState.constableBusy = false ∧ pathOn (parcelState.pathDesc 2 0) = true ∧ pathUse (parcelState.pathDesc 2 0) = 0 ∧
    parcelState.cell 0x3102 3 = 4 ∧
    (parcelFails parcel0 true (Tab.get [] (parcelState.plot 2).keys (hdr parcel0 6 / 2 ^ 32 % 2) != []) imageP.imageId 0 = none ∧
      imageExtent imageP 0 = some 0 ∧ caTile (extentAddr 0 0) = 0 ∧ parcelState.tagOwns 2 (extentAddr 0 0) = true ∧
      parcelState.ringFree 2 imageP ⟨0, 0, 0, 0⟩ = true ∧ parcelState.rowHeld 0 (dataRow 0 0) = false ∧
      parcelState.physOf (caTile (extentAddr 0 0)) = some 5 ∧ ringReaders imageP 0 = []) ∧
    ((ringState []).ringFree 2 imageRing ⟨0, 0, 0, 0⟩ = false ∧ (ringState [0]).ringFree 2 imageRing ⟨0, 0, 0, 0⟩ = true ∧
      ringReaders imageRing 0 ≠ []) ∧
    (parcelFails parcel0 false (Tab.get [] (parcelState.plot 2).keys (hdr parcel0 6 / 2 ^ 32 % 2) != []) imageP.imageId 0 = some 1 ∧
      (parcelState.plot 2).retried.contains 0 = false ∧
      ((parcelState.updPlot 2 (fun y => { y with retried := [0] })).plot 2).retried.contains 0 = true) := by
  decide +kernel

/-- The Parcel at the controller of logical tile 0. -/
def parcelMsg : Msg := { msg1 with cls := 2, kind := 2, payload := parcel0, ref := parcelRef 0 0 }

theorem witness_ParcelIsWholeOrNothing_write :
    let s := atCtrl parcelState 5 parcelMsg
    (unitOk 0 parcel0.length = true ∧ s.cellarHeld 0 = false ∧ s.addrOk 0 = true ∧ s.tagOwns 2 0 = true ∧
      s.built 0 (dataRow (0 % 12) (caOffset 0)) = true) ∧
    (Tab.get [] s.fabric.taken (ctrl ((s.physOf 0).getD 112))).find? (fun m => isDataWrite 2 parcel0 m && parcelOf 0 m.ref != 0) =
      some parcelMsg := by
  have h : (isDataWrite 2 parcel0 parcelMsg && parcelOf 0 parcelMsg.ref != 0) = true := by decide +kernel
  exact ⟨by decide +kernel, List.find?_cons_of_pos (l := []) h⟩

/-- A route of plot 2 from tile T005 to tile T006, derived again and with its channel. -/
def route0 : Route := ⟨BitVec.ofNat 128 (2 ^ 124 + 2 ^ 109 + 0x7F * 2 ^ 102), [(5, 1, 3)]⟩
def imageR : Image := { image0 with header := header0 0x4E435733 0x016C0300 1, routes := [route0] }
def derivedState (missing : List Nat) : State :=
  { plotted.updPlot 2 (fun y => { y with image := some imageR }) with
    fabric := { plotted.fabric with derived := [⟨2, route0, missing⟩] } }

theorem witness_DerivedRoutesAreLoaded :
    (((derivedState []).plot 2).image = some imageR ∧
      (derivedState []).fabric.derived.filter (fun d => d.plot == 2 && d.missing == []) = [⟨2, route0, []⟩] ∧
      (∀ rs : List Route, rs.Sublist (imageR.routes.map (newPath [⟨2, route0, []⟩])) → onCycle rs = []) ∧
      (derivedState []).fabric.parked = []) ∧
    ((derivedState [21]).fabric.derived.find? (fun d => d.missing.contains (5 * 4 + 1)) = some ⟨2, route0, [21]⟩ ∧
      (derivedState [21]).chanPlot (chanKey 5 1 3) = none) ∧
    ((derivedState []).fabric.waitChan = [] ∧
      (derivedState []).fabric.derived.find? (fun d => d.missing.contains (5 * 4 + 1)) = none) := by
  refine ⟨⟨rfl, by decide, ?_, rfl⟩, by decide⟩
  intro rs h
  have all : ∀ r ∈ (imageR.routes.map (newPath [⟨2, route0, []⟩])).sublists, onCycle r = [] := by decide
  exact all rs (List.mem_sublists.mpr h)

/-- This request of loom 0 is outstanding in this queue, under this attempt, with these bytes taken away. -/
def outstanding (q : Nat) (r : QReq) (attempt : Nat) (data : List Byte) : State :=
  { running 7 (fun l => { l with queues := [(q, { issued := 1, entries := [⟨0, r, attempt, none, data, 0⟩] })] }) with
    cellar := celled.cellar }
/-- A fill at the end of the Bench, one from tile T006, a drain, a host read. -/
def fill0 : QReq := .fill 0 0x3FFFF0 16
def fillFar : QReq := .fill 0x100000000 0x3FFFF0 16
def drain0 : QReq := .drain 0 0 16
def hostRead : QReq := .host .a 0 0 16 false

/-- The hypotheses on an outstanding entry. -/
def Entry (s : State) (q : Nat) (a : BitVec 4) (e : QEntry) (waits stale : Bool) : Prop :=
  ((s.loom loom0.n).queue q).entries.find? (fun e => e.isTicket a.toNat (0 : Byte).toNat && e.status.isNone) = some e ∧
  s.ownerOf loom0.n = some 2 ∧ stale = ((s.loom loom0.n).step.isNone || a.toNat != (s.loom loom0.n).attempt) ∧
  s.entryWaits 2 loom0.n q e .done {} stale = waits

theorem witness_CompletionsReachTheLoom :
    Entry ((outstanding 0 fill0 3 []).updSite 5 (fun c => { c with held := some 0 })) 0 3 ⟨0, fill0, 3, none, [], 0⟩ true false ∧
    (Entry (outstanding 5 hostRead 2 []) 5 2 ⟨0, hostRead, 2, none, [], 0⟩ false true ∧ (outstanding 5 hostRead 2 []).portUp .a = true) ∧
    (Entry (outstanding 1 drain0 2 (List.replicate 16 9)) 1 2 ⟨0, drain0, 2, none, List.replicate 16 9, 0⟩ false true ∧
      (outstanding 1 drain0 2 []).rangeOwned 2 0 16 = true) ∧
    (Entry (outstanding 0 fill0 3 []) 0 3 ⟨0, fill0, 3, none, [], 0⟩ false false ∧
      (let s := outstanding 0 fill0 3 []
       s.fillRange 2 loom0.n fill0 = some (0x3FFFF0, 16) ∧ s.cellarStatus 2 loom0.n fill0 = .done ∧
       (∀ x ∈ s.ownPieces 2 loom0.n fill0, s.built (unitOf x.1.1).1 (unitOf x.1.1).2 = true ∧
         deadCodes (EccFound.piece { wrong := [(0, 1)] } x.2) (codewordsOf (caOffset x.1.1 % 4096) x.1.2) = false) ∧
       (∀ x ∈ s.piecesOf 2 loom0.n fill0, s.remoteTile loom0.n x.1 = none))) := by
  unfold Entry
  decide +kernel

theorem witness_CompletionsReachTheLoom_others :
    (let m : Msg := { msg1 with cls := 2, kind := 4, ref := pieceRef 0 0 0 3 0 }
     let s0 := outstanding 0 fillFar 3 []
     let s : State := { s0 with
       fabric := { s0.fabric with taken := [(loomEndpoint 0 2, [m])] }
       cellar := { s0.cellar with owner := [(176, 3)], use := [(176, 1)] } }
     Entry s 0 3 ⟨0, fillFar, 3, none, [], 0⟩ false false ∧ s.cellarStatus 2 loom0.n fillFar = .done ∧
       s.piecesOf 2 loom0.n fillFar = [(0x100000000, 16)] ∧ s.remoteTile loom0.n 0x100000000 = some 6 ∧
       (Tab.get [] s.fabric.taken (loomEndpoint loom0.n 2)).find? (isVc2 2 4 (pieceRef loom0.n 0 0 3 0)) = some m ∧
       s.ownPieces 2 loom0.n fillFar = []) ∧
    (let r : QReq := .expect 99 64
     let x : Step := { plot := 2, mslot := 0, attempt := 3, reqs := [], appends := [⟨0, 0, 99, 64, 0, 0, []⟩] }
     Entry { outstanding 2 r 3 [] with steps := [(7, some x)] } 2 3 ⟨0, r, 3, none, [], 0⟩ false false) ∧
    (let r : QReq := .ferry 3 0 136
     Entry (outstanding 4 r 3 []) 4 3 ⟨0, r, 3, none, [], 0⟩ false false) ∧
    (Entry (withCells (outstanding 5 hostRead 3 []) [(0x2000, 1, 0)]) 5 3 ⟨0, hostRead, 3, none, [], 0⟩ false false ∧
      (withCells (outstanding 5 hostRead 3 []) [(0x2000, 1, 0)]).portUp .a = false) ∧
    (let s := running 3 (fun l => { l with stall := some (.unfilled 100 0 1), pending := [(1, [1])] })
     (s.loom loom0.n).stall = some (.unfilled 100 0 1) ∧ s.ownerOf loom0.n = some 2 ∧ (s.loom loom0.n).pendingIn 0 1 = false) ∧
    ((ringState []).plot 2).image = some imageRing ∧ imageRing.streams.any (fun x => x.layer == 4) = true := by
  unfold Entry
  decide +kernel

/-! ### Witnesses: steps and plots -/

/-- Plot 2 serves image0; queue pair 64 is ACTIVE with rings of 16; request 99 in entry 3 as given. -/
def serving (o : Ob → Ob) (q : Qp → Qp) : State :=
  let s := withCells (plotted.updPlot 2 (fun y => { y with image := some image0, pools := [(0, { desc := pool0 })] })) [(0x3102, 3, 5)]
  (s.updQp 64 (fun x => q { x with st := .active, c2 := 0x10404 })).updOb 3 (fun x => o { x with
    request := 99, plot := 2, mslot := 0, st := .queued, budget := 10, qp := 64, turnOpen := true })

/-- A request with ten words of input. -/
def queuedReq : State := serving (fun o => { o with inputs := [⟨0x1000, 10, 0, 5, 0, true, false⟩] }) id

theorem witness_StepTakesWhatTheLimitsAllow :
    ((queuedReq.plot 2).image = some image0 ∧ queuedReq.model 2 0 = some model0 ∧ queuedReq.mayForm 2 0 image0 model0 = true ∧
      queuedReq.inGap 2 0 = false ∧
      ((queuedReq.candidates 2 0).foldl (State.consider 2 model0) (queuedReq, [], 0, 0)).2.1 = [⟨3, 11, 0, 10⟩]) ∧
    (let s := queuedReq.updPlot 2 (fun y => { y with gap := 10 })
     s.candidates 2 0 ≠ [] ∧ s.inGap 2 0 = true ∧ s.mayForm 2 0 image0 model0 = true) := by
  decide +kernel

/-- Step 7 of request 99: one position and two drafts, every loom at STEPEND. -/
def stepDone (r : StepReq) (ended : List Nat) (ins : List Input) : State :=
  let s := serving (fun o => { o with st := .decode, step := some 7, committed := 70, provisional := 73, inputs := ins }) id
  { s with steps := [(7, some { plot := 2, mslot := 0, attempt := 3, reqs := [r], ended })], nextStep := 8 }

theorem witness_StepCommitsItsTokens :
    (let s := stepDone ⟨3, 3, 2, 0⟩ [0] []
     s.stepAt 7 = some { plot := 2, mslot := 0, attempt := 3, reqs := [⟨3, 3, 2, 0⟩], ended := [0] } ∧
       (∀ n ∈ s.footprint 2, n ∈ [0]) ∧ outFits (s.obAt 3) ⟨3, 3, 2, 0⟩ (s.outOf [⟨99, 1, [11, 12], false, false⟩] ⟨3, 3, 2, 0⟩) = true ∧
       (s.obAt 3).step = some 7 ∧ (s.obAt 3).left = false ∧ (s.obAt 3).samples ⟨3, 3, 2, 0⟩ = true ∧
       s.outOf [⟨99, 1, [11, 12], false, false⟩] ⟨3, 3, 2, 0⟩ = some ⟨99, 1, [11, 12], false, false⟩ ∧ (s.obAt 3).budget - 2 ≠ 0) ∧
    (let s := stepDone ⟨3, 4, 0, 4⟩ [0] [⟨0x1000, 10, 0, 5, 0, true, false⟩]
     outFits (s.obAt 3) ⟨3, 4, 0, 4⟩ (s.outOf [] ⟨3, 4, 0, 4⟩) = true ∧ (s.obAt 3).samples ⟨3, 4, 0, 4⟩ = false) ∧
    (0 ∈ (stepDone ⟨3, 3, 2, 0⟩ [] []).footprint 2 ∧ 0 ∉ ([] : List Nat)) := by
  decide +kernel

theorem witness_StepCommitsItsTokens_waits :
    (let s := { stepDone ⟨3, 3, 2, 0⟩ [0] [] with samples := [{ sample0 with hold := true }] }
     s.checkDue 7 = true ∧ (stepDone ⟨3, 3, 2, 0⟩ [0] []).checkDue 7 = false) ∧
    (let s := stepDone ⟨3, 3, 2, 0⟩ [0] []
     let v : State := { s with cellar := { s.cellar with writes := [waitingWrite] } }
     (∃ w ∈ v.cellar.writes, w.plot = 2 ∧ w.parcel = 0) ∧ s.cellar.writes = []) := by
  decide +kernel

theorem test_commit_posts_two_tokens :
    (nextOf (exec (.stepCommit 7 [⟨99, 1, [11, 12], false, false⟩]) (stepDone ⟨3, 3, 2, 0⟩ [0] []))).map (fun t =>
      ((t.obAt 3).committed, (t.obAt 3).pendingTok, (t.obAt 3).budget)) = some (72, some 12, 8) := by decide +kernel

/-- A create descriptor for plot 3: loom 21, 10 extents, 50 entries, queue pairs 100 to 103, 500 W, rights of host A. -/
def createBody : List Byte :=
  [0, 0, 0x20] ++ List.replicate 267 0 ++ [0, 0] ++ toLe 4 10 ++ toLe 4 50 ++ toLe 2 100 ++ toLe 2 4 ++ toLe 4 500
    ++ [0xFF, 0xFF, 1, 0, 0, 0, 0, 0]
def owning (s : State) : State := { s with keys := [(0, 0x1000)] }

theorem witness_PlotsAreCreatedWhole :
    (let s := asked (owning plotted) (writeReq 0x3003 0x10 createBody)
     WriteArrives s hostA 0x3003 0x10 createBody ∧ s.createRefused 3 createBody = none ∧ loomMap createBody = [21]) ∧
    (let s := asked (owning plotted) (writeReq 0x3002 0x10 createBody)
     WriteArrives s hostA 0x3002 0x10 createBody ∧ s.createRefused 2 createBody = some .busy) ∧
    (let s := asked (owning plotted) (writeReq 0x3002 8 (toLe 4 100))
     WriteArrives s hostA 0x3002 (5 + 3) (toLe 4 100) ∧ s.resizeRefused 2 (5 + 3) (ofLe (toLe 4 100)) = none ∧
       s.resizeRefused 2 (5 + 3) 99 = some .badValue) := by
  simp only [WriteArrives, Arrives, hostA]
  decide +kernel

theorem witness_PlotsStopDrainAndAreErased :
    (let s := asked (owning plotted) (writeReq 0x3002 0x11 [1])
     WriteArrives s hostA 0x3002 0x11 [1] ∧ s.windingDown 2 = false) ∧
    (let s := asked (owning (withCells plotted [(0x3002, 1, 3)])) (writeReq 0x3002 0x11 [1])
     WriteArrives s hostA 0x3002 0x11 [1] ∧ s.windingDown 2 = true) ∧
    (let s := asked (owning plotted) (writeReq 0x3002 0x11 [2])
     WriteArrives s hostA 0x3002 0x11 [2] ∧ s.windingDown 2 = false ∧ (s.plot 2).loading = none) ∧
    (let s := (withCells plotted [(0x3002, 1, 3)]).updPlot 2 (fun y => { y with drain := some .teardown })
     (s.plot 2).drain = some .teardown ∧ s.plotState 2 = 3 ∧ (s.plot 2).loading = none ∧ s.plotDrained 2 = true ∧
       ({ s with steps := [(7, some { plot := 2, mslot := 0, attempt := 0, reqs := [] })] } : State).plotDrained 2 = false) ∧
    (let s := plotted.updPlot 2 (fun y => { y with drain := some .reset })
     (s.plot 2).drain = some .reset ∧ s.plotDrained 2 = true) ∧
    (let s : State := { withCells plotted [(0x3002, 1, 4)] with cellar := { live.cellar with erase := [(5, 3)] } }
     s.pendingErase 2 = [5] ∧ s.eraseHeld 5 = false ∧ s.plotState 2 = 4 ∧
       ({ s with procs := { s.procs with constableLost := true } } : State).eraseHeld 5 = true) := by
  simp only [WriteArrives, Arrives, hostA]
  decide +kernel

/-! ### Witnesses: submissions and results -/

/-- Port A's physical function. -/
def pfA : Func := ⟨.a, none⟩

/-- An entry of a result ring. -/
def result0 : Result := { request := 99, status := .done, kind := 0 }

theorem witness_DoorbellsAndResults :
    (let s := serving id (fun q => { q with rqTail := 3, ring := [(0, some (result0, true))] })
     s.qpIndex pfA 64 = some 64 ∧ s.barOpen pfA = true ∧ (s.qp 64).st = .active ∧ (15 : U32).toNat < (s.qp 64).sqSize ∧
       (s.qp 64).sqSize ≤ (16 : U32).toNat ∧ (3 : U32).toNat < (s.qp 64).rqSize ∧ (s.qp 64).overfull 15 = false ∧
       (3 + (s.qp 64).rqSize - (s.qp 64).rqHead) % (s.qp 64).rqSize ≤ (s.qp 64).rqUsed ∧
       (s.qp 64).rqUsed < (4 + (s.qp 64).rqSize - (s.qp 64).rqHead) % (s.qp 64).rqSize ∧ (s.qp 64).rqSize ≤ (16 : U32).toNat) ∧
    (let s := serving id (fun q => { q with waiting := [result0], rqTail := 15, rqHead := 1 })
     (s.qp 64).waiting = result0 :: [] ∧ (s.qp 64).canWrite = true) ∧
    (let s := serving id (fun q => { q with waiting := [result0], rqTail := 0, rqHead := 1 })
     (s.qp 64).waiting = result0 :: [] ∧ (s.qp 64).canWrite = false) := by
  decide

theorem witness_DoorbellsAndResults_ignored :
    (let s := serving id (fun q => { q with sqTail := 15 })
     (s.qp 64).st = .active ∧ (0 : U32).toNat < (s.qp 64).sqSize ∧ (s.qp 64).overfull (0 : U32).toNat = true) ∧
    (let s := serving id (fun q => { q with st := .stopped })
     s.qpIndex pfA 65 = some 65 ∧ (s.qp 65).st ≠ .active) := by
  decide

/-- A submission with this opcode for this request; an OPEN has ten words of input and a budget of 5. -/
def sub (op req : Nat) : Sub :=
  ⟨BitVec.ofNat 64 (op + 0x100 + 0xABCD * 2 ^ 16 + req * 2 ^ 32), BitVec.ofNat 64 (5 * 2 ^ 16), 0, 0x1000, 10, 0, 0, 0⟩

/-- One entry waits in the submission ring of queue pair 64. -/
def submitted (o : Ob → Ob) : State := serving o (fun q => { q with sqTail := 1 })

/-- What Submits says, for these states. -/
theorem submits_of {s : State} {e : Sub} {op : Nat} (h : (s.qp 64).st = .active ∧ (s.qp 64).sqHead ≠ (s.qp 64).sqTail ∧ s.ringNext 64 = true ∧ Sub_op e = op ∧
    s.plotOfQp 64 = some 2 ∧ s.plotAnswers 2 op = none ∧ Sub_bad e = false) : Submits s 64 e op 2 := h

theorem witness_OpenQueuesARequest :
    (Submits (submitted id) 64 (sub 1 100) 1 2 ∧ (submitted id).named 2 (sub 1 100) = none ∧
      (submitted id).obUsed 2 < (submitted id).cell 0x3002 5 ∧ (submitted id).model 2 (bits (sub 1 100).q1.toNat 3 0) = some model0 ∧
      (submitted id).cell 0x3102 3 = 5 ∧ Sub_count (sub 1 100) ≤ model0.contextLimit) ∧
    (submitted id).named 2 (sub 1 99) ≠ none ∧
    (withCells (submitted id) [(0x3002, 5, 1)]).cell 0x3002 5 ≤ (withCells (submitted id) [(0x3002, 5, 1)]).obUsed 2 ∧
    (submitted id).model 2 1 = none ∧
    ((submitted id).plotOfQp 64 = some 2 ∧ (withCells (submitted id) [(0x3002, 1, 4)]).plotState 2 = 4 ∧
      (withCells (submitted id) [(0x3002, 1, 5)]).plotState 2 = 5 ∧ Sub_bad (sub 0 100) = true ∧
      (submitted id).plotAnswers 2 1 = none ∧ (submitted id).named 2 (sub 2 100) = none) := by
  exact ⟨⟨submits_of (by decide), by decide⟩, by decide⟩

/-- Rings 64 and 65 of plot 2 both have an entry; 64 is next. The image's limit is nine words. -/
def twoRings : State := (submitted id).updQp 65 (fun q => { q with st := .active, c2 := 0x10404, sqTail := 1 })

theorem witness_OpenQueuesARequest_turns :
    (twoRings.ringNext 65 = false ∧ twoRings.ringNext 64 = true ∧ (twoRings.ringFetched 64).ringNext 65 = true) ∧
    (let s := (submitted id).updPlot 2 (fun y => { y with image := some { image0 with models := [{ model0 with contextLimit := 9 }] } })
     s.named 2 (sub 1 100) = none ∧ s.obUsed 2 < s.cell 0x3002 5 ∧ s.cell 0x3102 3 = 5 ∧
       (s.model 2 (bits (sub 1 100).q1.toNat 3 0)).any (fun mdl => decide (mdl.contextLimit < Sub_count (sub 1 100))) = true ∧
       s.ringNext 64 = true ∧ s.plotAnswers 2 1 = none) := by
  decide +kernel

theorem witness_AppendHintStatus :
    ((submitted (fun o => { o with st := .waitInput })).named 2 (sub 2 99) = some 3 ∧
      ((submitted (fun o => { o with st := .waitInput })).obAt 3).st.live = true ∧
      Submits (submitted (fun o => { o with st := .waitInput })) 64 (sub 2 99) 2 2 ∧
      (((submitted (fun o => { o with st := .waitInput })).obAt 3).inputs.filter Input.append).length < 4) ∧
    (Submits (submitted (fun o => { o with st := .pausedCool })) 64 (sub 3 99) 3 2 ∧
      ((submitted (fun o => { o with st := .pausedCool })).obAt 3).st.live = true) ∧
    Submits (submitted id) 64 (sub 6 99) 6 2 := by
  exact ⟨⟨by decide, by decide, submits_of (by decide), by decide⟩, ⟨submits_of (by decide), by decide⟩, submits_of (by decide)⟩

/-- The submission with INTERRUPT. -/
def interrupting : Sub := { sub 2 99 with q0 := (sub 2 99).q0 + 0x200 }

theorem witness_AppendHintStatus_interrupt :
    (let s := submitted (fun o => { o with st := .decode })
     Submits s 64 interrupting 2 2 ∧ s.named 2 interrupting = some 3 ∧ (s.obAt 3).st = .decode ∧ (s.obAt 3).turnOpen = true ∧
       bit interrupting.q0.toNat 9 = true ∧ (s.obAt 3).inputs.length < 4) ∧
    (let s := submitted (fun o => { o with st := .pausedCool })
     Submits s 64 (sub 2 99) 2 2 ∧ s.named 2 (sub 2 99) = some 3 ∧ (s.obAt 3).st = .pausedCool) ∧
    (submitted id).named 2 (sub 3 99) = some 3 ∧ (submitted id).named 2 (sub 6 99) = some 3 := by
  exact ⟨⟨submits_of (by decide), by decide⟩, ⟨submits_of (by decide), by decide⟩, by decide⟩

theorem witness_CancelAndClose :
    ((submitted id).named 2 (sub 4 99) = some 3 ∧ Submits (submitted id) 64 (sub 4 99) 4 2 ∧
      ((submitted id).obAt 3).st.live = true ∧ ((submitted id).obAt 3).consumed = false) ∧
    (Submits (submitted (fun o => { o with st := .cancelled })) 64 (sub 4 99) 4 2 ∧
      ((submitted (fun o => { o with st := .cancelled })).obAt 3).st = .cancelled ∧
      (submitted (fun o => { o with st := .cancelled })).named 2 (sub 4 99) = some 3) ∧
    (Submits (submitted id) 64 (sub 5 99) 5 2 ∧ ((submitted id).obAt 3).st ≠ .draining) := by
  exact ⟨⟨by decide, submits_of (by decide), by decide⟩, ⟨submits_of (by decide), by decide⟩, submits_of (by decide), by decide⟩

theorem witness_CancelAndClose_ended :
    (Submits (submitted (fun o => { o with st := .draining })) 64 (sub 5 99) 5 2 ∧
      ((submitted (fun o => { o with st := .draining })).obAt 3).st = .draining ∧
      (submitted (fun o => { o with st := .draining })).named 2 (sub 5 99) = some 3) ∧
    (Submits (submitted (fun o => { o with st := .done, final := some .done })) 64 (sub 4 99) 4 2 ∧
      Submits (submitted (fun o => { o with st := .done, final := some .done })) 64 (sub 5 99) 5 2 ∧
      ((submitted (fun o => { o with st := .done, final := some .done })).obAt 3).st.live = false ∧
      (submitted (fun o => { o with st := .done, final := some .done })).named 2 (sub 4 99) = some 3) := by
  exact ⟨⟨submits_of (by decide), by decide⟩, submits_of (by decide), submits_of (by decide), by decide⟩

theorem witness_DelaysAndDeadlines :
    (let s := serving (fun o => { o with st := .waitInput, coolDelay := 1000, since := 49000000 }) id
     s.findReq 2 99 = some 3 ∧ (s.obAt 3).st = .waitInput ∧ (s.obAt 3).coolDelay ≠ 0xFFFFFFFF ∧
       (s.obAt 3).since + (s.obAt 3).coolDelay * 1000 ≤ s.now) ∧
    (let s := serving (fun o => { o with coolDelay := 0xFFFFFFFF }) id
     s.findReq 2 99 = some 3 ∧ (s.obAt 3).coolDelay = 0xFFFFFFFF) ∧
    (let s := serving (fun o => { o with deadline := 49999 }) id
     s.dueOf (s.obAt 3) = some 49999 ∧ (s.obAt 3).missed = false ∧ dueIn 49999 s.usNow < 0 ∧ (s.obAt 3).dropOnMiss = false ∧
       (s.obAt 3).consumed = false) ∧
    (let s := serving (fun o => { o with deadline := 49999, dropOnMiss := true }) id
     s.dueOf (s.obAt 3) = some 49999 ∧ (s.obAt 3).missed = false ∧ (s.obAt 3).dropOnMiss = true ∧ (s.obAt 3).consumed = false ∧
       s.findReq 2 99 = some 3) := by
  decide

/-! ### Witnesses: host ports, queue contexts, keys, mailboxes -/

/-- A queue pair of 16 entries each way, ACTIVE on port A; with FAILOVER or without. -/
def pairOn (failover : Bool) (q : Qp) : Qp :=
  { q with st := .active, c2 := if failover then 0x30404 else 0x10404 }

/-- The engine with its three keys 0, 1 and 2 held by port A. -/
def keyed (s : State) : State := { s with keys := [(0, 0x1000), (1, 0x1000), (2, 0x1000)] }

/-- A sender on session 1 of the management network, with a code that verifies, and that session open. -/
def office : Sender := ⟨.mgmt 1, 5, 1, true⟩
def withOffice (s : State) : State := { s with sessions := [(1, some { opened := 0, lastRx := 0 })] }

theorem office_arrives {s : State} {q : Req} (h : s.serving = true ∧ s.procs.reeveLost = false ∧ s.accepts q.idx = true ∧
    q.body.length ≤ bodyLimit office.who ∧ s.submitted office q = true ∧ s.session 1 = some { opened := 0, lastRx := 0 }) :
    Arrives s office q :=
  ⟨h.1, h.2.1, h.2.2.1, h.2.2.2.1, h.2.2.2.2.1, by decide, rfl, _, h.2.2.2.2.2, rfl, by decide, by simp⟩

theorem witness_HostLinksAndFailover :
    (linkOk (6 : Fin 8).val (16 : Fin 17).val = true ∧ (withCells live [(0x2000, 1, 0)]).portUp .a = false ∧
      (withCells live [(0x2000, 1, 0)]).booted = true) ∧
    (linkOk (5 : Fin 8).val (8 : Fin 17).val = true ∧ live.portUp .a = true ∧
      (5 : Fin 8).val < bits (live.cell 0x2000 (portSub .a + 2)) 7 0) ∧
    (let s := (keyed plotted).updQp 64 (pairOn true)
     tablesCanonical s ∧ s.portUp .a = true ∧ (s.qp 64).st = .active ∧ (s.qp 64).active = .a ∧ s.moveOrStop 64 .a = none ∧
       s.holder 0 = holderId (.host ⟨.a, none⟩) ∧ ¬((s.qp 65).st = .active ∧ (s.qp 65).active = .a)) ∧
    (let s := plotted.updQp 64 (pairOn false)
     tablesCanonical s ∧ s.portUp .a = true ∧ s.moveOrStop 64 .a ≠ none) ∧
    (let s := (withCells plotted [(0x3002, 9, 4)]).updQp 64 (fun q => { pairOn true q with c2 := 0x130404 })
     tablesCanonical s ∧ s.portUp .a = true ∧ bit (s.qp 64).c2.toNat 20 = true ∧
       s.qpFunc 64 .a = some ⟨.a, some 4⟩ ∧ (s.qp 64).st = .active ∧ (s.qp 64).active = .a) ∧
    (let s := plotted.updQp 64 (fun q => { pairOn true q with active := .b, rewrite := some .a, rqTail := 3,
                                                              ring := [(0, some (result0, true))] })
     (s.qp 64).rewrite = some .a ∧ 0 < (s.qp 64).rqUsed ∧
       Tab.get none (s.qp 64).ring (((s.qp 64).rqHead + 0) % (s.qp 64).rqSize) = some (result0, true)) := by
  unfold tablesCanonical cellarCanonical
  decide

theorem witness_HostLinksAndFailover_down :
    (linkOk (3 : Fin 8).val (16 : Fin 17).val = false ∧ linkOk (6 : Fin 8).val (2 : Fin 17).val = false ∧
      (withCells live [(0x2000, 1, 0)]).portUp .a = false ∧ (withCells live [(0x2000, 1, 0)]).booted = true) ∧
    (let s := withCells live [(0x2000, 1, 0)]
     tablesCanonical s ∧ s.portUp .a = false ∧ s.booted = true ∧ PortCause.linkDown ≠ .perst) ∧
    (State.reset.portUp .a = false ∧ State.reset.booted = false) := by
  unfold tablesCanonical cellarCanonical
  decide

theorem test_lost_port_moves_the_pair :
    (nextOf (exec (.portLinkDown .a .linkDown) ((keyed plotted).updQp 64 (pairOn true)))).map (fun t =>
      ((t.qp 64).active, (t.qp 64).rewrite, t.holder 0, t.ev.log.map EventRec.ev)) =
    some (.b, some .a, 0, [0x2002, 0x2101, 0x2101, 0x2101]) := by decide +kernel

theorem witness_QueueContextsAreWritten :
    (plotted.qpIndex pfA (64 : QpId).val = some 64 ∧ plotted.barOpen pfA = true) ∧
    ((plotted.qp 64).st = .disabled ∧ (2 : Fin 8).val < 4 ∧ bit (0x404 : U64).toNat 16 = bit (plotted.qp 64).c2.toNat 16) ∧
    ((plotted.updQp 64 (pairOn true)).qpIndex pfA (64 : QpId).val = some 64 ∧
      ((plotted.updQp 64 (pairOn true)).qp 64).st ≠ .disabled) ∧
    (bit (0x30404 : U64).toNat 16 = true ∧
      (plotted.qp 64).contextBad (setBit (0x30404 : U64).toNat 20 false) = false ∧ plotted.plotOfQp 64 ≠ none ∧
      (plotted.qp 64).contextBad (setBit (0x30403 : U64).toNat 20 false) = true) ∧
    bit (0x30404 - 0x10000 : U64).toNat 16 = false ∧
    (let s := plotted.updQp 64 (fun q => { pairOn true q with st := .stopped, rqTail := 3, ring := [(0, some (result0, true))] })
     (s.qp 64).st = .stopped ∧ s.resumePort 64 = some .a ∧ 0 < (s.qp 64).rqUsed) ∧
    (let s := (withCells plotted [(0x2000, 1, 0)]).updQp 64 (fun q => { pairOn false q with st := .stopped })
     (s.qp 64).st = .stopped ∧ s.resumePort 64 = none ∧ s.barOpen ⟨.b, none⟩ = true ∧ s.qpIndex ⟨.b, none⟩ 64 = some 64) := by
  decide

theorem witness_QueueContextsAreWritten_ignored :
    (let s := plotted.updQp 64 (pairOn true)
     (s.qp 64).st ≠ .disabled ∧ (4 : Fin 8).val ≠ 2 ∧ (4 : Fin 8).val < 5 ∧ (2 : Fin 8).val = 2 ∧
       bit (0x10505 : U64).toNat 16 = bit (s.qp 64).c2.toNat 16 ∧ (s.qp 64).st ≠ .stopped ∧ 5 ≤ (5 : Fin 8).val) ∧
    (let s := plotted.updQp 64 (fun q => { q with st := .error, c2 := 0x404 })
     (s.qp 64).st ≠ .disabled ∧ bit (0x505 : U64).toNat 16 = bit (s.qp 64).c2.toNat 16 ∧ bit (0x505 : U64).toNat 16 ≠ true) := by
  decide

/-- The frame of a request to read 5800:01. -/
def readFrame : List Byte := ({ cmd := .read, idx := 0x5800, sub := 1 } : Req).bytes 7

theorem witness_KeysIdentityMailbox :
    (live.portUp pfA.port = true ∧ pfA.vf = none ∧ live.holder (0 : Fin 64).val = 0 ∧
      (keyed live).holder (0 : Fin 64).val = holderId (.host pfA) ∧
      ({ live with keys := [(0, 0x1001)] } : State).holder 0 ≠ 0 ∧
      ({ live with keys := [(0, 0x1001)] } : State).holder 0 ≠ holderId (.host pfA)) ∧
    (live.portUp (⟨.a, some 4⟩ : Func).port = true) ∧
    (plainRequester (.host ⟨.a, some 4⟩) = false ∧ plainRequester hostA.who = true ∧
      (let q : Req := { cmd := .keyTake, arg := 0 }
       Arrives (live.updBox ⟨.a, some 4⟩ (fun m => { m with busy := true, request := q.bytes 7 })) ⟨.host ⟨.a, some 4⟩, 7, 0, false⟩ q) ∧
      (let q : Req := { cmd := .keyGive, arg := 0 }
       Arrives (live.updBox ⟨.a, some 4⟩ (fun m => { m with busy := true, request := q.bytes 7 })) ⟨.host ⟨.a, some 4⟩, 7, 0, false⟩ q)) ∧
    (let q : Req := { cmd := .keyTake, arg := (0 : Fin 64).val }
     Arrives (asked live q) hostA q ∧ (asked live q).holder 0 = 0 ∧
       Arrives (asked { live with keys := [(0, 0x1001)] } q) hostA q ∧
       (asked { live with keys := [(0, 0x1001)] } q).holder 0 ≠ holderId hostA.who) ∧
    (let q : Req := { cmd := .keyGive, arg := (0 : Fin 64).val }
     Arrives (asked (keyed live) q) hostA q ∧ (asked (keyed live) q).holder 0 = holderId hostA.who ∧
       Arrives (asked live q) hostA q ∧ (asked live q).holder 0 ≠ holderId hostA.who) ∧
    (live.barOpen pfA = true ∧ live.booted = true ∧ live.procs.reeveLost = false ∧ live.serving = true) ∧
    (readFrame.length ≤ 4096 ∧ bit (0x80000018 : U32).toNat 31 = true ∧ bits (0x80000018 : U32).toNat 12 0 = readFrame.length ∧
      (live.box pfA).busy = false ∧ ((asked live { cmd := .read, idx := 0x5800, sub := 1 }).box pfA).busy = true ∧
      frameBad (bits (0x80000018 : U32).toNat 12 0) (readFrame.take (bits (0x80000018 : U32).toNat 12 0)) = false ∧
      frameBad (bits (0x80000018 : U32).toNat 12 0) ((0 :: readFrame).take (bits (0x80000018 : U32).toNat 12 0)) = true) := by
  simp only [Arrives, hostA]
  decide +kernel

theorem witness_KeysIdentityMailbox_forceRelease :
    WriteArrives (withOffice (keyed live)) office 0x2100 2 [0] ∧ (withOffice (keyed live)).holder (ofLe [0]) ≠ 0 :=
  ⟨⟨office_arrives (by decide), by decide +kernel⟩, by decide⟩

theorem witness_KeysIdentityMailbox_forceRelease_refused :
    (Arrives (withOffice (keyed live)) office (writeReq 0x2100 2 [64]) ∧
      (withOffice (keyed live)).writeCheck office.who .write 0x2100 2 [64] = some .badValue) ∧
    (Arrives (withOffice live) office (writeReq 0x2100 2 [1]) ∧ (withOffice live).writeCheck office.who .write 0x2100 2 [1] = none ∧
      (withOffice live).holder (ofLe [1]) = 0) := by
  exact ⟨⟨office_arrives (by decide), by decide +kernel⟩, office_arrives (by decide), by decide +kernel⟩

theorem witness_KeysIdentityMailbox_closed :
    ((withCells live [(0x2000, 1, 0)]).portUp pfA.port = false ∧ (withCells live [(0x2000, 1, 0)]).barOpen pfA = false) ∧
    (live.portUp (⟨.a, some 4⟩ : Func).port = true ∧ live.barOpen ⟨.a, some 4⟩ = false) ∧
    (State.reset.booted = false ∧ ({ live with procs := { live.procs with reeveLost := true } } : State).procs.reeveLost = true) ∧
    (State.reset.serving = false ∧ bit (0x18 : U32).toNat 31 = false) := by
  decide

theorem test_identity_reads_in_halves :
    (nextOf (exec (.identityLowRead pfA .timebase) { live with now := 0x500000007 })).map (fun t => (t.out, t.latch)) =
      some ([.busRead 7], [(1, some 5)]) := by decide

theorem test_virtual_function_reads_ffff :
    (nextOf (exec (.take ⟨.a, some 4⟩ 0) (withCells plotted [(0x3002, 9, 4)]))).map (fun t => (t.out, t.holder 0)) =
      some ([.busRead 0xFFFF], 0) := by decide

/-! ### Witnesses: Ethernet ports and paths -/

/-- A path descriptor by its words; USE 0 at 10 GB/s on Ethernet port 0, with ENABLE or without. -/
def path0 (on : Bool) : List Byte := wordsLe 8 [0, if on then 2 ^ 61 else 0, 0, 0, 10, 0, 0, 0]
def withPath (d : List Byte) : State := plotted.setBlob 0x5102 1 d

theorem witness_EthernetPortsAndPaths :
    (WriteArrives (asked live (writeReq 0x5000 1 [1])) hostA 0x5000 ((0 : EthId).val + 1) [1] ∧ live.ethMode 0 = 1 ∧
      WriteArrives (asked live (writeReq 0x5000 1 [3])) hostA 0x5000 ((0 : EthId).val + 1) [3] ∧ ofLe [(3 : Byte)] ≠ live.ethMode 0 ∧
      live.pathPlots 0 = [] ∧
      WriteArrives (asked (withPath (path0 true)) (writeReq 0x5000 1 [3])) hostA 0x5000 ((0 : EthId).val + 1) [3] ∧
      (withPath (path0 true)).pathPlots 0 ≠ [] ∧ (withCells live [(0x5000, 0x11, 2)]).ethState 0 = 2) ∧
    (let s := withCells live [(0x5000, 0x11, 1)]
     s.ethState 0 = 1 ∧ s.ethMode 0 ≠ 0) ∧
    (let s := asked plotted (writeReq 0x5102 1 (path0 false))
     WriteArrives s hostA (0x5100 + 2) ((0 : Fin 16).val + 1) (path0 false) ∧ pathOn (path0 false) = false ∧
       s.pathRefused 2 0 (path0 false) = none ∧ s.pathRefused 2 0 (path0 true) = none ∧
       WriteArrives (asked plotted (writeReq 0x5102 1 (path0 true))) hostA (0x5100 + 2) ((0 : Fin 16).val + 1) (path0 true) ∧
       pathOn (path0 true) = true ∧ pathUse (path0 true) = 0 ∧ pathOn (s.pathDesc 2 0) = false ∧
       s.pathRefused 2 0 (wordsLe 8 [0, 2 ^ 61, 0, 0, 99, 0, 0, 0]) = some .noSpace) := by
  simp only [WriteArrives, Arrives, hostA]
  decide +kernel

/-- Path 0 of plot 2 with this congestion state; one reading entry of loom 0 on it, of this attempt. -/
def congested (c : PathSt) : State := { withPath (path0 true) with paths := [(32, c)] }
def reading (attempt : Nat) : QEntry := ⟨0, .ether 0 0 64 false 0, attempt, none, [], 0⟩
def ethFill (attempt : Nat) : State :=
  running 7 (fun l => { l with queues := [(3, { issued := 1, entries := [reading attempt] })] })

theorem witness_CongestionAndStoppedReads :
    (let s := congested {}
     pathOn (s.pathDesc 2 0) = true ∧ s.since (s.pathSt 2 0).cutAt s.recovery = true ∧
       (let s := congested { cutAt := some 49950000 }
        s.since (s.pathSt 2 0).cutAt s.recovery = false)) ∧
    (let s := congested { rate := some (5000, 1), since := 49900000 }
     (s.pathSt 2 0).rate = some (5000, 1) ∧ (s.pathSt 2 0).since + s.recovery ≤ s.now ∧
       (let s := congested { rate := some (5000, 1), since := 49900001 }
        s.now < (s.pathSt 2 0).since + s.recovery)) ∧
    ((((ethFill 3).loom loom0.n).queue 3).entries.find? (fun e => e.ticket == (0 : Byte).toNat && e.status.isNone && (match e.req with
        | .ether _ _ _ w _ => !w | _ => false)) = some (reading 3) ∧ (reading 3).req = .ether 0 0 64 false 0 ∧
      (ethFill 3).ownerOf loom0.n = some 2 ∧ ((ethFill 3).loom loom0.n).step ≠ none ∧
      (reading 3).attempt = ((ethFill 3).loom loom0.n).attempt) ∧
    ((((ethFill 2).loom loom0.n).queue 3).entries.find? (fun e => e.ticket == (0 : Byte).toNat && e.status.isNone && (match e.req with
        | .ether _ _ _ w _ => !w | _ => false)) = some (reading 2) ∧ (ethFill 2).ownerOf loom0.n = some 2 ∧
      (reading 2).attempt ≠ ((ethFill 2).loom loom0.n).attempt) := by
  decide +kernel

/-! ### Witnesses: Ferry ports -/

/-- A flit of this type, SEQ and JOB_TAG, with a frame of one word of header and 128 bytes to T005's loom 0. -/
def flit0 (type : BitVec 4) (seq : BitVec 12) (tag : U16) : Flit := ⟨type, 0, seq, 0, 0, 0, tag, toLe 8 8 ++ List.replicate 128 0⟩
def tx0 (seq : BitVec 12) : TxFlit := ⟨flit0 4 seq 7, 0, 0, 0⟩

/-- Ferry port 3, enabled at generation 3 with JOB_TAG 7 and owned by plot 2. -/
def ferried (f : Ferry) : State :=
  { withCells plotted [(0x5410, 4, 0x70007), (0x5430, 4, 2)] with ferry := [(3, f)] }
def linkUp : Ferry := { st := .active, gen := 3, width := 8, lanes := 255 }

theorem witness_FlitsAreSentAndReceived :
    (let s := ferried { linkUp with queue := [(0, [tx0 0])] }
     (s.ferryAt 3).st = .active ∧ (s.ferryAt 3).change = none ∧ (s.ferryAt 3).replay.length < 1024 ∧ (s.ferryAt 3).nextTurn = some 0 ∧
       Machine.rotation (((s.ferryAt 3).turn + 0) % 8) = (0 : Fin 4).val ∧ Tab.get [] (s.ferryAt 3).queue 0 = tx0 0 :: []) ∧
    ((ferried {}).ferryAt 3).st ≠ .active ∧
    (let s := ferried linkUp
     (flit0 4 0 7).payload.length ≤ 240 ∧ (s.ferryAt 3).st = .active ∧ (flit0 4 0 8).jobTag.toNat ≠ s.jobTag 3 ∧
       (flit0 4 0 7).jobTag.toNat = s.jobTag 3 ∧ 1 ≤ (flit0 4 0 7).type.toNat ∧ (flit0 4 0 7).type.toNat ≤ 4 ∧
       (flit0 4 0 7).seq.toNat = ((s.ferryAt 3).rxSeq + 1) % 4096 ∧ (flit0 4 0 7).type.toNat = 4 ∧
       (flit0 1 0 7).type.toNat = 1 ∧ (flit0 4 5 7).seq.toNat ≠ ((s.ferryAt 3).rxSeq + 1) % 4096 ∧
       (frameMsg 3 (s.cell 0x5430 4) 0 1 (flit0 4 0 7).payload).isSome = true) ∧
    (let s := ferried { linkUp with replay := [tx0 0, tx0 1] }
     ((s.ferryAt 3).acked (1 : BitVec 12).toNat).replay = [] ∧ ((s.ferryAt 3).acked (0 : BitVec 12).toNat).replay = [tx0 1]) ∧
    (let s := ferried { linkUp with parts := [(0, { bytes := [1], flits := 1, lastAt := 39999999, active := true })] }
     (Tab.get {} (s.ferryAt 3).parts 0).active = true ∧
       (Tab.get {} (s.ferryAt 3).parts 0).lastAt + s.cell 0x5440 ((3 : FerryId).val + 1) * 1000 < s.now ∧
       ({ s with now := 49999999 } : State).now ≤ (Tab.get {} (s.ferryAt 3).parts 0).lastAt + s.cell 0x5440 4 * 1000) := by
  decide +kernel

theorem test_frame_enters_the_fabric :
    (nextOf (exec (.flitReceive 3 (flit0 4 0 7) true) (ferried linkUp))).map (fun t =>
      (t.fabric.inbox.length + t.fabric.chans.length, (t.ferryAt 3).rxSeq, Tab.get 0 (t.ferryAt 3).own 0)) = some (1, 0, 1) := by
  decide +kernel

theorem witness_FerryLinksTrainAndChangeWidth :
    (((ferried {}).ferryAt 3).st = .down ∧ (ferried {}).ferryOn 3 = true ∧ (ferried {}).booted = true) ∧
    (let s := ferried { st := .training }
     (s.ferryAt 3).st = .training ∧ 1 ≤ (2 : Fin 4).val ∧ (2 : Fin 4).val ≤ s.ferryGen 3 ∧
       laneGroup (if (s.ferryAt 3).mayRise then 8 else (s.ferryAt 3).width) ((255 - (0xF7 : BitVec 8).toNat) ||| (s.ferryAt 3).badLanes)
         = some (4, 0xF0)) ∧
    (let s := ferried { st := .confirm, gen := 3, width := 8, lanes := 255 }
     (s.ferryAt 3).st = .confirm ∧ (s.ferryAt 3).resends < 15 ∧
       (s.jobTag 3 != 0 && (7 : U16).toNat == s.jobTag 3 && (s.cell 0x5420 4 == 0 || s.cell 0x5420 4 == (9 : U64).toNat)) = true ∧
       (s.jobTag 3 != 0 && (8 : U16).toNat == s.jobTag 3 && (s.cell 0x5420 4 == 0 || s.cell 0x5420 4 == (9 : U64).toNat)) = false) ∧
    (let s := ferried { st := .training, retrain := true, trainAt := 44999999 }
     (s.ferryAt 3).retrain = true ∧ (s.ferryAt 3).st ≠ .active ∧ (s.ferryAt 3).st ≠ .down ∧ (s.ferryAt 3).trainAt + 5000000 < s.now ∧
       ({ s with now := 49999999 } : State).now ≤ (s.ferryAt 3).trainAt + 5000000) ∧
    (let s := ferried linkUp
     (s.ferryAt 3).change = none ∧ bit (s.ferryAt 3).badLanes (3 : Fin 8).val = false ∧
       bit (s.ferryAt 3).lanes (3 : Fin 8).val = true ∧ s.defects.length < 256 ∧
       laneGroup (s.ferryAt 3).width (setBit (s.ferryAt 3).badLanes (3 : Fin 8).val true) = some (4, 0xF0) ∧
       (s.ferryAt 3).asked = none ∧ laneGroup (s.ferryAt 3).width ((s.ferryAt 3).badLanes ||| (8 : BitVec 8).toNat) = some (4, 0xF0)) ∧
    (let s := ferried { linkUp with asked := some true }
     (s.ferryAt 3).st = .active ∧ (s.ferryAt 3).asked = some true ∧ (0 : U64).toNat ≤ s.factory.serial) ∧
    (let s := ferried { linkUp with change := some (0xF0, true) }
     (s.ferryAt 3).change = some (0xF0, true) ∧ (s.ferryAt 3).again = false ∧ (s.ferryAt 3).resends < 15) := by
  refine ⟨by decide, by decide, by decide, by decide, by decide, ⟨by decide, by decide, Nat.zero_le _⟩, by decide⟩

/-- The body of a sweep of port 3, lane 0, near end, 8 by 8 points of 1,000 bits. -/
def sweepBody : List Byte := toLe 8 (3 + 2 ^ 8 + 8 * 2 ^ 17 + 1000 * 2 ^ 32) ++ toLe 8 0
def sweep0 : Sweep := ⟨3, 1, false, 8, none⟩

theorem witness_FerryWritesAndSweeps :
    (let b := toLe 4 0x70003
     let s := asked (ferried linkUp) (writeReq 0x5410 4 b)
     WriteArrives s hostA 0x5410 ((3 : FerryId).val + 1) b ∧ bit (ofLe b) 3 = false ∧ bit (ofLe b) 2 = false) ∧
    (let b := toLe 4 0x70006
     let s := asked (ferried linkUp) (writeReq 0x5410 4 b)
     WriteArrives s hostA 0x5410 ((3 : FerryId).val + 1) b ∧ bit (ofLe b) 3 = false ∧ bit (ofLe b) 2 = true ∧
       bits (ofLe b) 31 16 = s.jobTag 3) ∧
    (let b := toLe 4 0x80007
     let s := asked (ferried linkUp) (writeReq 0x5410 4 b)
     WriteArrives s hostA 0x5410 ((3 : FerryId).val + 1) b ∧ bits (ofLe b) 31 16 ≠ s.jobTag 3 ∧ (s.ferryAt 3).st = .active) ∧
    (let b := toLe 4 0x7000F
     let s := asked (ferried linkUp) (writeReq 0x5410 4 b)
     WriteArrives s hostA 0x5410 ((3 : FerryId).val + 1) b ∧ bit (ofLe b) 3 = true ∧ bit (ofLe b) 2 = true ∧
       bits (ofLe b) 31 16 = s.jobTag 3) := by
  simp only [WriteArrives, Arrives, hostA]
  decide +kernel

theorem witness_FerryWritesAndSweeps_owners :
    (let s := asked (owning (ferried linkUp)) (writeReq 0x5430 4 [0xFF])
     WriteArrives s hostA 0x5430 ((3 : FerryId).val + 1) [0xFF] ∧ (s.ferryAt 3).st = .active) ∧
    (let s := asked (owning (ferried {})) (writeReq 0x5430 4 [0xFF])
     WriteArrives s hostA 0x5430 ((3 : FerryId).val + 1) [0xFF] ∧ (s.ferryAt 3).st ≠ .active) ∧
    (let s := asked (ferried linkUp) (writeReq 0x5600 1 sweepBody)
     WriteArrives s hostA 0x5600 1 sweepBody ∧ sweepOf sweepBody = some sweep0 ∧ s.sweep = none ∧ (s.ferryAt sweep0.port).st = .active) ∧
    (let s := asked (ferried {}) (writeReq 0x5600 1 sweepBody)
     WriteArrives s hostA 0x5600 1 sweepBody ∧ (s.ferryAt sweep0.port).st ≠ .active) ∧
    (let s := asked (ferried {}) (writeReq 0x5600 1 (toLe 16 3))
     WriteArrives s hostA 0x5600 1 (toLe 16 3) ∧ (sweepOf (toLe 16 3)).isNone = true) ∧
    (Status.done = sweep0.why.getD .done ∧ (List.replicate 64 (0 : U32)).length = sweep0.n * sweep0.n * laneCount sweep0.lanes ∧
      Status.cancelled = ({ sweep0 with why := some .cancelled } : Sweep).why.getD .done) := by
  simp only [WriteArrives, Arrives, hostA]
  decide +kernel

/-! ### Witnesses: power -/

/-- Plot 2 with a regulator of tile T005 as given, from its default. -/
def regulated (r : Reg) : State := { plotted with regs := [(5, r)] }

/-- A hint of loom 0, lead 50 µs and class 2, which has reached the Steward of T005's quadrant; plot 2 owns these looms. -/
def hinted (looms : List Nat) : State :=
  let s := (regulated {}).updPlot 2 (fun y => { y with looms })
  { s with fabric := { s.fabric with taken := [(stewardEndpoint (quadrant 5), [s.hintMsg 2 0 50 2])] } }

theorem witness_RegulatorsAndHints :
    (Tab.get 0 ((regulated { shed := [(0, 2)] }).reg (5 : Phys).val).shed (domainCode .vcore) ≠ 0 ∧
      Tab.get 0 ((regulated {}).reg 5).shed (domainCode .vcore) = 0) ∧
    (((regulated {}).reg 5).fallback = false ∧ (goodSensors { reads 7500 with stale := 0x1F }).length ≤ 11 ∧
      ¬(goodSensors { reads 7500 with stale := 0xF }).length ≤ 11 ∧
      ((regulated { fallback := true }).reg 5).fallback = true ∧ 12 ≤ (goodSensors { reads 7500 with stale := 0xF }).length) ∧
    (let s := regulated {}
     s.regLive (.tile 5) .vcore (6 : Fin 7).val = true ∧ s.regLive (.tile 5) .vcore 7 = false ∧ s.regLive (.tile 5) .vmem 2 = true ∧
       s.regLive (.tile 5) .vmem 3 = false ∧ s.regLive (.rim 0) .vio 3 = true ∧ s.regLive (.rim 0) .vio 4 = false ∧
       s.defects.length < 256 ∧ Tab.get false (s.reg 5).opens (phaseKey .vcore 6) = false ∧
       Tab.get false (s.reg 5).senses (phaseKey .vcore 6) = false ∧ 5 + 1 ≤ (s.reg 5).working .vcore ∧ 2 ≤ (s.reg 5).working .vmem) ∧
    (let s := regulated { opens := [(0, true), (1, true)] }
     s.regLive (.tile 5) .vcore 2 = true ∧ (s.reg 5).working .vcore < 5 + 1 ∧ Tab.get false (s.reg 5).opens (phaseKey .vcore 2) = false ∧
       s.procs.reeveLost = false) ∧
    (let s : State := { regulated {} with power := { live.power with rampAt := some 47790000 } }
     s.power.rampAt = some 47790000 ∧ s.now ≤ 47790000 + 2210000 ∧ Domain.vcore ≠ .vio ∧ (s.reg 5).latched = false ∧
       (s.site 5).st ≠ .absent ∧ s.procs.reeveLost = false ∧
       ({ s with rst := { s.rst with phase := .booting } } : State).rst.phase = .booting) ∧
    (let s : State := { regulated { latched := true, retries := 2, latchedAt := 0 } with now := 100000000 }
     (s.reg 5).latched = true ∧ (s.reg 5).retries < 3 ∧ (s.reg 5).latchedAt + 100000000 ≤ s.now ∧ s.defects.length < 256) ∧
    (let s := hinted (List.range 20)
     (Tab.get [] s.fabric.taken (stewardEndpoint (quadrant (5 : Phys).val))).any (s.isHint (5 : Phys).val (2 : PlotId).val 50 2) = true ∧
       s.grants 5 2 (10 * (2 : BitVec 2).toNat) = true) ∧
    (let s := hinted [0, 1, 20]
     (Tab.get [] s.fabric.taken (stewardEndpoint (quadrant (5 : Phys).val))).any (s.isHint (5 : Phys).val (2 : PlotId).val 50 2) = true ∧
       s.grants 5 2 (10 * (2 : BitVec 2).toNat) = false ∧
       (Tab.get [] s.fabric.taken (stewardEndpoint (quadrant (5 : Phys).val))).any (s.isHint (5 : Phys).val (2 : PlotId).val 50 3) = false) ∧
    (let s := regulated { allPhases := true, raiseEnd := 50000000 }
     (s.reg 5).allPhases = true ∧ (s.reg 5).raiseEnd ≤ s.now ∧
       ({ s with now := 49999999 } : State).now < (s.reg 5).raiseEnd) := by
  decide +kernel

/-- A sample of an input power with one VCORE record of T005. -/
def powerIn (w : Nat) : PowerIn :=
  { inputW := w, vbus := 120000, vbusA := 100, aux := 33000, vcore := [(5, ⟨24000, 8000, 1120, false⟩)], vmem := [], vio := [],
    leakage := [], beats := [], natural := [], loomTj := [] }

theorem witness_PowerIsSampledAndCut :
    State.reset.booted = false ∧ live.booted = true ∧ live.effectiveCap < 26001 ∧ ((powerIn 26001).vcore.map Prod.fst).Nodup ∧
    ((powerIn 1000).inputW * 100 < 97 * live.effectiveCap ∧
      0 < ({ live.power with engineCut := 10, fallFor := 9 } : Power).engineCut) := by
  decide

/-- The example of R338: 240.00 A, 0.8000 V, 70 °C, held, SEQ 0x3F. -/
theorem test_R338_example :
    sampleWord ⟨24000, 8000, 1120, false⟩ false true false false 0x3F = 0x3F04_0460_1F40_5DC0 := by decide

theorem witness_PowerStatesAndCap :
    (let s := withCells plotted [(0x4202, 1, 1000)]
     s.plotExists (2 : PlotId).val = true ∧ s.plotIdle 2 = true ∧ (s.plot 2).wake = false ∧
       ([3, 2, 1].find? (fun d => decide (d ≤ s.deepest 2) && decide ((s.plot 2).busyAt + idleBefore d ≤ s.now))).getD 0 = 2 ∧
       s.cell (0x4200 + 2) 2 < 2 ∧ Tab.get 0 s.ev.lastRaise (0x4002 * 2 ^ 40 + 2) = 0) ∧
    (let s := { (withCells plotted [(0x4202, 1, 4000)]).updPlot 2 (fun y => { y with image := some image0, saveExt := true }) with
                now := 200000000 }
     s.plotIdle 2 = true ∧ (s.plot 2).wake = false ∧
       ([3, 2, 1].find? (fun d => decide (d ≤ s.deepest 2) && decide ((s.plot 2).busyAt + idleBefore d ≤ s.now))).getD 0 = 3 ∧
       s.cell (0x4200 + 2) 2 < 3 ∧ (s.plot 2).image ≠ none ∧ (s.plot 2).saveExt = true) ∧
    (let s := (withCells plotted [(0x4202, 1, 1000), (0x4202, 2, 2)]).updPlot 2 (fun y => { y with wake := true })
     s.cell (0x4200 + 2) 2 ≠ 0 ∧ s.power.p4 = false ∧ (s.plot 2).wake = true ∧ s.cell (0x4200 + 2) 2 ≠ 3) ∧
    (let s := withCells plotted [(0x4202, 1, 1000), (0x4202, 2, 2), (0x3102, 3, 1)]
     s.cell (0x4200 + 2) 2 ≠ 0 ∧ s.plotIdle 2 = false ∧ s.cell (0x4200 + 2) 2 ≠ 3) ∧
    (let s := withCells plotted [(0x4202, 2, 3)]
     s.deepest 2 < s.cell (0x4200 + 2) 2 ∧ (s.plot 2).image = none) ∧
    (let s := ((withCells plotted [(0x4202, 2, 3)]).updPlot 2 (fun y => { y with image := some image0, saveExt := true, wake := true })).updLoom 0
       (fun l => { l with saved := true })
     s.cell (0x4200 + 2) 2 = 3 ∧ (s.plot 2).image = some image0 ∧ 0 ∈ (s.plot 2).looms ∧ (s.loom 0).saved = true ∧
       (∀ n ∈ (s.plot 2).looms, s.saveLost (saveRanges (s.saveOn 2 (n / 20)) (s.savePlace 2 n image0) (residentBytes image0)) = false)) ∧
    (let s := withCells plotted [(0x4202, 1, 66667), (0x4202, 2, 3), (0x4000, 7, 66667)]
     s.power.p4 = false ∧ s.p4Allowed = true ∧ (∀ p ∈ s.plotsNow, (s.plot p).wake = false ∧ s.plotIdle p = true) ∧ s.power.p4wake = false ∧
       (withCells s [(0x4000, 7, 66666)]).p4Allowed = false) ∧
    (let s : State := { live with power := { live.power with p4 := true, p4wake := true } }
     s.power.p4 = true ∧ s.power.p4wake = true) ∧
    (let s : State := (withCells plotted [(0x4202, 1, 66667), (0x4202, 2, 3), (0x4000, 7, 66667)]).updPlot 2 (fun y => { y with wake := true })
     ∃ p ∈ s.plotsNow, (s.plot p).wake = true ∨ s.plotIdle p = false) := by
  decide

theorem witness_PowerStatesAndCap_writes :
    (let s := asked plotted (writeReq 0x4202 1 (toLe 4 1000))
     WriteArrives s hostA (0x4200 + (2 : PlotId).val) 1 (toLe 4 1000) ∧
       ¬(withCells s [(0x4202, 1, 1000), (0x4202, 2, 3)]).cell 0x4202 2 ≤ (withCells s [(0x4202, 1, 1000), (0x4202, 2, 3)]).deepest 2 ∧
       (withCells s [(0x4202, 1, 1000), (0x4202, 2, 2)]).cell 0x4202 2 ≤ (withCells s [(0x4202, 1, 1000), (0x4202, 2, 2)]).deepest 2) ∧
    (let s := asked (keyed plotted) (writeReq 0x4000 1 (toLe 4 20000))
     WriteArrives s hostA 0x4000 1 (toLe 4 20000) ∧ s.shareSum ≤ ofLe (toLe 4 20000)) ∧
    (let s := asked (keyed (withCells plotted [(0x3002, 8, 6001)])) (writeReq 0x4000 1 (toLe 4 6000))
     WriteArrives s hostA 0x4000 1 (toLe 4 6000) ∧ ofLe (toLe 4 6000) < s.shareSum) := by
  simp only [WriteArrives, Arrives, hostA]
  decide +kernel

/-- The engine with the power part as given. -/
def powered (f : Power → Power) : State := { live with power := f live.power }

theorem witness_CoolingDegradesAndRecovers :
    ((0 : Byte).toNat = live.power.traySeq ∧ (1 : Byte).toNat ≠ live.power.traySeq ∧ live.power.degraded = false ∧
      int16 (640 : U16).toNat ≤ 640 ∧ 3000 ≤ (3000 : U16).toNat ∧ (640 : U16).toNat ≠ 0x7FFF ∧ (3000 : U16).toNat ≠ 0xFFFF ∧
      (640 : U16).toNat ≠ 0x7FFF ∧ (640 < int16 (641 : U16).toNat) ∧ (2999 : U16).toNat < 3000 ∧ live.cell 0x4050 6 ≠ 0) ∧
    (let s := powered (fun x => { x with usable := some (0, 640, 3000) })
     s.power.degraded = false ∧ s.power.usable = some (0, 640, 3000) ∧
       0 + second ≤ ({ s with now := second } : State).now ∧ s.cell 0x4050 6 ≠ 0) ∧
    (live.rst.busAt = some 0 ∧ live.power.usable = none ∧ 0 + 10 * second ≤ ({ live with now := 10 * second } : State).now) ∧
    (let s := powered (fun x => { x with degraded := true, graceFrom := some 0, usable := some (49000000, 800, 2000), inlet := 800,
                                         flow := 2000 })
     s.power.degraded = true ∧ s.power.limited = false ∧ s.power.graceFrom = some 0 ∧ s.coolFormula < s.effectiveCap ∧
       s.now < 0 + s.cell 0x4050 6 * 1000000 ∧
       0 + (withCells s [(0x4050, 6, 50)]).cell 0x4050 6 * 1000000 ≤ s.now) ∧
    (let s := { powered (fun x => { x with degraded := true, usable := some (9990000000, 640, 3000), inlet := 640, flow := 3000,
                                           badAt := 0 }) with now := 10000000000 }
     s.power.degraded = true ∧ s.power.usable = some (9990000000, 640, 3000) ∧ s.now < 9990000000 + second ∧
       (640 : Int) ≤ 640 ∧ 3000 ≤ 3000 ∧ s.power.badAt + 10 * second ≤ s.now) ∧
    (1600 < int16 (1601 : U16).toNat ∧ live.power.shutdown = 0 ∧ live.rst.ready = true) := by
  decide

theorem witness_CoolingDegradesAndRecovers_unusable :
    ((1 : Byte).toNat ≠ live.power.traySeq ∧ (0x7FFF : U16).toNat = 0x7FFF ∧ (0xFFFF : U16).toNat = 0xFFFF ∧ live.power.usable = none) ∧
    (let s := powered (fun x => { x with usable := some (0, 640, 3000) })
     s.power.usable ≠ none ∧ s.power.degraded = false ∧ s.cell 0x4050 6 ≠ 0) ∧
    (int16 (1600 : U16).toNat ≤ 1600 ∧ (powered (fun x => { x with shutdown := 1 })).power.shutdown ≠ 0 ∧
      State.reset.rst.ready = false) := by
  decide

/-- A good reading while cooling is degraded leaves the limit of the last bad one (R354). -/
theorem test_clean_reading_keeps_limit :
    (nextOf (exec (.coolReading 480 512 4000 9) (withCells (powered (fun x =>
      { x with degraded := true, limited := true, usable := some (49000000, 672, 2400), badAt := 49000000, traySeq := 8 }))
        [(0x4050, 5, 16400)]))).map (fun t =>
        (t.cell 0x4050 5, t.cell 0x4050 4, t.power.degraded)) = some (16400, 1, true) := by decide

/-- The example of R355: an inlet of 42 °C and 24 L/min limit the engine to 16,400 W. -/
theorem test_R355_example :
    (powered (fun x => { x with degraded := true, usable := some (49999000, 672, 2400) })).coolFormula = 16400 := by decide

/-- The example of R344: 150 A at 0.80 V and a raise of 30 mV cost about 14 W more. -/
theorem test_R344_example : raiseCost (15000 + 8000 * 2 ^ 16) 30 / 1000000 = 14 := by decide

theorem witness_LowInputAndShutdown :
    ((113999 < 114000 ∨ false = true ∨ false = true) ∧ live.power.lowCap = none ∧ live.booted = true ∧
      ((114000 : Nat) ≤ 114000 ∧ false = false) ∧ State.reset.booted = false) ∧
    (let s := powered (fun x => { x with lowCap := some 14999 })
     (114000 : Nat) ≤ 114000 ∧ s.power.lowCap = some 14999 ∧ s.power.rising = false ∧ s.power.lowCap ≠ none ∧
       14999 < min (s.cell 0x4000 1) (s.cell 0x4050 5)) ∧
    (let s := powered (fun x => { x with lowCap := some 15000 })
     s.power.lowCap = some 15000 ∧ s.power.rising = false ∧ min (s.cell 0x4000 1) (s.cell 0x4050 5) ≤ 15000) ∧
    (let s := powered (fun x => { x with lowCap := some 14999, rising := true })
     s.power.rising = true ∧ s.booted = true) ∧
    ((101999 : Nat) < 102000 ∧ live.power.shutdown = 0 ∧ live.rst.ready = true ∧
      (powered (fun x => { x with shutdown := 1 })).power.shutdown ≠ 0 ∧ State.reset.rst.ready = false ∧ (102000 : Nat) ≤ 102000) ∧
    (let s : State := { stepDone ⟨3, 3, 2, 0⟩ [0] [] with power := live.power }
     s.stepAt 7 ≠ none ∧ s.plotExists 2 = true ∧ s.power.shutdown = 0 ∧ s.rst.ready = true) := by
  decide

theorem witness_LowInputAndShutdown_saved :
    (let s := plotted.updPlot 2 (fun y => { y with image := some image0, saveExt := true })
     let v : State := { s with power := { s.power with shutdown := 1 } }
     v.power.shutdown = 1 ∧ 2 ∈ v.plotsNow ∧ (v.plot 2).image ≠ none ∧ (v.plot 2).saveExt = true ∧ 0 ∈ (v.plot 2).looms) ∧
    live.power.shutdown ≠ 1 := by
  decide

/-! ### Witnesses: the Ledger -/

/-- A READ, and a BLOCK_READ, waiting in port A's mailbox. -/
def readQ (idx sub flags arg : Nat) : Req := { cmd := .read, idx, sub, flags, arg }
def blockQ (idx sub off : Nat) : Req := { cmd := .blockRead, idx, sub, arg := off, body := toLe 4 16 }

/-- A measurement that was refreshed five times. -/
def measured (s : State) : State := { s with meas := [(ek 0xA000 4, ⟨5, [1, 0, 0, 0], true, false⟩)] }

theorem witness_ReadsReturnTheEntry :
    (Arrives (asked live (readQ 0x1000 0xFF 0 0)) hostA (readQ 0x1000 0xFF 0 0) ∧
      live.readCheck hostA.who .read 0x1000 0xFF = .inl .badIndex ∧ live.readCheck hostA.who .read 0x2100 2 = .inl .denied ∧
      ¬((0x1000 : U16) = 0x8020 ∧ (0xFF : Byte) = 2)) ∧
    (Arrives (asked (measured live) (readQ 0xA000 4 1 5)) hostA (readQ 0xA000 4 1 5) ∧
      (live.measOf 0xA000 4).ready = false ∧ (measured live).measOf 0xA000 4 = ⟨5, [1, 0, 0, 0], true, false⟩ ∧
      ((measured live).readCheck hostA.who .read 0xA000 4).isRight = true) ∧
    (Arrives (asked live (readQ 0x5800 1 0 0)) hostA (readQ 0x5800 1 0 0) ∧
      live.readCheck hostA.who .read 0x5800 1 = .inr (roRow 0x5800 1 1 1 .time64) ∧
      ((live.heard hostA).fetch (roRow 0x5800 1 1 1 .time64) 0x5800 1).1.length ≤ bodyLimit hostA.who) ∧
    (Arrives (asked live (blockQ 0x2100 1 0)) hostA (blockQ 0x2100 1 0) ∧
      live.readCheck hostA.who .blockRead 0x2100 1 = .inr (blRow 0x2100 1 1 1 128) ∧ (blockQ 0x2100 1 0).body.length = 4 ∧
      ofLe (blockQ 0x2100 1 0).body ≠ 0 ∧ 0 < ((live.heard hostA).fetch (blRow 0x2100 1 1 1 128) 0x2100 1).1.length) ∧
    (Arrives (asked plotted (blockQ 0x3302 0x10 0)) hostA (blockQ 0x3302 0x10 0) ∧
      plotted.readCheck hostA.who .blockRead 0x3302 0x10 = .inr (blRow 0x3300 16 0x10 0x10 0) ∧
      ((plotted.heard hostA).fetch (blRow 0x3300 16 0x10 0x10 0) 0x3302 0x10).1.length ≤ 0) ∧
    (plotted.plotExists (2 : PlotId).val = true ∧ ({ live.bell with st := .locked } : Bell).st = .locked) ∧
    ((7 : Fin 36).val < eyePorts (0 : Fin 3).val ∧ (List.replicate (eyeLanes 0) ((119, 12) : U16 × U16)).length = eyeLanes 0 ∧
      0 < eyeLanes 0 ∧ (119 : U16).toNat < live.cell 0x9430 2 ∧ ¬((12 : U16).toNat < live.cell 0x9430 1)) := by
  simp only [Arrives, hostA]
  decide +kernel

/-- A result of an eye sweep that is longer than a response body; one of four bytes; and a sweep that runs. -/
def swept (n : Nat) : State := { live with meas := [(ek 0x5600 3, ⟨1, List.replicate n 0, true, false⟩)] }
def sweeping : State := { swept 4 with sweep := some ⟨3, 1, false, 8, none⟩ }

theorem witness_ReadsReturnTheEntry_refused :
    (let q := readQ 0x5600 3 0 0
     Arrives (asked (swept 4073) q) hostA q ∧ live.readCheck hostA.who .read 0x5600 3 = .inr (msRow 0x5600 1 3 3 .blob) ∧
       ((swept 4073).measOf 0x5600 3).ready = true ∧ ((swept 4073).measOf 0x5600 3).running = false ∧
       bodyLimit hostA.who < (((swept 4073).heard hostA).fetch (msRow 0x5600 1 3 3 .blob) 0x5600 3).1.length) ∧
    (let q := blockQ 0x5600 3 0
     Arrives (asked sweeping q) hostA q ∧ live.readCheck hostA.who .blockRead 0x5600 3 = .inr (msRow 0x5600 1 3 3 .blob) ∧
       (msRow 0x5600 1 3 3 .blob).len = 0 ∧ (sweeping.measOf 0x5600 3).running = true ∧
       Arrives (asked (swept 4) (blockQ 0x5600 3 4)) hostA (blockQ 0x5600 3 4) ∧
       ((swept 4).measOf 0x5600 3).running = false ∧ ((swept 4).measOf 0x5600 3).ready = true ∧
       (((swept 4).heard hostA).fetch (msRow 0x5600 1 3 3 .blob) 0x5600 3).1.length ≤ 4) ∧
    (let q := blockQ 0x5800 1 0
     Arrives (asked live q) hostA q ∧ live.readCheck hostA.who .blockRead 0x5800 1 = .inr (roRow 0x5800 1 1 1 .time64) ∧
       (roRow 0x5800 1 1 1 .time64).ty ≠ .blob ∧
       Arrives (asked live (blockQ 0x1000 0xFF 0)) hostA (blockQ 0x1000 0xFF 0) ∧
       live.readCheck hostA.who .blockRead 0x1000 0xFF = .inl .badIndex) := by
  simp only [Arrives, hostA]
  decide +kernel

theorem witness_ReadsReturnTheEntry_refreshed :
    (({ live.bell with st := .acquiring } : Bell).st = .acquiring ∧ live.bell.st ≠ .acquiring ∧ live.bell.st ≠ .locked ∧
      ([0, 0, 0, 0] : List Byte).length = 4) ∧
    (let s : State := { live with meas := [(0x9302 * 256 + 1, ⟨1, toLe 4 0x3D800000, true, false⟩)] }
     s.worstResidual = some (0x3D800000, 512) ∧ live.worstResidual = none) ∧
    (let s := withCells live [(0x5000, 1, 0)]
     s.laneInUse 0 7 0 = live.laneInUse 0 7 0 ∧ s.laneInUse 1 3 0 = false ∧ (ferried linkUp).laneInUse 1 3 0 = true) ∧
    (let s : State := { ferried linkUp with eyes := [(65536 + 3 * 256, some 0)], now := 60 * second }
     s.eyes.find? (fun x => x.1 == 65536 + 3 * 256) = some (65536 + 3 * 256, some 0) ∧ s.cell 0x9430 2 ≤ (120 : U16).toNat ∧
       s.cell 0x9430 1 ≤ (12 : U16).toNat ∧ 0 + 60 * second ≤ s.now) ∧
    (eyePorts (0 : Fin 3).val ≤ (8 : Fin 36).val ∧ ([] : List (U16 × U16)).length ≠ eyeLanes 0) := by
  decide +kernel

theorem test_read_of_the_timebase :
    (nextOf (exec (.read hostA 0x5800 1 false 0) (asked live (readQ 0x5800 1 0 0)))).map State.out =
      some [.reply hostA.who 0x1234 ⟨.done, 0, 0, 9, toLe 8 50000000⟩] := by decide +kernel

/-- The check that stops a write, for the statement's cases in order. -/
theorem witness_WritesAreCheckedThenApplied :
    (Arrives (asked live (writeReq 0xF000 1 [])) hostA (writeReq 0xF000 1 []) ∧ ownRow 0xF000 1 [] = false) ∧
    (Arrives (asked live (writeReq 0x1000 0xFF [])) hostA (writeReq 0x1000 0xFF []) ∧ entry 0x1000 0xFF = none) ∧
    (Arrives (asked live (writeReq 0x1000 3 [])) hostA (writeReq 0x1000 3 []) ∧
      (∃ r, entry 0x1000 3 = some r ∧ live.classOk hostA.who .write r 0x1000 = false)) ∧
    (Arrives (asked live (writeReq 0x3203 1 [1])) hostA (writeReq 0x3203 1 [1]) ∧
      entry 0x3203 1 = some (rgRow 0x3200 16 1 1 .bool) ∧ live.classOk hostA.who .write (rgRow 0x3200 16 1 1 .bool) 0x3203 = true ∧
      live.rightsOk hostA.who (rgRow 0x3200 16 1 1 .bool) 0x3203 1 = false) ∧
    (Arrives (asked live (writeReq 0x4000 7 (toLe 4 1))) hostA (writeReq 0x4000 7 (toLe 4 1)) ∧
      (asked live (writeReq 0x4000 7 (toLe 4 1))).writeCheck hostA.who .write 0x4000 7 (toLe 4 1) = some .locked) ∧
    (Arrives (asked plotted (writeReq 0x3202 3 [9])) hostA (writeReq 0x3202 3 [9]) ∧
      (asked plotted (writeReq 0x3202 3 [9])).writeCheck hostA.who .write 0x3202 3 [9] = some .badValue) ∧
    (Arrives (asked plotted (writeReq 0x3202 1 [1])) hostA (writeReq 0x3202 1 [1]) ∧ ownRow 0x3202 1 [1] = false ∧
      (asked plotted (writeReq 0x3202 1 [1])).writeCheck hostA.who .write 0x3202 1 [1] = none) ∧
    (let b := toLe 4 0x3F000000 ++ toLe 4 100 ++ toLe 4 200
     Arrives (asked live (writeReq 0x5000 0x50 b)) hostA (writeReq 0x5000 0x50 b) ∧ ownRow 0x5000 0x50 b = false ∧
       (asked live (writeReq 0x5000 0x50 b)).writeCheck hostA.who .write 0x5000 0x50 b = none) := by
  simp only [Arrives, hostA]
  refine ⟨by decide +kernel, by decide +kernel, ⟨by decide +kernel, _, rfl, by decide +kernel⟩, by decide +kernel, by decide +kernel,
    by decide +kernel, by decide +kernel, by decide +kernel⟩

/-- A WRITE_PERSIST in port A's mailbox, and four records that spend 4000:02. -/
def persistQ (idx sub : Nat) (body : List Byte) : Req := { cmd := .persist, idx, sub, body }
def spent : List GenRec := [⟨toLe 4 7000, true⟩, ⟨toLe 4 8000, true⟩, ⟨toLe 4 9000, true⟩, ⟨toLe 4 9001, true⟩]

theorem witness_WritesAreCheckedThenApplied_persist :
    (let b := toLe 4 15000
     let s := asked (keyed live) (persistQ 0x4000 2 b)
     Arrives s hostA (persistQ 0x4000 2 b) ∧ s.writeCheck hostA.who .persist 0x4000 2 b = none ∧ s.persistent 0x4000 2 ≠ b ∧
       (Tab.get [] s.otp (ek 0x4000 2) : List GenRec).length < 4 ∧
       (asked live (persistQ 0x4000 2 b)).writeCheck hostA.who .persist 0x4000 2 b = some .locked) ∧
    (let b := toLe 4 20000
     let s := asked (keyed live) (persistQ 0x4000 2 b)
     Arrives s hostA (persistQ 0x4000 2 b) ∧ s.writeCheck hostA.who .persist 0x4000 2 b = none ∧ s.persistent 0x4000 2 = b) ∧
    (let b := toLe 4 20000
     let s := asked ({ keyed live with otp := [(ek 0x4000 2, spent)] }) (persistQ 0x4000 2 b)
     Arrives s hostA (persistQ 0x4000 2 b) ∧ s.writeCheck hostA.who .persist 0x4000 2 b = none ∧ s.persistent 0x4000 2 ≠ b ∧
       4 ≤ (Tab.get [] s.otp (ek 0x4000 2) : List GenRec).length) ∧
    (let b : List Byte := [0, 3]
     let s := asked (keyed plotted) (persistQ 0x1000 0x12 b)
     Arrives s hostA (persistQ 0x1000 0x12 b) ∧ s.writeCheck hostA.who .persist 0x1000 0x12 b = none ∧ s.plotsNow ≠ [] ∧
       live.plotsNow = []) := by
  simp only [Arrives, hostA]
  decide +kernel

theorem witness_WritesAreCheckedThenApplied_ownRows :
    ownRow 0x4000 1 [] = true ∧ (0x1000 : U16) = 0x1000 ∧
    (let b : List Byte := [0, 3]
     let s := asked (keyed live) (persistQ 0x1000 0x12 b)
     Arrives s hostA (persistQ 0x1000 0x12 b) ∧ s.writeCheck hostA.who .persist 0x1000 0x12 b = none ∧ s.plotsNow = [] ∧
       s.persistent 0x1000 0x12 ≠ b ∧ (Tab.get [] s.otp (ek 0x1000 0x12) : List GenRec).length < 4) := by
  simp only [Arrives, hostA]
  decide +kernel

/-- A session with this past, opened on the management network. -/
def talking (f : Session → Session) : State := { live with sessions := [(1, some (f { opened := 0, lastRx := 0 }))] }
def subQ (v : Nat) : Req := { cmd := .subscribe, arg := 3, body := toLe 8 v }
def closeQ : Req := { cmd := .closeSession, sess := 1 }
def event0 : EventRec := ⟨1, 0x3404, 2, 0, []⟩

theorem witness_SubscriptionsSessionsEvents :
    (Arrives (asked live (subQ (2 ^ 33))) hostA (subQ (2 ^ 33)) ∧ plainRequester hostA.who = true ∧
      bits (ofLe (toLe 8 (2 ^ 33))) 63 33 ≠ 0 ∧ Arrives (asked live (subQ 0x1FF)) hostA (subQ 0x1FF) ∧
      bits (ofLe (toLe 8 0x1FF)) 63 33 = 0) ∧
    (let s := { talking (fun x => { x with via := some .a }) with keys := [(16, 0x3001)] }
     Arrives (asked s closeQ) hostA closeQ ∧ (asked s closeQ).session (1 : Byte).toNat = some { opened := 0, lastRx := 0, via := some .a }) ∧
    (let s := talking id
     Arrives (asked s closeQ) hostA closeQ ∧ (asked s closeQ).session (1 : Byte).toNat = some { opened := 0, lastRx := 0 } ∧
       ({ opened := 0, lastRx := 0 } : Session).via ≠ some .a) ∧
    (let s := { talking id with now := 30000000000 }
     s.session (1 : Byte).toNat = some { opened := 0, lastRx := 0 } ∧ 0 + s.cell 0x2200 3 * 1000000 ≤ s.now ∧
       live.now < 0 + live.cell 0x2200 3 * 1000000) ∧
    (let x : Session := { opened := 0, lastRx := 0, rxCounter := 0, prev := some (5, 2, 0x3202, 1), kept := some { status := .done } }
     let s := talking (fun _ => x)
     s.serving = true ∧ s.session (1 : Byte).toNat = some x ∧ x.kept = some { status := .done } ∧ x.via = none ∧
       x.prev = some (office.tag.toNat, (2 : Byte).toNat, (0x3202 : U16).toNat, (1 : Byte).toNat) ∧ office.authentic = true ∧
       x.rxCounter < office.counter.toNat ∧ office.counter.toNat ≤ ({ x with rxCounter := 1 } : Session).rxCounter) ∧
    (let s : State := { live with ev := { live.ev with port := [(0, { active := true, irqDue := true, lastIrq := some 49900000 })] } }
     (s.ev.sub .a).active = true ∧ (s.ev.sub .a).irqDue = true ∧ (s.ev.sub .a).lastIrq = some 49900000 ∧ 49900000 + 100000 ≤ s.now) ∧
    (let y : Subscription := { active := true, unsent := [event0], sentAt := List.replicate 1968 49900000 }
     let s := talking (fun x => { x with sub := y })
     (s.session (1 : Byte).toNat).map Session.sub = some y ∧ y.unsent ≠ [] ∧
       (y.sentAt.filter (fun t0 => decide (s.now < t0 + second))).length + 32 ≤ 2000) := by
  simp only [Arrives, hostA]
  decide +kernel

theorem witness_SubscriptionsSessionsEvents_office :
    Arrives (withOffice live) office (subQ 0x1FF) ∧ Arrives (withOffice live) office closeQ ∧ tablesCanonical (withOffice live) := by
  refine ⟨office_arrives (by decide), office_arrives (by decide), ?_⟩
  unfold tablesCanonical cellarCanonical
  decide

theorem test_idle_session_frees_its_keys :
    (nextOf (exec (.sessionIdleExpire 1) { talking id with now := 30000000000, keys := [(16, 0x3001)] })).map (fun t =>
      (t.session 1, t.holder 16, t.ev.log.map EventRec.ev)) = some (none, 0, [0x2101, 0x2302]) := by decide +kernel

/-! ### Witnesses: processors, firmware, sessions, resets -/

theorem witness_ProcessorsAndLiveness :
    ((live.site (5 : Phys).val).st ≠ .absent ∧ (live.site 5).missed < 4 ∧ live.procs.reeveLost = false ∧
      (let s := live.updSite 5 (fun c => { c with missed := 4 })
       4 ≤ (s.site 5).missed ∧ (s.site 5).st ≠ .absent) ∧ live.procs.constableLost = false) ∧
    (live.rst.ready = true ∧ live.procs.reevesLost < 2 ∧ live.procs.constablesLost < 2 ∧
      Tab.get false live.procs.droverLost (1 : Fin 4).val = false) ∧
    (Tab.get 0 plotted.procs.droverBeat (2 : Fin 4).val + 1000000 < plotted.now ∧
      Tab.get false plotted.procs.droverLost ((2 + 2) % 4) = false ∧ plotted.lapseOf none = none ∧ plotted.plotsOfDrover 2 = [2]) ∧
    (live.procs.reeveBeat + 3000000 < live.now ∧ live.procs.reevesLost = 0 ∧ live.lapseOf none = none ∧
      1 ≤ ({ live.procs with reevesLost := 1 } : Procs).reevesLost) ∧
    (live.procs.constableBeat + 3000000 < live.now ∧ live.procs.constablesLost = 0 ∧
      1 ≤ ({ live.procs with constablesLost := 1 } : Procs).constablesLost) := by
  decide

/-- Tile T005 fails while no Reeve is active, and waits. -/
def waitingFor : State := { plotted with procs := { plotted.procs with reeveLost := true, waitFail := [(5, TileCause.liveness, false)] } }

theorem witness_ProcessorsAndLiveness_takeovers :
    (waitingFor.rst.ready = true ∧ waitingFor.procs.reevesLost < 2 ∧ waitingFor.procs.reeveLost = true ∧
      waitingFor.procs.waitFail = [(5, TileCause.liveness, false)] ∧ (waitingFor.site 5).st = .active ∧ waitingFor.reserveTile = some 7 ∧
      (let s : State := { waitingFor with procs := { waitingFor.procs with waitFail := [] } }
       s.procs.waitFail = [] ∧ (∀ m ∈ s.fabric.lost, m.cls.val < 2))) ∧
    (let s : State := { plotted with procs := { plotted.procs with reevesLost := 1 } }
     s.procs.reeveLost = false ∧ s.procs.reeveBeat + 3000000 < s.now ∧ 1 ≤ s.procs.reevesLost) ∧
    (let s : State := { plotted with procs := { plotted.procs with constablesLost := 1 } }
     s.procs.constableLost = false ∧ s.procs.constableBeat + 3000000 < s.now ∧ 1 ≤ s.procs.constablesLost) ∧
    (plotted.procs.reeveLost = false ∧ Tab.get false plotted.procs.droverLost 2 = false) := by
  decide

/-- The engine during an update in this phase, with this header in the idle slot. -/
def programming (phase : Nat) (f : Boot → Boot) : State := { withCells live [(0x8010, 1, phase)] with boot := f live.boot }
/-- A slot in Verify with magic and an SVN of its own. -/
def verifySlot (svn : Nat) : FlashSlot := { magic := 0x4E424653, st := 0x7F, svn := svn }
def requestBody : List Byte := toLe 8 0x100000 ++ toLe 4 4096 ++ toLe 4 0
def chunkBody : List Byte := toLe 8 1024 ++ List.replicate 1024 0

theorem witness_FirmwareUpdatesTheIdleSlot_requests :
    (let b := toLe 8 0 ++ toLe 8 (2 ^ 32)
     WriteArrives (asked (keyed live) (writeReq 0x8010 2 b)) hostA 0x8010 2 b ∧ field b 12 4 ≠ 0) ∧
    (WriteArrives (asked (keyed live) (writeReq 0x8010 2 requestBody)) hostA 0x8010 2 requestBody ∧ field requestBody 12 4 = 0 ∧
      live.updating = false ∧ (programming 3 id).updating = true ∧
      WriteArrives (asked (keyed (programming 3 id)) (writeReq 0x8010 2 requestBody)) hostA 0x8010 2 requestBody) ∧
    (WriteArrives (asked (keyed (programming 3 id)) (writeReq 0x8010 3 chunkBody)) hostA 0x8010 3 chunkBody ∧
      field chunkBody 0 8 % 1024 = 0 ∧ field chunkBody 0 8 < 2 ^ 28 ∧ (programming 3 id).cell 0x8010 1 = 3 ∧
      (programming 3 id).boot.fromHost = false ∧ (programming 2 id).cell 0x8010 1 ≠ 3 ∧ (programming 2 id).updating = true ∧
      WriteArrives (asked (keyed (programming 2 id)) (writeReq 0x8010 3 chunkBody)) hostA 0x8010 3 chunkBody) := by
  simp only [WriteArrives, Arrives, hostA]
  decide +kernel

theorem witness_FirmwareUpdatesTheIdleSlot :
    ((List.replicate 166 (0 : Byte)).length = 166 ∧ (programming 1 id).cell 0x8010 1 = 1 ∧
      (programming 3 (fun b => { b with fromHost := true })).boot.fromHost = true) ∧
    (let s := programming 4 (fun b => { b with slotB := verifySlot 1 })
     s.cell 0x8010 1 = 4 ∧ s.idleSlot.magic = 0x4E424653 ∧ ofLe (s.persistent 0x8010 5) ≤ s.idleSlot.svn) ∧
    (programming 4 id).idleSlot.magic ≠ 0x4E424653 ∧
    (let s : State := { State.reset with now := 10 * second, rst := { phase := .booting }, boot := { slotA := verifySlot 1 } }
     s.rst.ready = false ∧ s.boot.recovery = false ∧ s.rst.phase = .booting ∧ s.rst.bootAt + 10 * second ≤ s.now ∧
       s.boot.failures + 1 < 3 ∧ s.bootable (!s.boot.running) = false) ∧
    (let s : State := { State.reset with boot := { slotB := { verifySlot 1 with st := 0x3F }, failures := 2 } }
     3 ≤ s.boot.failures + 1 ∧ s.bootable (!s.boot.running) = true) := by
  decide +kernel

theorem witness_FirmwareUpdatesTheIdleSlot_phases :
    ((programming 2 id).cell 0x8010 1 = 2 ∧ (programming 0 id).cell 0x8010 1 < 1 ∧ 4 < (programming 5 id).cell 0x8010 1) ∧
    (let s := programming 3 (fun b => { b with chunks := [0, 1024, 2048, 3072] })
     s.cell 0x8010 1 = 3 ∧ s.boot.fromHost = false ∧ s.boot.fed = true ∧ (programming 3 id).boot.fed = false) ∧
    (let s := programming 4 (fun b => { b with slotB := verifySlot 1 })
     let v : State := { s with otp := [(ek 0x8010 5, [⟨toLe 4 2, true⟩])] }
     v.cell 0x8010 1 = 4 ∧ v.idleSlot.svn < ofLe (v.persistent 0x8010 5)) ∧
    (let s : State := { State.reset with now := 10 * second, rst := { phase := .warm }, boot := { failures := 2 } }
     s.rst.phase = .warm ∧ s.rst.bootAt + 10 * second ≤ s.now ∧ 3 ≤ s.boot.failures + 1 ∧ s.bootable (!s.boot.running) = false) := by
  decide +kernel

/-- A HELLO of 232 bytes under fleet key 0, which 8000:05 holds, and its exchange. -/
def helloBody : List Byte := toLe 4 77 ++ List.replicate 228 0
def fleetKey : List Byte := 1 :: List.replicate 19 0
def fleet (s : State) : State := { s with otp := [(ek 0x8000 5, [⟨fleetKey, true⟩])] }
def exchange0 : Exchange := ⟨toLe 32 77, 49999000, some .a, 0⟩
def greeted (n : Nat) : State := { fleet live with exchanges := List.replicate n exchange0, nextExchange := n }

theorem witness_SessionsOpenByExchange :
    (let q := writeReq 0x8020 1 helloBody
     ArrivesOpening (asked (fleet live) q) hostA q ∧ (asked (fleet live) q).writeCheck hostA.who .write 0x8020 1 helloBody = none ∧
       field helloBody 129 1 ≤ 1 ∧ field helloBody 130 6 = 0 ∧ fleetKey = (asked (fleet live) q).persistent 0x8000 (5 + 0) ∧
       ([] : List Byte) ≠ (asked (fleet live) q).persistent 0x8000 (5 + 0) ∧
       ((asked (fleet live) q).persistent 0x8000 (5 + 0)).any (fun b => b != 0) = true ∧ (fleet live).openSessions.length < 32 ∧
       (fleet live).openExchanges.length < 4 ∧ 4 ≤ (greeted 4).openExchanges.length) ∧
    (let q := readQ 0x8020 2 0 77
     let s := asked (greeted 1) q
     field (s.box pfA).request 9 1 = 0 ∧ ArrivesOpening s hostA q ∧ (s.readCheck hostA.who .read 0x8020 2).isRight = true ∧
       s.openExchanges.find? (fun x => field x.nonce 0 4 == (77 : U32).toNat && x.via == viaOf hostA.who) = some exchange0 ∧
       s.openExchanges.find? (fun x => field x.nonce 0 4 == (78 : U32).toNat && x.via == viaOf hostA.who) = none ∧
       s.session 1 = none ∧ s.openSessions.length < 32) ∧
    (let b := toLe 1 1 ++ List.replicate 71 0
     let q := writeReq 0x8102 2 b
     let x : Session := { opened := 0, lastRx := 0, via := some .a }
     let s := asked { plotted with sessions := [(1, some x)] } q
     WriteArrives s hostA (0x8100 + 2) (2 + (0 : Fin 2).val) b ∧ s.session (field b 0 1) = some x ∧
       s.hasRights (x.cls (field b 0 1)) 2 = true ∧ field b 1 11 = 0 ∧ s.cell (0x3100 + 2) 3 ≠ 4 ∧ s.keyInUse 2 0 = false ∧
       (s.setBlob 0x5102 1 (path0 true)).keyInUse 2 0 = true ∧ s.hasRights (({ x with via := none } : Session).cls 1) 2 = false) := by
  simp only [WriteArrives, ArrivesOpening, Arrives, hostA]
  decide +kernel

theorem witness_SessionsOpenByExchange_full :
    (let s : State := { fleet live with sessions := (List.range 32).map (fun k => (k + 1, some { opened := 0, lastRx := 0 })) }
     32 ≤ s.openSessions.length) ∧
    (let x : Session := { opened := 0, lastRx := 0, via := some .a }
     let b := toLe 1 1 ++ List.replicate 71 0
     let s := withCells { plotted with sessions := [(1, some x)] } [(0x3102, 3, 4)]
     s.session (field b 0 1) = some x ∧ s.hasRights (x.cls (field b 0 1)) 2 = true ∧ field b 1 11 = 0 ∧
       s.cell (0x3100 + (2 : PlotId).val) 3 = 4) := by
  decide +kernel

theorem witness_ColdStartsKeepWhatLasts :
    ((0 : Fin 4).val ≠ 3 ∨ False) ∧ ((3 : Fin 4).val = 3 ∧ live.power.shutdown = 0) ∧
    (State.reset.rst.phase = .alwaysOn ∧ (114000 : Nat) ≤ 114000 ∧ State.reset.defects = [] ∧
      State.reset.boot.first = false ∧ (State.reset.boot.slot false).st = 0x3F ∧ ofLe (State.reset.persistent 0x8010 5) = 0) ∧
    (let s : State := { State.reset with rst := { phase := .booting } }
     s.rst.phase = .booting ∧ s.boot.recovery = false) := by
  decide

theorem witness_ColdStartsKeepWhatLasts_low :
    (live.rst.phase ≠ .alwaysOn ∧ 113999 < 114000) ∧ live.updating = false ∧
    (∃ u, u < 112 ∧ ∃ n d, n < 2688 ∧ d < 3 ∧ u = n + d) ∧ (∃ x, x < 8 ∧ live.ethMode x ≠ 0) := by
  refine ⟨by decide, by decide, ⟨0, by decide, 0, 0, by decide⟩, 0, by decide⟩

theorem witness_ColdStartsKeepWhatLasts_bootable : State.reset.bootable State.reset.boot.first = true := by
  have zero : ofLe (State.reset.persistent 0x8010 5) = 0 := by decide
  have valid : (State.reset.boot.slot State.reset.boot.first).st = 0x3F := by decide
  simp [State.bootable, zero, valid]

/-- Plot 2 with an image; in a warm reset, the resident Bench of loom 0 in its save extents. -/
def quiesced : State :=
  { ((plotted.updPlot 2 (fun y => { y with image := some image0, saveExt := true })).updLoom 0 (fun l => { l with saved := true })) with
    rst := { live.rst with phase := .warm, ready := false } }

theorem witness_WarmResetsQuiesceAndRestore :
    (let s : State := { live with procs := { live.procs with reeveBeat := 0 }, now := second, rst := { live.rst with armedAt := some 900000001 } }
     s.power.shutdown = 0 ∧ s.rst.phase = .ready ∧ (1 : Fin 4).val < 2 ∧ s.rst.watch = true ∧ s.power.auxOk = true ∧
       s.procs.reeveBeat + second ≤ s.now ∧ s.rst.armedAt = some 900000001 ∧ s.now < 900000001 + 100000000 ∧ s.armed = true ∧
       ¬({ s with now := 1000000001 } : State).now < 900000001 + 100000000 ∧
       live.now < live.procs.reeveBeat + second) ∧
    (State.reset.rst.phase ≠ .ready ∧ State.reset.boot.recovery = false ∧ State.reset.armed = false) ∧
    ({ live with boot := { live.boot with recovery := true }, rst := { phase := .booting } } : State).boot.recovery = true ∧
    (let s : State := { State.reset with rst := { phase := .booting } }
     s.rst.phase = .booting ∧ s.boot.recovery = false) ∧
    ((powered (fun x => { x with shutdown := 2 })).power.shutdown = 2 ∧ (114000 : Nat) ≤ 114000) ∧
    (((1 : Fin 4).val ≠ 3) ∧ ((3 : Fin 4).val = 3 ∧ (powered (fun x => { x with shutdown := 2 })).power.shutdown ≠ 0)) ∧
    (quiesced.rst.phase = .warm ∧ quiesced.boot.recovery = false ∧ 2 ∈ quiesced.plotsNow ∧ 0 ∈ (quiesced.plot 2).looms ∧
      (quiesced.plot 2).image = some image0 ∧ (quiesced.loom 0).saved = true ∧ quiesced.procs.waitFail = [] ∧
      (∀ p ∈ quiesced.plotsNow, ∀ n ∈ (quiesced.plot p).looms, (quiesced.loom n).saved = true →
        quiesced.saveLost (saveRanges (quiesced.saveOn p (n / 20)) (quiesced.savePlace p n image0) (residentBytes image0)) = false) ∧
      (∀ q ∈ quiesced.plotsNow, 0 ∈ (quiesced.plot q).looms → q = 2) ∧
      quiesced.power.p4 = false ∧ (∀ p ∈ quiesced.plotsNow, 40 ∉ (quiesced.plot p).looms)) ∧
    ((0xC3 : Byte) = 0xC3 ∧ (0 : Byte) ≠ 0xC3) := by
  decide

theorem test_warm_reset_command_clears_ready :
    (nextOf (exec (.resetCmd 0xA5) { live with rst := { live.rst with armedAt := some 0 } })).map (fun t =>
      (t.rst.ready, t.rst.cause, t.rst.armedAt)) = some (false, 5, none) := by decide +kernel

/-! ### Worked examples of the spec -/

/-- The weight trace of chapter 03: the four element pairs give shift 0 and −6,272; the block gives 0xBCC4_0000, and with the
weight tensor scale 0xBC93_0000. -/
def tracePairs : List (Elem × Elem) :=
  List.zip ([3, 0xD, 7, 9].map (decodeElem 5)) ([0x40, 0x3C, 0xB4, 0x28].map (decodeElem 8))

theorem test_weight_trace :
    elemCode 5 [0x97D3] 1 = 0xD ∧ (blockAcc tracePairs).1 = 0 ∧ (blockAcc tracePairs).2.1 = -6272 ∧
      blockPartial 0 (-6272) (gridQ 5 + gridQ 8) .finite false (scaleValue 1 0x7A) (scaleValue 1 0x7C) = 0xBCC40000 ∧
      f32mul 0xBCC40000 0x3F400000 = 0xBC930000 := by decide

/-- R104: 5.3 is the largest of its block; E4M3 with E8M0 gives scale 0x79 and code 0x7B. -/
theorem test_R104_example :
    (convertBlock 8 1 0x3F800000 none [0x40A9999A]).scale = 0x79 ∧ (convertBlock 8 1 0x3F800000 none [0x40A9999A]).codes = [0x7B] := by
  decide +kernel

/-- R104: quotients of I4: −7.6 rounds to −8 in range, −8.6 becomes −8 and saturates; of E4M3: 460 becomes 448, in range. -/
theorem test_R104_saturation :
    ((convert1 3 false 1 0 none 0xC0F33333).code, (convert1 3 false 1 0 none 0xC0F33333).sat) = (8, false) ∧
    ((convert1 3 false 1 0 none 0xC109999A).code, (convert1 3 false 1 0 none 0xC109999A).sat) = (8, true) ∧
    ((convert1 8 false 1 0 none 0x43E60000).code, (convert1 8 false 1 0 none 0x43E60000).sat) = (0x7E, false) := by
  decide +kernel

/-- R212 and R213: Meadow-140's pool: 481 portions in an extent; frame 41,000 of layer 40 stands in image extent 8,768, slot 315. -/
def meadow : Pool := ⟨0, 8, 80, 4, 4, 5, 1, false, 0, 2048, 0, 0, 0⟩

theorem test_R213_example :
    codeSize meadow + scaleSize meadow = 34816 ∧ perExtent meadow = 481 ∧ portionAt meadow 40 41000 = (8768, 315) ∧
      315 * codeSize meadow + 135 * poolCb meadow = 0x9DA1C0 ∧
      perExtent meadow * codeSize meadow + 315 * scaleSize meadow + 135 * poolSb meadow = 0xFA5A1C := by decide

/-- R384: the header of a READ of 4010:01 with TAG 7, as it stands in the mailbox, and the response's. -/
theorem test_R384_example :
    ({ cmd := .read, idx := 0x4010, sub := 1 } : Req).bytes 7 =
      [0x4C, 0x47, 1, 1, 0, 0, 7, 0, 0, 0, 0x10, 0x40, 1, 0, 0, 0, 0, 0, 0, 0, 0, 0, 0, 0] ∧
    (frameBytes 1 7 0x4010 1 { status := .done, seq := 0x1A2B, type := 8, body := toLe 4 0x3FCA3E66 }) =
      [0x4C, 0x47, 1, 1, 4, 0, 7, 0, 0, 0, 0x10, 0x40, 1, 0, 8, 0, 0, 0, 0, 0, 0x2B, 0x1A, 0, 0, 0x66, 0x3E, 0xCA, 0x3F] := by
  decide

/-! ### Ill-formed commands are refused by the well-formedness check -/

/-- What a command is when it is ill-formed. -/
def Refused (c : Instr) : Prop := exec c live = .fault .illFormed

theorem test_illFormed_cellar :
    Refused (.cellarRead 17 2 4080 {}) ∧ Refused (.cellarWrite 4095 2 [0, 0]) ∧ Refused (.chainXor 0 0 ⟨0, [], {}⟩) := ⟨rfl, rfl, rfl⟩

theorem test_illFormed_carriers :
    Refused (.issue loom0 1 ⟨.fill 0 0 16, []⟩) ∧ Refused (.parcelReceive 2 0 [] true) ∧ Refused (.updatePhaseEnd true []) :=
  ⟨rfl, rfl, rfl⟩

theorem test_illFormed_frames :
    Refused (.mbGo pfA 0 (List.replicate 4097 0)) ∧
      Refused (.flitReceive 3 { flit0 4 0 7 with payload := List.replicate 241 0 } true) := by
  have h1 : Instr.wf (.mbGo pfA 0 (List.replicate 4097 0)) = false := by
    simp only [Instr.wf, List.length_replicate]; decide
  have h2 : Instr.wf (.flitReceive 3 { flit0 4 0 7 with payload := List.replicate 241 0 } true) = false := by
    simp only [Instr.wf, List.length_replicate]; decide
  constructor
  · show execMbGo _ _ _ _ = _
    unfold execMbGo; rw [if_pos h1]
  · show execFlitReceive _ _ _ _ = _
    unfold execFlitReceive; rw [if_pos h2]



end Sys2Proof.Tests
end

section
/-! SUPPORT. What a message on its way through the fabric changes, and with it what it leaves alone (R33 to R50); tables that keep some
keys, folds and events, as the frames of the later sections need them. -/

namespace Sys2Proof.Machine

/-! ### Tables that keep some keys only -/

theorem Tab.get_keep {α : Type} (d : α) (p : Nat → Bool) (t : Tab α) (k : Nat) (h : p k = true) :
    Tab.get d (Tab.keep p t) k = Tab.get d t k := by
  induction t with
  | nil => rfl
  | cons e t ih =>
    obtain ⟨j, v⟩ := e
    by_cases hj : j = k
    · subst hj; simp [Tab.keep, Tab.get, h]
    · by_cases hp : p j = true <;> simp [Tab.keep, Tab.get, hp, hj, ih]

theorem Tab.keep_erase {α : Type} (p : Nat → Bool) (t : Tab α) (k : Nat) (h : p k = false) :
    Tab.keep p (Tab.erase k t) = Tab.keep p t := by
  induction t with
  | nil => rfl
  | cons e t ih =>
    obtain ⟨j, v⟩ := e
    by_cases hj : j = k
    · subst hj; simp [Tab.keep, Tab.erase, h, ih]
    · simp [Tab.keep, Tab.erase, hj, ih]

theorem Tab.keep_insert {α : Type} (p : Nat → Bool) (t : Tab α) (k : Nat) (v : α) (h : p k = false) :
    Tab.keep p (Tab.insert k v t) = Tab.keep p t := by
  induction t with
  | nil => simp [Tab.insert, Tab.keep, h]
  | cons e t ih =>
    obtain ⟨j, w⟩ := e
    by_cases hj : k < j <;> simp [Tab.insert, Tab.keep, hj, h, ih]

/-- A write to a key that is not kept is not seen among those that are. -/
theorem Tab.keep_set {α : Type} [DecidableEq α] (d : α) (p : Nat → Bool) (t : Tab α) (k : Nat) (v : α) (h : p k = false) :
    Tab.keep p (Tab.set d t k v) = Tab.keep p t := by
  unfold Tab.set
  split
  · exact Tab.keep_erase p t k h
  · rw [Tab.keep_insert p _ k v h, Tab.keep_erase p t k h]

/-- Two Ledgers that agree on the keys kept agree on each of their cells. -/
theorem State.cell_of_keep {s t : State} {keep : Nat → Bool} (h : Tab.keep keep t.led = Tab.keep keep s.led) (i j : Nat)
    (hk : keep (ek i j) = true) : t.cell i j = s.cell i j := by
  rw [State.cell, State.cell, ← Tab.get_keep _ keep t.led _ hk, h, Tab.get_keep _ keep s.led _ hk]

/-! ### Folds and events -/

/-- A fold of steps that keep a part keeps it. -/
theorem foldl_keeps {α β γ : Type} (g : β → γ) {f : β → α → β} (l : List α) (h : ∀ x ∈ l, ∀ b, g (f b x) = g b) (b : β) :
    g (l.foldl f b) = g b := by
  induction l generalizing b with
  | nil => rfl
  | cons x l ih =>
    rw [List.foldl_cons, ih (fun y hy => h y (List.mem_cons_of_mem x hy)), h x List.mem_cons_self]

/-- A fold of steps none of which changes the start ends there. -/
theorem foldl_stays {α β : Type} {f : β → α → β} {b : β} (l : List α) (h : ∀ x ∈ l, f b x = b) : l.foldl f b = b := by
  induction l with
  | nil => rfl
  | cons x l ih => rw [List.foldl_cons, h x List.mem_cons_self, ih (fun y hy => h y (List.mem_cons_of_mem x hy))]

/-- A state without what raising an event changes. -/
def State.offReport (s : State) : State := { s with ev := {}, sessions := [], out := [] }

theorem raisePort_offReport (x : Port) (r : EventRec) (s : State) : (raisePort x r s).offReport = s.offReport := by
  unfold raisePort
  dsimp only
  split <;> rfl

theorem State.raise_offReport (s : State) (ev p : Nat) (ps : List Nat) : (s.raise ev p ps).offReport = s.offReport := by
  unfold State.raise
  simp only [raisePort_offReport]
  rfl

/-! ### Messages on their way -/

/-- A state without what a message changes on its way through the fabric: channels, inboxes, the lists of messages that wait, the
count of refused ones, the counters of 3300+p and of looms. -/
def State.offRoad (s : State) : State :=
  { s with led := Tab.keep (fun k => decide (k < ek 0x3300 0) || decide (ek 0x3310 0 ≤ k)) s.led, looms := [],
           fabric := { s.fabric with chans := [], chanOwner := [], inbox := [], refused := 0, parked := [], waitChan := [] } }

@[simp] theorem State.updChan_offRoad (s : State) (k : Nat) (f : Chan → Chan) : (s.updChan k f).offRoad = s.offRoad := rfl
@[simp] theorem State.deliver_offRoad (s : State) (m : Msg) : (s.deliver m).offRoad = s.offRoad := rfl
@[simp] theorem State.updLoom_offRoad (s : State) (n : Nat) (f : LoomSt → LoomSt) : (s.updLoom n f).offRoad = s.offRoad := rfl

@[simp] theorem State.release_offRoad (s : State) (m : Transit) : (s.release m).offRoad = s.offRoad := by
  unfold State.release
  split <;> rfl

@[simp] theorem State.takeChan_offRoad (s : State) (plot t e : Nat) : (s.takeChan plot t e).2.offRoad = s.offRoad := by
  unfold State.takeChan
  split
  · rfl
  · split <;> rfl

@[simp] theorem State.enqueue_offRoad (s : State) (t e : Nat) (m : Transit) : (s.enqueue t e m).offRoad = s.offRoad := by
  have h := State.takeChan_offRoad s m.msg.plot.toNat t e
  unfold State.enqueue
  split
  · split
    next k s' he => rw [he] at h; exact h
    next s' he => rw [he] at h; exact h
  · rfl

/-- A counter of 3300+p is not seen off the road. -/
theorem State.bump_offRoad (s : State) (w p j n : Nat) (hp : p < 16) (hj : j < 256) :
    (s.bump w (0x3300 + p) j n).offRoad = s.offRoad := by
  unfold State.bump State.setCell State.offRoad
  rw [Tab.keep_set _ _ _ _ _ (by simp [ek]; omega)]

@[simp] theorem State.countFallback_offRoad (s : State) (m : Msg) : (s.countFallback m).offRoad = s.offRoad := by
  unfold State.countFallback
  split
  · rfl
  · have h := State.bump_offRoad s 64 m.plot.toNat 6 1 (by omega) (by omega)
    split
    · exact h
    · exact h

@[simp] theorem State.dimension_offRoad (s : State) (t aim goal : Nat) (m : Transit) :
    (s.dimension t aim goal m).offRoad = s.offRoad := by
  unfold State.dimension
  split
  · simp
  · split <;> simp

@[simp] theorem State.placeTile_offRoad (s : State) (t goal : Nat) (m : Transit) :
    (s.placeTile t goal m).offRoad = s.offRoad := by
  unfold State.placeTile
  split
  · simp
  · split
    · split <;> simp
    · simp

@[simp] theorem State.place_offRoad (s : State) (t : Nat) (m : Transit) : (s.place t m).offRoad = s.offRoad := by
  unfold State.place
  split
  · simp
  · split
    · simp
    · split <;> simp

/-- A message that enters the fabric, is refused or waits at its source changes nothing off the road. -/
@[simp] theorem State.inject_offRoad (s : State) (m : Msg) : (s.inject m).offRoad = s.offRoad := by
  unfold State.inject
  split
  · rfl
  · split
    · split
      · rfl
      · simp
    · rfl

/-- What agrees off the road differs in the fabric, the Ledger's counters and looms at most. -/
theorem Changes.of_offRoad {s t : State} (h : t.offRoad = s.offRoad) : Changes s t [.fabric, .led, .looms] := by
  intro p hp
  simp only [State.offRoad, State.mk.injEq] at h
  cases p <;> simp_all [Part.same]

theorem State.cell_of_offRoad {s t : State} (h : t.offRoad = s.offRoad) (i j : Nat)
    (hk : ek i j < ek 0x3300 0 ∨ ek 0x3310 0 ≤ ek i j) : t.cell i j = s.cell i j := by
  simp only [State.offRoad, State.mk.injEq] at h
  obtain ⟨-, -, -, hled, -⟩ := h
  exact State.cell_of_keep hled i j (by simpa using hk)

end Sys2Proof.Machine
end

section
/-! SUPPORT. What a fault of a plot leaves alone: the fabric, and the Ledger's cells below 6200 but two (R245). -/

namespace Sys2Proof.Machine

/-! ### A plot that faults -/

/-- A state without what ending steps and requests changes: events, looms, plots, steps, samples, requests, rings, what leaves the
engine, and the counters of the Ledger from 6200 on. -/
def State.offFault (s : State) : State :=
  { s with led := Tab.keep (fun k => decide (k < ek 0x6200 0)) s.led, ev := {}, sessions := [], out := [], looms := [], plots := [],
           steps := [], samples := [], ob := [], qps := [] }

@[simp] theorem State.updPlot_offFault (s : State) (p : Nat) (f : Plot → Plot) : (s.updPlot p f).offFault = s.offFault := rfl
@[simp] theorem State.updLoom_offFault (s : State) (n : Nat) (f : LoomSt → LoomSt) : (s.updLoom n f).offFault = s.offFault := rfl
@[simp] theorem State.updQp_offFault (s : State) (n : Nat) (f : Qp → Qp) : (s.updQp n f).offFault = s.offFault := rfl
@[simp] theorem State.updOb_offFault (s : State) (i : Nat) (f : Ob → Ob) : (s.updOb i f).offFault = s.offFault := rfl
@[simp] theorem State.updStep_offFault (s : State) (id : Nat) (f : Step → Step) : (s.updStep id f).offFault = s.offFault := rfl
@[simp] theorem State.emit_offFault (s : State) (o : Out) : (s.emit o).offFault = s.offFault := rfl
@[simp] theorem State.updPool_offFault (s : State) (p m : Nat) (f : PoolSt → PoolSt) : (s.updPool p m f).offFault = s.offFault := rfl
@[simp] theorem State.dropSamples_offFault (s : State) (id p : Nat) : (s.dropSamples id p).offFault = s.offFault := rfl

/-- A counter from 6200 on is none of the cells that stay. -/
@[simp] theorem State.bump_offFault (s : State) (w i j n : Nat) (hi : 0x6200 ≤ i) : (s.bump w i j n).offFault = s.offFault := by
  unfold State.bump State.setCell State.offFault
  rw [Tab.keep_set _ _ _ _ _ (by simp [ek]; omega)]

@[simp] theorem State.raise_offFault (s : State) (ev p : Nat) (ps : List Nat) : (s.raise ev p ps).offFault = s.offFault :=
  congrArg (fun u : State => { u with
    led := Tab.keep (fun k => decide (k < ek 0x6200 0)) u.led, looms := [], plots := [], steps := [], samples := [], ob := [],
    qps := [] }) (s.raise_offReport ev p ps)

@[simp] theorem State.noteBusy_offFault (s : State) (p : Nat) : (s.noteBusy p).offFault = s.offFault := by
  unfold State.noteBusy
  split <;> rfl

@[simp] theorem State.ringIrq_offFault (s : State) (n : Nat) : (s.ringIrq n).offFault = s.offFault := by
  unfold State.ringIrq
  dsimp only
  split
  · split
    next fn _ => generalize (if (s.qp n).active = .a then _ else _) = v; split <;> rfl
    · rfl
  · rfl

@[simp] theorem State.postOne_offFault (s : State) (n : Nat) (r : Result) : (s.postOne n r).offFault = s.offFault := by
  unfold State.postOne
  dsimp only
  split <;> rfl

@[simp] theorem State.post_offFault (s : State) (n : Nat) (rs : List Result) : (s.post n rs).offFault = s.offFault := by
  have h := foldl_keeps State.offFault rs (fun r _ u => State.postOne_offFault u n r) s
  unfold State.post
  dsimp only
  split
  · exact h
  · rw [State.ringIrq_offFault, h]

@[simp] theorem State.postAll_offFault (s : State) (es : List (Nat × Result)) : (s.postAll es).offFault = s.offFault :=
  foldl_keeps State.offFault _ (fun n _ u => State.post_offFault u n _) s

@[simp] theorem State.releasePage_offFault (s : State) (i : Nat) (d : Bool) (j : Nat) :
    (s.releasePage i d j).offFault = s.offFault := by
  unfold State.releasePage
  dsimp only
  split
  · rfl
  · split
    · rfl
    · split
      · rfl
      · split
        · split <;> rfl
        · rfl

@[simp] theorem State.releasePages_offFault (s : State) (i : Nat) : (s.releasePages i).offFault = s.offFault := 
  foldl_keeps State.offFault _ (fun e _ u => State.releasePage_offFault u i e.1 e.2) s

@[simp] theorem State.maybeFree_offFault (s : State) (i : Nat) : (s.maybeFree i).offFault = s.offFault := by
  unfold State.maybeFree
  dsimp only
  split <;> rfl

@[simp] theorem State.cancelSamples_offFault (s : State) (i : Nat) : (s.cancelSamples i).offFault = s.offFault := by
  unfold State.cancelSamples
  split
  · rfl
  · split
    · rfl
    · split <;> rfl

@[simp] theorem State.endCore_offFault (s : State) (i : Nat) (st : ReqState) (final : Status) :
    (s.endCore i st final).offFault = s.offFault := by
  unfold State.endCore
  cases st <;> simp (disch := omega)

@[simp] theorem State.endRequest_offFault (s : State) (i : Nat) (st : ReqState) (final : Status) (tag : Nat) :
    (s.endRequest i st final tag).offFault = s.offFault := by
  simp [State.endRequest]

@[simp] theorem State.settle_offFault (s : State) (i : Nat) : (s.settle i).offFault = s.offFault := by
  unfold State.settle State.settleCore
  dsimp only
  split <;> simp

@[simp] theorem State.dropStep_offFault (s : State) (id : Nat) : (s.dropStep id).offFault = s.offFault := by
  unfold State.dropStep
  split
  · rfl
  next x _ =>
    refine (foldl_keeps State.offFault _ (fun n _ u => ?_) _).trans
      ((foldl_keeps State.offFault _ (fun r _ u => ?_) _).trans (s.noteBusy_offFault x.plot))
    · split <;> rfl
    · rfl

@[simp] theorem State.cutStep_offFault (s : State) (id : Nat) : (s.cutStep id).offFault = s.offFault := by
  unfold State.cutStep
  split
  · rfl
  · simp (disch := omega)

/-- What a fault of plot `p` does before it writes the plot's state: steps, requests and pages end. -/
def State.endWork (s : State) (p : Nat) (poisonedFor : Nat → Bool) : State :=
  let s1 := (s.stepsOf p).foldl (fun s id => s.cutStep id) s
  let s2 := ((s1.obOf p).filter (fun i => (s1.obAt i).st.live)).foldl (fun s i =>
    s.endRequest i .faulted (if poisonedFor i then .integrity else .faulted) (s.obAt i).tag) s1
  (s2.obOf p).foldl (fun s i => (s.releasePages i).settle i) s2

/-- A load in progress ends REFUSED with its plot's fault (R245). -/
def State.endLoad (s : State) (p : Nat) : State :=
  if (s.plot p).loading.isSome then (s.updPlot p (fun x => { x with loading := none })).setCell (0x3100 + p) 3 6 else s

/-- Then a CREATED or SERVING plot reads FAULTED (R245). -/
def State.markFaulted (s : State) (p : Nat) : State :=
  if s.plotState p = 1 ∨ s.plotState p = 2 then s.setCell (0x3000 + p) 1 5 else s

theorem State.faultPlot_eq (s : State) (p : Nat) (f : Nat → Bool) :
    s.faultPlot p f = if s.plotExists p then ((s.endWork p f).endLoad p).markFaulted p else s := rfl

theorem State.endWork_offFault (s : State) (p : Nat) (f : Nat → Bool) : (s.endWork p f).offFault = s.offFault := by
  unfold State.endWork
  extract_lets s1 s2
  have h1 : s1.offFault = s.offFault := foldl_keeps State.offFault _ (fun id _ u => State.cutStep_offFault u id) s
  have h2 : s2.offFault = s1.offFault := foldl_keeps State.offFault _ (fun i _ u => State.endRequest_offFault u i _ _ _) s1
  have h3 : ∀ i ∈ s2.obOf p, ∀ u : State, ((u.releasePages i).settle i).offFault = u.offFault := fun i _ u => by simp
  exact (foldl_keeps State.offFault _ h3 s2).trans (h2.trans h1)

/-- Cells below 6200 stay as they are while steps and requests end. -/
theorem State.cell_of_offFault {s t : State} (h : t.offFault = s.offFault) (i j : Nat) (hk : ek i j < ek 0x6200 0) :
    t.cell i j = s.cell i j := by
  simp only [State.offFault, State.mk.injEq] at h
  obtain ⟨-, -, -, hled, -⟩ := h
  exact State.cell_of_keep hled i j (by simpa using hk)

/-- A fault writes two cells below 6200 itself: the plot's load state, and the plot's state. -/
theorem State.cell_endLoad (s : State) (p i j : Nat) (h : ek (0x3100 + p) 3 ≠ ek i j) : (s.endLoad p).cell i j = s.cell i j := by
  unfold State.endLoad
  split
  · rw [State.cell_setCell_ne _ _ _ _ _ _ h, State.cell_updPlot]
  · rfl

theorem State.cell_markFaulted (s : State) (p i j : Nat) (h : ek (0x3000 + p) 1 ≠ ek i j) :
    (s.markFaulted p).cell i j = s.cell i j := by
  unfold State.markFaulted
  split
  · rw [State.cell_setCell_ne _ _ _ _ _ _ h]
  · rfl

theorem State.endLoad_fabric (s : State) (p : Nat) : (s.endLoad p).fabric = s.fabric := by
  unfold State.endLoad
  split <;> rfl

theorem State.markFaulted_fabric (s : State) (p : Nat) : (s.markFaulted p).fabric = s.fabric := by
  unfold State.markFaulted
  split <;> rfl

/-- A fault of a plot does not reach the fabric. -/
@[simp] theorem State.faultPlot_fabric (s : State) (p : Nat) (f : Nat → Bool) : (s.faultPlot p f).fabric = s.fabric := by
  have hw : (s.endWork p f).offFault.fabric = s.offFault.fabric := by rw [State.endWork_offFault]
  rw [State.faultPlot_eq]
  split
  · rw [State.markFaulted_fabric, State.endLoad_fabric]; exact hw
  · rfl

/-- A fault of a plot leaves the cells below 6200 alone, but for the plot's state and its load state. -/
theorem State.cell_faultPlot (s : State) (p : Nat) (f : Nat → Bool) (i j : Nat) (hk : ek i j < ek 0x6200 0)
    (h1 : ek (0x3000 + p) 1 ≠ ek i j) (h3 : ek (0x3100 + p) 3 ≠ ek i j) : (s.faultPlot p f).cell i j = s.cell i j := by
  rw [State.faultPlot_eq]
  split
  · rw [State.cell_markFaulted _ _ _ _ h1, State.cell_endLoad _ _ _ _ h3, State.cell_of_offFault (s.endWork_offFault p f) i j hk]
  · rfl

/-- A CREATED or SERVING plot that faults reads FAULTED (R245). -/
theorem State.plotState_faultPlot (s : State) (p : Nat) (f : Nat → Bool) (hp : p < 16)
    (h : s.plotState p = 1 ∨ s.plotState p = 2) : (s.faultPlot p f).plotState p = 5 := by
  have he : s.plotExists p = true := by
    unfold State.plotExists
    rcases h with h | h <;> rw [h] <;> rfl
  have hw : ((s.endWork p f).endLoad p).plotState p = s.plotState p :=
    (State.cell_endLoad _ _ _ _ (by simp only [ek]; omega)).trans
      (State.cell_of_offFault (s.endWork_offFault p f) _ _ (by simp only [ek]; omega))
  rw [State.faultPlot_eq, if_pos he, State.markFaulted, if_pos (by rw [hw]; exact h)]
  exact State.cell_setCell_self _ _ _ _

end Sys2Proof.Machine
end

section
/-! SUPPORT. The frames of single updates; steps that are discarded (R197); a loom's sequencer at its word, and the words of wrong parity
that stop its step (R134, R153). -/

namespace Sys2Proof.Machine

/-! ### Small changes and their frames -/

theorem Changes.updLoom (s : State) (n : Nat) (f : LoomSt → LoomSt) : Changes s (s.updLoom n f) [.looms] := by
  intro p hp
  cases p
  case looms => exact absurd (List.mem_singleton.2 rfl) hp
  all_goals rfl

theorem Changes.updSite (s : State) (n : Nat) (f : Site → Site) : Changes s (s.updSite n f) [.sites] := by
  intro p hp
  cases p
  case sites => exact absurd (List.mem_singleton.2 rfl) hp
  all_goals rfl

theorem Changes.setProcs (s : State) (x : Procs) : Changes s { s with procs := x } [.procs] := by
  intro p hp
  cases p
  case procs => exact absurd (List.mem_singleton.2 rfl) hp
  all_goals rfl

theorem Changes.updPlot (s : State) (n : Nat) (f : Plot → Plot) : Changes s (s.updPlot n f) [.plots] := by
  intro p hp
  cases p
  case plots => exact absurd (List.mem_singleton.2 rfl) hp
  all_goals rfl

theorem Changes.updStep (s : State) (n : Nat) (f : Step → Step) : Changes s (s.updStep n f) [.steps] := by
  intro p hp
  cases p
  case steps => exact absurd (List.mem_singleton.2 rfl) hp
  all_goals rfl

theorem Changes.updSlot (s : State) (n : Nat) (f : SlotSt → SlotSt) : Changes s (s.updSlot n f) [.slots] := by
  intro p hp
  cases p
  case slots => exact absurd (List.mem_singleton.2 rfl) hp
  all_goals rfl

theorem Changes.setCell (s : State) (i j v : Nat) : Changes s (s.setCell i j v) [.led] := by
  intro p hp
  cases p
  case led => exact absurd (List.mem_singleton.2 rfl) hp
  all_goals rfl

theorem Changes.setFabric (s : State) (x : Fabric) : Changes s { s with fabric := x } [.fabric] := by
  intro p hp
  cases p
  case fabric => exact absurd (List.mem_singleton.2 rfl) hp
  all_goals rfl

theorem Changes.raise (s : State) (ev plot : Nat) (ps : List Nat) : Changes s (s.raise ev plot ps) Part.report := by
  intro p hp
  cases p
  case ev | sessions | out => exact absurd (by decide) hp
  all_goals simp [Part.same]

/-! ### Steps that are discarded -/

/-- A state without its looms. -/
def State.offLooms (s : State) : State := { s with looms := [] }

theorem Changes.of_offLooms {s t : State} (h : t.offLooms = s.offLooms) : Changes s t [.looms] := by
  intro p hp
  simp only [State.offLooms, State.mk.injEq] at h
  cases p <;> simp_all [Part.same]

theorem State.stepAt_of_offLooms {s t : State} (h : t.offLooms = s.offLooms) (id : Nat) : t.stepAt id = s.stepAt id := by
  have hs : t.steps = s.steps := Changes.of_offLooms h .steps (by decide)
  rw [State.stepAt, State.stepAt, hs]

theorem State.plot_of_offLooms {s t : State} (h : t.offLooms = s.offLooms) (p : Nat) : t.plot p = s.plot p := by
  have hs : t.plots = s.plots := Changes.of_offLooms h .plots (by decide)
  rw [State.plot, State.plot, hs]

/-- Those of some looms that run a step stop. -/
def State.haltOn (s : State) (id : Nat) (ls : List Nat) : State :=
  ls.foldl (fun s n => if (s.loom n).step = some id then s.updLoom n LoomSt.halt else s) s

/-- A step's record when its attempt is discarded. -/
def Step.discarded (x : Step) : Step := { x with st := .discarded, ended := [], appends := [] }

theorem State.discard_of_none {s : State} {id : Nat} (h : s.stepAt id = none) : s.discard id = s := by
  unfold State.discard
  rw [h]

theorem State.discard_of_stepAt {s : State} {id : Nat} {x : Step} (h : s.stepAt id = some x) :
    s.discard id = (((s.dropSamples id x.plot).updStep id Step.discarded)).haltOn id
      (((s.dropSamples id x.plot).updStep id Step.discarded).footprint x.plot) := by
  unfold State.discard
  rw [h]
  rfl

theorem State.haltOn_offLooms (s : State) (id : Nat) (ls : List Nat) : (s.haltOn id ls).offLooms = s.offLooms :=
  foldl_keeps State.offLooms ls (fun n _ u => by split <;> rfl) s

/-- A loom that is told to stop stands as it stood, or halts. -/
theorem State.loom_haltOn (s : State) (id : Nat) (ls : List Nat) (n : Nat) :
    (s.haltOn id ls).loom n = s.loom n ∨ (s.haltOn id ls).loom n = (s.loom n).halt := by
  induction ls generalizing s with
  | nil => exact .inl rfl
  | cons k ls ih =>
    have hk : ((if (s.loom k).step = some id then s.updLoom k LoomSt.halt else s).loom n = s.loom n) ∨
        ((if (s.loom k).step = some id then s.updLoom k LoomSt.halt else s).loom n = (s.loom n).halt) := by
      split
      · rw [State.loom_updLoom]
        split
        · exact .inr rfl
        · exact .inl rfl
      · exact .inl rfl
    have hh : ∀ l : LoomSt, l.halt.halt = l.halt := fun _ => rfl
    rcases ih (if (s.loom k).step = some id then s.updLoom k LoomSt.halt else s) with h | h <;> rcases hk with h' | h'
    · exact .inl (h.trans h')
    · exact .inr (h.trans h')
    · exact .inr (h.trans (by rw [h']))
    · exact .inr (h.trans (by rw [h', hh]))

/-- A discarded attempt changes looms, steps, plots and samples (R197, R124). -/
theorem State.discard_changes (s : State) (id : Nat) : Changes s (s.discard id) [.looms, .steps, .plots, .samples] := by
  cases h : s.stepAt id with
  | none =>
    rw [State.discard_of_none h]
    exact Changes.refl _ _
  | some x =>
    rw [State.discard_of_stepAt h]
    refine Changes.trans ?_ ((Changes.of_offLooms (State.haltOn_offLooms _ _ _)).mono (by simp))
    intro p hp
    cases p
    case looms | steps | plots | samples => exact absurd (by decide) hp
    all_goals rfl

/-- The step itself waits for its re-run then; the other steps stay as they are. -/
theorem State.stepAt_discard (s : State) (id j : Nat) :
    (s.discard id).stepAt j = if id = j then (s.stepAt j).map Step.discarded else s.stepAt j := by
  cases h : s.stepAt id with
  | none =>
    rw [State.discard_of_none h]
    split
    next e => rw [← e, h]; rfl
    · rfl
  | some x =>
    rw [State.discard_of_stepAt h, State.stepAt_of_offLooms (State.haltOn_offLooms _ _ _), State.stepAt_updStep]
    rfl

theorem State.loom_discard (s : State) (id n : Nat) :
    (s.discard id).loom n = s.loom n ∨ (s.discard id).loom n = (s.loom n).halt := by
  cases h : s.stepAt id with
  | none =>
    rw [State.discard_of_none h]
    exact .inl rfl
  | some x =>
    rw [State.discard_of_stepAt h]
    exact State.loom_haltOn _ _ _ _

/-! ### A loom's sequencer -/

/-- The instruction at which a loom stands is carried out (R191). -/
theorem State.seq_of_runs {s : State} {l : Loom} {op p id : Nat} (h : Runs s l op p id) (h0 : 0 < op) (hB : op ≤ 0x0B)
    (act : Nat → Nat → State → State) : s.seq l op act = act p id s := by
  obtain ⟨hstep, hown, ⟨k, hslot, hheld⟩, hretry, w, hword, hop⟩ := h
  simp only [State.seq, hstep, hown, hslot, hheld, hretry, hword, hop]
  rw [if_neg (by simp), if_neg (by omega), if_pos (.inl trivial)]

/-- What spoiling parity bits of a loom leaves of it (R134). -/
theorem State.loom_upsets (s : State) (n : Nat) (ws : List BenchWord) (m : Nat) :
    (s.upsets n ws).loom m = if n = m then (s.loom m).upset ws else s.loom m := by
  unfold State.upsets
  split
  next e => subst e; split <;> rfl
  · exact State.loom_updLoom _ _ _ _

theorem State.upsets_offLooms (s : State) (n : Nat) (ws : List BenchWord) : (s.upsets n ws).offLooms = s.offLooms := by
  unfold State.upsets
  split <;> rfl

@[simp] theorem State.slotOf_upsets (s : State) (n : Nat) (ws : List BenchWord) (m : Nat) :
    (s.upsets n ws).slotOf m = s.slotOf m := by
  unfold State.upsets
  split <;> rfl

/-- Ranges of which no line waits to be filled are read, or stop the step (R153, R199). -/
theorem State.benchGate_of_filled {s : State} {l : Loom} {rs : List (Nat × Nat)} (h : BenchFilled s l rs) (p id : Nat)
    (act : State → State) :
    s.benchGate l p id rs act = if (s.loom l.n).parityBad rs then s.benchParity l p id else act s := by
  have hf : rs.find? (fun r => r.2 != 0 && (s.loom l.n).pendingIn (lineRange r.1 r.2).1 (lineRange r.1 r.2).2) = none := by
    rw [List.find?_eq_none]
    intro r hr
    by_cases h0 : r.2 = 0
    · simp [h0]
    · simp [h r hr h0]
  unfold State.benchGate
  rw [hf]

/-- What a halt leaves of a loom. -/
theorem LoomSt.bytes_congr {l m : LoomSt} (hv : l.void = m.void) (hb : l.bench = m.bench) : l.bytes = m.bytes := by
  funext a n
  rw [LoomSt.bytes, LoomSt.bytes, hb, overBlank_congr hv]

/-- The first error of a step on a slot is counted, reported, and discards the step (R153). -/
theorem State.benchParity_first {s : State} {l : Loom} {k : Nat} (p id : Nat) (hk : s.slotOf l.n = some k)
    (hf : (s.slot k).parity.1 ≠ id + 1) :
    s.benchParity l p id =
      (((s.updSlot k (fun y => { y with parity := (id + 1, 1) })).bump 32 0x6010 5 1).raise 0x6101 p [slotCode k, p, id]).discard id := by
  simp [State.benchParity, hk, hf]

/-- What a loom keeps when bits of its Bench change and when its step is discarded. -/
def LoomSt.SameProgress (l m : LoomSt) : Prop := m.fg = l.fg ∧ m.bg = l.bg ∧ m.bytes = l.bytes ∧ m.ip = l.ip

theorem State.upsets_sameProgress (s : State) (n m : Nat) (ws : List BenchWord) :
    (s.loom m).SameProgress ((s.upsets n ws).loom m) := by
  rw [State.loom_upsets]
  split
  · exact ⟨rfl, rfl, LoomSt.bytes_congr rfl rfl, rfl⟩
  · exact ⟨rfl, rfl, rfl, rfl⟩

theorem State.discard_sameProgress (s : State) (id n : Nat) : (s.loom n).SameProgress ((s.discard id).loom n) := by
  rcases s.loom_discard id n with h | h <;> rw [h]
  · exact ⟨rfl, rfl, rfl, rfl⟩
  · exact ⟨rfl, rfl, LoomSt.bytes_congr rfl rfl, rfl⟩

theorem LoomSt.SameProgress.trans {l m n : LoomSt} (h : l.SameProgress m) (h' : m.SameProgress n) : l.SameProgress n := by
  obtain ⟨hf, hb, hy, hi⟩ := h
  obtain ⟨hf', hb', hy', hi'⟩ := h'
  exact ⟨hf'.trans hf, hb'.trans hb, hy'.trans hy, hi'.trans hi⟩

@[simp] theorem State.slot_raise (s : State) (ev p : Nat) (ps : List Nat) (n : Nat) : (s.raise ev p ps).slot n = s.slot n := by
  simp [State.slot]

@[simp] theorem State.slot_bump (s : State) (w i j n k : Nat) : (s.bump w i j n).slot k = s.slot k := rfl

/-- The report of a parity error, before the step is discarded. -/
def State.reportParity (s : State) (p id k : Nat) : State :=
  ((s.updSlot k (fun y => { y with parity := (id + 1, 1) })).bump 32 0x6010 5 1).raise 0x6101 p [slotCode k, p, id]

theorem State.reportParity_changes (s : State) (p id k : Nat) : Changes s (s.reportParity p id k) (.slots :: .led :: Part.report) :=
  (((Changes.updSlot s k _).mono (by decide)).trans ((Changes.setCell _ _ _ _).mono (by decide))).trans
    ((Changes.raise _ _ _ _).mono (by decide))

/-- A word of wrong parity among those that an instruction reads stops its step (R134, R153). -/
theorem State.benchParity_stops {s u : State} {l : Loom} {up : List BenchWord} {p id k : Nat} (hu : u = s.upsets l.n up)
    (hk : s.slotOf l.n = some k) (hf : (s.slot k).parity.1 ≠ id + 1) : ParityStops s (u.benchParity l p id) l p id k := by
  have hl : u.offLooms = s.offLooms := hu ▸ State.upsets_offLooms s l.n up
  have hsu : Changes s u [.looms] := Changes.of_offLooms hl
  have hslots : u.slot = s.slot := by funext n; rw [State.slot, State.slot, hsu .slots (by decide)]
  have hled : u.led = s.led := hsu .led (by decide)
  have huk : u.slotOf l.n = some k := by rw [hu, State.slotOf_upsets, hk]
  have ht : u.benchParity l p id = (u.reportParity p id k).discard id := State.benchParity_first p id huk (hslots ▸ hf)
  have hd := State.discard_changes (u.reportParity p id k) id
  have hr := State.reportParity_changes u p id k
  have hcell : ∀ i j, (u.benchParity l p id).cell i j = (u.bump 32 0x6010 5 1).cell i j := fun i j => by
    rw [ht, State.cell_of_led (hd .led (by decide)), State.reportParity, State.cell_raise]
    rfl
  have hprog : (s.loom l.n).SameProgress ((u.benchParity l p id).loom l.n) := by
    have hrl : (u.reportParity p id k).loom l.n = u.loom l.n := by rw [State.loom, hr .looms (by decide), ← State.loom]
    rw [ht]
    exact (hu ▸ State.upsets_sameProgress s l.n l.n up).trans (hrl ▸ State.discard_sameProgress (u.reportParity p id k) id l.n)
  obtain ⟨hfg, hbg, hbytes, hip⟩ := hprog
  refine ⟨?_, ?_, ?_, hfg, hbg, hbytes, hip, ?_, ?_, ?_, ?_⟩
  · rw [ht]
    refine (Raises.one ?_ _ _ _).congr (hd .ev (by decide)) (hd .now (by decide))
    exact congrArg Events.seq (hsu .ev (by decide))
  · rw [hcell, State.cell_bump_self, State.cell_of_led hled]
  · intro x hx
    refine ⟨x.discarded, ?_, rfl⟩
    rw [ht, State.stepAt_discard, if_pos rfl, State.stepAt, hr .steps (by decide)]
    exact congrArg (Option.map Step.discarded) ((State.stepAt_of_offLooms hl id).trans hx)
  · rw [ht]
    exact (hd .fabric (by decide)).trans ((hr .fabric (by decide)).trans (hsu .fabric (by decide)))
  · intro n hn
    have hn' : k ≠ n := fun e => hn (by simp [e])
    have hsl : (u.reportParity p id k).slot n = u.slot n := by
      rw [State.reportParity, State.slot_raise, State.slot_bump, State.slot_updSlot, if_neg hn']
    rw [ht, State.slot, hd .slots (by decide), ← State.slot, ← hslots]
    exact hsl
  · intro i j hj hn
    rw [hcell, State.bump, State.cell_setCell _ _ _ _ _ _ (by omega) hj, if_neg (by simpa [and_comm, eq_comm] using hn)]
    exact State.cell_of_led hled i j
  · rw [ht]
    exact (hsu.mono (by decide)).trans ((hr.mono (by decide)).trans (hd.mono (by decide)))

end Sys2Proof.Machine
end

section
/-! PROOFS. SEND (R44, R47, R191): the statement O16. -/

namespace Sys2Proof.Machine

/-! ### Parity bits that are spoiled change nothing that a SEND asks about the state -/

@[simp] theorem State.fabric_upsets (s : State) (n : Nat) (ws : List BenchWord) : (s.upsets n ws).fabric = s.fabric := by
  unfold State.upsets
  split <;> rfl

@[simp] theorem State.cell_upsets (s : State) (n : Nat) (ws : List BenchWord) (i j : Nat) :
    (s.upsets n ws).cell i j = s.cell i j := by
  unfold State.upsets
  split <;> rfl

@[simp] theorem State.partOk_upsets (s : State) (n : Nat) (ws : List BenchWord) (p : Nat) (b : BenchUser) (k a c : Nat) :
    (s.upsets n ws).partOk p b k a c = s.partOk p b k a c := by
  unfold State.upsets
  split <;> rfl

@[simp] theorem State.ownerOf_upsets (s : State) (n : Nat) (ws : List BenchWord) (k : Nat) :
    (s.upsets n ws).ownerOf k = s.ownerOf k := by
  unfold State.upsets
  split <;> rfl

@[simp] theorem State.mayInject_upsets (s : State) (n : Nat) (ws : List BenchWord) (m : Msg) :
    (s.upsets n ws).mayInject m = s.mayInject m := by
  unfold State.upsets
  split <;> rfl

theorem State.lt_of_ownerOf {s : State} {n p : Nat} (h : s.ownerOf n = some p) : p < 16 := by
  have hm := List.mem_of_find?_eq_some h
  exact List.mem_range.1 (List.mem_filter.1 hm).1

/-- An address fault is counted and faults the plot; the fabric is left alone (R199, R201). -/
theorem State.addrFault_serving {s : State} {p : Nat} (n : Nat) (hp : p < 16) (h : s.plotState p = 2) :
    (s.addrFault p n).plotState p = 5 ∧ (s.addrFault p n).cell (0x3300 + p) 9 = satAdd 32 (s.cell (0x3300 + p) 9) 1 ∧
      (s.addrFault p n).fabric = s.fabric := by
  unfold State.addrFault
  refine ⟨State.plotState_faultPlot _ _ _ hp (.inr ?_), ?_, ?_⟩
  · rw [State.plotState, State.cell_raise, State.bump, State.cell_setCell_ne _ _ _ _ _ _ (by simp only [ek]; omega)]
    exact h
  · rw [State.cell_faultPlot _ _ _ _ _ (by simp only [ek]; omega) (by simp only [ek]; omega) (by simp only [ek]; omega),
      State.cell_raise, State.cell_bump_self]
  · rw [State.faultPlot_fabric]
    simp

/-! ### SEND -/

/-- The limits of R44 on what a SEND puts into one message. -/
def sendFits (x : SendSrc) (cls : Fin 4) (kind : BitVec 3) : Bool :=
  decide (sendTransfers x ≤ 32) && (decide (cls.val < 3) || decide (sendTransfers x ≤ 2)) && kind != 7

theorem sendFits_iff (x : SendSrc) (cls : Fin 4) (kind : BitVec 3) :
    sendFits x cls kind = true ↔ sendTransfers x ≤ 32 ∧ (cls.val < 3 ∨ sendTransfers x ≤ 2) ∧ kind ≠ 7 := by
  simp [sendFits, and_assoc]

section Send

variable {s u : State} {l : Loom} {p id : Nat} {dest epoch : U16} {cls : Fin 4} {kind : BitVec 3} {x : SendSrc} {up : List BenchWord}

/-- On a stale entry the loom waits (R50). -/
theorem exec_send_stale (hu : u = s.upsets l.n up) (hr : Runs u l 5 p id)
    (hst : Tab.get false u.fabric.stale (staleKey (loomEndpoint l.n 0) dest.toNat) = true) :
    exec (.send l dest epoch cls kind x up) s = .next (u.updLoom l.n (fun y => { y with stall := some (.stale dest.toNat) })) := by
  change execSend l dest epoch cls kind x up s = _
  rw [execSend, ← hu, State.seq_of_runs hr (by decide) (by decide), if_pos hst]

variable (hst : Tab.get false u.fabric.stale (staleKey (loomEndpoint l.n 0) dest.toNat) = false) (hx : sendLegal x = true)
  (hpart : (sendReads x).any (fun r => !u.partOk p .fabricOut 0 r.1 r.2) = false)

include hst hx hpart in
/-- A loom of another plot is no destination (R199). -/
theorem exec_send_foreign {d : Nat} (hu : u = s.upsets l.n up) (hr : Runs u l 5 p id) (hd : endpointLoom dest.toNat = some d)
    (hown : u.ownerOf d ≠ some p) : exec (.send l dest epoch cls kind x up) s = .next (u.addrFault p l.n) := by
  change execSend l dest epoch cls kind x up s = _
  rw [execSend, ← hu, State.seq_of_runs hr (by decide) (by decide), if_neg (by simp [hst]), if_neg (by simp [hx]),
    if_neg (by simp [hpart]), hd]
  exact congrArg _ (if_pos (by simpa using hown))

include hst hx hpart in
/-- A loom of the plot, or an agent, is sent the bytes of the ranges, when no word of them has the wrong parity (R47, R103, R134). -/
theorem exec_send_owned (hu : u = s.upsets l.n up) (hr : Runs u l 5 p id)
    (hd : match endpointLoom dest.toNat with | some d => u.ownerOf d = some p | none => bit dest.toNat 15 = true)
    (hfill : BenchFilled u l (sendReads x)) {m : Msg}
    (hm : m = { epoch, dest, src := BitVec.ofNat 16 (loomEndpoint l.n 0), plot := BitVec.ofNat 5 p, cls, kind,
                payload := (u.loom l.n).sendBytes x }) :
    exec (.send l dest epoch cls kind x up) s = .next (
      if (u.loom l.n).parityBad (sendReads x) then u.benchParity l p id
      else if sendFits x cls kind && u.mayInject m then (u.inject m).advance l.n
      else ({ u with fabric := { u.fabric with refused := u.fabric.refused + 1 } }).advance l.n) := by
  change execSend l dest epoch cls kind x up s = _
  rw [execSend, ← hu, State.seq_of_runs hr (by decide) (by decide), if_neg (by simp [hst]), if_neg (by simp [hx]),
    if_neg (by simp [hpart]), State.benchGate_of_filled hfill, hm]
  refine congrArg _ (if_neg ?_)
  cases he : endpointLoom dest.toNat with
  | some d => simpa [he] using hd
  | none => simpa [he] using hd

end Send

/-- What a message that the firewall or the limits refuse leaves behind (R44, R47). -/
theorem State.refuse_advance_changes (s : State) (n : Nat) :
    Changes s (({ s with fabric := { s.fabric with refused := s.fabric.refused + 1 } } : State).advance n) [.fabric, .looms] :=
  ((Changes.setFabric s _).mono (by decide)).trans ((Changes.updLoom _ n _).mono (by decide))

end Sys2Proof.Machine

open Sys2Proof Sys2Proof.Machine

/-- Settles O16: each answer of SEND is read off the order of its checks; the parity case is `State.benchParity_stops`. -/
theorem sendIsTaggedAndChecked : Obligations.SendIsTaggedAndChecked := by
  intro s l p id dest epoch cls kind x up u m hu hr hm
  have hfab : u.fabric = s.fabric := hu ▸ State.fabric_upsets s l.n up
  have hcell : ∀ i j, u.cell i j = s.cell i j := hu ▸ State.cell_upsets s l.n up
  have hown : u.ownerOf = s.ownerOf := hu ▸ funext (State.ownerOf_upsets s l.n up)
  have hmay : u.mayInject m = s.mayInject m := hu ▸ State.mayInject_upsets s l.n up m
  have hparts : ∀ r : Nat × Nat, u.partOk p .fabricOut 0 r.1 r.2 = s.partOk p .fabricOut 0 r.1 r.2 :=
    fun r => hu ▸ State.partOk_upsets s l.n up p .fabricOut 0 r.1 r.2
  have hsu : Changes s u [.looms] := hu ▸ Changes.of_offLooms (State.upsets_offLooms s l.n up)
  have hbut : ∀ n, n ∉ [l.n] → u.loom n = s.loom n := fun n hn => by
    rw [hu, State.loom_upsets, if_neg (fun e => hn (by simp [e]))]
  rw [← hfab, ← hmay, ← hown]
  simp only [← hparts]
  refine ⟨fun hst => ⟨_, exec_send_stale hu hr hst, ?_, fun n hn => ?_, hsu.trans (Changes.updLoom u l.n _)⟩,
    fun hst hx hpart => ⟨fun d hd hd' hserv => ⟨_, exec_send_foreign hst hx hpart hu hr hd hd', ?_⟩, fun hd hfill => ?_⟩⟩
  · simp
  · rw [State.loom_updLoom, if_neg (fun e => hn (by simp [e])), hbut n hn]
  · have hp : p < 16 := State.lt_of_ownerOf hr.2.1
    obtain ⟨hst5, hcount, hf⟩ := State.addrFault_serving l.n hp ((hcell _ _).trans hserv)
    rw [hcell] at hcount
    exact ⟨hst5, hcount, by rw [hf], by rw [hf], (hsu.mono (by decide)).trans (Changes.of_fixed (State.addrFault_inner u p l.n))⟩
  · rw [exec_send_owned hst hx hpart hu hr hd hfill hm]
    refine ⟨fun k hbad hk hfirst => ⟨_, rfl, ?_⟩, fun hgood => ⟨fun h32 h2 h7 hinj => ⟨_, rfl, ?_⟩, fun hno => ⟨_, rfl, ?_⟩⟩⟩
    · rw [if_pos hbad]
      exact State.benchParity_stops hu hk hfirst
    · rw [if_neg (by simp [hgood]), if_pos (by simp [(sendFits_iff x cls kind).2 ⟨h32, h2, h7⟩, hinj])]
    · have hno' : ¬ (sendFits x cls kind && u.mayInject m) = true := by
        rw [Bool.and_eq_true, sendFits_iff]
        rintro ⟨⟨h32, h2, h7⟩, hinj⟩
        exact hno ⟨h32, h2, h7, hinj⟩
      rw [if_neg (by simp [hgood]), if_neg hno']
      refine ⟨rfl, rfl, rfl, ?_, fun n hn => ?_, (hsu.mono (by decide)).trans (u.refuse_advance_changes l.n)⟩
      · rw [State.advance, State.loom_updLoom, if_pos rfl]
        rfl
      · rw [State.advance, State.loom_updLoom, if_neg (fun e => hn (by simp [e]))]
        exact hbut n hn
end

section
/-! SUPPORT. What deriving routes again leaves alone (R187), and the failure of a tile that has no logical number (R24, R26). -/

namespace Sys2Proof.Machine

/-! ### Routes that are derived again -/

/-- Whether a cell is no map generation of routes, 3100+p:04 (R187). -/
def notRouteGen (k : Nat) : Bool := !(decide (ek 0x3100 0 ≤ k) && decide (k < ek 0x3110 0) && k % 256 == 4)

/-- A state without what deriving routes again changes: the fabric, events, and the map generations of routes. -/
def State.offRoutes (s : State) : State :=
  { s with led := Tab.keep notRouteGen s.led, fabric := {}, ev := {}, sessions := [], out := [] }

theorem State.raise_offRoutes (s : State) (ev p : Nat) (ps : List Nat) : (s.raise ev p ps).offRoutes = s.offRoutes :=
  congrArg (fun u : State => { u with led := Tab.keep notRouteGen u.led, fabric := {} }) (s.raise_offReport ev p ps)

theorem State.takeChan_offRoutes (s : State) (plot t e : Nat) : (s.takeChan plot t e).2.offRoutes = s.offRoutes := by
  unfold State.takeChan
  split
  · rfl
  · split <;> rfl

theorem State.rederive_offRoutes (s : State) (p : Nat) (r : Route) : (s.rederive p r).offRoutes = s.offRoutes := by
  unfold State.rederive
  refine (foldl_keeps (fun a : State × List (Nat × Nat × Nat) × List Nat => a.1.offRoutes) _ (fun h _ a => ?_) _)
  have hc := State.takeChan_offRoutes a.1 p h.1 h.2
  split
  next k s' he => rw [he] at hc; exact hc
  next s' he => rw [he] at hc; exact (State.raise_offRoutes _ _ _ _).trans hc

theorem State.setCell_offRoutes (s : State) (p v : Nat) (hp : p < 16) : (s.setCell (0x3100 + p) 4 v).offRoutes = s.offRoutes := by
  unfold State.setCell State.offRoutes
  rw [Tab.keep_set _ _ _ _ _ (by simp [notRouteGen, ek]; omega)]

theorem State.rederiveAll_offRoutes (s old : State) : (s.rederiveAll old).offRoutes = s.offRoutes := by
  unfold State.rederiveAll
  refine foldl_keeps State.offRoutes _ (fun p hp u => ?_) s
  have hp16 : p < 16 := List.mem_range.1 (List.mem_filter.1 hp).1
  split
  · rfl
  · dsimp only
    split
    · rfl
    · rw [State.setCell_offRoutes _ _ _ hp16]
      exact foldl_keeps State.offRoutes _ (fun r _ u => State.rederive_offRoutes u p r) u

/-- With no image there is no route to derive. -/
theorem State.rederiveAll_of_no_image {s : State} (old : State) (h : ∀ p ∈ s.plotsNow, (s.plot p).image = none) :
    s.rederiveAll old = s := by
  unfold State.rederiveAll
  refine foldl_stays _ (fun p hp => ?_)
  rw [h p hp]

theorem Changes.of_offRoutes {s t : State} (h : t.offRoutes = s.offRoutes) : Changes s t (.led :: .fabric :: Part.report) := by
  intro p hp
  simp only [State.offRoutes, State.mk.injEq] at h
  cases p <;> simp_all [Part.same, Part.report]

theorem CellsBut.of_offRoutes {s t : State} (h : t.offRoutes = s.offRoutes) :
    CellsBut ((List.range 16).map (fun p => (0x3100 + p, 4))) s t := by
  intro i j hj hn
  have hk : notRouteGen (ek i j) = true := by
    by_contra hc
    refine hn (List.mem_map.2 ⟨i - 0x3100, List.mem_range.2 ?_, ?_⟩)
    · simp [notRouteGen, ek] at hc; omega
    · simp [notRouteGen, ek] at hc; simp; omega
  simp only [State.offRoutes, State.mk.injEq] at h
  obtain ⟨-, -, -, hled, -⟩ := h
  exact State.cell_of_keep hled i j hk

/-! ### A tile without a logical number fails -/

theorem State.endHold_of_none {s : State} {t : Nat} (h : (s.site t).held = none) : s.endHold t = s := by
  rw [State.endHold, h]

theorem State.endHold_of_some {s : State} {t since : Nat} (h : (s.site t).held = some since) :
    s.endHold t = (s.updSite t (fun c => { c with held := none })).bump 64 0x4010 5 (s.now - since) := by
  rw [State.endHold, h]

/-- A tile's hold ends with it (R61). -/
theorem State.site_endHold (s : State) (t u : Nat) :
    (s.endHold t).site u = if t = u then { s.site u with held := none } else s.site u := by
  cases h : (s.site t).held with
  | none =>
    rw [State.endHold_of_none h]
    split
    next e => subst e; rw [← h]
    · rfl
  | some since =>
    rw [State.endHold_of_some h]
    exact State.site_updSite s t u (fun c => { c with held := none })

/-- Its length joins the total (R61). -/
theorem State.cell_endHold (s : State) (t i j : Nat) (hj : j < 256) :
    (s.endHold t).cell i j = if 0x4010 = i ∧ 5 = j then
      (match (s.site t).held with | some since => satAdd 64 (s.cell 0x4010 5) (s.now - since) | none => s.cell 0x4010 5)
      else s.cell i j := by
  cases h : (s.site t).held with
  | none =>
    rw [State.endHold_of_none h]
    split
    next e => rw [← e.1, ← e.2]
    · rfl
  | some since =>
    rw [State.endHold_of_some h]
    exact State.cell_setCell _ _ _ _ _ _ (by decide) hj

theorem State.endHold_changes (s : State) (t : Nat) : Changes s (s.endHold t) [.sites, .led] := by
  cases h : (s.site t).held with
  | none =>
    rw [State.endHold_of_none h]
    exact Changes.refl _ _
  | some since =>
    rw [State.endHold_of_some h]
    exact ((Changes.updSite s t _).mono (by decide)).trans ((Changes.setCell _ _ _ _).mono (by decide))

/-- While the defect log has room a repair is entered in it (R407). -/
theorem State.logDefect_of_room {s : State} (h : s.defects.length < 256) (kind site detail promoted event : Nat) :
    s.logDefect kind site detail promoted event =
      { s with defects := s.defects ++ [{ kind, site, detail, promoted, time := s.now, mapGen := s.cell 0x7021 1, event }] } := by
  rw [State.logDefect, if_neg (by omega)]

/-- What the failure of such a tile does before routes are derived again (R24, R28, R407). -/
def State.failSite (s : State) (t kind cause : Nat) (sound : Bool) : State :=
  ((s.updSite t (fun c => c.fail sound)).mapChanged.logDefect kind t 0 0xFF 0x7110).raise 0x7110 0xFF [t, 0x7F, cause]

theorem State.failIdle_eq (s : State) (t kind cause : Nat) (sound : Bool) :
    s.failIdle t kind cause sound = (s.failSite t kind cause sound).rederiveAll s := rfl

section FailSite

variable {s : State} (hroom : s.defects.length < 256) (t kind cause : Nat) (sound : Bool)

include hroom

/-- The site alone changes in the defect map. -/
theorem State.site_failSite (u : Nat) :
    (s.failSite t kind cause sound).site u = if t = u then (s.site u).fail sound else s.site u := by
  rw [State.failSite, State.logDefect_of_room (s := (s.updSite t (fun c => c.fail sound)).mapChanged) hroom]
  simp [State.site, State.mapChanged, State.updSite, Tab.get_upd]

theorem State.failSite_defects : (s.failSite t kind cause sound).defects.length = s.defects.length + 1 := by
  rw [State.failSite, State.logDefect_of_room (s := (s.updSite t (fun c => c.fail sound)).mapChanged) hroom]
  simp [State.mapChanged]

/-- The map generation rises (R28). -/
theorem State.cell_failSite (i j : Nat) (hj : j < 256) :
    (s.failSite t kind cause sound).cell i j = if 0x7021 = i ∧ 1 = j then (s.cell 0x7021 1 + 1) % 2 ^ 32 else s.cell i j := by
  rw [State.failSite, State.logDefect_of_room (s := (s.updSite t (fun c => c.fail sound)).mapChanged) hroom, State.cell_raise]
  exact State.cell_setCell _ _ _ _ _ _ (by decide) hj

theorem State.failSite_changes : Changes s (s.failSite t kind cause sound) (.sites :: .led :: .defects :: Part.report) := by
  rw [State.failSite, State.logDefect_of_room (s := (s.updSite t (fun c => c.fail sound)).mapChanged) hroom]
  refine Changes.trans ?_ ((Changes.raise _ _ _ _).mono (by decide))
  intro p hp
  cases p
  case sites | led | defects => exact absurd (by decide) hp
  all_goals rfl

/-- One event says so (R424). -/
theorem State.failSite_raises : Raises s (s.failSite t kind cause sound) [(0x7110, 0xFF, [t, 0x7F, cause])] := by
  rw [State.failSite, State.logDefect_of_room (s := (s.updSite t (fun c => c.fail sound)).mapChanged) hroom]
  refine Raises.one ?_ _ _ _
  rfl

end FailSite

/-- A tile fails at once while a Reeve is active (R29); a RESERVE tile passes no number on (R26). -/
theorem exec_tileFail_reserve {s : State} {tile : Phys} (cause : TileCause) (sound : Bool) (hst : (s.site tile.val).st = .reserve)
    (hreeve : s.procs.reeveLost = false) :
    exec (.tileFail tile cause sound) s = .next
      (((s.endHold tile.val).failSite tile.val (if sound then 2 else 3) (causeCode cause) sound).rederiveAll (s.endHold tile.val)) := by
  have hst' : ((s.endHold tile.val).site tile.val).st = .reserve := by rw [State.site_endHold, if_pos rfl]; exact hst
  change Host.Outcome.next (s.failTile tile.val cause sound) = _
  rw [State.failTile, if_pos hreeve, State.failNow]
  simp only [hst']
  rfl

/-- While no Reeve is active the failure waits for one (R29). -/
theorem exec_tileFail_waits {s : State} {tile : Phys} (cause : TileCause) (sound : Bool) (hreeve : s.procs.reeveLost = true)
    (hnew : ∀ x ∈ s.procs.waitFail, x.1 ≠ tile.val) :
    exec (.tileFail tile cause sound) s = .next
      { s with procs := { s.procs with waitFail := s.procs.waitFail ++ [(tile.val, cause, sound)] } } := by
  change Host.Outcome.next (s.failTile tile.val cause sound) = _
  rw [State.failTile, if_neg (by simp [hreeve]), if_neg]
  rw [List.any_eq_true]
  rintro ⟨x, hx, he⟩
  exact hnew x hx (by simpa using he)

end Sys2Proof.Machine
end

section
/-! PROOFS. TILE_FAIL of a RESERVE tile and of an ACTIVE one that a reserve replaces (R26, R401): the statement O9. -/

namespace Sys2Proof.Machine

/-- TILE_FAIL of a RESERVE tile (R26, R401). -/
theorem tileFail_reserve {s : State} {tile : Phys} (cause : TileCause) (sound : Bool) (hst : (s.site tile.val).st = .reserve)
    (hroom : s.defects.length < 256) (hreeve : s.procs.reeveLost = false) :
    ∃ t, exec (.tileFail tile cause sound) s = .next t ∧ (t.site tile.val).st = (if sound then .retired else .absent) ∧
      (t.site tile.val).bypass = !sound ∧ (t.site tile.val).held = none ∧ t.cell 0x7021 1 = (s.cell 0x7021 1 + 1) % 2 ^ 32 ∧
      t.cell 0x4010 5 = (match (s.site tile.val).held with
        | some since => satAdd 64 (s.cell 0x4010 5) (s.now - since)
        | none => s.cell 0x4010 5) ∧
      ((∀ p ∈ s.plotsNow, (s.plot p).image = none) → Raises s t [(0x7110, 0xFF, [tile.val, 0x7F, causeCode cause])]) ∧
      t.defects.length = s.defects.length + 1 ∧ SameBut [tile.val] s.site t.site ∧
      CellsBut ((0x7021, 1) :: (0x4010, 5) :: (List.range 16).map (fun p => (0x3100 + p, 4))) s t ∧
      Changes s t (.sites :: .led :: .defects :: .fabric :: Part.report) := by
  set s0 := s.endHold tile.val with hs0
  set w := s0.failSite tile.val (if sound then 2 else 3) (causeCode cause) sound with hw
  have h0 : Changes s s0 [.sites, .led] := State.endHold_changes s tile.val
  have hroom0 : s0.defects.length < 256 := by rw [h0 .defects (by decide)]; exact hroom
  have hfs := State.failSite_changes hroom0 tile.val (if sound then 2 else 3) (causeCode cause) sound
  have hrd := State.rederiveAll_offRoutes w s0
  have hrc := Changes.of_offRoutes hrd
  have hsite : ∀ u, (w.rederiveAll s0).site u = if tile.val = u then { s.site u with held := none }.fail sound else s.site u := by
    intro u
    rw [State.site, hrc .sites (by decide), ← State.site, hw, State.site_failSite hroom0, hs0, State.site_endHold]
    split <;> rfl
  have hcellw : ∀ i j, j < 256 → w.cell i j = if 0x7021 = i ∧ 1 = j then (s.cell 0x7021 1 + 1) % 2 ^ 32 else s0.cell i j := by
    intro i j hj
    have hgen : s0.cell 0x7021 1 = s.cell 0x7021 1 := by rw [hs0, State.cell_endHold _ _ _ _ (by decide), if_neg (by decide)]
    rw [hw, State.cell_failSite hroom0 _ _ _ _ i j hj, hgen]
  have hcell : ∀ i j, j < 256 → (i, j) ∉ (List.range 16).map (fun p => (0x3100 + p, 4)) →
      (w.rederiveAll s0).cell i j = w.cell i j := CellsBut.of_offRoutes hrd
  refine ⟨_, exec_tileFail_reserve cause sound hst hreeve, ?_, ?_, ?_, ?_, ?_, fun himg => ?_, ?_, fun u hu => ?_,
    fun i j hj hn => ?_, ?_⟩
  · rw [hsite, if_pos rfl]; rfl
  · rw [hsite, if_pos rfl]; rfl
  · rw [hsite, if_pos rfl]; rfl
  · rw [hcell _ _ (by decide) (by decide), hcellw _ _ (by decide), if_pos (by decide)]
  · have hheld := State.cell_endHold s tile.val 0x4010 5 (by decide)
    rw [if_pos ⟨rfl, rfl⟩] at hheld
    rw [hcell _ _ (by decide) (by decide), hcellw _ _ (by decide), if_neg (by decide)]
    exact hheld
  · have hplots : w.plotsNow = s.plotsNow := by
      refine List.filter_congr (fun p hp => ?_)
      have hp16 : p < 16 := List.mem_range.1 hp
      rw [State.plotExists, State.plotExists, State.plotState, State.plotState, hcellw _ _ (by decide), if_neg (by omega), hs0,
        State.cell_endHold _ _ _ _ (by decide), if_neg (by omega)]
    have hplot : ∀ p, w.plot p = s.plot p := fun p => by
      rw [State.plot, State.plot, hfs .plots (by decide), h0 .plots (by decide)]
    rw [State.rederiveAll_of_no_image s0 (fun p hp => by rw [hplot]; exact himg p (hplots ▸ hp))]
    have hr := State.failSite_raises hroom0 tile.val (if sound then 2 else 3) (causeCode cause) sound
    rw [Raises, h0 .ev (by decide)] at hr
    exact hr
  · rw [hrc .defects (by decide), State.failSite_defects hroom0, h0 .defects (by decide)]
  · rw [hsite, if_neg (fun e => hu (by simp [e]))]
  · simp only [List.mem_cons, not_or, Prod.mk.injEq] at hn
    obtain ⟨hgen, hhold, hroute⟩ := hn
    rw [hcell i j hj hroute, hcellw i j hj, if_neg (by omega), hs0, State.cell_endHold _ _ _ _ hj, if_neg (by omega)]
  · exact (h0.mono (by decide)).trans ((hfs.mono (by decide)).trans (hrc.mono (by decide)))

/-! ### A reserve takes a failed tile's place -/

/-- A state without what a tile failure changes beyond the defect map's sites. -/
def State.offFail (s : State) : State := { s.fixed with epochs := [], defects := [], procs := {}, meas := [] }

theorem State.offFail_of_inner {s t : State} (h : Inner s t) : t.offFail = s.offFail :=
  congrArg (fun u : State => { u with epochs := [], defects := [], procs := {}, meas := [] }) h

theorem State.newEpochs_offFail (s : State) (ls : List Nat) : (s.newEpochs ls).offFail = s.offFail :=
  foldl_keeps State.offFail (f := fun s n => s.newEpoch (loomEndpoint n 0)) ls (fun _ _ _ => rfl) s

theorem State.logDefect_offFail (s : State) (kind site detail promoted event : Nat) :
    (s.logDefect kind site detail promoted event).offFail = s.offFail := by
  unfold State.logDefect
  split
  · exact State.offFail_of_inner (State.raise_fixed _ _ _ _)
  · rfl

theorem State.measureRows_offFail (s : State) (lt done : Nat) : (s.measureRows lt done).offFail = s.offFail := by
  unfold State.measureRows
  split
  · split <;> rfl
  · rfl

theorem State.rebuildUnit_offFail (s : State) (lt r : Nat) : (s.rebuildUnit lt r).offFail = s.offFail := by
  unfold State.rebuildUnit
  split
  · rfl
  · rw [State.measureRows_offFail]
    split
    · rfl
    · split
      · rfl
      · exact State.offFail_of_inner (State.poison_inner s lt r)

theorem State.settleRow_offFail (s : State) (lt r : Nat) : (s.settleRow lt r).offFail = s.offFail :=
  State.offFail_of_inner (State.settleRow_inner s lt r)

theorem State.reissueOne_offFail (s : State) (w : CWrite) (data : List Byte) : (s.reissueOne w data).offFail = s.offFail := by
  unfold State.reissueOne
  extract_lets s1 a w1 s2
  have h1 : s1.offFail = s.offFail := by
    change (ite _ _ _ : State).offFail = _
    split
    · rfl
    · rw [State.rebuildUnit_offFail, State.settleRow_offFail]
  have h2 : s2.offFail = s1.offFail := rfl
  exact (State.offFail_of_inner (State.sendDelta_inner _ _)).trans (h2.trans h1)

theorem State.reissue_offFail (s : State) (ws : List (CWrite × List Byte)) : (s.reissue ws).offFail = s.offFail :=
  foldl_keeps State.offFail ws (fun w _ u => State.reissueOne_offFail u w.1 w.2) s

/-- What a promotion does to the defect map: the failed tile falls out and the reserve takes its number (R26). -/
def State.swapSites (s : State) (t lt r : Nat) (sound : Bool) : State :=
  (s.updSite t (fun c => c.fail sound)).updSite r (fun c => { c with st := .active, logical := lt })

theorem State.promote_offFail (s : State) (t lt r cause kind : Nat) (sound : Bool) :
    (s.promote t lt r cause kind sound).offFail = (s.swapSites t lt r sound).offFail := by
  unfold State.promote
  extract_lets s1 s2 s3 ws s4 s5 s6 s7
  have h2 : s2.offFail = s1.offFail :=
    (State.offFail_of_inner (State.setCell_fixed _ _ _ _)).trans (State.newEpochs_offFail s1 (tileLooms lt))
  have h3 : s3.offFail = s2.offFail :=
    (State.offFail_of_inner (State.raise_fixed _ _ _ _)).trans (State.logDefect_offFail s2 kind t 0 r 0x7110)
  have h4 : s4.offFail = s3.offFail :=
    foldl_keeps State.offFail _ (fun m _ u => State.offFail_of_inner (State.loseBoth_inner u lt m)) s3
  have h5 : s5.offFail = s4.offFail := State.offFail_of_inner
    (((State.newCellar_inner s4 lt).trans (State.freshLooms_inner _ lt)).trans (State.groupBits_inner _))
  have h6 : s6.offFail = s5.offFail := (State.reissue_offFail _ ws).trans
    (State.offFail_of_inner ((State.redirect_inner s5 _ _).trans (State.spillTile_inner _ t)))
  have h7 : s7.offFail = s6.offFail := State.offFail_of_inner ((State.rederiveAll_inner s6 s).trans (State.rebuildState_inner _))
  have hall : s7.offFail = s1.offFail := h7.trans (h6.trans (h5.trans (h4.trans (h3.trans h2))))
  split
  · exact (State.offFail_of_inner (State.raise_fixed _ _ _ _)).trans hall
  · exact hall

theorem Changes.of_offFail {s t : State} (h : t.offFail = s.offFail) :
    Changes s t (.epochs :: .defects :: .procs :: .meas :: Part.work) := by
  intro p hp
  simp only [State.offFail, State.fixed, State.mk.injEq] at h
  cases p <;> simp_all [Part.same, Part.work]

theorem State.sites_of_offFail {s t : State} (h : t.offFail = s.offFail) : t.sites = s.sites :=
  Changes.of_offFail h .sites (by decide)

theorem State.reserveTile_of_sites {s t : State} (h : ∀ u, (t.site u).st = (s.site u).st) : t.reserveTile = s.reserveTile := by
  simp only [State.reserveTile, h]

/-- What comes before the promotion: the lapse is noted, the recovery begins, the steps on the tile are discarded (R397, R401). -/
def State.openRecovery (s : State) (t : Nat) : State :=
  (s.noteLapse (s.lapse (s.site t).logical s.reserveTile.isSome)).beginRecovery.discardOn t (s.site t).logical

theorem State.beginRecovery_offFail (s : State) : s.beginRecovery.offFail = s.offFail := rfl

theorem State.openRecovery_offFail (s : State) (t : Nat) : (s.openRecovery t).offFail = s.offFail :=
  (State.offFail_of_inner (State.discardOn_inner _ t _)).trans
    ((State.beginRecovery_offFail _).trans (State.offFail_of_inner (State.noteLapse_inner s _)))

/-- An ACTIVE tile fails at once while a Reeve is active, and the lowest reserve is promoted (R26, R29). -/
theorem exec_tileFail_active {s : State} {tile : Phys} {r : Nat} (cause : TileCause) (sound : Bool)
    (hst : (s.site tile.val).st = .active) (hres : s.reserveTile = some r) (hreeve : s.procs.reeveLost = false) :
    exec (.tileFail tile cause sound) s = .next
      (((s.endHold tile.val).openRecovery tile.val).promote tile.val (s.site tile.val).logical r (causeCode cause)
        (if sound then 2 else 3) sound) := by
  have hsite : (s.endHold tile.val).site tile.val = { s.site tile.val with held := none } := by rw [State.site_endHold, if_pos rfl]
  have hst' : ((s.endHold tile.val).site tile.val).st = .active := by rw [hsite]; exact hst
  have hlog : ((s.endHold tile.val).site tile.val).logical = (s.site tile.val).logical := by rw [hsite]
  have hres' : ((s.endHold tile.val).openRecovery tile.val).reserveTile = some r := by
    rw [← hres]
    refine State.reserveTile_of_sites (fun u => ?_)
    rw [State.site, State.sites_of_offFail (State.openRecovery_offFail _ _), ← State.site, State.site_endHold]
    split <;> rfl
  change Host.Outcome.next (s.failTile tile.val cause sound) = _
  rw [State.failTile, if_pos hreeve, State.failNow]
  rw [State.openRecovery, hlog] at hres' ⊢
  simp only [hst', hres']

/-- TILE_FAIL of an ACTIVE tile while a RESERVE tile remains (R26, R401). -/
theorem tileFail_promotes {s : State} {tile : Phys} {r : Nat} (cause : TileCause) (sound : Bool)
    (hst : (s.site tile.val).st = .active) (hres : s.reserveTile = some r) (hreeve : s.procs.reeveLost = false) :
    ∃ t, exec (.tileFail tile cause sound) s = .next t ∧
      (t.site r).st = .active ∧ (t.site r).logical = (s.site tile.val).logical ∧
      (t.site tile.val).st = (if sound then .retired else .absent) ∧ (t.site tile.val).bypass = !sound ∧
      SameBut [tile.val, r] s.site t.site ∧
      Changes s t (.sites :: .epochs :: .defects :: .procs :: .meas :: Part.work) := by
  have hrt : tile.val ≠ r := by
    have hr : (s.site r).st = .reserve := by simpa using List.find?_some hres
    intro e
    rw [e, hr] at hst
    exact absurd hst (by decide)
  have h0 := State.endHold_changes s tile.val
  have ho := State.openRecovery_offFail (s.endHold tile.val) tile.val
  have hp := State.promote_offFail ((s.endHold tile.val).openRecovery tile.val) tile.val (s.site tile.val).logical r
    (causeCode cause) (if sound then 2 else 3) sound
  have hx := exec_tileFail_active cause sound hst hres hreeve
  generalize (s.endHold tile.val).openRecovery tile.val = s1 at ho hp hx
  have hs1 : ∀ u, s1.site u = if tile.val = u then { s.site u with held := none } else s.site u := fun u => by
    rw [State.site, State.sites_of_offFail ho, ← State.site, State.site_endHold]
  have hsite : ∀ u, (s1.promote tile.val (s.site tile.val).logical r (causeCode cause) (if sound then 2 else 3) sound).site u =
      (s1.swapSites tile.val (s.site tile.val).logical r sound).site u := fun u => by
    rw [State.site, State.sites_of_offFail hp, ← State.site]
  refine ⟨_, hx, ?_, ?_, ?_, ?_, fun u hu => ?_, ?_⟩
  · simp [hsite, State.swapSites]
  · simp [hsite, State.swapSites]
  · simp [hsite, State.swapSites, hrt.symm, Site.fail]
  · simp [hsite, State.swapSites, hrt.symm, Site.fail]
  · obtain ⟨hut, hur⟩ : u ≠ tile.val ∧ u ≠ r := by simpa using hu
    simp [hsite, State.swapSites, hs1, hut.symm, hur.symm]
  · have hswap : Changes s1 (s1.swapSites tile.val (s.site tile.val).logical r sound) [.sites] :=
      (Changes.updSite _ _ _).trans (Changes.updSite _ _ _)
    exact (h0.mono (by decide)).trans (((Changes.of_offFail ho).mono (by decide)).trans
      ((hswap.mono (by decide)).trans ((Changes.of_offFail hp).mono (by decide))))

end Sys2Proof.Machine

open Sys2Proof Sys2Proof.Machine

/-- Settles O9: what a failure does to the defect map is read off before routes are derived again and work is moved, neither of which
touches a site. -/
theorem tilesFailAndReservesAreUsed : Obligations.TilesFailAndReservesAreUsed :=
  ⟨fun _ _ cause sound hst hroom hreeve => tileFail_reserve cause sound hst hroom hreeve,
    fun s _ cause sound hreeve hnew => ⟨_, exec_tileFail_waits cause sound hreeve hnew, rfl, Changes.setProcs s _⟩,
    fun _ _ cause sound _ hst hres hreeve => tileFail_promotes cause sound hst hres hreeve⟩
end

section
/-! SUPPORT. MESSAGE_RECEIVE by its three ends, and what an endpoint does with a message that it accepts (R48). -/

namespace Sys2Proof.Machine

/-! ### MESSAGE_RECEIVE -/

/-- The oldest message leaves an endpoint's inbox. -/
def State.popInbox (s : State) (e : Nat) (rest : List Msg) : State :=
  { s with fabric := { s.fabric with inbox := Tab.set [] s.fabric.inbox e rest } }

/-- A message is kept at its endpoint for whoever waits for it. -/
def State.keepMsg (s : State) (e : Nat) (m : Msg) : State :=
  { s with fabric := { s.fabric with taken := Tab.upd [] s.fabric.taken e (· ++ [m]) } }

@[simp] theorem State.inbox_popInbox (s : State) (e : Nat) (rest : List Msg) :
    Tab.get [] (s.popInbox e rest).fabric.inbox e = rest := Tab.get_set_self _ _ _ _

@[simp] theorem State.taken_keepMsg (s : State) (e : Nat) (m : Msg) :
    Tab.get [] (s.keepMsg e m).fabric.taken e = Tab.get [] s.fabric.taken e ++ [m] :=
  Tab.get_upd_self [] s.fabric.taken e (fun x => x ++ [m])

theorem State.popInbox_changes (s : State) (e : Nat) (rest : List Msg) : Changes s (s.popInbox e rest) [.fabric] :=
  Changes.setFabric s _

theorem State.keepMsg_changes (s : State) (e : Nat) (m : Msg) : Changes s (s.keepMsg e m) [.fabric] := Changes.setFabric s _

/-- What a message that enters the fabric leaves of it (R35, R47). -/
theorem State.inject_fabric (s : State) (m : Msg) :
    (s.inject m).fabric.taken = s.fabric.taken ∧ (s.inject m).fabric.droppedPlot = s.fabric.droppedPlot ∧
    (s.inject m).fabric.droppedEpoch = s.fabric.droppedEpoch ∧ (s.inject m).fabric.lost = s.fabric.lost ∧
    (s.inject m).fabric.stale = s.fabric.stale := by
  have h : (s.inject m).offRoad.fabric = s.offRoad.fabric := by rw [State.inject_offRoad]
  simp only [State.offRoad, Fabric.mk.injEq] at h
  obtain ⟨-, -, -, -, htaken, hplot, hepoch, -, hlost, hstale, -, -⟩ := h
  exact ⟨htaken, hplot, hepoch, hlost, hstale⟩

/-- Cells outside 3300+p stay as they are. -/
theorem State.cell_inject (s : State) (m : Msg) (i j : Nat) (h : ek i j < ek 0x3300 0 ∨ ek 0x3310 0 ≤ ek i j) :
    (s.inject m).cell i j = s.cell i j :=
  State.cell_of_offRoad (State.inject_offRoad s m) i j h

section Receive

variable {s : State} {e : U16} {m : Msg} {rest : List Msg} (hin : Tab.get [] s.fabric.inbox e.toNat = m :: rest)

include hin

/-- PLOT is checked first (R48). -/
theorem exec_messageReceive_plot (htag : s.tagAccepted e.toNat m = false) :
    exec (.messageReceive e) s = .next ({ s.popInbox e.toNat rest with
      fabric := { (s.popInbox e.toNat rest).fabric with droppedPlot := s.fabric.droppedPlot + 1 } }.faultPlot m.plot.toNat
        (fun _ => false)) := by
  change execMessageReceive e s = _
  simp only [execMessageReceive, hin]
  rw [if_pos htag]
  rfl

/-- EPOCH is checked second (R48). -/
theorem exec_messageReceive_epoch (htag : s.tagAccepted e.toNat m = true) (hep : m.epoch.toNat ≠ s.epoch e.toNat) :
    exec (.messageReceive e) s = .next ({ s.popInbox e.toNat rest with
      fabric := { (s.popInbox e.toNat rest).fabric with
        droppedEpoch := s.fabric.droppedEpoch + 1, lost := s.fabric.lost ++ [m] } }.inject
          ((s.popInbox e.toNat rest).staleReply m)) := by
  change execMessageReceive e s = _
  simp only [execMessageReceive, hin]
  rw [if_neg (by simp [htag]), if_pos hep]
  rfl

/-- A message that passes both is accepted (R48). -/
theorem exec_messageReceive_accept (htag : s.tagAccepted e.toNat m = true) (hep : m.epoch.toNat = s.epoch e.toNat) :
    exec (.messageReceive e) s = .next ((s.popInbox e.toNat rest).accept e.toNat m) := by
  change execMessageReceive e s = _
  simp only [execMessageReceive, hin]
  rw [if_neg (by simp [htag]), if_neg (by simp [hep])]
  rfl

/-- A dropped message of a plot that is not accepted faults the plot it names (R48). -/
theorem messageReceive_plot (htag : s.tagAccepted e.toNat m = false) :
    ∃ t, exec (.messageReceive e) s = .next t ∧ t.fabric.droppedPlot = s.fabric.droppedPlot + 1 ∧
      t.fabric.droppedEpoch = s.fabric.droppedEpoch ∧ t.fabric.taken = s.fabric.taken ∧
      Tab.get [] t.fabric.inbox e.toNat = rest ∧
      (m.plot.toNat < 16 → (s.plotState m.plot.toNat = 1 ∨ s.plotState m.plot.toNat = 2) → t.plotState m.plot.toNat = 5) ∧
      Changes s t Part.work := by
  refine ⟨_, exec_messageReceive_plot hin htag, ?_⟩
  rw [State.faultPlot_fabric]
  refine ⟨rfl, rfl, rfl, State.inbox_popInbox s e.toNat rest, fun hp hst => State.plotState_faultPlot _ _ _ hp hst, ?_⟩
  exact Changes.of_fixed (State.faultPlot_inner _ _ _)

/-- A message of another epoch is kept until its sender has the reply (R48, R50). -/
theorem messageReceive_epoch (htag : s.tagAccepted e.toNat m = true) (hep : m.epoch.toNat ≠ s.epoch e.toNat) :
    ∃ t, exec (.messageReceive e) s = .next t ∧ t.fabric.droppedEpoch = s.fabric.droppedEpoch + 1 ∧
      t.fabric.droppedPlot = s.fabric.droppedPlot ∧ t.fabric.lost = s.fabric.lost ++ [m] ∧ t.fabric.taken = s.fabric.taken ∧
      Changes s t [.fabric, .led, .looms] := by
  refine ⟨_, exec_messageReceive_epoch hin htag hep, ?_⟩
  obtain ⟨htaken, hplot, hepoch, hlost, -⟩ := State.inject_fabric _ ((s.popInbox e.toNat rest).staleReply m)
  refine ⟨hepoch, hplot, hlost, htaken, ?_⟩
  exact ((Changes.setFabric s _).mono (by decide)).trans (Changes.of_offRoad (State.inject_offRoad _ _))

end Receive

/-! ### What an endpoint does with a message -/

/-- Where no loom takes it into its Bench a message is kept, but for an EPOCH_STALE reply at a Ferry port engine (R314). -/
theorem State.accept_elsewhere {s : State} {e : Nat} {m : Msg} (h : m.kind = 4 ∨ endpointLoom e = none)
    (hf : m.cls ≠ 3 ∨ m.kind ≠ 6 ∨ engineFerry e = none) : s.accept e m = s.keepMsg e m := by
  have hn : (if m.kind = 4 then none else endpointLoom e) = none := by
    rcases h with h | h <;> simp [h]
  unfold State.accept
  simp only [hn]
  split
  next hr =>
    obtain ⟨hc, hk⟩ := hr
    have he : engineFerry e = none := by
      rcases hf with hf | hf | hf
      · exact absurd hc hf
      · exact absurd hk hf
      · exact hf
    rw [he]
    rfl
  · rfl

theorem State.accept_ferry {s : State} {e x : Nat} {m : Msg} (hl : endpointLoom e = none) (hc : m.cls = 3) (hk : m.kind = 6)
    (hx : engineFerry e = some x) : s.accept e m = s.staleOut x m := by
  unfold State.accept
  simp only [hl, ite_self, hc, hk, hx, and_self, if_true]

theorem State.accept_unplaced {s : State} {e n : Nat} {m : Msg} (h4 : m.kind ≠ 4) (hl : endpointLoom e = some n)
    (hw : s.windowOf n (e % 8) = none) :
    s.accept e m = if e % 8 = 0 then (s.keepMsg e m).passOn n m else s.keepMsg e m := by
  unfold State.accept
  simp only [if_neg h4, hl, hw]
  rfl

theorem State.accept_placed {s : State} {e n : Nat} {m : Msg} {w : Window} (h4 : m.kind ≠ 4) (hl : endpointLoom e = some n)
    (hw : s.windowOf n (e % 8) = some w) :
    s.accept e m = if e % 8 = 0 then (s.land n (e % 8) w m).passOn n m else s.land n (e % 8) w m := by
  unfold State.accept
  simp only [if_neg h4, hl, hw]
  split
  next h0 => rw [h0]
  · rfl

/-- A loom whose program names no next loom passes nothing on (R43). -/
theorem State.passOn_of_none {s : State} {n : Nat} (h : (s.programOf n).bind Program.passTo = none) (m : Msg) : s.passOn n m = s := by
  rw [State.passOn, h]

theorem State.passOn_of_some {s : State} {n : Nat} {k : Loom} (h : (s.programOf n).bind Program.passTo = some k)
    (hst : Tab.get false s.fabric.stale (staleKey (loomEndpoint n 0) (loomEndpoint k.n 0)) = false) (m : Msg) :
    s.passOn n m = s.inject { m with
      epoch := BitVec.ofNat 16 (s.epoch (loomEndpoint k.n 0)), dest := BitVec.ofNat 16 (loomEndpoint k.n 0),
      src := BitVec.ofNat 16 (loomEndpoint n 0) } := by
  rw [State.passOn, h]
  exact if_neg (by simp [hst])

end Sys2Proof.Machine
end

section
/-! SUPPORT. What an accepted message leaves behind, case by case (R43, R55, R137, R314). -/

namespace Sys2Proof.Machine

/-- A refused access is counted and faults the plot (R137). -/
theorem State.partFault_serving {s : State} {p : Nat} (hp : p < 16) (h : s.plotState p = 2) :
    (s.partFault p).plotState p = 5 ∧ (s.partFault p).cell (0x6100 + p) 6 = satAdd 32 (s.cell (0x6100 + p) 6) 1 := by
  unfold State.partFault
  refine ⟨State.plotState_faultPlot _ _ _ hp (.inr ?_), ?_⟩
  · rw [State.plotState, State.bump, State.cell_setCell_ne _ _ _ _ _ _ (by simp only [ek]; omega)]
    exact h
  · rw [State.cell_faultPlot _ _ _ _ _ (by simp only [ek]; omega) (by simp only [ek]; omega) (by simp only [ek]; omega),
      State.cell_bump_self]

theorem State.cell_passOn (s : State) (n : Nat) (m : Msg) (i j : Nat) (h : ek i j < ek 0x3300 0 ∨ ek 0x3310 0 ≤ ek i j) :
    (s.passOn n m).cell i j = s.cell i j := by
  unfold State.passOn
  split
  · rfl
  · dsimp only
    split
    · rfl
    · exact State.cell_inject _ _ _ _ h

/-- Where the fabric may write, the payload lands in the Bench (R55, R137). -/
theorem State.land_of_partOk {s : State} {n p stream : Nat} {w : Window} {m : Msg} (hown : s.ownerOf n = some p)
    (hok : (landing (Tab.get 0 (s.loom n).inPos stream) m.payload w).1.all
      (fun x => s.partOk p .fabricIn m.kind.toNat x.1 x.2.length) = true) :
    s.land n stream w m = s.updLoom n (fun l => { (landing (Tab.get 0 (s.loom n).inPos stream) m.payload w).1.foldl
      (fun l x => l.store x.1 x.2) l with
        inPos := Tab.set 0 l.inPos stream (landing (Tab.get 0 (s.loom n).inPos stream) m.payload w).2 }) := by
  unfold State.land
  simp only [hown]
  rw [if_neg]
  rw [List.any_eq_true]
  rintro ⟨x, hx, hbad⟩
  have := List.all_eq_true.1 hok x hx
  simp [this] at hbad

theorem State.land_refused {s : State} {n p stream : Nat} {w : Window} {m : Msg} (hown : s.ownerOf n = some p)
    (hbad : (landing (Tab.get 0 (s.loom n).inPos stream) m.payload w).1.any
      (fun x => !s.partOk p .fabricIn m.kind.toNat x.1 x.2.length) = true) : s.land n stream w m = s.partFault p := by
  unfold State.land
  simp only [hown]
  exact if_pos hbad

section Accept

variable {s : State} {e : U16} {m : Msg} {rest : List Msg} (hin : Tab.get [] s.fabric.inbox e.toNat = m :: rest)
  (htag : s.tagAccepted e.toNat m = true) (hep : m.epoch.toNat = s.epoch e.toNat)

include hin htag hep

/-- What has no place in a Bench, a read return among it, is kept. -/
theorem messageReceive_kept
    (h : ((endpointLoom e.toNat).isNone = true ∧ (m.cls ≠ 3 ∨ m.kind ≠ 6 ∨ engineFerry e.toNat = none)) ∨ m.kind = 4 ∨
      ∃ n, endpointLoom e.toNat = some n ∧ s.windowOf n (e.toNat % 8) = none ∧ (s.programOf n).bind Program.passTo = none) :
    ∃ t, exec (.messageReceive e) s = .next t ∧ Tab.get [] t.fabric.taken e.toNat = Tab.get [] s.fabric.taken e.toNat ++ [m] ∧
      Tab.get [] t.fabric.inbox e.toNat = rest ∧ t.fabric.droppedPlot = s.fabric.droppedPlot ∧
      t.fabric.droppedEpoch = s.fabric.droppedEpoch ∧ Changes s t [.fabric] := by
  have hkeep : (s.popInbox e.toNat rest).accept e.toNat m = (s.popInbox e.toNat rest).keepMsg e.toNat m := by
    by_cases h4 : m.kind = 4
    · exact State.accept_elsewhere (.inl h4) (.inr (.inl (by rw [h4]; decide)))
    · rcases h with ⟨hn, hf⟩ | hk | ⟨n, hl, hw, hpass⟩
      · exact State.accept_elsewhere (.inr (Option.isNone_iff_eq_none.1 hn)) hf
      · exact absurd hk h4
      · rw [State.accept_unplaced (s := s.popInbox e.toNat rest) h4 hl hw,
          State.passOn_of_none (s := (s.popInbox e.toNat rest).keepMsg e.toNat m) hpass, ite_self]
  refine ⟨_, exec_messageReceive_accept hin htag hep, ?_⟩
  rw [hkeep]
  exact ⟨State.taken_keepMsg _ _ _, State.inbox_popInbox s e.toNat rest, rfl, rfl,
    (State.popInbox_changes s _ _).trans (State.keepMsg_changes _ _ _)⟩

/-- An EPOCH_STALE reply at a Ferry port engine goes to its port (R314). -/
theorem messageReceive_ferry {x : Nat} (hl : (endpointLoom e.toNat).isNone = true) (hc : m.cls = 3) (hk : m.kind = 6)
    (hx : engineFerry e.toNat = some x) :
    ∃ t, exec (.messageReceive e) s = .next t ∧ t.fabric.taken = s.fabric.taken ∧ Tab.get [] t.fabric.inbox e.toNat = rest ∧
      SameBut [x] s.ferryAt t.ferryAt ∧ Changes s t [.fabric, .ferry, .free] := by
  refine ⟨_, exec_messageReceive_accept hin htag hep, ?_⟩
  rw [State.accept_ferry (Option.isNone_iff_eq_none.1 hl) hc hk hx]
  refine ⟨rfl, State.inbox_popInbox s e.toNat rest, fun y hy => ?_, fun p hp => ?_⟩
  · rw [State.staleOut, State.enqueueFrame, State.ferryAt_updFerry, if_neg (fun h => hy (by simp [h]))]
    rfl
  · cases p
    case fabric | ferry | free => exact absurd (by decide) hp
    all_goals rfl

/-- The payload of a stream with a region in the Bench is written there, where the partitions let the fabric write (R55, R137). -/
theorem messageReceive_lands {n p : Nat} {w : Window} {d : List (Nat × List Byte) × Nat} (h4 : m.kind ≠ 4)
    (hl : endpointLoom e.toNat = some n) (hown : s.ownerOf n = some p) (hw : s.windowOf n (e.toNat % 8) = some w)
    (hpass : (s.programOf n).bind Program.passTo = none)
    (hd : d = landing (Tab.get 0 (s.loom n).inPos (e.toNat % 8)) m.payload w)
    (hok : d.1.all (fun x => s.partOk p .fabricIn m.kind.toNat x.1 x.2.length) = true) :
    ∃ t z, exec (.messageReceive e) s = .next t ∧ z = d.1.foldl (fun l x => l.store x.1 x.2) (s.loom n) ∧
      t.loom n = { z with inPos := Tab.set 0 (s.loom n).inPos (e.toNat % 8) d.2 } ∧
      SameBut [n] s.loom t.loom ∧ Tab.get [] t.fabric.inbox e.toNat = rest ∧ t.fabric.taken = s.fabric.taken ∧
      Changes s t [.fabric, .looms] := by
  subst hd
  have hland := State.land_of_partOk (s := s.popInbox e.toNat rest) (stream := e.toNat % 8) (w := w) (m := m) hown hok
  have hacc : (s.popInbox e.toNat rest).accept e.toNat m = (s.popInbox e.toNat rest).land n (e.toNat % 8) w m := by
    have hpass' : (((s.popInbox e.toNat rest).land n (e.toNat % 8) w m).programOf n).bind Program.passTo = none := by
      rw [hland]; exact hpass
    rw [State.accept_placed (s := s.popInbox e.toNat rest) h4 hl hw, State.passOn_of_none hpass', ite_self]
  refine ⟨_, _, exec_messageReceive_accept hin htag hep, rfl, ?_⟩
  rw [hacc, hland]
  refine ⟨?_, fun k hk => ?_, State.inbox_popInbox s e.toNat rest, rfl, ?_⟩
  · rw [State.loom_updLoom, if_pos rfl]
    rfl
  · rw [State.loom_updLoom, if_neg (fun h => hk (by simp [h]))]
    rfl
  · exact ((State.popInbox_changes s _ _).mono (by decide)).trans ((Changes.updLoom _ _ _).mono (by decide))

/-- Where they do not, the plot faults (R137). -/
theorem messageReceive_refused {n p : Nat} {w : Window} (h4 : m.kind ≠ 4)
    (hl : endpointLoom e.toNat = some n) (hown : s.ownerOf n = some p) (hw : s.windowOf n (e.toNat % 8) = some w)
    (hbad : (landing (Tab.get 0 (s.loom n).inPos (e.toNat % 8)) m.payload w).1.any
      (fun x => !s.partOk p .fabricIn m.kind.toNat x.1 x.2.length) = true) (hserv : s.plotState p = 2) :
    ∃ t, exec (.messageReceive e) s = .next t ∧ t.plotState p = 5 ∧
      t.cell (0x6100 + p) 6 = satAdd 32 (s.cell (0x6100 + p) 6) 1 ∧ Changes s t Part.work := by
  have hp : p < 16 := State.lt_of_ownerOf hown
  obtain ⟨h5, hcount⟩ := State.partFault_serving (s := s.popInbox e.toNat rest) hp hserv
  refine ⟨_, exec_messageReceive_accept hin htag hep, ?_⟩
  rw [State.accept_placed (s := s.popInbox e.toNat rest) h4 hl hw, State.land_refused (s := s.popInbox e.toNat rest) hown hbad]
  split
  · refine ⟨?_, ?_, Changes.of_fixed ((State.partFault_inner (s.popInbox e.toNat rest) p).trans (State.passOn_inner _ n m))⟩
    · rw [State.plotState, State.cell_passOn _ _ _ _ _ (by simp only [ek]; omega)]
      exact h5
    · rw [State.cell_passOn _ _ _ _ _ (by simp only [ek]; omega)]
      exact hcount
  · exact ⟨h5, hcount, Changes.of_fixed (State.partFault_inner _ p)⟩

/-- An operand of a loom that passes its operands on goes to the next loom of its chain (R43). -/
theorem messageReceive_passes {n : Nat} {k : Loom} (h4 : m.kind ≠ 4) (hl : endpointLoom e.toNat = some n) (h0 : e.toNat % 8 = 0)
    (hw : s.windowOf n 0 = none) (hpass : (s.programOf n).bind Program.passTo = some k)
    (hst : Tab.get false s.fabric.stale (staleKey (loomEndpoint n 0) (loomEndpoint k.n 0)) = false) :
    ∃ t u, exec (.messageReceive e) s = .next t ∧ t = u.inject { m with
        epoch := BitVec.ofNat 16 (s.epoch (loomEndpoint k.n 0)), dest := BitVec.ofNat 16 (loomEndpoint k.n 0),
        src := BitVec.ofNat 16 (loomEndpoint n 0) } ∧
      Tab.get [] u.fabric.taken e.toNat = Tab.get [] s.fabric.taken e.toNat ++ [m] ∧
      Tab.get [] u.fabric.inbox e.toNat = rest ∧ Changes s u [.fabric] ∧ Changes s t [.fabric, .led, .looms] := by
  have hkeep : Changes s ((s.popInbox e.toNat rest).keepMsg e.toNat m) [.fabric] :=
    (State.popInbox_changes s _ _).trans (State.keepMsg_changes _ _ _)
  have hacc : (s.popInbox e.toNat rest).accept e.toNat m = ((s.popInbox e.toNat rest).keepMsg e.toNat m).inject { m with
      epoch := BitVec.ofNat 16 (s.epoch (loomEndpoint k.n 0)), dest := BitVec.ofNat 16 (loomEndpoint k.n 0),
      src := BitVec.ofNat 16 (loomEndpoint n 0) } := by
    rw [State.accept_unplaced (s := s.popInbox e.toNat rest) h4 hl (by rw [h0]; exact hw), if_pos h0]
    exact State.passOn_of_some (s := (s.popInbox e.toNat rest).keepMsg e.toNat m) hpass hst m
  refine ⟨_, _, exec_messageReceive_accept hin htag hep, hacc, State.taken_keepMsg _ _ _, State.inbox_popInbox s e.toNat rest,
    hkeep, ?_⟩
  rw [hacc]
  exact (hkeep.mono (by decide)).trans (Changes.of_offRoad (State.inject_offRoad _ _))

end Accept

end Sys2Proof.Machine
end

section
/-! PROOFS. EPOCH_STALE_REPLY and STEP_RERUN (R50, R197), and the statement O13. -/

namespace Sys2Proof.Machine

/-! ### EPOCH_STALE_REPLY -/

/-- Whether a message is the EPOCH_STALE reply of a destination (R48). -/
def isStaleReply (dest : U16) (m : Msg) : Bool := m.cls == 3 && m.kind == 6 && m.src == dest

/-- Whether a message went from a sender to a destination. -/
def isBetween (sender dest : U16) (m : Msg) : Bool := m.src == sender && m.dest == dest

/-- The sender has taken the reply, and its entry for the destination is marked stale (R50). -/
def State.markStale (s : State) (sender dest : U16) : State :=
  ({ s with fabric := { s.fabric with
      taken := Tab.upd [] s.fabric.taken sender.toNat (dropFirst (isStaleReply dest)),
      stale := Tab.set false s.fabric.stale (staleKey sender.toNat dest.toNat) true } }).countStale sender.toNat

@[simp] theorem State.countStale_offRoad (s : State) (e : Nat) : (s.countStale e).offRoad = s.offRoad := by
  unfold State.countStale
  split
  · rfl
  · split
    next p hp => exact State.bump_offRoad _ 64 p 7 1 (State.lt_of_ownerOf hp) (by decide)
    · rfl

theorem State.countStale_fabric (s : State) (e : Nat) : (s.countStale e).fabric = s.fabric := by
  unfold State.countStale
  split
  · rfl
  · split <;> rfl

@[simp] theorem State.loom_bump (s : State) (w i j n k : Nat) : (s.bump w i j n).loom k = s.loom k := rfl

/-- The reply is counted for the sender's loom only. -/
theorem State.loom_countStale {s : State} {e n k : Nat} (hn : endpointLoom e = some n) (hk : k ≠ n) :
    (s.countStale e).loom k = s.loom k := by
  unfold State.countStale
  rw [hn]
  have hl : ∀ f, (s.updLoom n f).loom k = s.loom k := fun f => by rw [State.loom_updLoom, if_neg hk.symm]
  dsimp only
  split
  · exact (State.loom_bump _ _ _ _ _ _).trans (hl _)
  · exact hl _

theorem State.markStale_changes (s : State) (sender dest : U16) : Changes s (s.markStale sender dest) [.fabric, .led, .looms] :=
  ((Changes.setFabric s _).mono (by decide)).trans (Changes.of_offRoad (State.countStale_offRoad _ _))

section Reply

variable {s : State} {sender dest : U16} {m : Msg}
  (hreply : (Tab.get [] s.fabric.taken sender.toNat).any (fun x => x.cls == 3 && x.kind == 6 && x.src == dest) = true)
  (hlost : s.fabric.lost.find? (fun x => x.src == sender && x.dest == dest) = some m)

include hreply hlost

theorem exec_epochStaleReply_step {n : Nat} (hn : endpointLoom sender.toNat = some n) (hc : m.cls.val < 2) :
    exec (.epochStaleReply sender dest) s = .next (({ s.markStale sender dest with fabric :=
      { (s.markStale sender dest).fabric with
        lost := dropFirst (isBetween sender dest) (s.markStale sender dest).fabric.lost } }).updLoom n
          (fun l => { l with stall := some (.stale dest.toNat) })) := by
  change execEpochStaleReply sender dest s = _
  unfold execEpochStaleReply
  dsimp only
  rw [if_pos hreply, hlost]
  dsimp only
  rw [if_neg (by omega), hn]
  rfl

theorem exec_epochStaleReply_service (hc : 2 ≤ m.cls.val) :
    exec (.epochStaleReply sender dest) s = .next (s.markStale sender dest).reissueStale := by
  change execEpochStaleReply sender dest s = _
  unfold execEpochStaleReply
  dsimp only
  rw [if_pos hreply, hlost]
  dsimp only
  rw [if_pos hc]
  rfl

end Reply

/-- Entries that the Reeve has rewritten are not stale, and none becomes stale by it (R50). -/
theorem get_foldl_unmark (key : Msg → Nat) (ms : List Msg) (t : Tab Bool) (k : Nat)
    (h : Tab.get false t k = false ∨ ∃ m ∈ ms, key m = k) :
    Tab.get false (ms.foldl (fun t m => Tab.set false t (key m) false) t) k = false := by
  induction ms generalizing t with
  | nil => simpa using h
  | cons x ms ih =>
    refine ih _ ?_
    by_cases hx : key x = k
    · left
      dsimp only
      rw [hx, Tab.get_set_self]
    · dsimp only
      rw [Tab.get_set_ne _ _ _ hx]
      rcases h with h | ⟨m, hm, hk⟩
      · exact .inl h
      · rcases List.mem_cons.1 hm with rfl | hm
        · exact absurd hk hx
        · exact .inr ⟨m, hm, hk⟩

/-- Whether a message of VC2 or VC3 waits on a stale entry. -/
def State.waitsStale (s : State) (m : Msg) : Bool :=
  Tab.get false s.fabric.stale (staleKey m.src.toNat m.dest.toNat) && decide (2 ≤ m.cls.val)

theorem State.reissueStale_fabric {s : State} (h : s.procs.reeveLost = false) :
    s.reissueStale.fabric.lost = s.fabric.lost.filter (fun m => !s.waitsStale m) ∧
    s.reissueStale.fabric.stale = (s.fabric.lost.filter s.waitsStale).foldl
      (fun t m => Tab.set false t (staleKey m.src.toNat m.dest.toNat) false) s.fabric.stale := by
  unfold State.reissueStale
  rw [if_neg (by simp [h])]
  exact ⟨foldl_keeps (fun u : State => u.fabric.lost) _ (fun x _ u => (State.inject_fabric u _).2.2.2.1) _,
    foldl_keeps (fun u : State => u.fabric.stale) _ (fun x _ u => (State.inject_fabric u _).2.2.2.2) _⟩

theorem State.reissueStale_changes (s : State) : Changes s s.reissueStale [.fabric, .led, .looms] := by
  unfold State.reissueStale
  split
  · exact Changes.refl _ _
  · extract_lets waits again x s1
    have h1 : Changes s s1 [.fabric] := Changes.setFabric s _
    exact (h1.mono (by decide)).trans (Changes.of_offRoad (foldl_keeps State.offRoad _ (fun x _ u => State.inject_offRoad u _) s1))

/-! ### STEP_RERUN -/

theorem State.pickStep_offLooms (s : State) (n : Nat) : (s.pickStep n).offLooms = s.offLooms := by
  unfold State.pickStep
  split
  · split <;> rfl
  · rfl

/-- The attempt's samples go with it; the plot's next attempt tag stands (R124, R197). -/
theorem State.discard_of_attempt {s : State} {id : Nat} {x : Step} (h : s.stepAt id = some x) :
    (s.discard id).samples = s.samples.filter (fun z => z.step != id) ∧
      ∀ p, ((s.discard id).plot p).nextTag = (s.plot p).nextTag := by
  have hh := State.haltOn_offLooms ((s.dropSamples id x.plot).updStep id Step.discarded) id
    (((s.dropSamples id x.plot).updStep id Step.discarded).footprint x.plot)
  rw [State.discard_of_stepAt h]
  refine ⟨(Changes.of_offLooms hh) .samples (by decide), fun p => ?_⟩
  rw [State.plot_of_offLooms hh]
  change ((s.dropSamples id x.plot).plot p).nextTag = _
  rw [State.dropSamples, State.plot_updPlot]
  split <;> rfl

/-- A discarded step as it stands when its next attempt begins: its plot's stale entries are rewritten, and it has the next tag. -/
def State.nextAttempt (s : State) (id : Nat) (x : Step) : State :=
  (((s.discard id).rewriteStale (s.footprint x.plot)).newTag x.plot).2.updStep id (fun y =>
    { y with st := .running, attempt := ((s.discard id).plot x.plot).nextTag })

theorem exec_stepRerun_discarded {s : State} {id : Nat} {x : Step} (hx : s.stepAt id = some x) (hd : x.st = .discarded)
    (h0 : s.power.shutdown = 0) :
    exec (.stepRerun id) s = .next (((s.nextAttempt id x).footprint x.plot).foldl (fun s n => s.pickStep n) (s.nextAttempt id x)) := by
  change execStepRerun id s = _
  unfold execStepRerun
  rw [hx]
  dsimp only
  rw [if_neg (by simp [h0, hd])]
  rfl

/-- The attempt tag that has been used up is followed by the next of sixteen (R197). -/
theorem State.nextTag_nextAttempt (s : State) (id : Nat) (x : Step) :
    ((s.nextAttempt id x).plot x.plot).nextTag = (((s.discard id).plot x.plot).nextTag + 1) % 16 := by
  have hs : ∀ (u : State) f, (u.updStep id f).plot x.plot = u.plot x.plot := fun _ _ => rfl
  have hr : ∀ u : State, (u.rewriteStale (s.footprint x.plot)).plot x.plot = u.plot x.plot := fun _ => rfl
  rw [State.nextAttempt, hs, State.newTag, State.plot_updPlot, if_pos rfl, hr]

theorem Changes.rewriteStale (s : State) (ls : List Nat) : Changes s (s.rewriteStale ls) [.fabric] := Changes.setFabric s _

/-- What a new attempt leaves as it is (R50, R197). -/
theorem State.nextAttempt_changes (s : State) (id : Nat) (x : Step) :
    Changes s (s.nextAttempt id x) [.fabric, .looms, .plots, .steps, .samples] := by
  refine ((State.discard_changes s id).mono (by decide)).trans ?_
  exact ((Changes.rewriteStale _ _).mono (by decide)).trans
    (((Changes.updPlot _ _ _).mono (by decide)).trans ((Changes.updStep _ _ _).mono (by decide)))

theorem State.samples_nextAttempt (s : State) (id : Nat) (x : Step) : (s.nextAttempt id x).samples = (s.discard id).samples := by
  rw [State.nextAttempt, State.newTag]
  rfl

/-- STEP_RERUN of a discarded step (R50, R197). -/
theorem stepRerun_discarded {s : State} {id : Nat} {x : Step} (hx : s.stepAt id = some x) (hd : x.st = .discarded)
    (h0 : s.power.shutdown = 0) :
    ∃ t y, exec (.stepRerun id) s = .next t ∧ t.stepAt id = some y ∧ y.st = .running ∧
      y.attempt = (s.plot x.plot).nextTag ∧ y.ended = [] ∧ y.reqs = x.reqs ∧ y.plot = x.plot ∧
      (t.plot x.plot).nextTag = ((s.plot x.plot).nextTag + 1) % 16 ∧ SameBut [id] s.stepAt t.stepAt ∧
      t.samples = s.samples.filter (fun z => z.step != id) ∧ Changes s t [.fabric, .looms, .plots, .steps, .samples] := by
  have hv : (((s.nextAttempt id x).footprint x.plot).foldl (fun s n => s.pickStep n) (s.nextAttempt id x)).offLooms =
      (s.nextAttempt id x).offLooms := foldl_keeps State.offLooms _ (fun n _ u => State.pickStep_offLooms u n) _
  obtain ⟨hsamples, htag⟩ := State.discard_of_attempt hx
  have hstep : ∀ j, (s.nextAttempt id x).stepAt j = if id = j then ((s.discard id).stepAt j).map
      (fun y => { y with st := .running, attempt := ((s.discard id).plot x.plot).nextTag }) else (s.discard id).stepAt j :=
    fun j => State.stepAt_updStep _ _ _ _
  refine ⟨_, { x.discarded with st := .running, attempt := (s.plot x.plot).nextTag }, exec_stepRerun_discarded hx hd h0, ?_,
    rfl, rfl, rfl, rfl, rfl, ?_, fun j hj => ?_, ?_, ?_⟩
  · rw [State.stepAt_of_offLooms hv, hstep, if_pos rfl, State.stepAt_discard, if_pos rfl, hx, htag]
    rfl
  · rw [State.plot_of_offLooms hv, State.nextTag_nextAttempt, htag]
  · have hij : id ≠ j := fun h => hj (by simp [h])
    rw [State.stepAt_of_offLooms hv, hstep, if_neg hij, State.stepAt_discard, if_neg hij]
  · rw [Changes.of_offLooms hv .samples (by decide), State.samples_nextAttempt, hsamples]
  · exact (State.nextAttempt_changes s id x).trans ((Changes.of_offLooms hv).mono (by decide))

/-! ### The replies -/

section Replies

variable {s : State} {sender dest : U16} {m : Msg}
  (hreply : (Tab.get [] s.fabric.taken sender.toNat).any (fun x => x.cls == 3 && x.kind == 6 && x.src == dest) = true)
  (hlost : s.fabric.lost.find? (fun x => x.src == sender && x.dest == dest) = some m)

theorem State.markStale_stale (s : State) (sender dest : U16) :
    Tab.get false (s.markStale sender dest).fabric.stale (staleKey sender.toNat dest.toNat) = true := by
  rw [State.markStale, State.countStale_fabric]
  exact Tab.get_set_self false s.fabric.stale _ true

theorem State.markStale_fabric (s : State) (sender dest : U16) :
    (s.markStale sender dest).fabric.lost = s.fabric.lost ∧ (s.markStale sender dest).fabric.inbox = s.fabric.inbox ∧
      (s.markStale sender dest).fabric.chans = s.fabric.chans := by
  rw [State.markStale, State.countStale_fabric]
  exact ⟨rfl, rfl, rfl⟩

include hreply hlost

/-- The sender of a message of VC0 or VC1 waits for the re-run of its step (R50). -/
theorem epochStaleReply_step {n : Nat} (hn : endpointLoom sender.toNat = some n) (hc : m.cls.val < 2) :
    ∃ t, exec (.epochStaleReply sender dest) s = .next t ∧
      Tab.get false t.fabric.stale (staleKey sender.toNat dest.toNat) = true ∧ (t.loom n).stall = some (.stale dest.toNat) ∧
      t.fabric.lost = dropFirst (fun x => x.src == sender && x.dest == dest) s.fabric.lost ∧
      t.fabric.inbox = s.fabric.inbox ∧ t.fabric.chans = s.fabric.chans ∧ SameBut [n] s.loom t.loom ∧
      (∀ i j, j < 256 → i < 0x3300 → t.cell i j = s.cell i j) ∧ Changes s t [.fabric, .led, .looms] := by
  obtain ⟨hl, hi, hch⟩ := State.markStale_fabric s sender dest
  refine ⟨_, exec_epochStaleReply_step hreply hlost hn hc, State.markStale_stale s sender dest, ?_,
    congrArg (dropFirst (isBetween sender dest)) hl, hi, hch, fun k hk => ?_, fun i j hj hlt => ?_, ?_⟩
  · rw [State.loom_updLoom, if_pos rfl]
  · have hkn : k ≠ n := by simpa using hk
    rw [State.loom_updLoom, if_neg hkn.symm]
    exact State.loom_countStale hn hkn
  · exact State.cell_of_offRoad (State.countStale_offRoad _ _) i j (.inl (by simp only [ek]; omega))
  · exact (State.markStale_changes s sender dest).trans
      (((Changes.setFabric _ _).mono (by decide)).trans ((Changes.updLoom _ _ _).mono (by decide)))

/-- A message of VC2 or VC3 waits on the marked entry while no Reeve is active (R29, R50). -/
theorem epochStaleReply_waits (hc : 2 ≤ m.cls.val) (hreeve : s.procs.reeveLost = true) :
    ∃ t, exec (.epochStaleReply sender dest) s = .next t ∧
      Tab.get false t.fabric.stale (staleKey sender.toNat dest.toNat) = true ∧ t.fabric.lost = s.fabric.lost ∧
      t.fabric.inbox = s.fabric.inbox ∧ t.fabric.chans = s.fabric.chans ∧ Changes s t [.fabric, .led, .looms] := by
  have hch := State.markStale_changes s sender dest
  obtain ⟨hl, hi, hc'⟩ := State.markStale_fabric s sender dest
  have hstay : (s.markStale sender dest).reissueStale = s.markStale sender dest := by
    rw [State.reissueStale, if_pos (by rw [hch .procs (by decide)]; exact hreeve)]
  refine ⟨_, exec_epochStaleReply_service hreply hlost hc, ?_⟩
  rw [hstay]
  exact ⟨State.markStale_stale s sender dest, hl, hi, hc', hch⟩

/-- Once the entry has been rewritten no such message waits (R50). -/
theorem epochStaleReply_rewritten (hc : 2 ≤ m.cls.val) (hreeve : s.procs.reeveLost = false) :
    ∃ t, exec (.epochStaleReply sender dest) s = .next t ∧
      Tab.get false t.fabric.stale (staleKey sender.toNat dest.toNat) = false ∧
      (∀ x ∈ t.fabric.lost, ¬(x.src = sender ∧ x.dest = dest ∧ 2 ≤ x.cls.val)) ∧ Changes s t [.fabric, .led, .looms] := by
  have hch := State.markStale_changes s sender dest
  have hstale := State.markStale_stale s sender dest
  obtain ⟨hl, -, -⟩ := State.markStale_fabric s sender dest
  obtain ⟨hlost', hstale'⟩ := State.reissueStale_fabric (s := s.markStale sender dest) (by rw [hch .procs (by decide)]; exact hreeve)
  have hwaits : ∀ x : Msg, x.src = sender → x.dest = dest → 2 ≤ x.cls.val → (s.markStale sender dest).waitsStale x = true := by
    rintro x rfl rfl h2
    simp [State.waitsStale, hstale, h2]
  have hm : m.src = sender ∧ m.dest = dest := by simpa using List.find?_some hlost
  refine ⟨_, exec_epochStaleReply_service hreply hlost hc, ?_, fun x hx => ?_, hch.trans (State.reissueStale_changes _)⟩
  · rw [hstale']
    refine get_foldl_unmark (fun y => staleKey y.src.toNat y.dest.toNat) _ _ _ (.inr ⟨m, List.mem_filter.2 ⟨?_, ?_⟩, ?_⟩)
    · rw [hl]
      exact List.mem_of_find?_eq_some hlost
    · exact hwaits m hm.1 hm.2 hc
    · rw [hm.1, hm.2]
  · rintro ⟨hsrc, hdst, h2⟩
    rw [hlost'] at hx
    simpa [hwaits x hsrc hdst h2] using (List.mem_filter.1 hx).2

end Replies

end Sys2Proof.Machine

open Sys2Proof Sys2Proof.Machine

/-- Settles O13: PLOT, EPOCH and acceptance are the three ends of MESSAGE_RECEIVE; a message on its way touches neither what
endpoints have taken nor what is lost or stale (`State.inject_offRoad`). -/
theorem receiptChecksPlotThenEpoch : Obligations.ReceiptChecksPlotThenEpoch := by
  refine ⟨fun s e m rest hin => ⟨fun htag => messageReceive_plot hin htag, fun htag hep => messageReceive_epoch hin htag hep,
      fun htag hep h => messageReceive_kept hin htag hep h,
      fun x htag hep hl hc hk hx => messageReceive_ferry hin htag hep hl hc hk hx,
      fun n p w d htag hep h4 hl hown hw hpass hd => ⟨fun hok => messageReceive_lands hin htag hep h4 hl hown hw hpass hd hok,
        fun hbad hserv => messageReceive_refused hin htag hep h4 hl hown hw (hd ▸ hbad) hserv⟩,
      fun n k htag hep h4 hl h0 hw hpass hst => messageReceive_passes hin htag hep h4 hl h0 hw hpass hst⟩,
    fun s sender dest n m hn hreply hlost hc => epochStaleReply_step hreply hlost hn hc,
    fun s sender dest m hreply hlost hc => ⟨fun hreeve => epochStaleReply_waits hreply hlost hc hreeve,
      fun hreeve => epochStaleReply_rewritten hreply hlost hc hreeve⟩,
    fun s id x hx hd h0 => stepRerun_discarded hx hd h0⟩
end

section
/-! SUPPORT. Frames of single updates and of folds, for what runs in engine time. -/

namespace Sys2Proof.Machine

/-- A fold of steps within a frame stays within it. -/
theorem Changes.foldl {α : Type} {f : State → α → State} {ps : List Part} (h : ∀ s x, Changes s (f s x) ps)
    (l : List α) (s : State) : Changes s (l.foldl f s) ps := by
  induction l generalizing s with
  | nil => exact Changes.refl s ps
  | cons x l ih => exact (h s x).trans (ih _)

theorem CellsBut.trans {ks : List (Nat × Nat)} {s t u : State} (h : CellsBut ks s t) (h' : CellsBut ks t u) : CellsBut ks s u :=
  fun i j hj hn => (h' i j hj hn).trans (h i j hj hn)

theorem CellsBut.foldl {α : Type} {f : State → α → State} {ks : List (Nat × Nat)} (h : ∀ s x, CellsBut ks s (f s x)) (l : List α)
    (s : State) : CellsBut ks s (l.foldl f s) := by
  induction l generalizing s with
  | nil => exact CellsBut.of_led rfl
  | cons x l ih => exact (h s x).trans (ih _)

theorem SameBut.trans {α : Type} {ks : List Nat} {f g h : Nat → α} (hfg : SameBut ks f g) (hgh : SameBut ks g h) : SameBut ks f h :=
  fun n hn => (hgh n hn).trans (hfg n hn)

/-- Raising a counter changes no other cell. -/
theorem CellsBut.bump (s : State) (w i j n : Nat) (hj : j < 256) : CellsBut [(i, j)] s (s.bump w i j n) :=
  (CellsBut.of_led rfl).setCell i j _ hj List.mem_cons_self

theorem Changes.bump (s : State) (w i j n : Nat) : Changes s (s.bump w i j n) [.led] := Changes.setCell s i j _

theorem State.raise_bell (s : State) (ev p : Nat) (ps : List Nat) : (s.raise ev p ps).bell = s.bell := by simp

/-- The count and the Bell's record alone change. -/
theorem Changes.setClock (s : State) (n : Nat) (x : Bell) : Changes s { s with now := n, bell := x } [.now, .bell] := by
  intro p hp
  cases p
  case now | bell => exact absurd (by decide) hp
  all_goals rfl

theorem Changes.setBell (s : State) (x : Bell) : Changes s { s with bell := x } [.bell] := by
  intro p hp
  cases p
  case bell => exact absurd (by decide) hp
  all_goals rfl

theorem Changes.setEv (s : State) (x : Events) : Changes s { s with ev := x } [.ev] := by
  intro p hp
  cases p
  case ev => exact absurd (by decide) hp
  all_goals rfl

theorem Changes.setPower (s : State) (x : Power) : Changes s { s with power := x } [.power] := by
  intro p hp
  cases p
  case power => exact absurd (by decide) hp
  all_goals rfl

theorem Changes.updOb (s : State) (i : Nat) (f : Ob → Ob) : Changes s (s.updOb i f) [.ob] := by
  intro p hp
  cases p
  case ob => exact absurd (by decide) hp
  all_goals rfl

theorem Changes.updQp (s : State) (n : Nat) (f : Qp → Qp) : Changes s (s.updQp n f) [.qps] := by
  intro p hp
  cases p
  case qps => exact absurd (by decide) hp
  all_goals rfl

theorem Changes.emit (s : State) (o : Out) : Changes s (s.emit o) [.out] := by
  intro p hp
  cases p
  case out => exact absurd (by decide) hp
  all_goals rfl

theorem Changes.raiseLimited (s : State) (ev scope period p : Nat) (ps : List Nat) :
    Changes s (s.raiseLimited ev scope period p ps) Part.report := by
  unfold State.raiseLimited
  dsimp only
  split
  · exact Changes.refl _ _
  · exact ((Changes.setEv s _).mono (by decide)).trans (Changes.raise _ _ _ _)

/-- Taking a request's counter changes its session alone (R386). -/
theorem State.heard_changes (s : State) (f : Sender) : Changes s (s.heard f) [.sessions] := by
  intro p hp
  cases p
  case sessions => exact absurd (by decide) hp
  all_goals simp [Part.same]

theorem State.answer_changes (s : State) (f : Sender) (q : Req) (r : Reply) : Changes s (s.answer f q r) Part.reply := by
  intro p hp
  cases p
  case out | mailbox | sessions => exact absurd (by decide) hp
  all_goals simp [Part.same]

end Sys2Proof.Machine
end

section
/-! PROOFS. An empty queue, the Bell's reference and its loss (R77 to R79): the statements O2 and O10. -/

namespace Sys2Proof.Machine

/-! ### An empty queue -/

theorem step_of_no_command {s : State} (h : s.pending = []) : step s = .next s.passNs := by
  unfold step
  rw [h]

/-- A nanosecond passes, or is added or held back by the slew, which waits 10 µs between two corrections (R78). -/
theorem State.passNs_now (s : State) :
    s.passNs.now = s.now + 1 ∨ ((s.passNs.now = s.now ∨ s.passNs.now = s.now + 2) ∧ (s.bell.st = .free ∨ s.bell.st = .holdover) ∧
      s.bell.lastSlew + 10000 ≤ s.now ∧ s.passNs.bell.lastSlew = s.now) := by
  unfold State.passNs
  dsimp only
  split
  next h =>
    obtain ⟨hst, -, hslew⟩ := h
    split
    · exact .inr ⟨.inr rfl, hst, hslew, rfl⟩
    · exact .inr ⟨.inl rfl, hst, hslew, rfl⟩
  · exact .inl rfl

theorem State.passNs_changes (s : State) : s.passNs.bell.st = s.bell.st ∧ Changes s s.passNs [.now, .bell] := by
  unfold State.passNs
  dsimp only
  split
  · split
    · exact ⟨rfl, Changes.setClock s _ _⟩
    · exact ⟨rfl, Changes.setClock s s.now _⟩
  · exact ⟨rfl, Changes.setClock s _ s.bell⟩

/-! ### BELL_REF_EDGE -/

/-- Whether the reference is present (R79). -/
def Bell.present (b : Bell) : Bool := decide (b.st = .acquiring ∨ b.st = .locked)

/-- What an edge slews of the correction that is left: at most 1 ns, at most once in 10 µs (R78). -/
def Bell.slew (b : Bell) (now : Nat) : Int :=
  if b.present ∧ b.corr ≠ 0 ∧ b.lastSlew + 10000 ≤ now then (if 0 < b.corr then 1 else -1) else 0

/-- The Bell's record after an edge with a phase error (R77 to R79). -/
def Bell.edge (b : Bell) (now : Nat) (err : Int) : Bell :=
  { b with st := if err.natAbs ≤ 10 then .locked else .acquiring,
           edgeBase := if b.present then ((b.edgeBase : Int) + 40 + b.slew now).toNat else now,
           corr := -err - b.slew now, lastSlew := if b.slew now = 0 then b.lastSlew else now }

/-- The state after an edge, before E-5802 is raised. -/
def State.refEdge (s : State) (err : Int) : State :=
  { s with bell := s.bell.edge s.now err, now := max s.now (s.bell.edge s.now err).edgeBase }

theorem exec_bellRefEdge (s : State) (e : BitVec 32) :
    exec (.bellRefEdge e) s = .next (if (s.bell.edge s.now e.toInt).st = .locked ∧ s.bell.st ≠ .locked
      then (s.refEdge e.toInt).raise 0x5802 0xFF [] else s.refEdge e.toInt) := rfl

/-- Without a reference the count of the edge is the count as it is (R79). -/
theorem Bell.edgeBase_of_absent {b : Bell} (h : b.st = .free ∨ b.st = .holdover) (now : Nat) (err : Int) :
    (b.edge now err).edgeBase = now := by
  have hp : b.present = false := by rcases h with h | h <;> simp [Bell.present, h]
  simp [Bell.edge, hp]

/-- With one it is 40 ns on, or a nanosecond more or less where the slew is due (R77, R78). -/
theorem Bell.edgeBase_of_present {b : Bell} (h : b.st = .acquiring ∨ b.st = .locked) (now : Nat) (err : Int) :
    (b.edge now err).edgeBase = b.edgeBase + 40 ∨ (b.corr ≠ 0 ∧ b.lastSlew + 10000 ≤ now ∧ (b.edge now err).lastSlew = now ∧
      ((b.edge now err).edgeBase = b.edgeBase + 39 ∨ (b.edge now err).edgeBase = b.edgeBase + 41)) := by
  have hp : b.present = true := decide_eq_true h
  by_cases hs : b.corr ≠ 0 ∧ b.lastSlew + 10000 ≤ now
  · have hslew : b.slew now = if 0 < b.corr then 1 else -1 := if_pos ⟨hp, hs⟩
    refine .inr ⟨hs.1, hs.2, ?_, ?_⟩
    · simp only [Bell.edge, hslew]
      split <;> rfl
    · simp only [Bell.edge, hp, hslew, if_true]
      split <;> omega
  · have hslew : b.slew now = 0 := if_neg fun h => hs h.2
    left
    simp only [Bell.edge, hp, hslew, if_true]
    omega

theorem State.refEdge_changes (s : State) (err : Int) : Changes s (s.refEdge err) [.now, .bell] := Changes.setClock s _ _

/-- BELL_REF_EDGE: what the edge leaves of count and Bell, and whether E-5802 is raised (R77 to R79). -/
theorem bellRefEdge_next (s : State) (e : BitVec 32) : ∃ t, exec (.bellRefEdge e) s = .next t ∧
    t.now = max s.now t.bell.edgeBase ∧ t.bell = s.bell.edge s.now e.toInt ∧
    (if t.bell.st = .locked ∧ s.bell.st ≠ .locked then Raises s t [(0x5802, 0xFF, [])] else Raises s t []) ∧
    Changes s t (.now :: .bell :: Part.report) := by
  have hch := (s.refEdge_changes e.toInt).mono (qs := .now :: .bell :: Part.report) (by decide)
  have hb : (s.refEdge e.toInt).bell = s.bell.edge s.now e.toInt := rfl
  have hev : (s.refEdge e.toInt).ev.seq = s.ev.seq := congrArg Events.seq (s.refEdge_changes e.toInt .ev (by decide))
  rw [exec_bellRefEdge]
  by_cases h : (s.bell.edge s.now e.toInt).st = .locked ∧ s.bell.st ≠ .locked
  · rw [if_pos h]
    refine ⟨_, rfl, ?_, ?_, ?_, hch.trans ((Changes.raise _ _ _ _).mono (by decide))⟩
    · simp [State.refEdge]
    · simp [hb]
    · rw [State.raise_bell, hb, if_pos h]
      exact Raises.one hev _ _ _
  · rw [if_neg h]
    refine ⟨_, rfl, rfl, rfl, ?_, hch⟩
    rw [hb, if_neg h]
    exact Raises.nil hev

/-! ### BELL_REF_LOSS -/

/-- The Bell's record after a loss (R79). -/
def Bell.lost (b : Bell) : Bell := { b with st := .holdover, corr := if b.st = BellState.acquiring then b.corr else 0 }

theorem exec_bellRefLoss {s : State} (h : s.bell.st = .acquiring ∨ s.bell.st = .locked) (hl : s.bell.edgeBase + 200 ≤ s.now) :
    exec .bellRefLoss s = .next ({ s with bell := s.bell.lost }.raise 0x5801 0xFF []) := congrArg _ (if_pos ⟨h, hl⟩)

end Sys2Proof.Machine

open Sys2Proof Sys2Proof.Machine

/-- Settles O2: on an empty queue a step is `State.passNs`. -/
theorem idleStepLetsTimePass : Obligations.IdleStepLetsTimePass :=
  fun s h => ⟨s.passNs, step_of_no_command h, s.passNs_now, s.passNs_changes⟩

/-- Settles O10: the Bell's record after an edge says what becomes of the count. -/
theorem theBellDisciplinesTheCount : Obligations.TheBellDisciplinesTheCount := by
  refine ⟨fun s e => ?_, fun s h hl => ⟨_, exec_bellRefLoss h hl, by simp [Bell.lost], Raises.one rfl _ _ _,
    ((Changes.setBell s _).mono (by decide)).trans ((Changes.raise _ _ _ _).mono (by decide))⟩⟩
  obtain ⟨t, ht, hnow, hbell, hraise, hch⟩ := bellRefEdge_next s e
  refine ⟨t, ht, fun h => ?_, fun h => ⟨hnow, ?_⟩, by rw [hbell]; rfl, hraise, hch⟩
  · have hb : t.bell.edgeBase = s.now := by rw [hbell, Bell.edgeBase_of_absent h]
    exact ⟨by rw [hnow, hb, max_self], hb⟩
  · rw [hbell]
    exact Bell.edgeBase_of_present h s.now e.toInt
end

section
/-! PROOFS. Ticks, time loads and the tick period (R80, R81, R83): the statement O11. -/

namespace Sys2Proof.Machine

/-! ### Ticks that are counted -/

/-- The Bell's record after a counted tick: the period written to 5800:03 comes into use (R80, R83). -/
def State.countedBell (s : State) (instant : Option Nat) (corr : Int) : Bell :=
  { s.bell with lastCounted := instant, watch := true, missRaised := false, corr := corr, tickNo := s.bell.tickNo + 1,
                tickAt := some s.now, period := s.cell 0x5800 3 }

theorem State.countTick_bell (s : State) (instant : Option Nat) (corr : Int) :
    (s.countTick instant corr).bell = s.countedBell instant corr := by
  have hp : (s.bump 64 0x5800 6 1).cell 0x5800 3 = s.cell 0x5800 3 := State.cell_setCell_ne _ _ _ _ _ _ (by decide)
  simp only [State.countTick, hp]
  rfl

/-- TICK_COUNT counts it, and no other cell changes. -/
theorem State.countTick_cells (s : State) (instant : Option Nat) (corr : Int) :
    (s.countTick instant corr).cell 0x5800 6 = satAdd 64 (s.cell 0x5800 6) 1 ∧
      CellsBut [(0x5800, 6)] s (s.countTick instant corr) :=
  ⟨State.cell_bump_self s _ _ _ _, (CellsBut.bump s 64 0x5800 6 1 (by decide)).trans (CellsBut.of_led rfl)⟩

theorem State.countTick_changes (s : State) (instant : Option Nat) (corr : Int) :
    Changes s (s.countTick instant corr) [.bell, .led] :=
  ((Changes.bump s _ _ _ _).mono (by decide)).trans ((Changes.setBell (s.bump 64 0x5800 6 1) _).mono (by decide))

/-! ### TICK_EDGE -/

/-- Whether an edge is the first within a window (R80). -/
def State.expectsTick (s : State) : Prop := inWindow s.now s.nearInstant = true ∧ s.bell.lastCounted ≠ some s.nearInstant

/-- What a counted tick leaves to be slewed: without a reference, the distance of the instant (R79). -/
def State.tickCorr (s : State) : Int :=
  if s.bell.st = .free ∨ s.bell.st = .holdover then (s.nearInstant : Int) - s.now else s.bell.corr

/-- An edge carries no load while none is armed, or the one armed is younger than 1 µs (R81). -/
def State.loadsNothing (s : State) : Prop := s.bell.load = none ∨ ∃ v a, s.bell.load = some (v, a) ∧ s.now < a + 1000

/-- The first edge of a window is counted (R80). -/
theorem exec_tickEdge_counted {s : State} (h : s.loadsNothing) (he : s.expectsTick) :
    exec .tickEdge s = .next (s.countTick (some s.nearInstant) s.tickCorr) := by
  change execTickEdge s = _
  rcases h with h | ⟨v, a, h, ha⟩
  · simp only [execTickEdge, h]
    exact congrArg _ (if_pos he)
  · simp only [execTickEdge, h]
    rw [if_neg (by omega)]
    exact congrArg _ (if_pos he)

/-- Any other edge raises E-5804 (R80). -/
theorem exec_tickEdge_stray {s : State} (h : s.loadsNothing) (he : ¬ s.expectsTick) :
    exec .tickEdge s = .next (s.raise 0x5804 0xFF []) := by
  change execTickEdge s = _
  rcases h with h | ⟨v, a, h, ha⟩
  · simp only [execTickEdge, h]
    exact congrArg _ (if_neg he)
  · simp only [execTickEdge, h]
    rw [if_neg (by omega)]
    exact congrArg _ (if_neg he)

/-- The state in which the edge that carries a load is counted (R81). -/
def State.loadTime (s : State) (v : Nat) : State :=
  { s with now := v, bell := { s.bell with load := none, edgeBase := v, lastSlew := v } }

theorem State.loadTime_changes (s : State) (v : Nat) : Changes s (s.loadTime v) [.now, .bell] := Changes.setClock s _ _

/-- The first edge 1 µs after the write carries the load (R81). -/
theorem exec_tickEdge_load {s : State} {v a : Nat} (h : s.bell.load = some (v, a)) (ha : a + 1000 ≤ s.now) :
    exec .tickEdge s = .next ((s.loadTime v).countTick
      (some (if inWindow v (s.loadTime v).nearInstant then (s.loadTime v).nearInstant else v)) 0) := by
  change execTickEdge s = _
  simp only [execTickEdge, h]
  exact congrArg _ (if_pos ha)

theorem tickEdge_counted {s : State} (h : s.bell.load = none) (hw : inWindow s.now s.nearInstant = true)
    (hl : s.bell.lastCounted ≠ some s.nearInstant) :
    ∃ t, exec .tickEdge s = .next t ∧ t.cell 0x5800 6 = satAdd 64 (s.cell 0x5800 6) 1 ∧
      t.bell.lastCounted = some s.nearInstant ∧ t.bell.watch = true ∧ t.bell.missRaised = false ∧
      t.bell.period = s.cell 0x5800 3 ∧ t.bell.tickNo = s.bell.tickNo + 1 ∧
      CellsBut [(0x5800, 6)] s t ∧ Changes s t [.bell, .led] := by
  obtain ⟨hcount, hcells⟩ := s.countTick_cells (some s.nearInstant) s.tickCorr
  have hb := s.countTick_bell (some s.nearInstant) s.tickCorr
  refine ⟨_, exec_tickEdge_counted (.inl h) ⟨hw, hl⟩, hcount, ?_⟩
  rw [hb]
  exact ⟨rfl, rfl, rfl, rfl, rfl, hcells, s.countTick_changes _ _⟩

theorem tickEdge_stray {s : State} (h : s.bell.load = none)
    (he : inWindow s.now s.nearInstant = false ∨ s.bell.lastCounted = some s.nearInstant) :
    ∃ t, exec .tickEdge s = .next t ∧ Raises s t [(0x5804, 0xFF, [])] ∧ Changes s t Part.report := by
  refine ⟨_, exec_tickEdge_stray (.inl h) ?_, Raises.one rfl _ _ _, Changes.raise _ _ _ _⟩
  rintro ⟨hw, hl⟩
  rcases he with he | he
  · simp [he] at hw
  · exact hl he

theorem tickEdge_load {s : State} {v a : Nat} (h : s.bell.load = some (v, a)) (ha : a + 1000 ≤ s.now) :
    ∃ t, exec .tickEdge s = .next t ∧ t.now = v ∧ t.bell.load = none ∧ t.bell.tickNo = s.bell.tickNo + 1 ∧
      t.nearInstant = (v + t.bell.period / 2) / t.bell.period * t.bell.period ∧
      t.cell 0x5800 6 = satAdd 64 (s.cell 0x5800 6) 1 ∧ CellsBut [(0x5800, 6)] s t ∧ Changes s t [.now, .bell, .led] := by
  have hx := exec_tickEdge_load h ha
  generalize some (if inWindow v (s.loadTime v).nearInstant then (s.loadTime v).nearInstant else v) = instant at hx
  obtain ⟨hcount, hcells⟩ := (s.loadTime v).countTick_cells instant 0
  have hb := (s.loadTime v).countTick_bell instant 0
  refine ⟨_, hx, rfl, ?_, ?_, rfl, hcount, CellsBut.trans (CellsBut.of_led rfl) hcells,
    ((s.loadTime_changes v).mono (by decide)).trans (((s.loadTime v).countTick_changes _ _).mono (by decide))⟩
  · rw [hb]; rfl
  · rw [hb]; rfl

theorem tickEdge_waits {s : State} {v a : Nat} (h : s.bell.load = some (v, a)) (ha : s.now < a + 1000) :
    ∃ t, exec .tickEdge s = .next t ∧ t.bell.load = some (v, a) ∧ t.now = s.now ∧ Changes s t (.bell :: .led :: Part.report) := by
  have hn : s.loadsNothing := .inr ⟨v, a, h, ha⟩
  by_cases he : s.expectsTick
  · refine ⟨_, exec_tickEdge_counted hn he, ?_, rfl, (s.countTick_changes _ _).mono (by decide)⟩
    rw [State.countTick_bell]
    exact h
  · refine ⟨_, exec_tickEdge_stray hn he, ?_, by simp, (Changes.raise _ _ _ _).mono (by decide)⟩
    rw [State.raise_bell]
    exact h

/-! ### TICK_MISSING -/

/-- The last expected instant that has passed by more than 1 µs (R80). -/
def State.passedInstant (s : State) : Nat := (s.now - 1001) / s.bell.period * s.bell.period

/-- The Bell's record when the Drovers take an instant as the tick (R80, R327). -/
def State.missedBell (s : State) (missRaised : Bool) : Bell :=
  { s.bell with lastCounted := some s.passedInstant, tickNo := s.bell.tickNo + 1, tickAt := some s.now, missRaised := missRaised }

section Missing

variable {s : State} {last : Nat} (hnow : 1000 < s.now) (hlast : s.bell.lastCounted = some last) (hpast : last < s.passedInstant)
include hnow hlast hpast

/-- The first missing tick since a tick was counted raises E-5803 while the watch is armed (R80). -/
theorem exec_tickMissing_first (hw : s.bell.watch = true) (hm : s.bell.missRaised = false) :
    exec .tickMissing s = .next ({ s with bell := s.missedBell true }.raise 0x5803 0xFF []) := by
  change execTickMissing s = _
  simp only [execTickMissing, hlast]
  rw [if_neg (by simp only [State.passedInstant] at hpast; simp; omega), if_pos ⟨hw, hm⟩]
  rfl

/-- A further one raises nothing (R80). -/
theorem exec_tickMissing_again (hm : s.bell.missRaised = true) :
    exec .tickMissing s = .next { s with bell := s.missedBell true } := by
  change execTickMissing s = _
  simp only [execTickMissing, hlast]
  rw [if_neg (by simp only [State.passedInstant] at hpast; simp; omega), if_neg (by simp [hm]), State.missedBell, ← hm]
  rfl

end Missing

/-! ### TIME_LOAD and TICK_PERIOD -/

/-- The plots that exist are no part of a session. -/
theorem State.plotsNow_heard (s : State) (f : Sender) : (s.heard f).plotsNow = s.plotsNow := by
  unfold State.plotsNow State.plotExists State.plotState
  simp only [State.cell_heard]

/-- A write that passes the checks, is carried out within a frame and is answered (R371, R384). -/
theorem writeArrives_changes {s : State} {f : Sender} {act : State → State} {ps : List Part} {idx sub : Nat} {body : List Byte}
    {r : Reply} (h : Changes (s.heard f) (act (s.heard f)) ps) :
    Changes s ((act (s.heard f)).answer f (writeReq idx sub body) r) (ps ++ Part.reply) :=
  ((s.heard_changes f).mono (by simp [Part.reply])).trans
    ((h.mono (by simp +contextual)).trans ((State.answer_changes _ _ _ _).mono (by simp +contextual)))

/-- A time load stands armed with the present time (R81). -/
def State.armLoad (s : State) (v : Nat) : State := { s with bell := { s.bell with load := some (v, s.now) } }

/-- The load is armed with the present time while no plot exists (R81). -/
theorem timeLoad_arms {s : State} {f : Sender} {body : List Byte} (h : WriteArrives s f 0x5800 4 body) (hp : s.plotsNow = []) :
    ∃ t, exec (.timeLoad f body) s = .next t ∧ Answers t f .done ∧ t.bell = { s.bell with load := some (ofLe body, s.now) } ∧
      Changes s t (.bell :: Part.reply) := by
  refine ⟨_, congrArg Host.Outcome.next (State.serveWrite_arrives h _ _ (if_pos ((s.plotsNow_heard f).trans hp))),
    State.answer_answers _ _ _ _, ?_, writeArrives_changes (act := fun s => s.armLoad (ofLe body)) (Changes.setBell (s.heard f) _)⟩
  simp

/-- While a plot exists the write is refused (R81). -/
theorem timeLoad_denied {s : State} {f : Sender} {body : List Byte} (h : WriteArrives s f 0x5800 4 body) (hp : s.plotsNow ≠ []) :
    ∃ t, exec (.timeLoad f body) s = .next t ∧ Answers t f .denied ∧ Changes s t Part.reply :=
  ⟨_, congrArg Host.Outcome.next (State.serveWrite_refused h _ _ .denied (if_neg (by rw [State.plotsNow_heard]; exact hp))),
    State.answer_answers _ _ _ _, writeArrives_changes (act := id) (ps := []) (Changes.refl _ _)⟩

/-- The period written is stored (R83). -/
theorem tickPeriod_stores {s : State} {f : Sender} {body : List Byte} (h : WriteArrives s f 0x5800 3 body) :
    ∃ t, exec (.tickPeriod f body) s = .next t ∧ Answers t f .done ∧ t.cell 0x5800 3 = ofLe body ∧
      CellsBut [(0x5800, 3)] s t ∧ Changes s t (.led :: Part.reply) := by
  refine ⟨_, congrArg Host.Outcome.next (State.serveWrite_arrives h _ _ rfl), State.answer_answers _ _ _ _, ?_, ?_,
    writeArrives_changes (act := fun s => s.setCell 0x5800 3 (ofLe body)) (Changes.setCell (s.heard f) _ _ _)⟩
  · simp
  · have hw : CellsBut [(0x5800, 3)] s ((s.heard f).setCell 0x5800 3 (ofLe body)) :=
      (CellsBut.of_led (t := s.heard f) (by simp)).setCell 0x5800 3 _ (by decide) List.mem_cons_self
    exact hw.trans (CellsBut.of_led (by simp))

end Sys2Proof.Machine

open Sys2Proof Sys2Proof.Machine

/-- Settles O11: an edge is counted, stray, or carries a load; a missing tick is the first since a counted one, or a further one; a
write that arrives is carried out and answered. -/
theorem ticksAreCountedAndSet : Obligations.TicksAreCountedAndSet := by
  refine ⟨fun s => ⟨fun h hw hl => tickEdge_counted h hw hl, fun h he => tickEdge_stray h he, fun v a h ha => tickEdge_load h ha,
      fun v a h ha => tickEdge_waits h ha⟩,
    fun s last hnow hlast hpast hw => ⟨fun hm => ?_, fun hm => ?_⟩,
    fun s f body => ⟨fun h hp => timeLoad_arms h hp, fun h hp => timeLoad_denied h hp, fun h => tickPeriod_stores h⟩⟩
  · refine ⟨_, exec_tickMissing_first hnow hlast hpast hw hm, Raises.one rfl _ _ _, ?_, ?_,
      ((Changes.setBell s _).mono (by decide)).trans ((Changes.raise _ _ _ _).mono (by decide))⟩
    · rw [State.raise_bell]; rfl
    · rw [State.raise_bell]; rfl
  · exact ⟨_, exec_tickMissing_again hnow hlast hpast hm, rfl, Changes.setBell s _⟩
end

section
/-! PROOFS. CANARY_TEST and TRIM_APPLY (R67 to R71, R444): the statement O7. -/

namespace Sys2Proof.Machine

/-! ### A tap that rises -/

/-- A slot's record after a rise of datapath `d` at a time (R68, R69). -/
def SlotSt.raised (y : SlotSt) (d now : Nat) : SlotSt :=
  { y with taps := Tab.upd 0 y.taps d (· + 1), trims := Tab.set false y.trims d false, rose := Tab.set 0 y.rose d (now + 1) }

/-- A rise before its headroom is looked at (R71). -/
def State.countRise (s : State) (x : Slot) (d : Nat) : State := (s.updSlot x.n (fun y => y.raised d s.now)).bump 32 0x9100 3 1

theorem State.countRise_changes (s : State) (x : Slot) (d : Nat) : Changes s (s.countRise x d) [.slots, .led] :=
  ((Changes.updSlot s _ _).mono (by decide)).trans ((Changes.bump _ _ _ _ _).mono (by decide))

theorem State.raiseTap_eq (s : State) (x : Slot) (d : Nat) :
    s.raiseTap x d = (s.countRise x d).noteHeadroom x (s.slot x.n).headroom := rfl

@[simp] theorem State.slot_noteHeadroom (s : State) (x : Slot) (old n : Nat) : (s.noteHeadroom x old).slot n = s.slot n := by
  unfold State.noteHeadroom
  split
  · exact s.slot_raise _ _ _ _
  · rfl

@[simp] theorem State.cell_noteHeadroom (s : State) (x : Slot) (old i j : Nat) : (s.noteHeadroom x old).cell i j = s.cell i j := by
  unfold State.noteHeadroom
  split
  · exact s.cell_raise _ _ _ _ _
  · rfl

theorem State.noteHeadroom_changes (s : State) (x : Slot) (old : Nat) : Changes s (s.noteHeadroom x old) Part.report := by
  unfold State.noteHeadroom
  split
  · exact Changes.raise _ _ _ _
  · exact Changes.refl _ _

/-- Only the slot's own record changes, and by the rise. -/
theorem State.slot_raiseTap (s : State) (x : Slot) (d n : Nat) :
    (s.raiseTap x d).slot n = if x.n = n then (s.slot n).raised d s.now else s.slot n := by
  rw [State.raiseTap_eq, State.slot_noteHeadroom, State.countRise, State.slot_bump, State.slot_updSlot]

theorem State.raiseTap_changes (s : State) (x : Slot) (d : Nat) : Changes s (s.raiseTap x d) (.slots :: .led :: Part.report) :=
  ((s.countRise_changes x d).mono (by decide)).trans ((State.noteHeadroom_changes _ _ _).mono (by decide))

/-- TRIM_COUNT counts the rise, and no other cell changes (R71). -/
theorem State.raiseTap_cells (s : State) (x : Slot) (d : Nat) :
    (s.raiseTap x d).cell 0x9100 3 = satAdd 32 (s.cell 0x9100 3) 1 ∧ CellsBut [(0x9100, 3)] s (s.raiseTap x d) := by
  rw [State.raiseTap_eq]
  refine ⟨?_, fun i j hj hn => ?_⟩
  · rw [State.cell_noteHeadroom, State.countRise, State.cell_bump_self, State.cell_updSlot]
  · rw [State.cell_noteHeadroom]
    exact CellsBut.bump _ _ _ _ _ (by decide) i j hj hn

/-- E-9101 is raised when the headroom falls below 8, and only then (R71). -/
theorem State.raiseTap_raises (s : State) (x : Slot) (d : Nat) :
    if 8 ≤ (s.slot x.n).headroom ∧ ((s.raiseTap x d).slot x.n).headroom < 8
    then Raises s (s.raiseTap x d) [(0x9101, 0xFF, [x.code])] else Raises s (s.raiseTap x d) [] := by
  have hev : (s.countRise x d).ev.seq = s.ev.seq := congrArg Events.seq (s.countRise_changes x d .ev (by decide))
  rw [State.raiseTap_eq, State.slot_noteHeadroom, State.noteHeadroom]
  split
  · exact Raises.one hev _ _ _
  · exact Raises.nil hev

/-! ### A canary that did not settle -/

/-- What a slot keeps of one datapath: its tap, whether a trim waits, and the time of its last rise plus one. -/
structure PathSlot where
  tap  : Nat
  trim : Bool
  rose : Nat

/-- A slot's record of datapath `d`. -/
def SlotSt.path (y : SlotSt) (d : Nat) : PathSlot := ⟨Tab.get 0 y.taps d, Tab.get false y.trims d, Tab.get 0 y.rose d⟩

/-- What a failing canary does to its datapath: nothing while a trim waits or within 10 ms of the last rise; in a beat a trim waits;
else the tap rises (R68, R69). -/
def PathSlot.fail (busy : Bool) (now : Nat) (v : PathSlot) : PathSlot :=
  if v.trim ∨ (v.rose ≠ 0 ∧ now < v.rose - 1 + 10000000) then v
  else if busy then { v with trim := true } else ⟨v.tap + 1, false, now + 1⟩

theorem SlotSt.path_raised (y : SlotSt) (d now e : Nat) :
    (y.raised d now).path e = if d = e then ⟨(y.path e).tap + 1, false, now + 1⟩ else y.path e := by
  simp only [SlotSt.path, SlotSt.raised, Tab.get_upd, Tab.get_set]
  split <;> rfl

/-- A slot's record when a trim of datapath `d` waits (R69). -/
def SlotSt.await (y : SlotSt) (d : Nat) : SlotSt := { y with trims := Tab.set false y.trims d true }

theorem SlotSt.path_await (y : SlotSt) (d e : Nat) :
    (y.await d).path e = if d = e then { y.path e with trim := true } else y.path e := by
  simp only [SlotSt.path, SlotSt.await, Tab.get_set]
  split <;> rfl

/-- The three ends of a failing canary (R67 to R69). -/
theorem State.canaryFail_eq (s : State) (x : Slot) (d : Nat) :
    s.canaryFail x d = if ((s.slot x.n).path d).trim ∨
        (((s.slot x.n).path d).rose ≠ 0 ∧ s.now < ((s.slot x.n).path d).rose - 1 + 10000000) then s
      else if s.inBeat x then s.updSlot x.n (fun y => y.await d) else s.raiseTap x d := rfl

theorem State.path_canaryFail (s : State) (x : Slot) (d e : Nat) :
    ((s.canaryFail x d).slot x.n).path e =
      if d = e then ((s.slot x.n).path e).fail (s.inBeat x) s.now else (s.slot x.n).path e := by
  rw [State.canaryFail_eq]
  by_cases hde : d = e
  · subst hde
    rw [if_pos rfl, PathSlot.fail]
    split
    · rfl
    · split
      · rw [State.slot_updSlot, if_pos rfl, SlotSt.path_await, if_pos rfl]
      · rw [State.slot_raiseTap, if_pos rfl, SlotSt.path_raised, if_pos rfl]
  · rw [if_neg hde]
    split
    · rfl
    · split
      · rw [State.slot_updSlot, if_pos rfl, SlotSt.path_await, if_neg hde]
      · rw [State.slot_raiseTap, if_pos rfl, SlotSt.path_raised, if_neg hde]

/-- Other slots and other cells stay, and so does everything but slots, the Ledger and reports. -/
theorem State.canaryFail_frame (s : State) (x : Slot) (d : Nat) :
    SameBut [x.n] s.slot (s.canaryFail x d).slot ∧ CellsBut [(0x9100, 3)] s (s.canaryFail x d) ∧
      Changes s (s.canaryFail x d) (.slots :: .led :: Part.report) := by
  have hne : ∀ n, n ∉ [x.n] → ¬ x.n = n := fun n hn e => hn (by simp [e])
  rw [State.canaryFail_eq]
  split
  · exact ⟨fun _ _ => rfl, CellsBut.of_led rfl, Changes.refl _ _⟩
  · split
    · refine ⟨fun n hn => ?_, CellsBut.of_led rfl, (Changes.updSlot _ _ _).mono (by decide)⟩
      rw [State.slot_updSlot, if_neg (hne n hn)]
    · refine ⟨fun n hn => ?_, (s.raiseTap_cells x d).2, s.raiseTap_changes x d⟩
      rw [State.slot_raiseTap, if_neg (hne n hn)]

/-- Which loom a slot serves is a matter of the defect map alone. -/
theorem State.loomAt_of_site {s t : State} (h : t.site = s.site) (x : Slot) : t.loomAt x = s.loomAt x := by
  rw [State.loomAt, h]
  rfl

/-- Whether a loom is in a beat is no matter of its slot's record. -/
theorem State.inBeat_of_changes {s t : State} (h : Changes s t (.slots :: .led :: Part.report)) (x : Slot) :
    t.inBeat x = s.inBeat x := by
  have hs : t.site = s.site := funext fun u => by rw [State.site, h .sites (by decide), State.site]
  have hl : t.loom = s.loom := funext fun n => by rw [State.loom, h .looms (by decide), State.loom]
  rw [State.inBeat, State.loomAt_of_site hs, hs, hl]
  rfl

/-! ### A test of all datapaths -/

/-- The datapaths whose canaries did not settle. -/
def badPaths (settled : BitVec 3) : List Nat := (List.range 3).filter (fun d => !settled.getLsbD d)

theorem mem_badPaths {settled : BitVec 3} {d : Nat} : d ∈ badPaths settled ↔ d < 3 ∧ settled.getLsbD d = false := by
  simp [badPaths]

/-- What a list of failing canaries does to a slot (R67). -/
def State.canaryFails (s : State) (x : Slot) (ds : List Nat) : State := ds.foldl (fun s d => s.canaryFail x d) s

theorem State.canaryFails_frame (s : State) (x : Slot) (ds : List Nat) :
    SameBut [x.n] s.slot (s.canaryFails x ds).slot ∧ CellsBut [(0x9100, 3)] s (s.canaryFails x ds) ∧
      Changes s (s.canaryFails x ds) (.slots :: .led :: Part.report) := by
  refine ⟨fun n hn => ?_, CellsBut.foldl (fun s d => (s.canaryFail_frame x d).2.1) ds s,
    Changes.foldl (fun s d => (s.canaryFail_frame x d).2.2) ds s⟩
  exact foldl_keeps (fun s : State => s.slot n) ds (fun d _ s => (s.canaryFail_frame x d).1 n hn) s

/-- Each failing canary acts on its own datapath, and once. -/
theorem State.path_canaryFails (s : State) (x : Slot) (ds : List Nat) (hn : ds.Nodup) (e : Nat) :
    ((s.canaryFails x ds).slot x.n).path e =
      if e ∈ ds then ((s.slot x.n).path e).fail (s.inBeat x) s.now else (s.slot x.n).path e := by
  unfold State.canaryFails
  induction ds generalizing s with
  | nil => rfl
  | cons d ds ih =>
    obtain ⟨hd, hds⟩ := List.nodup_cons.1 hn
    obtain ⟨-, -, hch⟩ := s.canaryFail_frame x d
    have hnow : (s.canaryFail x d).now = s.now := hch .now (by decide)
    rw [List.foldl_cons, ih _ hds, State.path_canaryFail, State.inBeat_of_changes hch, hnow]
    by_cases he : d = e
    · subst he
      simp [hd]
    · simp [he, Ne.symm he]

/-- No canary fails at tap 63: each one that fails acts on its own datapath. -/
theorem exec_canaryTest_fails {s : State} {x : Slot} {settled : BitVec 3} (hw : s.watched x = true)
    (h63 : ∀ d, d < 3 → settled.getLsbD d = false → Tab.get 0 (s.slot x.n).taps d ≠ 63) :
    exec (.canaryTest x settled) s = .next (s.canaryFails x (badPaths settled)) := by
  have hany : ¬ (badPaths settled).any (fun d => Tab.get 0 (s.slot x.n).taps d == 63) = true := by
    rw [List.any_eq_true]
    rintro ⟨d, hd, h⟩
    obtain ⟨hd3, hs⟩ := mem_badPaths.1 hd
    exact h63 d hd3 hs (by simpa using h)
  exact congrArg Host.Outcome.next ((if_pos hw).trans (if_neg hany))

/-- A trim is due where no trim waits and the last rise is 10 ms old (R68, R69). -/
theorem SlotSt.fail_of_due {s : State} {x : Slot} {d : Nat} (h : tapDue s x d) (busy : Bool) :
    ((s.slot x.n).path d).fail busy s.now =
      if busy then { (s.slot x.n).path d with trim := true } else ⟨Tab.get 0 (s.slot x.n).taps d + 1, false, s.now + 1⟩ := by
  obtain ⟨ht, hr⟩ := h
  exact if_neg (by simp only [SlotSt.path, ht]; simp; omega)

theorem SlotSt.fail_of_not_due {s : State} {x : Slot} {d : Nat} (h : ¬ tapDue s x d) (busy : Bool) :
    ((s.slot x.n).path d).fail busy s.now = (s.slot x.n).path d := by
  refine if_pos ?_
  simp only [tapDue, Bool.not_eq_false, not_and_or, not_or, not_le] at h
  exact h.imp id (fun ⟨h0, hl⟩ => ⟨h0, hl⟩)

/-- In a beat no tap changes (R69). -/
theorem PathSlot.fail_tap_of_busy (now : Nat) (v : PathSlot) : (v.fail true now).tap = v.tap := by
  unfold PathSlot.fail
  split <;> rfl

/-- CANARY_TEST with no failing canary at tap 63 (R67 to R69). -/
theorem canaryTest_raises {s : State} {x : Slot} {settled : BitVec 3} (hw : s.watched x = true)
    (h63 : ∀ d, d < 3 → settled.getLsbD d = false → Tab.get 0 (s.slot x.n).taps d ≠ 63) :
    ∃ t, exec (.canaryTest x settled) s = .next t ∧
      (s.inBeat x = false → ∀ d, d < 3 →
        (settled.getLsbD d = false ∧ tapDue s x d → Tab.get 0 (t.slot x.n).taps d = Tab.get 0 (s.slot x.n).taps d + 1) ∧
        (¬ (settled.getLsbD d = false ∧ tapDue s x d) → Tab.get 0 (t.slot x.n).taps d = Tab.get 0 (s.slot x.n).taps d)) ∧
      (s.inBeat x = true → ∀ d, d < 3 → Tab.get 0 (t.slot x.n).taps d = Tab.get 0 (s.slot x.n).taps d ∧
        (settled.getLsbD d = false ∧ tapDue s x d → Tab.get false (t.slot x.n).trims d = true)) ∧
      SameBut [x.n] s.slot t.slot ∧ CellsBut [(0x9100, 3)] s t ∧ Changes s t (.slots :: .led :: Part.report) := by
  have hp := s.path_canaryFails x (badPaths settled) (List.nodup_range.filter _)
  refine ⟨_, exec_canaryTest_fails hw h63, fun hb d hd => ⟨fun ⟨hs, hdue⟩ => ?_, fun hno => ?_⟩,
    fun hb d hd => ⟨?_, fun ⟨hs, hdue⟩ => ?_⟩, s.canaryFails_frame x _⟩
  · have h := hp d
    rw [if_pos (mem_badPaths.2 ⟨hd, hs⟩), SlotSt.fail_of_due hdue, hb] at h
    exact congrArg PathSlot.tap h
  · have h := hp d
    by_cases hs : settled.getLsbD d = false
    · rw [SlotSt.fail_of_not_due (fun hdue => hno ⟨hs, hdue⟩), ite_self] at h
      exact congrArg PathSlot.tap h
    · rw [if_neg (fun hm => hs (mem_badPaths.1 hm).2)] at h
      exact congrArg PathSlot.tap h
  · have h := congrArg PathSlot.tap (hp d)
    rw [hb, apply_ite PathSlot.tap, PathSlot.fail_tap_of_busy, ite_self] at h
    exact h
  · have h := hp d
    rw [if_pos (mem_badPaths.2 ⟨hd, hs⟩), SlotSt.fail_of_due hdue, hb] at h
    exact congrArg PathSlot.trim h

/-! ### A spare whose canary fails at tap 63 -/

/-- A spare counts as failed (R444). -/
def Site.spareFails (c : Site) (row : Nat) : Site := { c with spareBad := Tab.set false c.spareBad row true }

/-- The defect log's record of a failed spare, while the log has room (R407). -/
def State.logSpare (s : State) (x : Slot) : State :=
  { s with defects := s.defects ++ [{ kind := 8, site := x.tile.val, detail := x.row.val * 8 + 5, promoted := 0xFF, time := s.now,
                                      mapGen := s.cell 0x7021 1, event := 0x9102 }] }

theorem State.logSpare_changes (s : State) (x : Slot) : Changes s (s.logSpare x) [.defects] := by
  intro p hp
  cases p
  case defects => exact absurd (by decide) hp
  all_goals rfl

/-- Nothing is replaced: the spare counts as failed, the map changes, and the repair is logged (R71, R444). -/
theorem exec_canaryTest_spare {s : State} {x : Slot} {settled : BitVec 3} {d : Nat} (hw : s.watched x = true)
    (hl : s.loomAt x = none) (hroom : s.defects.length < 256) (hd : d < 3) (hs : settled.getLsbD d = false)
    (h63 : Tab.get 0 (s.slot x.n).taps d = 63) :
    exec (.canaryTest x settled) s = .next
      ((((s.raise 0x9102 0xFF [x.code]).updSite x.tile.val (fun c => c.spareFails x.row.val)).mapChanged).logSpare x) := by
  have hany : (badPaths settled).any (fun d => Tab.get 0 (s.slot x.n).taps d == 63) = true :=
    List.any_eq_true.2 ⟨d, mem_badPaths.2 ⟨hd, hs⟩, by simp [h63]⟩
  have hl' : (s.raise 0x9102 0xFF [x.code]).loomAt x = none :=
    (State.loomAt_of_site (funext fun u => by simp [State.site]) x).trans hl
  have hroom' : (((s.raise 0x9102 0xFF [x.code]).updSite x.tile.val (fun c => c.spareFails x.row.val)).mapChanged).defects.length
      < 256 := by simpa [State.mapChanged] using hroom
  refine congrArg Host.Outcome.next (((if_pos hw).trans (if_pos hany)).trans ?_)
  unfold State.canaryDead
  simp only [hl']
  exact State.logDefect_of_room hroom' _ _ _ _ _

/-- CANARY_TEST of an unused spare with a failing canary at tap 63 (R71, R444). -/
theorem canaryTest_spare {s : State} {x : Slot} {settled : BitVec 3} {d : Nat} (hw : s.watched x = true)
    (hl : s.loomAt x = none) (hroom : s.defects.length < 256) (hd : d < 3) (hs : settled.getLsbD d = false)
    (h63 : Tab.get 0 (s.slot x.n).taps d = 63) :
    ∃ t, exec (.canaryTest x settled) s = .next t ∧
      Tab.get false (t.site x.tile.val).spareBad x.row.val = true ∧ t.cell 0x7021 1 = (s.cell 0x7021 1 + 1) % 2 ^ 32 ∧
      Raises s t [(0x9102, 0xFF, [x.code])] ∧ t.defects.length = s.defects.length + 1 ∧
      SameBut [x.tile.val] s.site t.site ∧ CellsBut [(0x7021, 1)] s t ∧ Changes s t (.sites :: .led :: .defects :: Part.report) := by
  have hx := exec_canaryTest_spare hw hl hroom hd hs h63
  have hr := Changes.raise s 0x9102 0xFF [x.code]
  have hev := Raises.one (s := s) rfl 0x9102 0xFF [x.code]
  generalize s.raise 0x9102 0xFF [x.code] = r at hx hr hev
  have hcell : ∀ i j, r.cell i j = s.cell i j := State.cell_of_led (hr .led (by decide))
  have hsite : r.site = s.site := by funext u; rw [State.site, hr .sites (by decide), ← State.site]
  have hmap : ((r.updSite x.tile.val (fun c => c.spareFails x.row.val)).mapChanged.logSpare x).site =
    (r.updSite x.tile.val (fun c => c.spareFails x.row.val)).site := rfl
  refine ⟨_, hx, ?_, ?_, hev.congr rfl rfl, ?_, fun u hu => ?_, ?_, ?_⟩
  · rw [hmap, State.site_updSite, if_pos rfl]
    exact Tab.get_set_self false _ _ true
  · exact (State.cell_setCell_self _ _ _ _).trans (by rw [State.cell_updSite, hcell])
  · have hd : r.defects = s.defects := hr .defects (by decide)
    simp [State.logSpare, State.mapChanged, hd]
  · rw [hmap, State.site_updSite, if_neg (fun e => hu (by simp [e])), hsite]
  · have hgen : CellsBut [(0x7021, 1)] s (r.updSite x.tile.val (fun c => c.spareFails x.row.val)).mapChanged :=
      (CellsBut.of_led (hr .led (by decide))).setCell 0x7021 1 _ (by decide) List.mem_cons_self
    exact hgen.trans (CellsBut.of_led rfl)
  · exact (hr.mono (by decide)).trans (((Changes.updSite r _ _).mono (by decide)).trans
      (((Changes.setCell _ _ _ _).mono (by decide)).trans ((State.logSpare_changes _ x).mono (by decide))))

/-! ### TRIM_APPLY -/

/-- The one trim that waits takes effect (R69). -/
theorem exec_trimApply_one {s : State} {x : Slot} {d : Nat} (h : (s.slot x.n).trims = [(d, true)]) :
    exec (.trimApply x) s = .next (s.raiseTap x d) := by
  change execTrimApply x s = _
  rw [execTrimApply, h]
  rfl

/-- TRIM_APPLY of the one trim that waits (R69, R71). -/
theorem trimApply_raises {s : State} {x : Slot} {d : Nat} (h : (s.slot x.n).trims = [(d, true)]) :
    ∃ t, exec (.trimApply x) s = .next t ∧
      (∀ e, Tab.get 0 (t.slot x.n).taps e = Tab.get 0 (s.slot x.n).taps e + if e = d then 1 else 0) ∧
      (t.slot x.n).trims = [] ∧ t.cell 0x9100 3 = satAdd 32 (s.cell 0x9100 3) 1 ∧
      (if 8 ≤ (s.slot x.n).headroom ∧ (t.slot x.n).headroom < 8 then Raises s t [(0x9101, 0xFF, [x.code])] else Raises s t []) ∧
      SameBut [x.n] s.slot t.slot ∧ CellsBut [(0x9100, 3)] s t ∧ Changes s t (.slots :: .led :: Part.report) := by
  obtain ⟨hcount, hcells⟩ := s.raiseTap_cells x d
  have hslot : (s.raiseTap x d).slot x.n = (s.slot x.n).raised d s.now := by rw [State.slot_raiseTap, if_pos rfl]
  refine ⟨_, exec_trimApply_one h, fun e => ?_, ?_, hcount, s.raiseTap_raises x d, fun n hn => ?_, hcells, s.raiseTap_changes x d⟩
  · rw [hslot, SlotSt.raised, Tab.get_upd]
    by_cases he : d = e
    · simp [he]
    · simp [he, Ne.symm he]
  · rw [hslot, SlotSt.raised, h]
    simp [Tab.set, Tab.erase]
  · rw [State.slot_raiseTap, if_neg (fun e => hn (by simp [e]))]

end Sys2Proof.Machine

open Sys2Proof Sys2Proof.Machine

/-- Settles O7: each canary that fails acts on its own datapath (`State.path_canaryFails`). -/
theorem canariesRaiseTaps : Obligations.CanariesRaiseTaps :=
  ⟨fun _ _ _ hw h63 => canaryTest_raises hw h63,
    fun _ _ _ _ hw hl hroom hd hs h63 => canaryTest_spare hw hl hroom hd hs h63,
    fun _ _ _ _ h => trimApply_raises h⟩
end

section
/-! PROOFS. HOLD_ASSERT, HOLD_RELEASE and HOLD_TIMEOUT (R62, R65, R66, R363): the statement O8. -/

namespace Sys2Proof.Machine

/-! ### A hold begins and ends -/

/-- A tile's record changes, a counter counts it and an event names the tile (R66). -/
def State.siteReport (s : State) (tile : Nat) (f : Site → Site) (w i j n ev : Nat) : State :=
  ((s.updSite tile f).bump w i j n).raise ev 0xFF [tile]

theorem State.site_siteReport (s : State) (tile : Nat) (f : Site → Site) (w i j n ev u : Nat) :
    (s.siteReport tile f w i j n ev).site u = if tile = u then f (s.site u) else s.site u := by
  have hs : (s.siteReport tile f w i j n ev).sites = (s.updSite tile f).sites := (Changes.raise _ _ _ _) .sites (by decide)
  rw [State.site, hs, ← State.site, State.site_updSite]

/-- What such a report leaves behind, and what it leaves alone. -/
theorem State.siteReport_spec (s : State) (tile : Nat) (f : Site → Site) (w i j n ev : Nat) (hj : j < 256) :
    (s.siteReport tile f w i j n ev).site tile = f (s.site tile) ∧
      (s.siteReport tile f w i j n ev).cell i j = satAdd w (s.cell i j) n ∧
      Raises s (s.siteReport tile f w i j n ev) [(ev, 0xFF, [tile])] ∧
      SameBut [tile] s.site (s.siteReport tile f w i j n ev).site ∧ CellsBut [(i, j)] s (s.siteReport tile f w i j n ev) ∧
      Changes s (s.siteReport tile f w i j n ev) (.sites :: .led :: Part.report) := by
  have hch : Changes s ((s.updSite tile f).bump w i j n) [.sites, .led] :=
    ((Changes.updSite s _ _).mono (by decide)).trans ((Changes.bump _ _ _ _ _).mono (by decide))
  refine ⟨?_, ?_, Raises.one (congrArg Events.seq (hch .ev (by decide))) _ _ _, fun u hu => ?_, ?_,
    (hch.mono (by decide)).trans ((Changes.raise _ _ _ _).mono (by decide))⟩
  · rw [State.site_siteReport, if_pos rfl]
  · rw [State.siteReport, State.cell_raise, State.cell_bump_self, State.cell_updSite]
  · rw [State.site_siteReport, if_neg (fun e => hu (by simp [e]))]
  · exact (CellsBut.bump (s.updSite tile f) w i j n hj).trans (CellsBut.of_led (by simp [State.siteReport]))

theorem exec_holdAssert_low {s : State} {tile : Phys} {v : Sensed} (hv : (s.reg tile.val).sensed v < 6100)
    (hh : (s.site tile.val).held = none) (hst : (s.site tile.val).st ≠ .absent) :
    exec (.holdAssert tile v) s =
      .next (s.siteReport tile.val (fun c => { c with held := some s.now, heldSeen := true }) 32 0x4010 4 1 0x4101) :=
  congrArg Host.Outcome.next (if_pos ⟨hv, hh, hst⟩)

theorem exec_holdRelease_high {s : State} {tile : Phys} {v : Sensed} {since : Nat} (hv : 6300 ≤ (s.reg tile.val).sensed v)
    (hh : (s.site tile.val).held = some since) (hl : since + 10000 ≤ s.now) :
    exec (.holdRelease tile v) s =
      .next (s.siteReport tile.val (fun c => { c with held := none }) 64 0x4010 5 (s.now - since) 0x4102) := by
  change execHoldRelease tile v s = _
  simp only [execHoldRelease, hh]
  exact congrArg Host.Outcome.next (if_pos ⟨hv, hl⟩)

/-! ### A hold that lasts: one tile -/

/-- Whether no other tile is held, as HOLD_TIMEOUT asks it (R66). -/
def State.heldAlone (s : State) (tile : Nat) : Bool := (List.range 112).all (fun t => t == tile || (s.site t).held.isNone)

theorem State.heldAlone_iff {s : State} {tile : Nat} :
    s.heldAlone tile = true ↔ ∀ u, u < 112 → u ≠ tile → (s.site u).held = none := by
  simp only [State.heldAlone, List.all_eq_true, List.mem_range, Bool.or_eq_true, beq_iff_eq, Option.isNone_iff_eq_none]
  exact forall_congr' fun u => imp_congr_right fun _ => by tauto

/-- A hold confined to one tile is the tile fault localHold after 2 ms (R66, R400). -/
theorem exec_holdTimeout_local {s : State} {tile : Phys} {since : Nat} (hh : (s.site tile.val).held = some since)
    (hv : s.vbusOk = true) (ha : ∀ u, u < 112 → u ≠ tile.val → (s.site u).held = none) (hl : since + 2000000 ≤ s.now) :
    exec (.holdTimeout tile) s = .next (s.failTile tile.val .localHold false) := by
  change execHoldTimeout tile s = _
  simp only [execHoldTimeout, hh]
  rw [if_pos ⟨hv, State.heldAlone_iff.2 ha⟩, if_pos hl]

/-- Any other hold starts the orderly warm shutdown after 20 ms (R66). -/
theorem exec_holdTimeout_wide {s : State} {tile : Phys} {since : Nat} (hh : (s.site tile.val).held = some since)
    (hw : s.vbusOk = false ∨ ∃ u, u < 112 ∧ u ≠ tile.val ∧ (s.site u).held ≠ none) (hl : since + 20000000 < s.now) :
    exec (.holdTimeout tile) s = .next (s.startShutdown 0) := by
  have hno : ¬ (s.vbusOk = true ∧ s.heldAlone tile.val = true) := by
    rintro ⟨hv, ha⟩
    rcases hw with hw | ⟨u, hu, hne, hheld⟩
    · simp [hw] at hv
    · exact hheld (State.heldAlone_iff.1 ha u hu hne)
  change execHoldTimeout tile s = _
  simp only [execHoldTimeout, hh]
  exact congrArg Host.Outcome.next ((if_neg hno).trans (if_pos hl))

/-! ### What a failed tile's site is left with -/

/-- A promotion leaves the failed tile's site as the failure has it (R26). -/
theorem State.site_promote {s : State} {t r : Nat} (h : r ≠ t) (lt cause kind : Nat) (sound : Bool) :
    (s.promote t lt r cause kind sound).site t = (s.site t).fail sound := by
  rw [State.site, State.sites_of_offFail (s.promote_offFail t lt r cause kind sound), ← State.site]
  simp [State.swapSites, h]

theorem State.endRecovery_offFail (s : State) : s.endRecovery.offFail = s.offFail := rfl

/-- Where no reserve remains nothing of the defect map changes but the failed tile (R166). -/
theorem State.orphan_offFail (s : State) (t lt cause kind : Nat) (sound : Bool) :
    (s.orphan t lt cause kind sound).offFail = (s.updSite t (fun c => c.fail sound)).offFail := by
  unfold State.orphan
  extract_lets s1 s2 s3 s4 s5 c6 s6 s7 s8
  have h2 : s2.offFail = s1.offFail :=
    (State.offFail_of_inner (State.setCell_fixed _ _ _ _)).trans (State.newEpochs_offFail s1 (tileLooms lt))
  have h3 : s3.offFail = s2.offFail :=
    (State.offFail_of_inner (State.raise_fixed _ _ _ _)).trans (State.logDefect_offFail s2 kind t 0 0xFF 0x7110)
  have h4 : s4.offFail = s3.offFail :=
    foldl_keeps State.offFail _ (fun m _ u => State.offFail_of_inner (State.loseBoth_inner u lt m)) s3
  have h5 : s5.offFail = s4.offFail :=
    foldl_keeps State.offFail _ (fun p _ u => State.offFail_of_inner (State.faultPlot_inner u p _)) s4
  have h6 : s6.offFail = s5.offFail := rfl
  have h7 : s7.offFail = s6.offFail := State.offFail_of_inner
    ((State.freshLooms_inner s6 lt).trans ((State.groupBits_inner _).trans (State.raise_fixed _ _ _ _)))
  have h8 : s8.offFail = s7.offFail := State.offFail_of_inner ((State.spillTile_inner s7 t).trans (State.rederiveAll_inner _ s))
  have h9 : s8.rebuildState.endRecovery.offFail = s8.offFail :=
    (State.endRecovery_offFail _).trans (State.offFail_of_inner (State.rebuildState_inner s8))
  exact h9.trans (h8.trans (h7.trans (h6.trans (h5.trans (h4.trans (h3.trans h2))))))

theorem State.site_orphan (s : State) (t lt cause kind : Nat) (sound : Bool) :
    (s.orphan t lt cause kind sound).site t = (s.site t).fail sound := by
  rw [State.site, State.sites_of_offFail (s.orphan_offFail t lt cause kind sound), ← State.site, State.site_updSite, if_pos rfl]

/-- A tile without a logical number changes nothing of the defect map but its own entry (R24). -/
theorem State.failIdle_offFail (s : State) (t kind cause : Nat) (sound : Bool) :
    (s.failIdle t kind cause sound).offFail = (s.updSite t (fun c => c.fail sound)).offFail :=
  (State.offFail_of_inner (State.rederiveAll_inner _ s)).trans
    ((State.offFail_of_inner (State.raise_fixed _ _ _ _)).trans ((State.logDefect_offFail _ _ _ _ _ _).trans
      (State.offFail_of_inner (State.setCell_fixed _ _ _ _))))

theorem State.site_failIdle (s : State) (t kind cause : Nat) (sound : Bool) :
    (s.failIdle t kind cause sound).site t = (s.site t).fail sound := by
  rw [State.site, State.sites_of_offFail (s.failIdle_offFail t kind cause sound), ← State.site, State.site_updSite, if_pos rfl]

theorem State.site_openRecovery (s : State) (t u : Nat) : (s.openRecovery t).site u = s.site u := by
  rw [State.site, State.sites_of_offFail (s.openRecovery_offFail t), State.site]

theorem State.reserveTile_isReserve {s : State} {r : Nat} (h : s.reserveTile = some r) : (s.site r).st = .reserve := by
  simpa using List.find?_some h

/-- A tile whose router and power are gone, whatever it was, is left ABSENT, bypassed and not held (R24, R26, R61). -/
theorem State.site_failNow_gone {s : State} {t : Nat} (cause : TileCause) (h : (s.site t).st ≠ .absent) :
    (s.failNow t cause false).site t = (s.site t).fail false := by
  have h0 : (s.endHold t).site t = { s.site t with held := none } := by rw [State.site_endHold, if_pos rfl]
  have hfail : ((s.endHold t).site t).fail false = (s.site t).fail false := by rw [h0]; rfl
  have hst0 : ((s.endHold t).site t).st = (s.site t).st := by rw [h0]
  have hopen : ((s.endHold t).openRecovery t).site t = (s.endHold t).site t := State.site_openRecovery _ t t
  rw [← hfail, State.failNow]
  cases hst : (s.site t).st with
  | absent => exact absurd hst h
  | retired =>
    simp only [hst0, hst]
    exact State.site_failIdle _ _ _ _ _
  | reserve =>
    simp only [hst0, hst]
    exact State.site_failIdle _ _ _ _ _
  | active =>
    have hfailed : (((s.endHold t).openRecovery t).site t).fail false = ((s.endHold t).site t).fail false := by rw [hopen]
    cases hr : ((s.endHold t).openRecovery t).reserveTile with
    | none =>
      rw [State.openRecovery] at hr
      simp only [hst0, hst, hr]
      exact (State.site_orphan ((s.endHold t).openRecovery t) _ _ _ _ _).trans hfailed
    | some r =>
      have hrt : r ≠ t := by
        intro e
        have hres := State.reserveTile_isReserve hr
        rw [e, hopen, hst0, hst] at hres
        exact absurd hres (by decide)
      rw [State.openRecovery] at hr
      simp only [hst0, hst, hr]
      exact (State.site_promote (s := (s.endHold t).openRecovery t) hrt _ _ _ _).trans hfailed

/-- HOLD_TIMEOUT of a hold confined to one tile (R66, R400). -/
theorem holdTimeout_local {s : State} {tile : Phys} {since : Nat} (hh : (s.site tile.val).held = some since)
    (hv : s.vbusOk = true) (ha : ∀ u, u < 112 → u ≠ tile.val → (s.site u).held = none) (hl : since + 2000000 ≤ s.now)
    (hst : (s.site tile.val).st ≠ .absent) (hreeve : s.procs.reeveLost = false) :
    ∃ t, exec (.holdTimeout tile) s = .next t ∧ exec (.tileFail tile .localHold false) s = .next t ∧
      (t.site tile.val).st = .absent ∧ (t.site tile.val).bypass = true ∧ (t.site tile.val).held = none := by
  have hsite : (s.failTile tile.val .localHold false).site tile.val = (s.site tile.val).fail false := by
    rw [State.failTile, if_pos hreeve]
    exact State.site_failNow_gone _ hst
  refine ⟨_, exec_holdTimeout_local hh hv ha hl, rfl, ?_⟩
  rw [hsite]
  exact ⟨rfl, rfl, rfl⟩

/-! ### A hold that lasts: the shutdown -/

/-- Discarding the steps of plots changes what runs them, and nothing else. -/
theorem State.discardAll_changes (s : State) (p : Nat) : Changes s (s.discardAll p) [.looms, .steps, .plots, .samples] :=
  Changes.foldl (fun s id => s.discard_changes id) _ s

/-- The orderly warm shutdown of an engine in service begins (R363). -/
theorem State.startShutdown_starts {s : State} (cause : Nat) (h0 : s.power.shutdown = 0) (hr : s.rst.ready = true) :
    (s.startShutdown cause).power = { s.power with shutdown := 1 } ∧ Raises s (s.startShutdown cause) [(0x4602, 0xFF, [cause])] ∧
      Changes s (s.startShutdown cause) (.power :: Part.work) := by
  have hd : Changes s (s.plotsNow.foldl (fun s p => s.discardAll p) s) [.looms, .steps, .plots, .samples] :=
    Changes.foldl (fun s p => s.discardAll_changes p) _ s
  rw [State.startShutdown, if_pos ⟨h0, hr⟩]
  generalize s.plotsNow.foldl (fun s p => s.discardAll p) s = s1 at hd
  have hp : s1.power = s.power := hd .power (by decide)
  have hch : Changes s { s1 with power := { s1.power with shutdown := 1 } } (.power :: Part.work) :=
    (hd.mono (by decide)).trans ((Changes.setPower s1 _).mono (by decide))
  have hev : s1.ev.seq = s.ev.seq := congrArg Events.seq (hd .ev (by decide))
  exact ⟨by simp [hp], Raises.one (t := { s1 with power := { s1.power with shutdown := 1 } }) hev _ _ _,
    hch.trans ((Changes.raise _ _ _ _).mono (by decide))⟩

end Sys2Proof.Machine

open Sys2Proof Sys2Proof.Machine

/-- Settles O8: a hold's beginning and end are `State.siteReport`; one that lasts is the failure of its tile, or the shutdown. -/
theorem holdsBeginAndEnd : Obligations.HoldsBeginAndEnd :=
  ⟨fun s tile v => ⟨fun hv hh hst => ⟨_, exec_holdAssert_low hv hh hst, State.siteReport_spec _ _ _ _ _ _ _ _ (by decide)⟩,
      fun since hv hh hl => ⟨_, exec_holdRelease_high hv hh hl, State.siteReport_spec _ _ _ _ _ _ _ _ (by decide)⟩⟩,
    fun s tile since hh => ⟨fun hv ha hl hst hreeve => holdTimeout_local hh hv ha hl hst hreeve,
      fun hw hl h0 hr => ⟨_, exec_holdTimeout_wide hh hw hl, State.startShutdown_starts 0 h0 hr⟩⟩⟩
end

section
/-! SUPPORT. Posting one result entry (R260, R263), and what the end of a request leaves of the Order Book (R227, R251). -/

namespace Sys2Proof.Machine

/-! ### Posting -/

theorem State.ringIrq_changes (s : State) (n : Nat) : Changes s (s.ringIrq n) [.out] := by
  unfold State.ringIrq
  dsimp only
  split
  · split
    next fn _ =>
      generalize (if (s.qp n).active = .a then _ else _) = v
      split
      · exact Changes.refl _ _
      · exact Changes.emit _ _
    · exact Changes.refl _ _
  · exact Changes.refl _ _

theorem State.ringWrite_changes (s : State) (n : Nat) (r : Result) : Changes s (s.ringWrite n r) [.qps, .out] :=
  ((Changes.updQp s n _).mono (by decide)).trans
    (((Changes.emit _ _).mono (by decide)).trans ((Changes.emit _ _).mono (by decide)))

theorem State.postOne_changes (s : State) (n : Nat) (r : Result) : Changes s (s.postOne n r) [.qps, .out] := by
  unfold State.postOne
  dsimp only
  split
  · exact s.ringWrite_changes n r
  · exact (Changes.updQp s n _).mono (by decide)

theorem State.post_changes (s : State) (n : Nat) (rs : List Result) : Changes s (s.post n rs) [.qps, .out] := by
  have h : Changes s (rs.foldl (fun s r => s.postOne n r) s) [.qps, .out] := Changes.foldl (fun s r => s.postOne_changes n r) rs s
  unfold State.post
  dsimp only
  split
  · exact h
  · exact h.trans ((State.ringIrq_changes _ n).mono (by decide))

/-- A queue pair when an entry has been written at RQ_TAIL with the phase of the lap (R264). -/
def Qp.written (q : Qp) (r : Result) : Qp :=
  { q with ring := Tab.set none q.ring q.rqTail (some (r, q.phase)), rqTail := (q.rqTail + 1) % q.rqSize,
           phase := if (q.rqTail + 1) % q.rqSize = 0 then !q.phase else q.phase }

theorem State.qp_ringWrite (s : State) (n : Nat) (r : Result) : (s.ringWrite n r).qp n = (s.qp n).written r := by
  have h : (s.ringWrite n r).qps = Tab.set {} s.qps n ((s.qp n).written r) := rfl
  rw [State.qp, h, Tab.get_set_self]

theorem State.postOne_posts (s : State) (n : Nat) (r : Result) : Posts s (s.postOne n r) n r := by
  unfold Posts State.postOne
  dsimp only
  split
  · rw [State.qp_ringWrite]
    exact Tab.get_set_self none (s.qp n).ring (s.qp n).rqTail (some (r, (s.qp n).phase))
  · exact ⟨[], by rw [State.qp_updQp, if_pos rfl]⟩

/-- Where two states agree on their rings an entry posted from one is posted from the other. -/
theorem Posts.congr {s s' t t' : State} {n : Nat} {r : Result} (h : Posts s t n r) (hs : s'.qps = s.qps) (ht : t'.qps = t.qps) :
    Posts s' t' n r := by
  simp only [Posts, State.qp, hs, ht]
  exact h

/-- A batch of one entry (R263). -/
theorem State.post_posts (s : State) (n : Nat) (r : Result) : Posts s (s.post n [r]) n r := by
  refine (s.postOne_posts n r).congr rfl ?_
  unfold State.post
  dsimp only
  split
  · rfl
  · exact (State.ringIrq_changes _ n) .qps (by decide)

/-! ### What the end of a request leaves of the Order Book -/

/-- The requests of two states agree, but for the pages and counts of request `i`: its state, its final status and whether that was
consumed stay. -/
def KeepsFate (i : Nat) (s t : State) : Prop :=
  SameBut [i] s.obAt t.obAt ∧ (t.obAt i).st = (s.obAt i).st ∧ (t.obAt i).final = (s.obAt i).final ∧
    (t.obAt i).consumed = (s.obAt i).consumed

theorem KeepsFate.trans {i : Nat} {s t u : State} (h : KeepsFate i s t) (h' : KeepsFate i t u) : KeepsFate i s u := by
  obtain ⟨ho, hs, hf, hc⟩ := h
  obtain ⟨ho', hs', hf', hc'⟩ := h'
  exact ⟨ho.trans ho', hs'.trans hs, hf'.trans hf, hc'.trans hc⟩

theorem State.obAt_of_ob {s t : State} (h : t.ob = s.ob) (n : Nat) : t.obAt n = s.obAt n := by rw [State.obAt, h, State.obAt]

theorem KeepsFate.of_ob {i : Nat} {s t : State} (h : t.ob = s.ob) : KeepsFate i s t := by
  have hi := State.obAt_of_ob h i
  exact ⟨fun n _ => State.obAt_of_ob h n, by rw [hi], by rw [hi], by rw [hi]⟩

/-- Posting an entry leaves the Order Book alone. -/
theorem State.obAt_post (s : State) (n : Nat) (rs : List Result) (i : Nat) : (s.post n rs).obAt i = s.obAt i :=
  State.obAt_of_ob (s.post_changes n rs .ob (by decide)) i

theorem KeepsFate.foldl {α : Type} {i : Nat} {f : State → α → State} (h : ∀ s x, KeepsFate i s (f s x)) (l : List α) (s : State) :
    KeepsFate i s (l.foldl f s) := by
  induction l generalizing s with
  | nil => exact KeepsFate.of_ob rfl
  | cons x l ih => exact (h s x).trans (ih _)

theorem State.obAt_updOb_others (s : State) (i : Nat) (f : Ob → Ob) : SameBut [i] s.obAt (s.updOb i f).obAt := fun n hn => by
  rw [State.obAt_updOb, if_neg (fun e => hn (by simp [e]))]

theorem KeepsFate.setPage (s : State) (i : Nat) (d : Bool) (j w : Nat) : KeepsFate i s (s.updOb i (fun o => o.setPage d j w)) := by
  refine ⟨s.obAt_updOb_others i _, ?_⟩
  rw [State.obAt_updOb, if_pos rfl, Ob.setPage]
  split <;> exact ⟨rfl, rfl, rfl⟩

/-- A page that is given up changes its own entry at most (R227, R228). -/
theorem State.releasePage_keepsFate (s : State) (i : Nat) (d : Bool) (j : Nat) : KeepsFate i s (s.releasePage i d j) := by
  unfold State.releasePage
  dsimp only
  split
  · exact KeepsFate.setPage _ _ _ _ _
  · split
    · exact KeepsFate.trans (KeepsFate.of_ob rfl) (KeepsFate.setPage _ _ _ _ _)
    · split
      · exact KeepsFate.of_ob rfl
      · split
        · split
          · exact KeepsFate.setPage _ _ _ _ _
          · exact KeepsFate.of_ob rfl
        · exact KeepsFate.trans (KeepsFate.of_ob rfl) (KeepsFate.setPage _ _ _ _ _)

theorem State.releasePages_keepsFate (s : State) (i : Nat) : KeepsFate i s (s.releasePages i) :=
  KeepsFate.foldl (f := fun s (e : Bool × Nat) => s.releasePage i e.1 e.2) (fun s e => s.releasePage_keepsFate i e.1 e.2) _ s

theorem State.cancelSamples_ob (s : State) (i : Nat) : (s.cancelSamples i).ob = s.ob := by
  unfold State.cancelSamples
  split
  · rfl
  · split
    · rfl
    · split <;> rfl

theorem State.noteBusy_ob (s : State) (p : Nat) : (s.noteBusy p).ob = s.ob := by
  unfold State.noteBusy
  split <;> rfl

/-- A request's record when it ends (R251, R254). -/
def Ob.ended (o : Ob) (st : ReqState) (final : Status) : Ob :=
  { o with st := st, final := some final, turnOpen := false, inputs := [], pendingTok := none }

/-- A cancelled request ends; its pages and the samples of its step go with it (R124, R227, R251). -/
theorem State.endCore_cancelled (s : State) (i : Nat) (final : Status) :
    KeepsFate i (s.updOb i (fun o => o.ended .cancelled final)) (s.endCore i .cancelled final) := by
  have hob : ((s.noteBusy (s.obAt i).plot).updOb i (fun o => o.ended .cancelled final)).ob =
      (s.updOb i (fun o => o.ended .cancelled final)).ob := by
    simp only [State.updOb, State.noteBusy_ob]
  have hcore : s.endCore i .cancelled final = ((((s.noteBusy (s.obAt i).plot).updOb i (fun o => o.ended .cancelled final)).bump 64
      (0xA100 + (s.obAt i).plot) 5 1).cancelSamples i).releasePages i := rfl
  rw [hcore]
  generalize (s.noteBusy (s.obAt i).plot).updOb i (fun o => o.ended .cancelled final) = u at hob
  have hb : (u.bump 64 (0xA100 + (s.obAt i).plot) 5 1).ob = u.ob := rfl
  exact (KeepsFate.of_ob ((State.cancelSamples_ob _ i).trans (hb.trans hob))).trans (State.releasePages_keepsFate _ i)

/-- Its FINAL entry is posted then (R251). -/
theorem State.endRequest_cancelled (s : State) (i : Nat) (final : Status) (tag : Nat) :
    KeepsFate i (s.updOb i (fun o => o.ended .cancelled final)) (s.endRequest i .cancelled final tag) :=
  (s.endCore_cancelled i final).trans (KeepsFate.of_ob (State.post_changes _ _ _ .ob (by decide)))

/-- What is not DRAINING, and whose FINAL entry has not been consumed, stays in the Order Book as it is (R251). -/
theorem State.settle_of_unconsumed {s : State} {i : Nat} (hst : (s.obAt i).st ≠ .draining) (hc : (s.obAt i).consumed = false) :
    s.settle i = s := by
  have hcore : s.settleCore i = (s, []) := by
    unfold State.settleCore
    exact if_neg (fun h => hst h.1)
  rw [State.settle, hcore]
  change s.maybeFree i = s
  exact if_neg (fun h => by simp [hc] at h)

end Sys2Proof.Machine
end

section
/-! PROOFS. COOL_DELAY_EXPIRE and DEADLINE_MISS (R251, R257): the statement O39. -/

namespace Sys2Proof.Machine

variable {s : State} {p : PlotId} {request : U32} {i : Nat}

/-! ### COOL_DELAY_EXPIRE -/

/-- A delay that has elapsed moves the request to PAUSED_COOL (R251). -/
theorem exec_coolDelayExpire_elapsed (hf : s.findReq p.val request.toNat = some i) (hst : (s.obAt i).st = .waitInput)
    (hd : (s.obAt i).coolDelay ≠ 0xFFFFFFFF) (hl : (s.obAt i).since + (s.obAt i).coolDelay * 1000 ≤ s.now) :
    exec (.coolDelayExpire p request) s = .next (s.toCool i) := by
  change execCoolDelayExpire p request s = _
  simp only [execCoolDelayExpire, hf]
  exact congrArg Host.Outcome.next (if_pos ⟨hst, hd, hl⟩)

/-- The delay 0xFFFF_FFFF never elapses (R251). -/
theorem exec_coolDelayExpire_never (hf : s.findReq p.val request.toNat = some i) (hd : (s.obAt i).coolDelay = 0xFFFFFFFF) :
    exec (.coolDelayExpire p request) s = .next s := by
  change execCoolDelayExpire p request s = _
  simp only [execCoolDelayExpire, hf]
  exact congrArg Host.Outcome.next (if_neg (fun h => h.2.1 hd))

/-- A request's record in PAUSED_COOL (R251, R261). -/
def Ob.cooled (o : Ob) : Ob := { o with st := .pausedCool, hintAt := none, filling := false }

theorem State.toCool_eq (s : State) (i : Nat) :
    s.toCool i = (s.updOb i Ob.cooled).post (s.obAt i).qp
      [(s.obAt i).entry .done kState (s.obAt i).tag [ReqState.pausedCool.code]] := by
  have ho : (s.updOb i Ob.cooled).obAt i = (s.obAt i).cooled := by rw [State.obAt_updOb, if_pos rfl]
  change (s.updOb i Ob.cooled).post ((s.updOb i Ob.cooled).obAt i).qp [((s.updOb i Ob.cooled).obAt i).entry .done kState
    ((s.updOb i Ob.cooled).obAt i).tag [ReqState.pausedCool.code]] = _
  rw [ho]
  rfl

/-- The request is cooled, its STATE entry is posted, and no other request changes (R251). -/
theorem State.toCool_spec (s : State) (i : Nat) :
    (s.toCool i).obAt i = (s.obAt i).cooled ∧
      Posts s (s.toCool i) (s.obAt i).qp ((s.obAt i).entry .done kState (s.obAt i).tag [ReqState.pausedCool.code]) ∧
      SameBut [i] s.obAt (s.toCool i).obAt ∧ Changes s (s.toCool i) [.ob, .qps, .out] := by
  rw [State.toCool_eq]
  refine ⟨?_, (State.post_posts (s.updOb i Ob.cooled) _ _).congr rfl rfl, fun n hn => ?_,
    ((Changes.updOb s i _).mono (by decide)).trans ((State.post_changes _ _ _).mono (by decide))⟩
  · rw [State.obAt_post, State.obAt_updOb, if_pos rfl]
  · rw [State.obAt_post]
    exact s.obAt_updOb_others i _ n hn

/-! ### DEADLINE_MISS -/

/-- The misses of a plot within the last second, this one the last (E-3404). -/
def State.recentMisses (s : State) (p : Nat) : List Nat :=
  ((Tab.get [] s.ev.missAt p).filter (fun t => decide (s.now < t + second))) ++ [s.now]

/-- A request's record when a turn of it has missed its due time (R257). -/
def Ob.overdue (o : Ob) : Ob := { o with missed := true }

/-- A miss is noted on its request, counted, and reported at most once in a second (R257, R446). -/
def State.noteMiss (s : State) (p request i : Nat) : State :=
  (({ s.updOb i Ob.overdue with
      ev := { s.ev with missAt := Tab.set [] s.ev.missAt p (s.recentMisses p) } }).bump 64 (0xA100 + p) 4 1).raiseLimited
    0x3404 p second p [p, request, (s.recentMisses p).length]

/-- The first miss of a turn whose due time has passed (R82, R257). -/
theorem exec_deadlineMiss_first {d : Nat} (hf : s.findReq p.val request.toNat = some i) (hdue : s.dueOf (s.obAt i) = some d)
    (hm : (s.obAt i).missed = false) (hneg : dueIn d s.usNow < 0) :
    exec (.deadlineMiss p request) s = .next (if (s.obAt i).dropOnMiss
      then ((s.noteMiss p.val request.toNat i).endRequest i .cancelled .deadlineMissed (s.obAt i).tag).settle i
      else (s.noteMiss p.val request.toNat i).post (s.obAt i).qp
        [(s.obAt i).entry .deadlineMissed kState (s.obAt i).tag [(s.obAt i).st.code]]) := by
  change execDeadlineMiss p request s = _
  simp only [execDeadlineMiss, hf, hdue]
  refine congrArg Host.Outcome.next (if_neg ?_)
  rw [hm]
  simpa using hneg

/-- What noting a miss changes beside the request's own record: events, and one counter. -/
theorem State.noteMiss_spec (s : State) (p request i : Nat) :
    (s.noteMiss p request i).ob = (s.updOb i Ob.overdue).ob ∧
      (s.noteMiss p request i).qps = s.qps ∧
      (s.noteMiss p request i).cell (0xA100 + p) 4 = satAdd 64 (s.cell (0xA100 + p) 4) 1 ∧
      CellsBut [(0xA100 + p, 4)] s (s.noteMiss p request i) ∧
      Changes s (s.noteMiss p request i) (.ob :: .led :: Part.report) := by
  unfold State.noteMiss
  set u : State := { s.updOb i Ob.overdue with
    ev := { s.ev with missAt := Tab.set [] s.ev.missAt p (s.recentMisses p) } } with hu
  have hsu : Changes s u [.ob, .ev] :=
    ((Changes.updOb s i _).mono (by decide)).trans ((Changes.setEv (s.updOb i _) _).mono (by decide))
  have hr := Changes.raiseLimited (u.bump 64 (0xA100 + p) 4 1) 0x3404 p second p [p, request, (s.recentMisses p).length]
  have hled : u.led = s.led := hsu .led (by decide)
  refine ⟨hr .ob (by decide), (hr .qps (by decide)).trans (hsu .qps (by decide)), ?_, ?_, ?_⟩
  · rw [State.cell_of_led (hr .led (by decide)), State.cell_bump_self, State.cell_of_led hled]
  · exact (CellsBut.of_led hled).trans ((CellsBut.bump u _ _ _ _ (by decide)).trans (CellsBut.of_led (hr .led (by decide))))
  · exact (hsu.mono (by decide)).trans (((Changes.bump u _ _ _ _).mono (by decide)).trans (hr.mono (by decide)))

/-- Without DROP_ON_MISS the request goes on, and its STATE entry says DEADLINE_MISSED (R257). -/
theorem deadlineMiss_goes_on {d : Nat} (hf : s.findReq p.val request.toNat = some i) (hdue : s.dueOf (s.obAt i) = some d)
    (hm : (s.obAt i).missed = false) (hneg : dueIn d s.usNow < 0) (hdrop : (s.obAt i).dropOnMiss = false) :
    ∃ t, exec (.deadlineMiss p request) s = .next t ∧ (t.obAt i) = { s.obAt i with missed := true } ∧
      t.cell (0xA100 + p.val) 4 = satAdd 64 (s.cell (0xA100 + p.val) 4) 1 ∧
      Posts s t (s.obAt i).qp ((s.obAt i).entry .deadlineMissed kState (s.obAt i).tag [(s.obAt i).st.code]) ∧
      SameBut [i] s.obAt t.obAt ∧ CellsBut [(0xA100 + p.val, 4)] s t ∧ Changes s t (.ob :: .qps :: .led :: Part.report) := by
  have hx := (exec_deadlineMiss_first hf hdue hm hneg).trans (congrArg Host.Outcome.next (if_neg (by simp [hdrop])))
  obtain ⟨hob, hqps, hcount, hcells, hch⟩ := s.noteMiss_spec p.val request.toNat i
  generalize s.noteMiss p.val request.toNat i = u at hx hob hqps hcount hcells hch
  have hp := u.post_changes (s.obAt i).qp [(s.obAt i).entry .deadlineMissed kState (s.obAt i).tag [(s.obAt i).st.code]]
  have hled := hp .led (by decide)
  refine ⟨_, hx, ?_, ?_, (u.post_posts _ _).congr hqps.symm rfl, fun n hn => ?_, hcells.trans (CellsBut.of_led hled),
    (hch.mono (by decide)).trans (hp.mono (by decide))⟩
  · rw [State.obAt_post, State.obAt_of_ob hob, State.obAt_updOb, if_pos rfl]
    rfl
  · rw [State.cell_of_led hled, hcount]
  · rw [State.obAt_post, State.obAt_of_ob hob]
    exact s.obAt_updOb_others i _ n hn

/-- With DROP_ON_MISS the request ends, DEADLINE_MISSED its final status (R251). -/
theorem deadlineMiss_drops {d : Nat} (hf : s.findReq p.val request.toNat = some i) (hdue : s.dueOf (s.obAt i) = some d)
    (hm : (s.obAt i).missed = false) (hneg : dueIn d s.usNow < 0) (hdrop : (s.obAt i).dropOnMiss = true)
    (hc : (s.obAt i).consumed = false) :
    ∃ t, exec (.deadlineMiss p request) s = .next t ∧ (t.obAt i).st = .cancelled ∧ (t.obAt i).final = some .deadlineMissed ∧
      SameBut [i] s.obAt t.obAt ∧ Changes s t Part.work := by
  have hx := (exec_deadlineMiss_first hf hdue hm hneg).trans (congrArg Host.Outcome.next (if_pos hdrop))
  obtain ⟨hob, -, -, -, hch⟩ := s.noteMiss_spec p.val request.toNat i
  generalize s.noteMiss p.val request.toNat i = u at hx hob hch
  obtain ⟨hothers, hst, hfinal, hcons⟩ := u.endRequest_cancelled i .deadlineMissed (s.obAt i).tag
  have hin := Changes.of_fixed (u.endRequest_inner i .cancelled .deadlineMissed (s.obAt i).tag)
  generalize u.endRequest i .cancelled .deadlineMissed (s.obAt i).tag = v at hx hothers hst hfinal hcons hin
  rw [State.obAt_updOb, if_pos rfl] at hst hfinal hcons
  have hcons' : (v.obAt i).consumed = false := by
    rw [hcons, State.obAt_of_ob hob, State.obAt_updOb, if_pos rfl]
    exact hc
  have hst' : (v.obAt i).st = .cancelled := hst
  rw [State.settle_of_unconsumed (by rw [hst']; decide) hcons'] at hx
  refine ⟨v, hx, hst', hfinal, fun n hn => ?_, (hch.mono (by decide)).trans hin⟩
  rw [hothers n hn, u.obAt_updOb_others i _ n hn, State.obAt_of_ob hob]
  exact s.obAt_updOb_others i _ n hn

end Sys2Proof.Machine

open Sys2Proof Sys2Proof.Machine

/-- Settles O39: what moves to PAUSED_COOL is `State.toCool`; a miss is noted, and then posted, or ends the request. -/
theorem delaysAndDeadlines : Obligations.DelaysAndDeadlines := by
  intro s p request i hf
  refine ⟨fun hst hd hl => ?_, fun hd => ⟨s, exec_coolDelayExpire_never hf hd, rfl⟩,
    fun d hdue hm hneg => ⟨fun hdrop => deadlineMiss_goes_on hf hdue hm hneg hdrop,
      fun hdrop hc => deadlineMiss_drops hf hdue hm hneg hdrop hc⟩⟩
  obtain ⟨hob, hposts, hothers, hch⟩ := s.toCool_spec i
  exact ⟨_, exec_coolDelayExpire_elapsed hf hst hd hl, by rw [hob]; rfl, by rw [hob]; rfl, hposts, by rw [hob]; rfl, hothers, hch⟩
end

section
/-! SUPPORT. What a fault of a plot leaves of each loom: weight registers, Bench and place in the program (R245). -/

namespace Sys2Proof.Machine

/-! ### Operations that reach no loom -/

@[simp] theorem State.noteBusy_looms (s : State) (p : Nat) : (s.noteBusy p).looms = s.looms := by
  unfold State.noteBusy
  split <;> rfl

@[simp] theorem State.releasePage_looms (s : State) (i : Nat) (d : Bool) (j : Nat) : (s.releasePage i d j).looms = s.looms := by
  unfold State.releasePage
  dsimp only
  split
  · rfl
  · split
    · rfl
    · split
      · rfl
      · split
        · split <;> rfl
        · rfl

@[simp] theorem State.releasePages_looms (s : State) (i : Nat) : (s.releasePages i).looms = s.looms :=
  foldl_keeps State.looms _ (fun e _ u => u.releasePage_looms i e.1 e.2) s

@[simp] theorem State.maybeFree_looms (s : State) (i : Nat) : (s.maybeFree i).looms = s.looms := by
  unfold State.maybeFree
  dsimp only
  split <;> rfl

@[simp] theorem State.cancelSamples_looms (s : State) (i : Nat) : (s.cancelSamples i).looms = s.looms := by
  unfold State.cancelSamples
  split
  · rfl
  · split
    · rfl
    · split <;> rfl

@[simp] theorem State.post_looms (s : State) (n : Nat) (rs : List Result) : (s.post n rs).looms = s.looms :=
  s.post_changes n rs .looms (by decide)

@[simp] theorem State.postAll_looms (s : State) (es : List (Nat × Result)) : (s.postAll es).looms = s.looms :=
  foldl_keeps State.looms _ (fun n _ u => u.post_looms n _) s

@[simp] theorem State.endCore_looms (s : State) (i : Nat) (st : ReqState) (final : Status) :
    (s.endCore i st final).looms = s.looms := by
  unfold State.endCore
  cases st <;> simp

@[simp] theorem State.endRequest_looms (s : State) (i : Nat) (st : ReqState) (final : Status) (tag : Nat) :
    (s.endRequest i st final tag).looms = s.looms := by
  simp [State.endRequest]

@[simp] theorem State.settle_looms (s : State) (i : Nat) : (s.settle i).looms = s.looms := by
  unfold State.settle State.settleCore
  dsimp only
  split <;> simp

/-! ### Looms that at most halt -/

/-- Every loom keeps its weight registers, its Bench and its place in the program. -/
def KeepsProgress (s t : State) : Prop := ∀ n, (s.loom n).SameProgress (t.loom n)

theorem KeepsProgress.of_looms {s t : State} (h : t.looms = s.looms) : KeepsProgress s t := fun n => by
  rw [State.loom, State.loom, h]
  exact ⟨rfl, rfl, rfl, rfl⟩

theorem KeepsProgress.trans {s t u : State} (h : KeepsProgress s t) (h' : KeepsProgress t u) : KeepsProgress s u :=
  fun n => (h n).trans (h' n)

theorem KeepsProgress.foldl {α : Type} {f : State → α → State} (h : ∀ s x, KeepsProgress s (f s x)) (l : List α) (s : State) :
    KeepsProgress s (l.foldl f s) := by
  induction l generalizing s with
  | nil => exact .of_looms rfl
  | cons x l ih => exact (h s x).trans (ih _)

theorem State.haltOn_keepsProgress (s : State) (id : Nat) (ls : List Nat) : KeepsProgress s (s.haltOn id ls) := fun n => by
  rcases s.loom_haltOn id ls n with h | h <;> rw [h]
  · exact ⟨rfl, rfl, rfl, rfl⟩
  · exact ⟨rfl, rfl, LoomSt.bytes_congr rfl rfl, rfl⟩

/-- The requests of a step are in no step any more (R124). -/
def State.leaveStep (s : State) (id : Nat) (x : Step) : State :=
  x.reqs.foldl (fun s r => s.updOb r.ob (fun o => if o.step = some id then
    { o with step := none, provisional := o.committed } else o)) (s.noteBusy x.plot)

theorem State.dropStep_of_stepAt {s : State} {id : Nat} {x : Step} (h : s.stepAt id = some x) :
    (s.dropStep id).looms = ((s.leaveStep id x).haltOn id ((s.leaveStep id x).footprint x.plot)).looms := by
  unfold State.dropStep
  rw [h]
  rfl

theorem State.dropStep_keepsProgress (s : State) (id : Nat) : KeepsProgress s (s.dropStep id) := by
  cases h : s.stepAt id with
  | none =>
    unfold State.dropStep
    rw [h]
    exact .of_looms rfl
  | some x =>
    have hl : (s.leaveStep id x).looms = s.looms := by
      unfold State.leaveStep
      refine (foldl_keeps State.looms x.reqs (fun r _ u => ?_) _).trans (s.noteBusy_looms x.plot)
      rfl
    exact ((KeepsProgress.of_looms hl).trans (State.haltOn_keepsProgress _ id _)).trans (.of_looms (State.dropStep_of_stepAt h))

theorem State.cutStep_keepsProgress (s : State) (id : Nat) : KeepsProgress s (s.cutStep id) := by
  unfold State.cutStep
  split
  · exact .of_looms rfl
  · refine KeepsProgress.trans (.of_looms ?_) (State.dropStep_keepsProgress _ id)
    rfl

theorem State.endWork_keepsProgress (s : State) (p : Nat) (f : Nat → Bool) : KeepsProgress s (s.endWork p f) :=
  ((KeepsProgress.foldl (fun s id => s.cutStep_keepsProgress id) _ s).trans
    (KeepsProgress.foldl (fun s i => .of_looms (s.endRequest_looms i _ _ _)) _ _)).trans
    (KeepsProgress.foldl (fun s i => .of_looms (by simp)) _ _)

theorem State.endLoad_looms (s : State) (p : Nat) : (s.endLoad p).looms = s.looms := by
  unfold State.endLoad
  split <;> rfl

theorem State.markFaulted_looms (s : State) (p : Nat) : (s.markFaulted p).looms = s.looms := by
  unfold State.markFaulted
  split <;> rfl

/-- A fault of a plot halts looms at most (R245). -/
theorem State.faultPlot_keepsProgress (s : State) (p : Nat) (f : Nat → Bool) : KeepsProgress s (s.faultPlot p f) := by
  rw [State.faultPlot_eq]
  split
  · exact (s.endWork_keepsProgress p f).trans (.of_looms (by rw [State.markFaulted_looms, State.endLoad_looms]))
  · exact .of_looms rfl

/-- A format that cannot stand where it stands faults a serving plot, and halts looms at most (R89, R90). -/
theorem State.badFormat_serving {s : State} {p : Nat} (hp : p < 16) (h : s.plotState p = 2) :
    (s.badFormat p).plotState p = 5 ∧ KeepsProgress s (s.badFormat p) ∧ Changes s (s.badFormat p) Part.work :=
  ⟨State.plotState_faultPlot s p _ hp (.inr h), s.faultPlot_keepsProgress p _, Changes.of_fixed (s.badFormat_inner p)⟩

end Sys2Proof.Machine
end

section
/-! PROOFS. LDW, XCHG and PASS (R85, R86, R109, R118, R191): the statement O14. -/

namespace Sys2Proof.Machine

/-! ### One loom and some counters -/

/-- Loom `n` and the counters named differ at most. -/
def WithinLoom (ks : List (Nat × Nat)) (n : Nat) (s t : State) : Prop :=
  SameBut [n] s.loom t.loom ∧ CellsBut ks s t ∧ Changes s t [.led, .looms]

theorem WithinLoom.trans {ks : List (Nat × Nat)} {n : Nat} {s t u : State} (h : WithinLoom ks n s t) (h' : WithinLoom ks n t u) :
    WithinLoom ks n s u := by
  obtain ⟨hl, hc, hch⟩ := h
  obtain ⟨hl', hc', hch'⟩ := h'
  exact ⟨hl.trans hl', hc.trans hc', hch.trans hch'⟩

theorem WithinLoom.updLoom (ks : List (Nat × Nat)) (s : State) (n : Nat) (f : LoomSt → LoomSt) :
    WithinLoom ks n s (s.updLoom n f) :=
  ⟨fun m hm => by rw [State.loom_updLoom, if_neg (fun e => hm (by simp [e]))], .of_led rfl, (Changes.updLoom s n f).mono (by decide)⟩

theorem WithinLoom.upsets (ks : List (Nat × Nat)) (s : State) (n : Nat) (ws : List BenchWord) :
    WithinLoom ks n s (s.upsets n ws) := by
  have h : Changes s (s.upsets n ws) [.looms] := Changes.of_offLooms (s.upsets_offLooms n ws)
  exact ⟨fun m hm => by rw [State.loom_upsets, if_neg (fun e => hm (by simp [e]))], .of_led (h .led (by decide)), h.mono (by decide)⟩

theorem WithinLoom.bump {ks : List (Nat × Nat)} {i j : Nat} (h : (i, j) ∈ ks) (hj : j < 256) (n : Nat) (s : State) (w by_ : Nat) :
    WithinLoom ks n s (s.bump w i j by_) :=
  ⟨fun _ _ => rfl, (CellsBut.of_led rfl).setCell _ _ _ hj h, (Changes.bump s w i j by_).mono (by decide)⟩

theorem WithinLoom.count9210 {ks : List (Nat × Nat)} {j : Nat} (h : (0x9210, j) ∈ ks) (hj : j < 256) (n : Nat) (s : State)
    (by_ : Nat) : WithinLoom ks n s (s.count9210 j by_) := by
  unfold State.count9210
  split
  · exact ⟨fun _ _ => rfl, .of_led rfl, Changes.refl _ _⟩
  · exact .bump h hj n s 64 by_

@[simp] theorem State.loom_count9210 (s : State) (j k n : Nat) : (s.count9210 j k).loom n = s.loom n := by
  unfold State.count9210
  split <;> rfl

/-- The counters of reserved T2 codes, I3 words and NaN scales (R92, R94, R131). -/
theorem WithinLoom.countFormat {ks : List (Nat × Nat)} (h1 : (0x9210, 1) ∈ ks) (h2 : (0x9210, 2) ∈ ks) (n : Nat) (s : State)
    (fmt : Nat) (cs ws : List Nat) : WithinLoom ks n s (s.countFormat fmt cs ws) :=
  (WithinLoom.count9210 h1 (by decide) n s _).trans (.count9210 h2 (by decide) n _ _)

@[simp] theorem State.loom_countFormat (s : State) (fmt : Nat) (cs ws : List Nat) (n : Nat) :
    (s.countFormat fmt cs ws).loom n = s.loom n := by
  simp [State.countFormat]

/-! ### LDW -/

/-- A load that an exchange waits for is carried out too (R86). -/
theorem State.seq_of_exchange {s : State} {l : Loom} {p id : Nat} (h : Runs s l 2 p id) (hx : (s.loom l.n).stall = some .exchange)
    (act : Nat → Nat → State → State) : s.seq l 1 act = act p id s := by
  obtain ⟨hstep, hown, ⟨k, hslot, hheld⟩, -, w, hword, hop⟩ := h
  simp only [State.seq, hstep, hown, hslot, hheld, hx, hword, hop]
  rw [if_neg (by simp [retries]), if_neg (by omega), if_pos (.inr ⟨trivial, trivial⟩)]

/-- What LDW does to its loom's registers and counters. -/
def State.loadRegs (s : State) (n : Nat) (w : WRegion) : State :=
  (((s.countFormat w.fmt.toNat ((List.range w.cols.val).flatMap (fun j => (s.loom n).codes w.fmt.toNat
      (w.base.toNat + colBytes w.fmt.toNat w.rows.val (blockLen w.block64) * j) w.rows.val (blockLen w.block64)))
    ((s.loom n).words 8 w.base.toNat (colBytes w.fmt.toNat w.rows.val (blockLen w.block64) * w.cols.val / 8))).count9210 5
      ((((s.loom n).wBooks w).map (fun b => b.2.2)).sum + nanScales ((scaleCode w.scaleFmt).getD 0) ((s.loom n).wScales w))).updLoom n
        (fun y => { y with bg := loadWeights y w, bgReady := true }))

theorem State.loadRegs_loom (s : State) (n : Nat) (w : WRegion) :
    (s.loadRegs n w).loom n = { s.loom n with bg := loadWeights (s.loom n) w, bgReady := true } := by
  simp [State.loadRegs]

theorem State.loadRegs_within (s : State) (n : Nat) (w : WRegion) :
    WithinLoom [(0x9210, 1), (0x9210, 2), (0x9210, 5)] n s (s.loadRegs n w) :=
  ((WithinLoom.countFormat (by decide) (by decide) n s _ _ _).trans (.count9210 (by decide) (by decide) n _ _)).trans
    (.updLoom _ _ n _)

section Ldw

variable {s u : State} {l : Loom} {p id : Nat} {w : WRegion} {up : List BenchWord}

/-- LDW of a region that the array takes, once its lines are filled (R134, R191, R199). -/
theorem exec_ldw_filled (hu : u = s.upsets l.n up)
    (hr : ∀ act, u.seq l 1 act = act p id u) (hw : loadLegal w = true) (hf : BenchFilled u l (loadReads w)) :
    exec (.ldw l ⟨w, up⟩) s = .next (if (u.loom l.n).parityBad (loadReads w) then u.benchParity l p id
      else if (u.loom l.n).stall = some .exchange then u.loadRegs l.n w else (u.loadRegs l.n w).advance l.n) := by
  change execLdw l ⟨w, up⟩ s = _
  rw [execLdw, ← hu, hr]
  dsimp only
  rw [if_neg (by simp [hw]), State.benchGate_of_filled hf]
  rfl

/-- A region that the array does not take faults the plot (R89, R90). -/
theorem exec_ldw_illegal (hu : u = s.upsets l.n up) (hr : Runs u l 1 p id) (hw : loadLegal w = false) :
    exec (.ldw l ⟨w, up⟩) s = .next (u.badFormat p) := by
  change execLdw l ⟨w, up⟩ s = _
  rw [execLdw, ← hu, State.seq_of_runs hr (by decide) (by decide)]
  exact congrArg _ (if_pos hw)

/-- A sound region reaches the background registers; the loom goes on, but from an exchange that waits (R86). -/
theorem ldw_loads (hu : u = s.upsets l.n up) (hr : ∀ act, u.seq l 1 act = act p id u) (hw : loadLegal w = true)
    (hb : BenchReady u l (loadReads w)) :
    ∃ t, exec (.ldw l ⟨w, up⟩) s = .next t ∧ t.loom l.n = (if (u.loom l.n).stall = some .exchange
        then { u.loom l.n with bg := loadWeights (u.loom l.n) w, bgReady := true }
        else { u.loom l.n with bg := loadWeights (u.loom l.n) w, bgReady := true, ip := (u.loom l.n).ip + 1, stall := none }) ∧
      WithinLoom [(0x9210, 1), (0x9210, 2), (0x9210, 5)] l.n s t := by
  obtain ⟨hfill, hpar⟩ := hb
  have hin : WithinLoom [(0x9210, 1), (0x9210, 2), (0x9210, 5)] l.n s (u.loadRegs l.n w) :=
    (hu ▸ WithinLoom.upsets _ s l.n up).trans (u.loadRegs_within l.n w)
  rw [exec_ldw_filled hu hr hw hfill, if_neg (by simp [hpar])]
  split
  · exact ⟨_, rfl, u.loadRegs_loom l.n w, hin⟩
  · refine ⟨_, rfl, ?_, hin.trans (.updLoom _ _ _ _)⟩
    rw [State.advance, State.loom_updLoom, if_pos rfl, State.loadRegs_loom]

/-- A region that the array does not take leaves the registers as they were. -/
theorem ldw_illegal (hu : u = s.upsets l.n up) (hr : Runs u l 1 p id) (hw : loadLegal w = false) (hst : s.plotState p = 2) :
    ∃ t, exec (.ldw l ⟨w, up⟩) s = .next t ∧ t.plotState p = 5 ∧ (t.loom l.n).bg = (s.loom l.n).bg ∧ Changes s t Part.work := by
  have hsu : Changes s u [.looms] := hu ▸ Changes.of_offLooms (s.upsets_offLooms l.n up)
  have hst' : u.plotState p = 2 := by rw [State.plotState, hu, State.cell_upsets]; exact hst
  obtain ⟨h5, hkeep, hch⟩ := State.badFormat_serving (State.lt_of_ownerOf hr.2.1) hst'
  obtain ⟨-, hbg, -⟩ := (hu ▸ s.upsets_sameProgress l.n l.n up : (s.loom l.n).SameProgress (u.loom l.n)).trans (hkeep l.n)
  exact ⟨_, exec_ldw_illegal hu hr hw, h5, hbg, (hsu.mono (by decide)).trans hch⟩

end Ldw

/-! ### XCHG -/

section Xchg

variable {s : State} {l : Loom} {p id : Nat}

/-- With a load complete the two sets of registers change places (R84, R86). -/
theorem exec_xchg_ready (hr : Runs s l 2 p id) (hb : (s.loom l.n).bgReady = true) :
    exec (.xchg l) s = .next (s.advanceWith l.n (fun x => { x with fg := x.bg, bg := x.fg, bgReady := false })) := by
  change execXchg l s = _
  rw [execXchg, State.seq_of_runs hr (by decide) (by decide)]
  exact congrArg _ (if_pos hb)

/-- Without one the exchange waits for it (R86). -/
theorem exec_xchg_waits (hr : Runs s l 2 p id) (hb : (s.loom l.n).bgReady = false) (hs : (s.loom l.n).stall = none) :
    exec (.xchg l) s = .next ((s.interlock p l.n 3 1).updLoom l.n (fun x => { x with stall := some .exchange })) := by
  change execXchg l s = _
  rw [execXchg, State.seq_of_runs hr (by decide) (by decide), if_neg (by simp [hb]), State.stallFor, if_neg (by simp [hs])]

theorem xchg_exchanges (hr : Runs s l 2 p id) (hb : (s.loom l.n).bgReady = true) :
    ∃ t, exec (.xchg l) s = .next t ∧ t.loom l.n = { s.loom l.n with
        fg := (s.loom l.n).bg, bg := (s.loom l.n).fg, bgReady := false, ip := (s.loom l.n).ip + 1, stall := none } ∧
      SameBut [l.n] s.loom t.loom ∧ Changes s t [.looms] := by
  refine ⟨_, exec_xchg_ready hr hb, by simp [State.advanceWith, State.advance], fun n hn => ?_,
    (Changes.updLoom s l.n _).trans (Changes.updLoom _ l.n _)⟩
  have hne : l.n ≠ n := fun e => hn (by simp [e])
  simp [State.advanceWith, State.advance, hne]

theorem xchg_waits (hr : Runs s l 2 p id) (hb : (s.loom l.n).bgReady = false) (hs : (s.loom l.n).stall = none) :
    ∃ t, exec (.xchg l) s = .next t ∧ (t.loom l.n).stall = some .exchange ∧ (t.loom l.n).ip = (s.loom l.n).ip ∧
      (t.loom l.n).fg = (s.loom l.n).fg ∧ (t.loom l.n).bg = (s.loom l.n).bg ∧ (t.loom l.n).bytes = (s.loom l.n).bytes ∧
      WithinLoom [(0x3300 + p, 4)] l.n s t := by
  have hl : (((s.interlock p l.n 3 1).updLoom l.n (fun x => { x with stall := some .exchange })).loom l.n) =
      { s.loom l.n with ctr := Tab.set 0 (s.loom l.n).ctr 3 (satAdd 32 (Tab.get 0 (s.loom l.n).ctr 3) 1), stall := some .exchange } := by
    simp [State.interlock]
  refine ⟨_, exec_xchg_waits hr hb hs, by rw [hl], by rw [hl], by rw [hl], by rw [hl], ?_, ?_⟩
  · rw [hl]
    exact LoomSt.bytes_congr rfl rfl
  · exact ((WithinLoom.updLoom _ s l.n _).trans (.bump (by simp) (by decide) l.n _ 64 1)).trans (.updLoom _ _ l.n _)

end Xchg

/-! ### What the Assayer copies of a pass -/

/-- Whether a sample is the one of a step at a tile's Assayer. -/
def Sample.isOf (tile step : Nat) (y : Sample) : Prop := y.tile = tile ∧ y.step = step

/-- The generator of a tile's Assayer goes on to its next state (R119). -/
def State.turnLfsr (s : State) (tile : Nat) : State :=
  s.updSite tile (fun c => { c with lfsr := Config.lfsr (s.site tile).lfsr })

/-- An output tile that is offered turns the generator, and of its step the Assayer has a sample then, the chosen one so far (R119). -/
theorem State.offer_eq (s : State) (x : Sample) :
    ∃ v, (∃ y ∈ v, y.isOf x.tile x.step) ∧ s.offer x = { s.turnLfsr x.tile with samples := v } := by
  unfold State.offer
  dsimp only
  split
  next => exact ⟨_, ⟨x, List.mem_append_right _ (List.mem_singleton.2 rfl), rfl, rfl⟩, rfl⟩
  next y hy =>
    have hmine := List.find?_some hy
    have hof : y.isOf x.tile x.step := by simpa [Sample.isOf] using hmine
    refine ⟨_, ⟨_, List.mem_map.2 ⟨y, List.mem_of_find?_eq_some hy, rfl⟩, ?_⟩, rfl⟩
    rw [if_pos hmine]
    split
    · exact ⟨rfl, rfl⟩
    · exact hof

theorem State.offer_changes (s : State) (x : Sample) : Changes s (s.offer x) [.sites, .samples] := by
  obtain ⟨v, -, h⟩ := s.offer_eq x
  rw [h]
  intro q hq
  cases q
  case sites | samples => exact absurd (by decide) hq
  all_goals rfl

theorem State.site_offer (s : State) (x : Sample) : SameBut [x.tile] s.site (s.offer x).site := fun u hu => by
  obtain ⟨v, -, h⟩ := s.offer_eq x
  have hne : x.tile ≠ u := fun e => hu (by simp [e])
  have ht : (s.turnLfsr x.tile).site u = s.site u := by rw [State.turnLfsr, State.site_updSite, if_neg hne]
  rw [h]
  exact ht

theorem SameBut.foldl {α β : Type} {g : State → Nat → β} {f : State → α → State} {ks : List Nat}
    (h : ∀ s x, SameBut ks (g s) (g (f s x))) (l : List α) (s : State) : SameBut ks (g s) (g (l.foldl f s)) := by
  induction l generalizing s with
  | nil => exact fun _ _ => rfl
  | cons x l ih => exact (h s x).trans (ih _)

/-- A fold ends where each of its steps leads, once it has one. -/
theorem foldl_reaches {α β : Type} {f : β → α → β} {P : β → Prop} (h : ∀ b x, P (f b x)) (l : List α) (b : β) (hl : l ≠ []) :
    P (l.foldl f b) := by
  obtain ⟨l', x, rfl⟩ := (List.eq_nil_or_concat l).resolve_left hl
  rw [List.concat_eq_append, List.foldl_append]
  exact h _ x

section Witness

variable {s : State} {l : Loom} {p id ip k : Nat} {w : Weights} {a : Narrow} {accs : List Acc}

/-- Of a step that is not sampled, or by an Assayer that has failed, nothing is copied (R118, R121). -/
theorem State.witness_of_unsampled (hk : s.slotOf l.n = some k)
    (h : ∀ x, s.stepAt id = some x → x.sampled = false ∨ (s.site (slotTile k)).assayerOff = true) :
    s.witness l p id ip w a accs = s := by
  unfold State.witness
  rw [hk]
  split
  next k' x hk' hx =>
    obtain rfl : k = k' := Option.some.inj hk'
    exact if_pos (h x hx)
  · rfl

/-- Of a sampled step one copy for each output tile is offered to the Assayer of the loom's tile (R118, R119). -/
theorem State.witness_of_sampled {x : Step} (hk : s.slotOf l.n = some k) (hx : s.stepAt id = some x)
    (h : ¬ (x.sampled = false ∨ (s.site (slotTile k)).assayerOff = true)) :
    ∃ g : Nat → Sample, (∀ f, (g f).isOf (slotTile k) id) ∧
      s.witness l p id ip w a accs = (outputTiles w.cols).foldl (fun s f => s.offer (g f)) s := by
  unfold State.witness
  rw [hk, hx]
  exact ⟨_, fun f => ⟨rfl, rfl⟩, if_neg h⟩

/-- Only the Assayer of the loom's tile and the samples differ then. -/
theorem State.witness_frame (hk : s.slotOf l.n = some k) :
    SameBut [slotTile k] s.site (s.witness l p id ip w a accs).site ∧
      Changes s (s.witness l p id ip w a accs) [.sites, .samples] := by
  by_cases h : ∀ x, s.stepAt id = some x → x.sampled = false ∨ (s.site (slotTile k)).assayerOff = true
  · rw [State.witness_of_unsampled hk h]
    exact ⟨fun _ _ => rfl, Changes.refl _ _⟩
  · push Not at h
    obtain ⟨x, hx, hs, ho⟩ := h
    obtain ⟨g, hg, he⟩ := State.witness_of_sampled (p := p) (ip := ip) (w := w) (a := a) (accs := accs) hk hx (not_or.2 ⟨hs, ho⟩)
    rw [he]
    refine ⟨SameBut.foldl (fun u f => ?_) _ s, Changes.foldl (fun u f => u.offer_changes (g f)) _ s⟩
    obtain ⟨ht, -⟩ := hg f
    exact ht ▸ u.site_offer (g f)

/-- A sampled step with a whole output tile has a sample there. -/
theorem State.witness_has {x : Step} (hk : s.slotOf l.n = some k) (hx : s.stepAt id = some x) (hs : x.sampled = true)
    (ho : (s.site (slotTile k)).assayerOff = false) (hc : 64 ≤ w.cols) :
    ∃ y ∈ (s.witness l p id ip w a accs).samples, y.isOf (slotTile k) id := by
  obtain ⟨g, hg, he⟩ := State.witness_of_sampled (p := p) (ip := ip) (w := w) (a := a) (accs := accs) hk hx (by simp [hs, ho])
  rw [he]
  refine foldl_reaches (P := fun u : State => ∃ y ∈ u.samples, y.isOf (slotTile k) id) (fun u f => ?_) _ s ?_
  · obtain ⟨v, ⟨y, hy, hof⟩, heq⟩ := u.offer_eq (g f)
    obtain ⟨ht, hi⟩ := hg f
    rw [ht, hi] at hof
    exact ⟨y, by rw [heq]; exact hy, hof⟩
  · simp only [outputTiles, ne_eq, List.map_eq_nil_iff, List.range_eq_nil]
    omega

end Witness

/-! ### PASS -/

/-- The accumulators of a pass, as the loom forms them (R85, R109, R121). -/
def LoomSt.passAccs (l : LoomSt) (a : ARegion) (wrong : List (Nat × Int)) : List Acc :=
  spoilAccs wrong (passCols l.fg (l.narrow a l.fg.block) (List.range l.fg.cols))

/-- What PASS does to its loom's accumulators and to the counters. -/
def State.passRegs (s : State) (n : Nat) (a : ARegion) (wrong : List (Nat × Int)) : State :=
  ((s.countFormat a.fmt.toNat ((s.loom n).narrow a (s.loom n).fg.block).codes
      ((s.loom n).words 8 a.base.toNat (colBytes a.fmt.toNat a.rows.val (s.loom n).fg.block / 8))).count9210 5
    (nanScales ((s.loom n).narrow a (s.loom n).fg.block).sf ((s.loom n).narrow a (s.loom n).fg.block).scales)).advanceWith n
      (fun y => { y with accs := (s.loom n).passAccs a wrong, accTs := (s.loom n).fg.tscale })

theorem State.passRegs_loom (s : State) (n : Nat) (a : ARegion) (wrong : List (Nat × Int)) :
    (s.passRegs n a wrong).loom n = { s.loom n with
      accs := (s.loom n).passAccs a wrong, accTs := (s.loom n).fg.tscale, ip := (s.loom n).ip + 1, stall := none } := by
  simp [State.passRegs, State.advanceWith, State.advance]

theorem State.passRegs_within (s : State) (n : Nat) (a : ARegion) (wrong : List (Nat × Int)) :
    WithinLoom [(0x9210, 1), (0x9210, 2), (0x9210, 5)] n s (s.passRegs n a wrong) :=
  (((WithinLoom.countFormat (by decide) (by decide) n s _ _ _).trans (.count9210 (by decide) (by decide) n _ _)).trans
    (.updLoom _ _ n _)).trans (.updLoom _ _ n _)

theorem State.ageSamples_changes (s : State) (n : Nat) : Changes s (s.ageSamples n) [.samples] := fun q hq => by
  cases q
  case samples => exact absurd (by decide) hq
  all_goals rfl

/-- Where a loom stands, and what its site is, follow from the sites alone (R22). -/
theorem State.slotOf_of_sites {s t : State} (h : t.sites = s.sites) : t.slotOf = s.slotOf ∧ t.site = s.site := by
  have hsite : t.site = s.site := funext fun u => by rw [State.site, h, State.site]
  refine ⟨funext fun n => ?_, hsite⟩
  simp only [State.slotOf, State.physOf, hsite, h]

section Pass

variable {s u : State} {l : Loom} {p id k : Nat} {a : ARegion} {up : List BenchWord} {wrong : List (Nat × Int)}

/-- PASS of a vector that the array takes, once its lines are filled (R85, R134, R199). -/
theorem exec_pass_filled (hu : u = s.upsets l.n up) (hr : Runs u l 3 p id) (hw : passLegal (u.loom l.n).fg a = true)
    (hf : BenchFilled u l (narrowReads a (u.loom l.n).fg.block)) :
    exec (.pass l a ⟨up, wrong⟩) s = .next (if (u.loom l.n).parityBad (narrowReads a (u.loom l.n).fg.block) then u.benchParity l p id
      else ((u.passRegs l.n a wrong).ageSamples l.n).witness l p id (u.loom l.n).ip (u.loom l.n).fg
        ((u.loom l.n).narrow a (u.loom l.n).fg.block) ((u.loom l.n).passAccs a wrong)) := by
  change execPass l a ⟨up, wrong⟩ s = _
  rw [execPass, ← hu, State.seq_of_runs hr (by decide) (by decide)]
  dsimp only
  rw [if_neg (by simp [hw]), State.benchGate_of_filled hf]
  rfl

/-- A sound vector: the accumulators of the foreground registers with its codes, and what the Assayer copies (R85, R118). -/
theorem pass_accumulates (hu : u = s.upsets l.n up) (hr : Runs u l 3 p id) (hw : passLegal (u.loom l.n).fg a = true)
    (hk : s.slotOf l.n = some k) (hf : BenchFilled u l (narrowReads a (u.loom l.n).fg.block))
    (hpar : (u.loom l.n).parityBad (narrowReads a (u.loom l.n).fg.block) = false) :
    ∃ t, exec (.pass l a ⟨up, wrong⟩) s = .next t ∧ t.loom l.n = { u.loom l.n with
        accs := (u.loom l.n).passAccs a wrong, accTs := (u.loom l.n).fg.tscale, ip := (u.loom l.n).ip + 1, stall := none } ∧
      (∀ x, s.stepAt id = some x → x.sampled = true → (s.site (slotTile k)).assayerOff = false → 64 ≤ (u.loom l.n).fg.cols →
        ∃ y ∈ t.samples, y.tile = slotTile k ∧ y.step = id) ∧
      ((∀ x, s.stepAt id = some x → x.sampled = false) → t.sites = s.sites ∧ t.samples.length = s.samples.length) ∧
      SameBut [l.n] s.loom t.loom ∧ SameBut [slotTile k] s.site t.site ∧
      CellsBut [(0x9210, 1), (0x9210, 2), (0x9210, 5)] s t ∧ Changes s t [.led, .looms, .sites, .samples] := by
  obtain ⟨hloom, hcells, hch⟩ : WithinLoom [(0x9210, 1), (0x9210, 2), (0x9210, 5)] l.n s (u.passRegs l.n a wrong) :=
    (hu ▸ WithinLoom.upsets _ s l.n up).trans (u.passRegs_within l.n a wrong)
  have hage := (u.passRegs l.n a wrong).ageSamples_changes l.n
  have hregs : ((u.passRegs l.n a wrong).ageSamples l.n).loom = (u.passRegs l.n a wrong).loom := rfl
  have hlen : ((u.passRegs l.n a wrong).ageSamples l.n).samples.length = s.samples.length := by
    rw [State.ageSamples, List.length_map]
    exact congrArg List.length (hch .samples (by decide))
  rw [exec_pass_filled hu hr hw hf, if_neg (by simp [hpar])]
  have hsv : Changes s ((u.passRegs l.n a wrong).ageSamples l.n) [.led, .looms, .samples] :=
    (hch.mono (by decide)).trans (hage.mono (by decide))
  have hled := hage .led (by decide)
  have hown := u.passRegs_loom l.n a wrong
  generalize (u.passRegs l.n a wrong).ageSamples l.n = v at hregs hsv hled hlen
  obtain ⟨hslotOf, hsites⟩ := State.slotOf_of_sites (hsv .sites (by decide))
  have hk' : v.slotOf l.n = some k := by rw [hslotOf, hk]
  have hstep : v.stepAt id = s.stepAt id := by rw [State.stepAt, hsv .steps (by decide), State.stepAt]
  obtain ⟨hsite, hwit⟩ := State.witness_frame (p := p) (id := id) (ip := (u.loom l.n).ip) (w := (u.loom l.n).fg)
    (a := (u.loom l.n).narrow a (u.loom l.n).fg.block) (accs := (u.loom l.n).passAccs a wrong) hk'
  refine ⟨_, rfl, ?_, fun x hx hs ho hc => ?_, fun hno => ?_, ?_, ?_, ?_, (hsv.mono (by decide)).trans (hwit.mono (by decide))⟩
  · rw [State.loom, hwit .looms (by decide), ← State.loom, hregs, hown]
  · exact State.witness_has hk' (hstep.trans hx) hs (by rw [hsites, ho]) hc
  · rw [State.witness_of_unsampled hk' (fun x hx => .inl (hno x (hstep ▸ hx)))]
    exact ⟨hsv .sites (by decide), hlen⟩
  · exact fun n hn => by rw [State.loom, hwit .looms (by decide), ← State.loom, hregs, hloom n hn]
  · exact fun n hn => by rw [hsite n hn, hsites]
  · exact (hcells.trans (CellsBut.of_led hled)).trans (CellsBut.of_led (hwit .led (by decide)))

end Pass

end Sys2Proof.Machine

open Sys2Proof Sys2Proof.Machine

/-- Settles O14: LDW, XCHG and PASS, each by what it does at its word; the parity cases are `State.benchParity_stops`. -/
theorem loadExchangePass : Obligations.LoadExchangePass := by
  intro s l p id
  refine ⟨fun w up u hu => ⟨fun hw hb => ⟨fun hr hs => ?_, fun hr hs => ?_⟩, fun hw hr hst => ldw_illegal hu hr hw hst,
      fun k hw hr hf hbad hk hfirst => ?_⟩, fun hr hb => xchg_exchanges hr hb, fun hr hb hs => xchg_waits hr hb hs,
    fun a up wrong u k hu hr hw hk hf => ?_⟩
  · obtain ⟨t, ht, hl, hin⟩ := ldw_loads hu (State.seq_of_runs hr (by decide) (by decide)) hw hb
    exact ⟨t, ht, hl.trans (if_neg (by simp [hs])), hin⟩
  · obtain ⟨t, ht, hl, hin⟩ := ldw_loads hu (State.seq_of_exchange hr hs) hw hb
    exact ⟨t, ht, hl.trans (if_pos hs), hin⟩
  · rw [exec_ldw_filled hu (State.seq_of_runs hr (by decide) (by decide)) hw hf, if_pos hbad]
    exact ⟨_, rfl, State.benchParity_stops hu hk hfirst⟩
  · obtain ⟨hfg, -⟩ : (s.loom l.n).SameProgress (u.loom l.n) := hu ▸ s.upsets_sameProgress l.n l.n up
    rw [← hfg] at hw hf ⊢
    refine ⟨fun hpar => pass_accumulates hu hr hw hk hf hpar, fun hbad hfirst => ?_⟩
    rw [exec_pass_filled hu hr hw hf, if_pos hbad]
    exact ⟨_, rfl, State.benchParity_stops hu hk hfirst⟩
end

section
/-! PROOFS. ASSAY_CHECK (R22, R120 to R122): the statement O19. -/

namespace Sys2Proof.Machine

theorem CellsBut.mono {ks ms : List (Nat × Nat)} {s t : State} (h : CellsBut ks s t) (m : ∀ k, k ∈ ks → k ∈ ms) : CellsBut ms s t :=
  fun i j hj hn => h i j hj (fun hk => hn (m _ hk))

/-! ### A check that has been made -/

theorem State.checked_changes (s : State) (x : Sample) (f : Sample → Sample) : Changes s (s.checked x f) [.samples] := fun q hq => by
  cases q
  case samples => exact absurd (by decide) hq
  all_goals rfl

/-- What is left of the sample has had its check. -/
theorem State.mem_checked {s : State} {x z : Sample} {f : Sample → Sample} (hz : z ∈ (s.checked x f).samples)
    (ht : z.tile = x.tile) (hi : z.step = x.step) : ∃ y, z = f y := by
  obtain ⟨hmap, -⟩ := List.mem_filter.1 hz
  obtain ⟨y, -, rfl⟩ := List.mem_map.1 hmap
  by_cases h : y.tile = x.tile ∧ y.step = x.step
  · exact ⟨y, if_pos h⟩
  · rw [if_neg h] at ht hi
    exact absurd ⟨ht, hi⟩ h

/-- A sample's integrity check is counted, and made once (R131). -/
def State.compared (s : State) (x : Sample) : State := (s.bump 64 0x9220 1 1).checked x (fun y => { y with forInt := false })

theorem State.compared_changes (s : State) (x : Sample) : Changes s (s.compared x) [.led, .samples] :=
  ((Changes.bump s _ _ _ _).mono (by decide)).trans ((State.checked_changes _ x _).mono (by decide))

theorem State.cell_compared (s : State) (x : Sample) (i j : Nat) (hj : j < 256) :
    (s.compared x).cell i j = if 0x9220 = i ∧ 1 = j then satAdd 64 (s.cell 0x9220 1) 1 else s.cell i j :=
  State.cell_setCell s _ _ _ i j (by decide) hj

theorem State.compared_once {s : State} {x y : Sample} (hy : y ∈ (s.compared x).samples) (ht : y.tile = x.tile)
    (hi : y.step = x.step) : y.forInt = false := by
  obtain ⟨z, rfl⟩ := State.mem_checked hy ht hi
  rfl

/-- A mismatch that persists is counted and reported (R121). -/
def State.mismatch (s : State) (p : Nat) (x : Sample) : State :=
  (((s.compared x).bump 32 0x9220 2 1).setCell 0x9220 3 (slotCode x.slot)).raise 0x9201 p [slotCode x.slot, p, x.step]

/-- An Assayer that shows itself at fault is counted and reported, and takes no more samples (R121). -/
def State.assayerFails (s : State) (tile : Nat) (x : Sample) : State :=
  ((((s.compared x).bump 32 0x9220 4 1).raise 0x9204 0xFF [tile]).updSite tile (fun c => { c with assayerOff := true })).logDefect
    7 tile 0 0xFF 0x9204

theorem State.logDefect_changes {s : State} (h : s.defects.length < 256) (kind site detail promoted event : Nat) :
    Changes s (s.logDefect kind site detail promoted event) [.defects] := by
  rw [State.logDefect_of_room h]
  intro q hq
  cases q
  case defects => exact absurd (by decide) hq
  all_goals rfl

theorem State.assayerFails_spec (s : State) (tile : Nat) (x : Sample) (hroom : s.defects.length < 256) :
    (∀ u, (s.assayerFails tile x).site u = if tile = u then { s.site u with assayerOff := true } else s.site u) ∧
      (s.assayerFails tile x).cell 0x9220 4 = satAdd 32 (s.cell 0x9220 4) 1 ∧
      CellsBut [(0x9220, 1), (0x9220, 4)] s (s.assayerFails tile x) ∧
      Raises s (s.assayerFails tile x) [(0x9204, 0xFF, [tile])] ∧ (s.assayerFails tile x).samples = (s.compared x).samples ∧
      Changes s (s.assayerFails tile x) (.led :: .samples :: .sites :: .defects :: Part.report) := by
  have hb : Changes s ((s.compared x).bump 32 0x9220 4 1) [.led, .samples] :=
    (s.compared_changes x).trans ((Changes.bump _ _ _ _ _).mono (by decide))
  have hcell (i j : Nat) (hj : j < 256) : ((s.compared x).bump 32 0x9220 4 1).cell i j =
      if 0x9220 = i ∧ 4 = j then satAdd 32 (s.cell 0x9220 4) 1 else (s.compared x).cell i j := by
    rw [State.bump, State.cell_setCell _ _ _ _ _ _ (by decide) hj, State.cell_compared s x _ 4 (by decide)]
    rfl
  have hsamples : ((s.compared x).bump 32 0x9220 4 1).samples = (s.compared x).samples := rfl
  rw [State.assayerFails]
  generalize (s.compared x).bump 32 0x9220 4 1 = b at *
  have hr := Changes.raise b 0x9204 0xFF [tile]
  have hs := Changes.updSite (b.raise 0x9204 0xFF [tile]) tile (fun c => { c with assayerOff := true })
  have hraise : Raises s (b.raise 0x9204 0xFF [tile]) [(0x9204, 0xFF, [tile])] :=
    Raises.one (congrArg Events.seq (hb .ev (by decide))) _ _ _
  have hsite (u : Nat) : ((b.raise 0x9204 0xFF [tile]).updSite tile (fun c => { c with assayerOff := true })).site u =
      if tile = u then { s.site u with assayerOff := true } else s.site u := by
    rw [State.site_updSite, State.site, hr .sites (by decide), hb .sites (by decide), State.site]
  have hbv := (hr.mono (qs := .sites :: Part.report) (by decide)).trans (hs.mono (by decide))
  have hv : Raises s ((b.raise 0x9204 0xFF [tile]).updSite tile (fun c => { c with assayerOff := true })) [(0x9204, 0xFF, [tile])] :=
    hraise.congr rfl rfl
  generalize (b.raise 0x9204 0xFF [tile]).updSite tile (fun c => { c with assayerOff := true }) = v at *
  have hlog := State.logDefect_changes (s := v)
    (by rw [hbv .defects (by decide), hb .defects (by decide)]; exact hroom) 7 tile 0 0xFF 0x9204
  have hled : (v.logDefect 7 tile 0 0xFF 0x9204).led = b.led := (hlog .led (by decide)).trans (hbv .led (by decide))
  refine ⟨fun u => ?_, ?_, fun i j hj hn => ?_, hv.congr (hlog .ev (by decide)) (hlog .now (by decide)), ?_,
    ((hb.mono (by decide)).trans (hbv.mono (by decide))).trans (hlog.mono (by decide))⟩
  · rw [← hsite, State.site, hlog .sites (by decide), State.site]
  · rw [State.cell_of_led hled, hcell _ _ (by decide), if_pos ⟨rfl, rfl⟩]
  · rw [State.cell_of_led hled, hcell i j hj, State.cell_compared s x i j hj, if_neg, if_neg] <;> rintro ⟨rfl, rfl⟩ <;> simp at hn
  · rw [hlog .samples (by decide), hbv .samples (by decide), hsamples]

section Compare

variable {s : State} {tile : Phys} {p : PlotId} {flip : Bool} {x : Sample}

theorem exec_assayCheck_agrees (hx : s.nextSample tile.val p.val Sample.forInt = some x) (ha : x.agrees = true) :
    exec (.assayCheck tile p flip) s = .next (if flip then s.assayerFails tile.val x else s.compared x) := by
  change execAssayCheck tile p flip s = _
  simp only [execAssayCheck, hx]
  rw [if_neg (by simp [ha])]
  rfl

theorem exec_assayCheck_differs (hx : s.nextSample tile.val p.val Sample.forInt = some x) (ha : x.agrees = false) :
    exec (.assayCheck tile p flip) s = .next (if x.hold then ((s.mismatch p.val x).failSlot (slotOfKey x.slot) 0x9201).discard x.step
      else (s.mismatch p.val x).failSlot (slotOfKey x.slot) 0x9201) := by
  change execAssayCheck tile p flip s = _
  simp only [execAssayCheck, hx]
  rw [if_pos ha]
  rfl

end Compare

/-! ### Agreement -/

section Agree

variable {s : State} {tile : Phys} {p : PlotId} {x : Sample} (hx : s.nextSample tile.val p.val Sample.forInt = some x)
  (ha : x.agrees = true)

include hx ha

/-- A sample that agrees passes (R120). -/
theorem assayCheck_passes :
    ∃ t, exec (.assayCheck tile p false) s = .next t ∧ t.cell 0x9220 1 = satAdd 64 (s.cell 0x9220 1) 1 ∧
      (∀ y ∈ t.samples, y.tile = x.tile → y.step = x.step → y.forInt = false) ∧
      CellsBut [(0x9220, 1)] s t ∧ Changes s t [.led, .samples] := by
  refine ⟨_, exec_assayCheck_agrees hx ha, ?_, fun y hy ht hi => State.compared_once hy ht hi, fun i j hj hn => ?_,
    s.compared_changes x⟩
  · exact State.cell_compared s x _ _ (by decide)
  · exact (State.cell_compared s x i j hj).trans (if_neg (by simpa [and_comm, eq_comm] using hn))

/-- One that agrees only the second time shows the Assayer at fault (R121). -/
theorem assayCheck_assayer_fails (hroom : s.defects.length < 256) :
    ∃ t, exec (.assayCheck tile p true) s = .next t ∧ (t.site tile.val).assayerOff = true ∧
      t.cell 0x9220 4 = satAdd 32 (s.cell 0x9220 4) 1 ∧ Raises s t [(0x9204, 0xFF, [tile.val])] ∧
      (∀ y ∈ t.samples, y.tile = x.tile → y.step = x.step → y.forInt = false) ∧
      SameBut [tile.val] s.site t.site ∧ CellsBut [(0x9220, 1), (0x9220, 4)] s t ∧
      Changes s t (.led :: .samples :: .sites :: .defects :: Part.report) := by
  obtain ⟨hsite, hcell, hcells, hraise, hsamples, hch⟩ := s.assayerFails_spec tile.val x hroom
  refine ⟨_, exec_assayCheck_agrees hx ha, ?_, hcell, hraise, fun y hy ht hi => ?_, fun u hu => ?_, hcells, hch⟩
  · rw [if_pos rfl, hsite, if_pos rfl]
  · exact State.compared_once (hsamples ▸ hy) ht hi
  · rw [if_pos rfl, hsite, if_neg (fun e => hu (by simp [e]))]

end Agree

/-! ### A slot at fault -/

/-- A slot that serves no loom has nothing to replace (R22). -/
theorem State.failSlot_of_none {s : State} {x : Slot} (h : s.loomAt x = none) (event : Nat) : s.failSlot x event = s := by
  rw [State.failSlot, h]

/-- The spare of its row takes over the position of a loom between steps, while the single-fault guarantee is in force (R22, R397). -/
theorem State.failSlot_of_spare {s : State} {x : Slot} {n : Nat} (h : s.loomAt x = some n)
    (hfree : Tab.get none (s.site x.tile.val).spareFor x.row.val = none)
    (hsound : Tab.get false (s.site x.tile.val).spareBad x.row.val = false) (hstep : (s.loom n).step = none)
    (hlapse : s.lapseOf none = none) (event : Nat) : s.failSlot x event = s.useSpare x n event := by
  rw [State.failSlot, h]
  simp only [hfree, hsound, hstep, hlapse]
  rfl

/-- Where no change of an epoch is due later, it reads what it was last changed to (R49). -/
theorem EpochRec.at_of_past {r : EpochRec} {now : Nat} (h : r.last ≤ now + 1) : r.at now = r.val := by
  have hd : r.due now = 0 := by
    have h0 : r.last - (now + 1) = 0 := by omega
    rw [EpochRec.due, h0]
    decide
  rw [EpochRec.at, hd]
  rfl

/-- A change that is not put off takes effect at once (R49). -/
theorem State.epoch_newEpoch {s : State} {e : Nat} (h : s.epochFree e = true) : (s.newEpoch e).epoch e = nextEpoch (s.epoch e) := by
  have hfree : (s.epochRec e).last = 0 ∨ (s.epochRec e).last + milli ≤ s.now + 1 := by simpa [State.epochFree] using h
  have hrec : (s.newEpoch e).epochRec e = (s.epochRec e).change s.now := by simp [State.epochRec, State.newEpoch]
  have hlast : ((s.epochRec e).change s.now).last ≤ s.now + 1 := by
    unfold EpochRec.change
    dsimp only
    split <;> omega
  have hval : ((s.epochRec e).change s.now).val = nextEpoch (s.epochRec e).val := rfl
  have hnow : (s.newEpoch e).now = s.now := rfl
  rw [State.epoch, hrec, hnow, EpochRec.at_of_past hlast, hval, State.epoch, EpochRec.at_of_past (by omega)]

/-- What the spare's loom begins with: nothing of the failed slot (R22). -/
def LoomSt.onSpare (n : Nat) (l : LoomSt) : LoomSt :=
  { l.lose n [] with fg := {}, bg := {}, bgReady := false, accs := [], pending := [] }

/-- A site whose row spare stands for a position (R22). -/
def Site.spareAt (c : Site) (row pos : Nat) : Site := { c with spareFor := Tab.set none c.spareFor row (some pos) }

theorem Site.spareFor_spareAt (c : Site) (row pos : Nat) : Tab.get none (c.spareAt row pos).spareFor row = some pos :=
  Tab.get_set_self none c.spareFor row (some pos)

/-- The spare stands at the position, under a new epoch, in a new map (R22, R28). -/
def State.placeSpare (s : State) (x : Slot) (n : Nat) : State :=
  ((s.updSite x.tile.val (fun c => c.spareAt x.row.val x.pos.val)).newEpoch (loomEndpoint n 0)).mapChanged

theorem Changes.newEpoch (s : State) (e : Nat) : Changes s (s.newEpoch e) [.epochs] := by
  intro q hq
  cases q
  case epochs => exact absurd (by decide) hq
  all_goals rfl

theorem Changes.mapChanged (s : State) : Changes s s.mapChanged [.led] := Changes.setCell s _ _ _

theorem State.placeSpare_changes (s : State) (x : Slot) (n : Nat) : Changes s (s.placeSpare x n) [.sites, .epochs, .led] := by
  have hsite := Changes.updSite s x.tile.val (fun c => c.spareAt x.row.val x.pos.val)
  unfold State.placeSpare
  generalize s.updSite x.tile.val (fun c => c.spareAt x.row.val x.pos.val) = u at hsite
  exact (hsite.mono (by decide)).trans
    (((Changes.newEpoch u _).mono (by decide)).trans ((Changes.mapChanged _).mono (by decide)))

theorem State.useSpare_eq (s : State) (x : Slot) (n event : Nat) :
    s.useSpare x n event = ((((s.placeSpare x n).logDefect 1 x.tile.val (x.row.val * 8 + x.pos.val) 0xFF event).raise
      0x7111 0xFF [x.code]).updLoom n (LoomSt.onSpare n)) := rfl

/-- ROW_SPARE_REPLACE (R22): the spare has the position, the loom a new epoch, the map a new generation, and E-7111 says so. -/
theorem State.useSpare_spec {s : State} {x : Slot} {n event : Nat} (hroom : s.defects.length < 256)
    (hepoch : s.epochFree (loomEndpoint n 0) = true) :
    Tab.get none ((s.useSpare x n event).site x.tile.val).spareFor x.row.val = some x.pos.val ∧
      (s.useSpare x n event).epoch (loomEndpoint n 0) = nextEpoch (s.epoch (loomEndpoint n 0)) ∧
      (s.useSpare x n event).cell 0x7021 1 = (s.cell 0x7021 1 + 1) % 2 ^ 32 ∧
      (∀ t es, Raises t s es → es.length < 1024 → Raises t (s.useSpare x n event) (es ++ [(0x7111, 0xFF, [x.code])])) ∧
      SameBut [x.tile.val] s.site (s.useSpare x n event).site ∧ SameBut [n] s.loom (s.useSpare x n event).loom ∧
      CellsBut [(0x7021, 1)] s (s.useSpare x n event) ∧
      Changes s (s.useSpare x n event) (.sites :: .epochs :: .led :: .looms :: .defects :: Part.report) := by
  have hsite (u : Nat) : (s.placeSpare x n).site u =
      if x.tile.val = u then (s.site u).spareAt x.row.val x.pos.val else s.site u :=
    State.site_updSite s x.tile.val u (fun c => c.spareAt x.row.val x.pos.val)
  have hep : (s.placeSpare x n).epoch (loomEndpoint n 0) = nextEpoch (s.epoch (loomEndpoint n 0)) := State.epoch_newEpoch (s :=
    s.updSite x.tile.val (fun c => c.spareAt x.row.val x.pos.val)) hepoch
  have hcell (i j : Nat) (hj : j < 256) : (s.placeSpare x n).cell i j =
      if 0x7021 = i ∧ 1 = j then (s.cell 0x7021 1 + 1) % 2 ^ 32 else s.cell i j := State.cell_setCell _ _ _ _ i j (by decide) hj
  have hpl := s.placeSpare_changes x n
  rw [State.useSpare_eq]
  generalize s.placeSpare x n = v at *
  have hlog := State.logDefect_changes (s := v) (by rw [hpl .defects (by decide)]; exact hroom) 1 x.tile.val
    (x.row.val * 8 + x.pos.val) 0xFF event
  generalize v.logDefect 1 x.tile.val (x.row.val * 8 + x.pos.val) 0xFF event = d at *
  have hr := Changes.raise d 0x7111 0xFF [x.code]
  have hl := Changes.updLoom (d.raise 0x7111 0xFF [x.code]) n (LoomSt.onSpare n)
  have hvt : Changes v ((d.raise 0x7111 0xFF [x.code]).updLoom n (LoomSt.onSpare n)) (.looms :: .defects :: Part.report) :=
    ((hlog.mono (by decide)).trans (hr.mono (by decide))).trans (hl.mono (by decide))
  have hvsite : ((d.raise 0x7111 0xFF [x.code]).updLoom n (LoomSt.onSpare n)).site = v.site := funext fun u => by
    rw [State.site, hvt .sites (by decide), State.site]
  have hvled := hvt .led (by decide)
  refine ⟨?_, ?_, ?_, fun t es he hn => ?_, fun u hu => ?_, fun m hm => ?_, fun i j hj hn => ?_,
    (hpl.mono (by decide)).trans (hvt.mono (by decide))⟩
  · rw [hvsite, hsite, if_pos rfl, Site.spareFor_spareAt]
  · rw [← hep, State.epoch, State.epoch, State.epochRec, State.epochRec, hvt .epochs (by decide), hvt .now (by decide)]
  · rw [State.cell_of_led hvled, hcell _ _ (by decide), if_pos ⟨rfl, rfl⟩]
  · refine ((he.congr ?_ ?_).raise hn 0x7111 0xFF [x.code]).congr rfl rfl
    · exact (hlog .ev (by decide)).trans (hpl .ev (by decide))
    · exact (hlog .now (by decide)).trans (hpl .now (by decide))
  · rw [hvsite, hsite, if_neg (fun e => hu (by simp [e]))]
  · rw [State.loom_updLoom, if_neg (fun e => hm (by simp [e])), State.loom, hr .looms (by decide), hlog .looms (by decide),
      hpl .looms (by decide), State.loom]
  · rw [State.cell_of_led hvled, hcell i j hj, if_neg (by simpa [and_comm, eq_comm] using hn)]

/-! ### A mismatch -/

theorem State.mismatch_changes (s : State) (p : Nat) (x : Sample) : Changes s (s.mismatch p x) (.led :: .samples :: Part.report) :=
  ((((s.compared_changes x).mono (by decide)).trans ((Changes.bump _ _ _ _ _).mono (by decide))).trans
    ((Changes.setCell _ _ _ _).mono (by decide))).trans ((Changes.raise _ _ _ _).mono (by decide))

/-- The counters, 9220:03, and E-9201 (R121, R131). -/
theorem State.mismatch_spec (s : State) (p : Nat) (x : Sample) :
    (s.mismatch p x).cell 0x9220 1 = satAdd 64 (s.cell 0x9220 1) 1 ∧ (s.mismatch p x).cell 0x9220 2 = satAdd 32 (s.cell 0x9220 2) 1 ∧
      (s.mismatch p x).cell 0x9220 3 = slotCode x.slot ∧ CellsBut [(0x9220, 1), (0x9220, 2), (0x9220, 3)] s (s.mismatch p x) ∧
      Raises s (s.mismatch p x) [(0x9201, p, [slotCode x.slot, p, x.step])] := by
  have hcell (i j : Nat) (hj : j < 256) : (s.mismatch p x).cell i j =
      if 0x9220 = i ∧ 3 = j then slotCode x.slot else if 0x9220 = i ∧ 2 = j then satAdd 32 (s.cell 0x9220 2) 1
      else if 0x9220 = i ∧ 1 = j then satAdd 64 (s.cell 0x9220 1) 1 else s.cell i j := by
    rw [State.mismatch, State.cell_raise, State.cell_setCell _ _ _ _ _ _ (by decide) hj, State.bump,
      State.cell_setCell _ _ _ _ _ _ (by decide) hj, State.cell_compared s x i j hj, State.cell_compared s x _ _ (by decide)]
    rfl
  refine ⟨hcell _ _ (by decide), hcell _ _ (by decide), hcell _ _ (by decide), fun i j hj hn => ?_, Raises.one ?_ _ _ _⟩
  · rw [hcell i j hj, if_neg, if_neg, if_neg] <;> rintro ⟨rfl, rfl⟩ <;> simp at hn
  · rfl

/-- What has been counted does not change which loom a slot serves. -/
theorem State.mismatch_parts (s : State) (p : Nat) (x : Sample) :
    (s.mismatch p x).site = s.site ∧ (s.mismatch p x).loom = s.loom ∧ (s.mismatch p x).stepAt = s.stepAt := by
  have h := s.mismatch_changes p x
  exact ⟨funext fun u => by rw [State.site, h .sites (by decide), State.site],
    funext fun n => by rw [State.loom, h .looms (by decide), State.loom],
    funext fun i => by rw [State.stepAt, h .steps (by decide), State.stepAt]⟩

section Differ

variable {s : State} {tile : Phys} {p : PlotId} {flip : Bool} {x : Sample}
  (hx : s.nextSample tile.val p.val Sample.forInt = some x) (ha : x.agrees = false)

include hx ha

/-- A slot that serves no loom any more is only reported (R121). -/
theorem assayCheck_reports (hl : s.loomAt (slotOfKey x.slot) = none) (hh : x.hold = false) :
    ∃ t, exec (.assayCheck tile p flip) s = .next t ∧ t.cell 0x9220 1 = satAdd 64 (s.cell 0x9220 1) 1 ∧
      t.cell 0x9220 2 = satAdd 32 (s.cell 0x9220 2) 1 ∧ t.cell 0x9220 3 = slotCode x.slot ∧
      Raises s t [(0x9201, p.val, [slotCode x.slot, p.val, x.step])] ∧
      CellsBut [(0x9220, 1), (0x9220, 2), (0x9220, 3)] s t ∧ Changes s t (.led :: .samples :: Part.report) := by
  obtain ⟨hsite, -⟩ := s.mismatch_parts p.val x
  obtain ⟨h1, h2, h3, hcells, hraise⟩ := s.mismatch_spec p.val x
  rw [exec_assayCheck_differs hx ha, if_neg (by simp [hh]), State.failSlot_of_none (by rw [State.loomAt_of_site hsite, hl])]
  exact ⟨_, rfl, h1, h2, h3, hraise, hcells, s.mismatch_changes p.val x⟩

/-- A step whose commit was held for the check is discarded for its re-run (R122). -/
theorem assayCheck_discards {z : Step} (hl : s.loomAt (slotOfKey x.slot) = none) (hh : x.hold = true) (hz : s.stepAt x.step = some z) :
    ∃ t y, exec (.assayCheck tile p flip) s = .next t ∧ t.stepAt x.step = some y ∧ y.st = .discarded ∧
      t.cell 0x9220 2 = satAdd 32 (s.cell 0x9220 2) 1 ∧ Raises s t [(0x9201, p.val, [slotCode x.slot, p.val, x.step])] ∧
      SameBut [x.step] s.stepAt t.stepAt ∧ CellsBut [(0x9220, 1), (0x9220, 2), (0x9220, 3)] s t ∧ Changes s t Part.work := by
  obtain ⟨hsite, -, hstep⟩ := s.mismatch_parts p.val x
  obtain ⟨-, h2, -, hcells, hraise⟩ := s.mismatch_spec p.val x
  have hch := s.mismatch_changes p.val x
  rw [exec_assayCheck_differs hx ha, if_pos hh, State.failSlot_of_none (by rw [State.loomAt_of_site hsite, hl])]
  generalize s.mismatch p.val x = v at *
  have hd := v.discard_changes x.step
  have hled := hd .led (by decide)
  refine ⟨_, z.discarded, rfl, ?_, rfl, (State.cell_of_led hled _ _).trans h2, hraise.congr (hd .ev (by decide)) (hd .now (by decide)),
    fun i hi => ?_, hcells.trans (CellsBut.of_led hled), (hch.mono (by decide)).trans (hd.mono (by decide))⟩
  · rw [State.stepAt_discard, if_pos rfl, hstep, hz]
    rfl
  · rw [State.stepAt_discard, if_neg (fun e => hi (by simp [e])), hstep]

/-- The spare of its row takes over the position of a loom that has failed (R22, R121). -/
theorem assayCheck_spares {n : Nat} (hl : s.loomAt (slotOfKey x.slot) = some n) (hh : x.hold = false)
    (hfree : Tab.get none (s.site (slotOfKey x.slot).tile.val).spareFor (slotOfKey x.slot).row.val = none)
    (hsound : Tab.get false (s.site (slotOfKey x.slot).tile.val).spareBad (slotOfKey x.slot).row.val = false)
    (hepoch : s.epochFree (loomEndpoint n 0) = true) (hstep : (s.loom n).step = none) (hlapse : s.lapseOf none = none)
    (hroom : s.defects.length < 256) :
    ∃ t, exec (.assayCheck tile p flip) s = .next t ∧
      Tab.get none (t.site (slotOfKey x.slot).tile.val).spareFor (slotOfKey x.slot).row.val = some (slotOfKey x.slot).pos.val ∧
      t.epoch (loomEndpoint n 0) = nextEpoch (s.epoch (loomEndpoint n 0)) ∧ t.cell 0x7021 1 = (s.cell 0x7021 1 + 1) % 2 ^ 32 ∧
      Raises s t [(0x9201, p.val, [slotCode x.slot, p.val, x.step]), (0x7111, 0xFF, [(slotOfKey x.slot).code])] ∧
      SameBut [(slotOfKey x.slot).tile.val] s.site t.site ∧ SameBut [n] s.loom t.loom ∧
      CellsBut [(0x9220, 1), (0x9220, 2), (0x9220, 3), (0x7021, 1)] s t ∧
      Changes s t (.led :: .samples :: .sites :: .epochs :: .looms :: .defects :: Part.report) := by
  obtain ⟨hsite, hloom, -⟩ := s.mismatch_parts p.val x
  obtain ⟨-, -, -, hcells, hraise⟩ := s.mismatch_spec p.val x
  have hch := s.mismatch_changes p.val x
  rw [exec_assayCheck_differs hx ha, if_neg (by simp [hh])]
  generalize s.mismatch p.val x = v at *
  have hep : v.epochRec (loomEndpoint n 0) = s.epochRec (loomEndpoint n 0) := by
    rw [State.epochRec, hch .epochs (by decide), State.epochRec]
  have hnow := hch .now (by decide)
  have hv : v.lapseOf none = none := by
    rw [State.lapseOf, hch .power (by decide), hch .procs (by decide), hcells 0x4050 4 (by decide) (by decide), ← State.lapseOf, hlapse]
  rw [State.failSlot_of_spare (n := n) (by rw [State.loomAt_of_site hsite, hl]) (by rw [hsite, hfree]) (by rw [hsite, hsound])
    (by rw [hloom, hstep]) hv]
  obtain ⟨hspare, hepoch', hmap, hraise', hsites, hlooms, hcells', hch'⟩ := State.useSpare_spec (x := slotOfKey x.slot) (event := 0x9201)
    (by rw [hch .defects (by decide)]; exact hroom) (by rw [State.epochFree, hep, hnow, ← State.epochFree, hepoch])
  refine ⟨_, rfl, hspare, ?_, ?_, hraise' s _ hraise (by simp), hsite ▸ hsites, hloom ▸ hlooms, ?_,
    (hch.mono (by decide)).trans (hch'.mono (by decide))⟩
  · rw [hepoch', State.epoch, hep, hnow, State.epoch]
  · rw [hmap, hcells _ _ (by decide) (by decide)]
  · exact (hcells.mono (by decide)).trans (hcells'.mono (by decide))

end Differ

end Sys2Proof.Machine

open Sys2Proof Sys2Proof.Machine

/-- Settles O19: agreement, an Assayer at fault, and a slot at fault with its three ends. -/
theorem assayerCompares : Obligations.AssayerCompares := by
  intro s tile p flip x hx
  refine ⟨fun ha hf => hf ▸ assayCheck_passes hx ha, fun ha hf hroom => hf ▸ assayCheck_assayer_fails hx ha hroom,
    fun ha hl => ⟨fun hh => assayCheck_reports hx ha hl hh, fun z hh hz => assayCheck_discards hx ha hl hh hz⟩,
    fun n ha hl hh hfree hsound hepoch hstep hlapse hroom =>
      assayCheck_spares hx ha hl hh hfree hsound hepoch hstep hlapse hroom⟩
end

section
/-! PROOFS. FULL (R88, R112, R113, R136, R191, R218): the statement O15. -/

namespace Sys2Proof.Machine

/-! ### Parity bits that are spoiled change nothing that a program asks about the state -/

@[simp] theorem State.attnPages_upsets (s : State) (n : Nat) (ws : List BenchWord) (p m : Nat) (q : Query) :
    (s.upsets n ws).attnPages p m q = s.attnPages p m q := by
  unfold State.upsets
  split <;> rfl

@[simp] theorem State.appendPlace_upsets (s : State) (n : Nat) (ws : List BenchWord) (p m layer request u : Nat) :
    (s.upsets n ws).appendPlace p m layer request u = s.appendPlace p m layer request u := by
  unfold State.upsets
  split <;> rfl

@[simp] theorem State.fullReads_upsets (s : State) (n : Nat) (ws : List BenchWord) (p m : Nat) (op : FullOp) :
    (s.upsets n ws).fullReads p m op = s.fullReads p m op := by
  simp only [State.fullReads, State.attnPages_upsets]

@[simp] theorem State.fullLegal_upsets (s : State) (n : Nat) (ws : List BenchWord) (p m : Nat) (op : FullOp) :
    (s.upsets n ws).fullLegal p m op = s.fullLegal p m op := by
  unfold State.fullLegal
  cases op <;> simp only [State.appendPlace_upsets, State.attnPages_upsets]

@[simp] theorem State.fullAstray_upsets (s : State) (n : Nat) (ws : List BenchWord) (p m : Nat) (op : FullOp) :
    (s.upsets n ws).fullAstray p m op = s.fullAstray p m op := by
  unfold State.fullAstray
  cases op <;> simp only [State.appendPlace_upsets, State.attnPages_upsets]

@[simp] theorem State.appendDone_upsets (s : State) (n : Nat) (ws : List BenchWord) (p m request position : Nat) :
    (s.upsets n ws).appendDone p m request position = s.appendDone p m request position := by
  have hstep : ((s.upsets n ws).loom m).step = (s.loom m).step := by
    rw [State.loom_upsets]
    split <;> rfl
  by_cases h : ws = []
  · rw [State.upsets, if_pos h]
  · rw [State.upsets, if_neg h] at hstep ⊢
    unfold State.appendDone
    rw [hstep]
    rfl

@[simp] theorem State.attnWaits_upsets (s : State) (n : Nat) (ws : List BenchWord) (p m : Nat) (q : Query) :
    (s.upsets n ws).attnWaits p m q = s.attnWaits p m q := by
  have hreq : (s.upsets n ws).findReq p q.request.toNat = s.findReq p q.request.toNat := by
    unfold State.upsets
    split <;> rfl
  have hob : (s.upsets n ws).obAt = s.obAt := by
    unfold State.upsets
    split <;> rfl
  unfold State.attnWaits
  simp only [State.attnPages_upsets, hreq, hob, State.appendDone_upsets]

/-! ### A message of VC2 or VC3 enters the fabric -/

/-- Nothing but the fabric differs. -/
def InFabric (s t : State) : Prop := ∃ f, t = { s with fabric := f }

theorem InFabric.refl (s : State) : InFabric s s := ⟨s.fabric, rfl⟩

theorem InFabric.trans {s t u : State} (h : InFabric s t) (h' : InFabric t u) : InFabric s u := by
  obtain ⟨f, rfl⟩ := h
  obtain ⟨g, rfl⟩ := h'
  exact ⟨g, rfl⟩

theorem State.release_inFabric (s : State) (m : Transit) : InFabric s (s.release m) := by
  unfold State.release
  split
  · exact .refl s
  · exact ⟨_, rfl⟩

theorem State.leave_inFabric (s : State) (m : Transit) : InFabric s ((s.release m).deliver m.msg) :=
  (s.release_inFabric m).trans ⟨_, rfl⟩

theorem State.enqueue_inFabric (s : State) (t e : Nat) {m : Transit} (h : 2 ≤ m.msg.cls.val) : InFabric s (s.enqueue t e m) := by
  rw [State.enqueue, if_neg (by omega)]
  exact ⟨_, rfl⟩

theorem State.dimension_inFabric (s : State) (t aim goal : Nat) {m : Transit} (h : 2 ≤ m.msg.cls.val) :
    InFabric s (s.dimension t aim goal m) := by
  unfold State.dimension
  split
  · exact s.enqueue_inFabric t _ h
  · split
    · exact s.enqueue_inFabric t _ h
    · exact s.leave_inFabric m

/-- On a dimension-ordered route no message takes a compiler route or counts as fallen back (R189). -/
theorem State.placeTile_inFabric (s : State) (t goal : Nat) {m : Transit} (h : 2 ≤ m.msg.cls.val) (hset : m.set ≠ 0) :
    InFabric s (s.placeTile t goal m) := by
  unfold State.placeTile
  split
  · exact s.release_inFabric m
  · rw [if_neg hset]
    refine s.dimension_inFabric t _ goal ?_
    split <;> exact h

theorem State.place_inFabric (s : State) (t : Nat) {m : Transit} (h : 2 ≤ m.msg.cls.val) (hset : m.set ≠ 0) :
    InFabric s (s.place t m) := by
  unfold State.place
  split
  · exact s.release_inFabric m
  · split
    · exact s.leave_inFabric m
    · split
      · exact s.enqueue_inFabric t _ h
      · exact s.placeTile_inFabric t _ h hset

/-- The sets of dimension-ordered routes are 1 and 2; 0 is the compiler's (R36, R39). -/
theorem State.startOrder_ne_zero (s : State) (src dst : Nat) : (s.startOrder src dst).1 ≠ 0 := by
  have ho : orderSet src dst ≠ 0 := by
    unfold orderSet
    split <;> decide
  unfold State.startOrder
  dsimp only
  split
  · exact ho
  · split
    · split
      · decide
      · split
        · exact Nat.one_ne_zero
        · exact ho
    · exact ho

theorem State.startSet_ne_zero (s : State) (t g cls : Nat) : (s.startSet t g cls).1 ≠ 0 := by
  unfold State.startSet
  split
  · decide
  · split
    · exact s.startOrder_ne_zero _ _
    · decide

/-- A VC2 or VC3 message that is sent changes the fabric at most (R34, R47). -/
theorem State.inject_inFabric (s : State) {m : Msg} (h : 2 ≤ m.cls.val) : InFabric s (s.inject m) := by
  unfold State.inject
  split
  · exact ⟨_, rfl⟩
  · split
    next t g _ _ =>
      split
      · exact ⟨_, rfl⟩
      · rw [if_neg (by omega)]
        exact s.place_inFabric t h (s.startSet_ne_zero t g _)
    · exact .refl s

/-! ### What a program stores -/

/-- Pieces stored one after another. -/
def LoomSt.stores (l : LoomSt) (es : List (Nat × List Byte)) : LoomSt := es.foldl (fun x e => x.store e.1 e.2) l

/-- Stores change the Bench, with its parity, and nothing else of the loom (R134). -/
theorem LoomSt.stores_eq (l : LoomSt) (es : List (Nat × List Byte)) :
    ∃ b w, l.stores es = { l with bench := b, badWords := w } := by
  induction es generalizing l with
  | nil => exact ⟨l.bench, l.badWords, rfl⟩
  | cons e es ih =>
    obtain ⟨b, w, h⟩ := ih (l.store e.1 e.2)
    exact ⟨b, w, h⟩

theorem LoomSt.stores_fields (l : LoomSt) (es : List (Nat × List Byte)) :
    (l.stores es).fg = l.fg ∧ (l.stores es).bg = l.bg ∧ (l.stores es).accs = l.accs ∧ (l.stores es).ip = l.ip := by
  obtain ⟨b, w, h⟩ := l.stores_eq es
  rw [h]
  exact ⟨rfl, rfl, rfl, rfl⟩

/-- What is stored does not depend on the loom's registers. -/
theorem LoomSt.stores_congr {l m : LoomSt} (hv : l.void = m.void) (hb : l.bench = m.bench) (es : List (Nat × List Byte)) :
    (l.stores es).void = (m.stores es).void ∧ (l.stores es).bench = (m.stores es).bench := by
  induction es generalizing l m with
  | nil => exact ⟨hv, hb⟩
  | cons e es ih =>
    refine ih (l := l.store e.1 e.2) (m := m.store e.1 e.2) hv ?_
    rw [LoomSt.store, LoomSt.store, hb, overBlank_congr hv]

/-- A byte outside every piece reads as before. -/
theorem LoomSt.byte_stores (l : LoomSt) (es : List (Nat × List Byte)) (a : Nat)
    (h : ∀ e ∈ es, ¬ (e.1 ≤ a ∧ a < e.1 + e.2.length)) : (l.stores es).bytes a 1 = l.bytes a 1 := by
  induction es generalizing l with
  | nil => rfl
  | cons e es ih =>
    have he := h e List.mem_cons_self
    exact (ih (l.store e.1 e.2) (fun e' he' => h e' (List.mem_cons_of_mem e he'))).trans
      (byte_store l e.1 a e.2 (by omega))

/-- Without a fault the partials are those of the accumulators (R112). -/
theorem LoomSt.parts_sound (l : LoomSt) : l.parts [] = l.accs.map Acc.partial_ := by
  simp [LoomSt.parts, spoilParts]

/-- Bytes are stored as they would be with the parity bits unspoiled (R134). -/
theorem LoomSt.bytes_stores_upset (l : LoomSt) (ws : List BenchWord) (es : List (Nat × List Byte)) :
    ((l.upset ws).stores es).bytes = (l.stores es).bytes := by
  obtain ⟨hvoid, hbench⟩ := LoomSt.stores_congr (l := l.upset ws) (m := l) rfl rfl es
  exact LoomSt.bytes_congr hvoid hbench

/-! ### FULL -/

/-- A refused access halts looms at most (R137). -/
theorem State.partFault_keepsProgress (s : State) (p : Nat) : KeepsProgress s (s.partFault p) :=
  KeepsProgress.trans (.of_looms rfl) (State.faultPlot_keepsProgress _ p _)

/-- The Assayer's copies change what samples hold, not how many there are (R118). -/
theorem State.copyFull_eq (s : State) (id n : Nat) (l : LoomSt) (wrong : List (Nat × U32)) (op : FullOp) :
    ∃ v, v.length = s.samples.length ∧ s.copyFull id n l wrong op = { s with samples := v } := by
  cases op
  case partials | reduce => exact ⟨_, List.length_map _, rfl⟩
  all_goals exact ⟨s.samples, rfl, rfl⟩

/-- What a program of the Fuller counts, and lets the Assayer copy (R118, R131). -/
def State.fullCounts (s : State) (id n : Nat) (wrong : List (Nat × U32)) (op : FullOp) (w : Written) : State :=
  ((s.count9210 4 w.2.1).count9210 3 w.2.2).copyFull id n (s.loom n) wrong op

/-- What a program of the Fuller does once it may run: counts, its message, and its stores. -/
def State.runFull (s : State) (p id n : Nat) (wrong : List (Nat × U32)) (op : FullOp) (w : Written) : State :=
  ((s.fullCounts id n wrong op w).sendAppend p n (s.loom n) op).advanceWith n (fun x => x.stores w.1)

theorem State.fabric_advanceWith (s : State) (n : Nat) (f : LoomSt → LoomSt) : (s.advanceWith n f).fabric = s.fabric := rfl

theorem State.count9210_eq (s : State) (j k : Nat) : ∃ x, s.count9210 j k = { s with led := x } := by
  unfold State.count9210
  split
  · exact ⟨s.led, rfl⟩
  · exact ⟨_, rfl⟩

/-- Counters and samples are all that differs, and there are as many samples. -/
theorem State.fullCounts_eq (s : State) (id n : Nat) (wrong : List (Nat × U32)) (op : FullOp) (w : Written) :
    ∃ x v, v.length = s.samples.length ∧ s.fullCounts id n wrong op w = { s with led := x, samples := v } ∧
      CellsBut [(0x9210, 3), (0x9210, 4)] s { s with led := x, samples := v } := by
  have hc : WithinLoom [(0x9210, 3), (0x9210, 4)] n s ((s.count9210 4 w.2.1).count9210 3 w.2.2) :=
    (WithinLoom.count9210 (by decide) (by decide) n s _).trans (.count9210 (by decide) (by decide) n _ _)
  obtain ⟨x, hx⟩ : ∃ x, (s.count9210 4 w.2.1).count9210 3 w.2.2 = { s with led := x } := by
    obtain ⟨x, hx⟩ := s.count9210_eq 4 w.2.1
    obtain ⟨y, hy⟩ := ({ s with led := x } : State).count9210_eq 3 w.2.2
    exact ⟨y, by rw [hx, hy]⟩
  rw [hx] at hc
  obtain ⟨v, hlen, hv⟩ := ({ s with led := x } : State).copyFull_eq id n (s.loom n) wrong op
  obtain ⟨-, hcells, -⟩ := hc
  exact ⟨x, v, hlen, by rw [State.fullCounts, hx, hv], hcells⟩

/-- An append is a VC2 message (R218). -/
theorem State.sendAppend_inFabric (s : State) (p n : Nat) (l : LoomSt) (op : FullOp) : InFabric s (s.sendAppend p n l op) := by
  cases op
  case kvAppend v m layer r u kv h =>
    unfold State.sendAppend
    dsimp only
    split
    · exact .refl s
    · split
      · exact .refl s
      · exact s.inject_inFabric (le_refl 2)
  all_goals exact .refl s

/-- No other program sends one. -/
theorem State.sendAppend_of_other (s : State) (p n : Nat) (l : LoomSt) {op : FullOp}
    (h : ∀ v m layer r pos kv k, op ≠ .kvAppend v m layer r pos kv k) : s.sendAppend p n l op = s := by
  cases op
  case kvAppend v m layer r u kv k => exact absurd rfl (h v m layer r u kv k)
  all_goals rfl

theorem State.sendAppend_of_place {s : State} {p n : Nat} {l : LoomSt} {v : Vec} {m : Fin 16} {layer : BitVec 7} {r : U32}
    {pos : BitVec 24} {kv : Fin 2} {h : BitVec 6} {x : Pool × Nat} {t : Nat}
    (hx : s.appendPlace p m.val layer.toNat r.toNat pos.toNat = some x) (ht : s.physOf x.2 = some t) :
    s.sendAppend p n l (.kvAppend v m layer r pos kv h) = s.inject (s.vc2 (loomEndpoint n 2) (ctrl t) p 2
      (appendRef m.val layer.toNat r.toNat pos.toNat kv.val h.toNat)
      ((blocksAt x.1.kvFormat.toNat x.1.scales.toNat 0 0 (kvBlocks x.1 (l.vec v))).1.flatMap Prod.snd)) := by
  simp only [State.sendAppend, hx, ht]

/-- The loom that has run a program: the pieces are stored, and it goes on. -/
theorem State.loom_runFull (s : State) (p id n : Nat) (wrong : List (Nat × U32)) (op : FullOp) (w : Written) (m : Nat) :
    (s.runFull p id n wrong op w).loom m =
      if n = m then { (s.loom m).stores w.1 with ip := (s.loom m).ip + 1, stall := none } else s.loom m := by
  obtain ⟨x, v, -, hv, -⟩ := s.fullCounts_eq id n wrong op w
  obtain ⟨f, hf⟩ := ({ s with led := x, samples := v } : State).sendAppend_inFabric p n (s.loom n) op
  rw [State.runFull, hv, hf, State.advanceWith, State.advance, State.loom_updLoom, State.loom_updLoom]
  split
  · obtain ⟨-, -, -, hip⟩ := (s.loom m).stores_fields w.1
    rw [← hip]
    rfl
  · rfl

/-- Fabric, counters, samples and the loom are all that differs. -/
theorem State.runFull_frame (s : State) (p id n : Nat) (wrong : List (Nat × U32)) (op : FullOp) (w : Written) :
    (s.runFull p id n wrong op w).samples.length = s.samples.length ∧
      CellsBut [(0x9210, 3), (0x9210, 4)] s (s.runFull p id n wrong op w) ∧
      Changes s (s.runFull p id n wrong op w) [.led, .looms, .samples, .fabric] := by
  obtain ⟨x, v, hlen, hv, hcells⟩ := s.fullCounts_eq id n wrong op w
  obtain ⟨f, hf⟩ := ({ s with led := x, samples := v } : State).sendAppend_inFabric p n (s.loom n) op
  rw [State.runFull, hv, hf]
  refine ⟨hlen, hcells.trans (CellsBut.of_led rfl), fun q hq => ?_⟩
  cases q
  case led | looms | samples | fabric => exact absurd (by decide) hq
  all_goals rfl

/-- A program that appends nothing leaves the fabric alone. -/
theorem State.fabric_runFull_of_other (s : State) (p id n : Nat) (wrong : List (Nat × U32)) {op : FullOp} (w : Written)
    (h : ∀ v m layer r pos kv k, op ≠ .kvAppend v m layer r pos kv k) : (s.runFull p id n wrong op w).fabric = s.fabric := by
  obtain ⟨x, v, -, hv, -⟩ := s.fullCounts_eq id n wrong op w
  rw [State.runFull, hv, State.sendAppend_of_other _ _ _ _ h]
  rfl

/-- An append sends its codes to the Cellar controller of its portion's tile (R218). -/
theorem State.fabric_runFull_of_append (s : State) (p id n : Nat) (wrong : List (Nat × U32)) (w : Written) (v : Vec) (m : Fin 16)
    (layer : BitVec 7) (r : U32) (pos : BitVec 24) (kv : Fin 2) (h : BitVec 6) {x : Pool × Nat} {t : Nat}
    (hx : s.appendPlace p m.val layer.toNat r.toNat pos.toNat = some x) (ht : s.physOf x.2 = some t) :
    ∃ v0 : State, v0.fabric = s.fabric ∧ (s.runFull p id n wrong (.kvAppend v m layer r pos kv h) w).fabric =
      (v0.inject (s.vc2 (loomEndpoint n 2) (ctrl t) p 2 (appendRef m.val layer.toNat r.toNat pos.toNat kv.val h.toNat)
        ((blocksAt x.1.kvFormat.toNat x.1.scales.toNat 0 0 (kvBlocks x.1 ((s.loom n).vec v))).1.flatMap Prod.snd))).fabric := by
  obtain ⟨c, z, -, hz, -⟩ := s.fullCounts_eq id n wrong (.kvAppend v m layer r pos kv h) w
  refine ⟨{ s with led := c, samples := z }, rfl, ?_⟩
  have hsend := State.sendAppend_of_place (s := { s with led := c, samples := z }) (n := n) (l := s.loom n) (v := v) (kv := kv)
    (h := h) hx ht
  rw [State.runFull, hz, State.fabric_advanceWith]
  exact congrArg State.fabric hsend

section Full

variable {s u : State} {l : Loom} {p id : Nat} {op : FullOp} {up : List BenchWord} {wrong : List (Nat × U32)} {w : Written}

/-- A program with a format that cannot stand there faults the plot (R89, R90). -/
theorem exec_full_illegal (hu : u = s.upsets l.n up) (hr : Runs u l 4 p id) (hlegal : u.fullLegal p l.n op = false) :
    exec (.full l ⟨op, up, wrong⟩) s = .next (u.badFormat p) := by
  change execFull l ⟨op, up, wrong⟩ s = _
  rw [execFull, ← hu, State.seq_of_runs hr (by decide) (by decide)]
  exact congrArg _ (if_pos hlegal)

section May

variable (hlegal : u.fullLegal p l.n op = true) (hplace : u.fullAstray p l.n op = false)
  (hseen : (FullOp_query op).any (fun q => u.attnWaits p l.n q) = false)

include hlegal hplace hseen

/-- An access that the split refuses faults the plot (R137). -/
theorem exec_full_refused (hu : u = s.upsets l.n up) (hr : Runs u l 4 p id) (hw : w = fullWrites u p id l.n (u.loom l.n) wrong op)
    (hsplit : (u.fullReads p l.n op).any (fun r => !u.partOk p .fuller 0 r.1 r.2) = true ∨
      w.1.any (fun e => !u.partOk p (FullOp_writer op) 0 e.1 e.2.length) = true) :
    exec (.full l ⟨op, up, wrong⟩) s = .next (u.partFault p) := by
  change execFull l ⟨op, up, wrong⟩ s = _
  rw [execFull, ← hu, State.seq_of_runs hr (by decide) (by decide)]
  dsimp only
  rw [if_neg (by simp [hlegal]), if_neg (by simp [hplace]), if_neg (by simp [hseen]), ← hw, if_pos hsplit]

/-- A program whose accesses the split permits, once the lines it reads are filled (R134, R199). -/
theorem exec_full_filled (hu : u = s.upsets l.n up) (hr : Runs u l 4 p id) (hw : w = fullWrites u p id l.n (u.loom l.n) wrong op)
    (hreads : (u.fullReads p l.n op).any (fun r => !u.partOk p .fuller 0 r.1 r.2) = false)
    (hwrites : w.1.any (fun e => !u.partOk p (FullOp_writer op) 0 e.1 e.2.length) = false)
    (hfill : BenchFilled u l (u.fullReads p l.n op)) :
    exec (.full l ⟨op, up, wrong⟩) s = .next (if (u.loom l.n).parityBad (u.fullReads p l.n op) then u.benchParity l p id
      else if w.1.any (fun e => e.2 != [] &&
          (u.loom l.n).pendingIn (lineRange e.1 e.2.length).1 (lineRange e.1 e.2.length).2) then u.stallFor p l.n .serial (some 2)
      else u.runFull p id l.n wrong op w) := by
  change execFull l ⟨op, up, wrong⟩ s = _
  rw [execFull, ← hu, State.seq_of_runs hr (by decide) (by decide)]
  dsimp only
  rw [if_neg (by simp [hlegal]), if_neg (by simp [hplace]), if_neg (by simp [hseen]), ← hw,
    if_neg (by rw [hreads, hwrites]; decide), State.benchGate_of_filled hfill]
  rfl

end May

/-! ### What FULL does, told by the state before its words are marked -/

/-- A program that is not legal leaves the Bench as it was. -/
theorem full_illegal (hu : u = s.upsets l.n up) (hr : Runs u l 4 p id) (hlegal : u.fullLegal p l.n op = false)
    (hst : s.plotState p = 2) :
    ∃ t, exec (.full l ⟨op, up, wrong⟩) s = .next t ∧ t.plotState p = 5 ∧ (t.loom l.n).bytes = (s.loom l.n).bytes ∧
      Changes s t Part.work := by
  have hsu : Changes s u [.looms] := hu ▸ Changes.of_offLooms (s.upsets_offLooms l.n up)
  have hst' : u.plotState p = 2 := by rw [State.plotState, hu, State.cell_upsets]; exact hst
  obtain ⟨h5, hkeep, hch⟩ := State.badFormat_serving (State.lt_of_ownerOf hr.2.1) hst'
  obtain ⟨-, -, hbytes, -⟩ := (hu ▸ s.upsets_sameProgress l.n l.n up : (s.loom l.n).SameProgress (u.loom l.n)).trans (hkeep l.n)
  exact ⟨_, exec_full_illegal hu hr hlegal, h5, hbytes, (hsu.mono (by decide)).trans hch⟩

/-- A refused access is counted, and leaves the Bench as it was (R137). -/
theorem State.partFault_upsets (hu : u = s.upsets l.n up) (hp : p < 16) (hst : s.plotState p = 2) :
    (u.partFault p).plotState p = 5 ∧ (u.partFault p).cell (0x6100 + p) 6 = satAdd 32 (s.cell (0x6100 + p) 6) 1 ∧
      ((u.partFault p).loom l.n).bytes = (s.loom l.n).bytes ∧ Changes s (u.partFault p) Part.work := by
  have hsu : Changes s u [.looms] := hu ▸ Changes.of_offLooms (s.upsets_offLooms l.n up)
  have hst' : u.plotState p = 2 := by rw [State.plotState, hu, State.cell_upsets]; exact hst
  have hcell : u.cell (0x6100 + p) 6 = s.cell (0x6100 + p) 6 := by rw [hu, State.cell_upsets]
  obtain ⟨h5, hcount⟩ := State.partFault_serving hp hst'
  obtain ⟨-, -, hbytes, -⟩ := (hu ▸ s.upsets_sameProgress l.n l.n up : (s.loom l.n).SameProgress (u.loom l.n)).trans
    (u.partFault_keepsProgress p l.n)
  exact ⟨h5, hcell ▸ hcount, hbytes, (hsu.mono (by decide)).trans (Changes.of_fixed (u.partFault_inner p))⟩

/-- No line under the pieces waits to be filled. -/
theorem pieces_clear (hu : u = s.upsets l.n up)
    (hp : ∀ e ∈ w.1, e.2 ≠ [] → (s.loom l.n).pendingIn (lineRange e.1 e.2.length).1 (lineRange e.1 e.2.length).2 = false) :
    ¬ w.1.any (fun e => e.2 != [] &&
      (u.loom l.n).pendingIn (lineRange e.1 e.2.length).1 (lineRange e.1 e.2.length).2) = true := by
  have hlu : u.loom l.n = (s.loom l.n).upset up := by rw [hu, State.loom_upsets, if_pos rfl]
  rw [List.any_eq_true]
  rintro ⟨e, he, hbusy⟩
  rw [Bool.and_eq_true, bne_iff_ne, hlu] at hbusy
  exact Bool.false_ne_true ((hp e he hbusy.1).symm.trans hbusy.2)

/-- The loom that has run a program: its pieces stand in the Bench, its registers as before (R88). -/
theorem State.runFull_own (hu : u = s.upsets l.n up) :
    ((u.runFull p id l.n wrong op w).loom l.n).bytes = ((s.loom l.n).stores w.1).bytes ∧
      ((u.runFull p id l.n wrong op w).loom l.n).ip = (s.loom l.n).ip + 1 ∧
      ((u.runFull p id l.n wrong op w).loom l.n).stall = none ∧
      ((u.runFull p id l.n wrong op w).loom l.n).fg = (s.loom l.n).fg ∧
      ((u.runFull p id l.n wrong op w).loom l.n).bg = (s.loom l.n).bg ∧
      ((u.runFull p id l.n wrong op w).loom l.n).accs = (s.loom l.n).accs := by
  have hlu : u.loom l.n = (s.loom l.n).upset up := by rw [hu, State.loom_upsets, if_pos rfl]
  have hown : (u.runFull p id l.n wrong op w).loom l.n =
      { ((s.loom l.n).upset up).stores w.1 with ip := (s.loom l.n).ip + 1, stall := none } := by
    rw [State.loom_runFull, if_pos rfl, hlu]
    rfl
  obtain ⟨hfg, hbg, haccs, -⟩ := ((s.loom l.n).upset up).stores_fields w.1
  rw [hown, ← LoomSt.bytes_stores_upset _ up]
  exact ⟨LoomSt.bytes_congr rfl rfl, rfl, rfl, hfg, hbg, haccs⟩

/-- The message of an append is the one that the state before had to send (R218). -/
theorem State.runFull_append (hu : u = s.upsets l.n up) (w : Written) (v : Vec) (m : Fin 16) (layer : BitVec 7) (r : U32)
    (pos : BitVec 24) (kv : Fin 2) (h : BitVec 6) {x : Pool × Nat} {t0 : Nat}
    (hx : s.appendPlace p m.val layer.toNat r.toNat pos.toNat = some x) (ht : s.physOf x.2 = some t0) :
    ∃ v0 : State, v0.fabric = s.fabric ∧ (u.runFull p id l.n wrong (.kvAppend v m layer r pos kv h) w).fabric =
      (v0.inject (s.vc2 (loomEndpoint l.n 2) (ctrl t0) p 2 (appendRef m.val layer.toNat r.toNat pos.toNat kv.val h.toNat)
        ((blocksAt x.1.kvFormat.toNat x.1.scales.toNat 0 0 (kvBlocks x.1 ((u.loom l.n).vec v))).1.flatMap Prod.snd))).fabric := by
  have hsu : Changes s u [.looms] := hu ▸ Changes.of_offLooms (s.upsets_offLooms l.n up)
  have hx' : u.appendPlace p m.val layer.toNat r.toNat pos.toNat = some x := by rw [hu, State.appendPlace_upsets, hx]
  have ht' : u.physOf x.2 = some t0 := by
    rw [State.physOf, hsu .sites (by decide)]
    exact ht
  have hvc2 : u.vc2 = s.vc2 := by
    funext src dest plot kind ref data
    rw [State.vc2, State.epoch, State.epochRec, hsu .epochs (by decide), hsu .now (by decide)]
    rfl
  obtain ⟨v0, hv0, hsend⟩ := u.fabric_runFull_of_append p id l.n wrong w v m layer r pos kv h hx' ht'
  exact ⟨v0, hv0.trans (hsu .fabric (by decide)), hvc2 ▸ hsend⟩

end Full

end Sys2Proof.Machine

open Sys2Proof Sys2Proof.Machine

/-- Settles O15: the checks in their order, then `State.runFull`, of which each part of the state is read off. -/
theorem fullerWritesOnlyItsResults : Obligations.FullerWritesOnlyItsResults := by
  intro s l p id op up wrong u w hu hr hw
  have hlegalEq : s.fullLegal p l.n op = u.fullLegal p l.n op := by rw [hu, State.fullLegal_upsets]
  have hastrayEq : s.fullAstray p l.n op = u.fullAstray p l.n op := by rw [hu, State.fullAstray_upsets]
  have hreads : s.fullReads p l.n op = u.fullReads p l.n op := by rw [hu, State.fullReads_upsets]
  have hpart : s.partOk p = u.partOk p := by
    funext b k a c
    rw [hu, State.partOk_upsets]
  have hwaits : s.attnWaits p l.n = u.attnWaits p l.n := by
    funext q
    rw [hu, State.attnWaits_upsets]
  rw [hlegalEq, hastrayEq, hreads, hpart, hwaits]
  refine ⟨fun hlegal hst => full_illegal hu hr hlegal hst, fun hlegal hplace hseen => ⟨fun hsplit hst => ?_,
    fun hin hout hfill => ⟨fun k hbad hk hfirst => ?_, fun hgood hpend => ?_⟩⟩⟩
  · exact ⟨_, exec_full_refused hlegal hplace hseen hu hr hw hsplit,
      State.partFault_upsets hu (State.lt_of_ownerOf hr.2.1) hst⟩
  · rw [exec_full_filled hlegal hplace hseen hu hr hw hin hout hfill, if_pos hbad]
    exact ⟨_, rfl, State.benchParity_stops hu hk hfirst⟩
  · rw [exec_full_filled hlegal hplace hseen hu hr hw hin hout hfill, if_neg (by simp [hgood]), if_neg (pieces_clear hu hpend)]
    have hsu : Changes s u [.looms] := hu ▸ Changes.of_offLooms (s.upsets_offLooms l.n up)
    obtain ⟨hlen, hcells, hch⟩ := u.runFull_frame p id l.n wrong op w
    obtain ⟨hbytes, hip, hstall, hfg, hbg, haccs⟩ := State.runFull_own (p := p) (id := id) (op := op) (wrong := wrong) (w := w) hu
    refine ⟨_, rfl, hbytes, fun a ha => ?_, fun dst hop hsound => ?_, fun v m layer r pos kv h x t0 hop hx ht => ?_, fun hop => ?_,
      hip, hstall, hfg, hbg, haccs, ?_, fun n hn => ?_, (CellsBut.of_led (hsu .led (by decide))).trans hcells,
      (hsu.mono (by decide)).trans hch⟩
    · rw [hbytes]
      exact (s.loom l.n).byte_stores w.1 a ha
    · subst hop hsound
      rw [hw, fullWrites, LoomSt.parts_sound, hu, State.loom_upsets, if_pos rfl]
      rfl
    · subst hop
      exact State.runFull_append hu w v m layer r pos kv h hx ht
    · exact (u.fabric_runFull_of_other p id l.n wrong w hop).trans (hsu .fabric (by decide))
    · rw [hlen, hsu .samples (by decide)]
    · have hne : l.n ≠ n := fun e => hn (by simp [e])
      rw [State.loom_runFull, if_neg hne, hu, State.loom_upsets, if_neg hne]
end

section
/-! PROOFS. QUALITY_CHECK (R124 to R126): the statement O20 holds just where no draw of an open value is a negative number. -/

namespace Sys2Proof.Machine

/-! ### FP32 codes -/

/-- A code without its sign bit denotes no negative number (R95). -/
theorem fp32_k_nonneg {c : Nat} (h : bit c 31 = false) : 0 ≤ (fp32.decode c).k := by
  have hneg : bit c (fp32.e + fp32.m) = false := h
  unfold FloatFmt.decode
  simp only [hneg]
  split
  · split <;> exact le_refl _
  · split
    · exact le_refl _
    · split <;> exact Int.natCast_nonneg _

/-- A code has 32 bits (R95). -/
theorem fp32_decode_mod (c : Nat) : fp32.decode (c % 2 ^ 32) = fp32.decode c := by
  have hs : bit (c % 2 ^ 32) (fp32.e + fp32.m) = bit c (fp32.e + fp32.m) := by
    simp only [bit, fp32]
    congr 1
    omega
  have he : bits (c % 2 ^ 32) (fp32.e + fp32.m - 1) fp32.m = bits c (fp32.e + fp32.m - 1) fp32.m := by
    simp only [bits, fp32]
    omega
  have hm : c % 2 ^ 32 % 2 ^ fp32.m = c % 2 ^ fp32.m := by
    simp only [fp32]
    omega
  unfold FloatFmt.decode
  simp only [hs, he, hm]

theorem toLe_four_inj {v w : Nat} (h : toLe 4 v = toLe 4 w) : v % 2 ^ 32 = w % 2 ^ 32 := by
  simp only [toLe, List.cons.injEq, and_true, ← BitVec.toNat_inj, BitVec.toNat_ofNat] at h
  omega

/-- A square root is no negative number. -/
theorem sqrtF32_k_nonneg (n d : Nat) (e : Int) : 0 ≤ (fp32.decode (sqrtF32 n d e)).k := by
  refine fp32_k_nonneg ?_
  have hb (c : Nat) (hc : c < 2 ^ 31) : bit c 31 = false := by
    rw [bit, Nat.div_eq_of_lt hc]
    rfl
  unfold sqrtF32
  split
  · decide
  · dsimp only
    generalize fp32.encode false _ _ = c
    split
    · decide
    · exact hb c (by omega)

/-- What lies above a limit and is not negative lies above 0.8 times the limit too (R126). -/
theorem belowLimit_of_less {lim res : Nat} (h : f32less lim res = true) (h0 : 0 ≤ (fp32.decode res).k) : belowLimit res lim = false := by
  unfold belowLimit
  unfold f32less at h
  cases hr : fp32.decode res with
  | inf | nan => rfl
  | num x m =>
    rw [hr] at h h0
    refine decide_eq_false ?_
    cases hl : fp32.decode lim with
    | inf y | nan y =>
      have hz : (Elem.inf y).k = 0 ∧ (Elem.nan y).k = 0 := ⟨rfl, rfl⟩
      omega
    | num y n =>
      rw [hl] at h
      have hlt := of_decide_eq_true h
      omega

/-- Minus infinity is less than every number, and every negative number below 0.8 times it, as the figures are compared. -/
theorem minus_infinity_below {res : Nat} (h : (fp32.decode res).k < 0) :
    f32less 0xFF800000 res = true ∧ belowLimit res 0xFF800000 = true := by
  have hinf : fp32.decode 0xFF800000 = .inf true := by decide
  unfold f32less belowLimit
  rw [hinf]
  cases hr : fp32.decode res with
  | inf | nan =>
    rw [hr] at h
    exact absurd h (lt_irrefl 0)
  | num x m =>
    rw [hr] at h
    refine ⟨rfl, decide_eq_true ?_⟩
    change _ < (0 : Int) * 4
    omega

/-! ### A layer's figure -/

/-- Whether the spec states no residual of a window: no reference but zero, or a value that is not finite (R125). -/
def windowOpen (win : List (Nat × Nat × Nat × Bool)) : Bool := (win.map (fun e => e.2.2.1)).sum == 0 || win.any (fun e => e.2.2.2)

/-- The figure of a window: its residual, else the next draw (R125). -/
def State.figure (s : State) (win : List (Nat × Nat × Nat × Bool)) : Nat :=
  if windowOpen win then Config.freeValue s.free % 2 ^ 32
  else sqrtF32 (win.map (fun e => e.2.1)).sum (win.map (fun e => e.2.2.1)).sum 0

/-- The figure stands in the layer's entry of 9300+p (R125). -/
def State.noteFigure (s : State) (p layer : Nat) (win : List (Nat × Nat × Nat × Bool)) : State :=
  (if windowOpen win then s.draw.2 else s).measure (0x9300 + p) (layer + 1) (toLe 4 (s.figure win))

/-- Whether the last figure of a layer that was reported lay above its limit (R126). -/
def State.markOver (s : State) (p layer : Nat) (b : Bool) : State :=
  s.updPlot p (fun x => { x with qualityOver := Tab.set false x.qualityOver layer b })

theorem State.ev_markOver (s : State) (p layer : Nat) (b : Bool) : (s.markOver p layer b).ev = s.ev := rfl

theorem State.newResidual_eq (s : State) (p layer lim : Nat) (win : List (Nat × Nat × Nat × Bool)) :
    s.newResidual p layer lim win =
      if f32less lim (s.figure win) ∧ Tab.get false ((s.noteFigure p layer win).plot p).qualityOver layer = false then
        ((s.noteFigure p layer win).markOver p layer true).raise 0x9202 p [p, layer, s.figure win]
      else if belowLimit (s.figure win) lim ∧ Tab.get false ((s.noteFigure p layer win).plot p).qualityOver layer then
        ((s.noteFigure p layer win).markOver p layer false).raise 0x9203 p [p, layer, s.figure win]
      else s.noteFigure p layer win := rfl

section Figure

variable (s : State) (p layer lim : Nat) (win : List (Nat × Nat × Nat × Bool))

theorem State.noteFigure_changes : Changes s (s.noteFigure p layer win) [.meas, .free] := by
  unfold State.noteFigure
  intro q hq
  cases q
  case meas | free => exact absurd (by decide) hq
  all_goals split <;> rfl

/-- The entry takes its value under the next sequence number; the others stay (R125, R378). -/
theorem State.measAt_noteFigure (i j : Nat) : (s.noteFigure p layer win).measAt i j =
    if ek (0x9300 + p) (layer + 1) = ek i j then
      { seq := ((s.measAt (0x9300 + p) (layer + 1)).seq + 1) % 2 ^ 32, value := toLe 4 (s.figure win), ready := true }
    else s.measAt i j := by
  unfold State.noteFigure
  split <;> exact Tab.get_set _ _ _ _ _

/-- A report of a crossing: the mark, and one event (R126). -/
theorem State.report_frame (u : State) (b : Bool) (ev : Nat) (ps : List Nat) :
    (∀ q, (((u.markOver p layer b).raise ev p ps).plot q).quality = (u.plot q).quality) ∧
      SameBut [p] u.plot ((u.markOver p layer b).raise ev p ps).plot ∧
      Changes u ((u.markOver p layer b).raise ev p ps) (.plots :: Part.report) := by
  have hr := Changes.raise (u.markOver p layer b) ev p ps
  have hplot : ((u.markOver p layer b).raise ev p ps).plot = (u.markOver p layer b).plot := funext fun q => by
    rw [State.plot, hr .plots (by decide), State.plot]
  refine ⟨fun q => ?_, fun q hq => ?_, ((Changes.updPlot u p _).mono (by decide)).trans (hr.mono (by decide))⟩
  · rw [hplot, State.markOver, State.plot_updPlot]
    split <;> rfl
  · rw [hplot, State.markOver, State.plot_updPlot, if_neg (fun e => hq (by simp [e]))]

/-- Whichever crossing is reported, the windows stay. -/
theorem State.newResidual_frame :
    (∀ q, ((s.newResidual p layer lim win).plot q).quality = ((s.noteFigure p layer win).plot q).quality) ∧
      SameBut [p] (s.noteFigure p layer win).plot (s.newResidual p layer lim win).plot ∧
      Changes (s.noteFigure p layer win) (s.newResidual p layer lim win) (.plots :: Part.report) := by
  rw [State.newResidual_eq]
  split
  · exact State.report_frame p layer _ true 0x9202 _
  · split
    · exact State.report_frame p layer _ false 0x9203 _
    · exact ⟨fun _ => rfl, fun _ _ => rfl, Changes.refl _ _⟩

variable {s p layer lim win}

/-- The first figure above the limit is reported, and that it was (R126). -/
theorem State.newResidual_first (ha : f32less lim (s.figure win) = true)
    (ho : Tab.get false (s.plot p).qualityOver layer = false) :
    Raises s (s.newResidual p layer lim win) [(0x9202, p, [p, layer, s.figure win])] ∧
      Tab.get false ((s.newResidual p layer lim win).plot p).qualityOver layer = true := by
  have hn := s.noteFigure_changes p layer win
  have hplot : (s.noteFigure p layer win).plot p = s.plot p := by rw [State.plot, hn .plots (by decide), State.plot]
  rw [State.newResidual_eq, if_pos ⟨ha, by rw [hplot, ho]⟩]
  have hr := Changes.raise ((s.noteFigure p layer win).markOver p layer true) 0x9202 p [p, layer, s.figure win]
  refine ⟨Raises.one (by rw [State.ev_markOver, hn .ev (by decide)]) _ _ _, ?_⟩
  rw [State.plot, hr .plots (by decide), ← State.plot, State.markOver, State.plot_updPlot, if_pos rfl]
  simp only [Tab.get_set_self]

/-- A later one is not, unless it is taken to lie below 0.8 times the limit (R126). -/
theorem State.newResidual_again (hb : belowLimit (s.figure win) lim = false)
    (ho : Tab.get false (s.plot p).qualityOver layer = true) : Raises s (s.newResidual p layer lim win) [] := by
  have hn := s.noteFigure_changes p layer win
  have hplot : (s.noteFigure p layer win).plot p = s.plot p := by rw [State.plot, hn .plots (by decide), State.plot]
  rw [State.newResidual_eq, if_neg (by rw [hplot, ho]; simp), if_neg (by simp [hb])]
  exact Raises.nil (congrArg Events.seq (hn .ev (by decide)))

/-- One that is taken to lie there raises E-9203, though it lies above the limit. -/
theorem State.newResidual_below (hb : belowLimit (s.figure win) lim = true)
    (ho : Tab.get false (s.plot p).qualityOver layer = true) : (s.newResidual p layer lim win).ev.seq = s.ev.seq + 1 := by
  have hn := s.noteFigure_changes p layer win
  have hplot : (s.noteFigure p layer win).plot p = s.plot p := by rw [State.plot, hn .plots (by decide), State.plot]
  rw [State.newResidual_eq, if_neg (by rw [hplot, ho]; simp), if_pos ⟨hb, by rw [hplot, ho]⟩, State.raise_seq,
    State.ev_markOver, hn .ev (by decide)]

end Figure

/-- No draw of an open value is the code of a negative number. -/
def DrawsNonneg : Prop := ∀ n, 0 ≤ (fp32.decode (Config.freeValue n % 2 ^ 32)).k

theorem State.figure_k_nonneg (hd : DrawsNonneg) (s : State) (win : List (Nat × Nat × Nat × Bool)) :
    0 ≤ (fp32.decode (s.figure win)).k := by
  unfold State.figure
  split
  · exact hd _
  · exact sqrtF32_k_nonneg _ _ _

theorem State.figure_of_stated (s : State) {win : List (Nat × Nat × Nat × Bool)} (h0 : (win.map (fun e => e.2.2.1)).sum ≠ 0)
    (hfin : ∀ e ∈ win, e.2.2.2 = false) :
    s.figure win = sqrtF32 (win.map (fun e => e.2.1)).sum (win.map (fun e => e.2.2.1)).sum 0 := by
  have hany : win.any (fun e => e.2.2.2) = false := by
    rw [List.any_eq_false]
    exact fun e he => by simp [hfin e he]
  rw [State.figure, if_neg (by rw [windowOpen, hany, beq_eq_false_iff_ne.2 h0]; decide)]

/-! ### QUALITY_CHECK -/

/-- A sample joins its layer's window, and its check is made (R125). -/
def State.joinWindow (s : State) (p layer : Nat) (x : Sample) (win : List (Nat × Nat × Nat × Bool)) : State :=
  (s.checked x (fun y => { y with forQual := false })).updPlot p (fun z => { z with quality := Tab.set [] z.quality layer win })

section Quality

variable {s : State} {tile : Phys} {p : PlotId} {k : Byte} {x : Sample}

/-- A sample without outputs gives no figure. -/
theorem exec_qualityCheck_none (hx : s.nextSample tile.val p.val (s.ofLayer p.val k.toNat) = some x) (hy : x.y = none) :
    exec (.qualityCheck tile p k) s = .next (s.checked x (fun y => { y with forQual := false })) := by
  change execQualityCheck tile p k s = _
  simp only [execQualityCheck, hx, hy]

theorem exec_qualityCheck_some {y : List Nat × Nat} {win : List (Nat × Nat × Nat × Bool)}
    (hx : s.nextSample tile.val p.val (s.ofLayer p.val k.toNat) = some x) (hy : x.y = some y)
    (hwin : win = (Tab.get [] (s.plot p.val).quality k.toNat ++ [(x.step, x.qualitySums y.1 y.2)]).drop
      ((Tab.get [] (s.plot p.val).quality k.toNat).length + 1 - 256)) :
    exec (.qualityCheck tile p k) s = .next ((s.joinWindow p.val k.toNat x win).newResidual p.val k.toNat x.limit win) := by
  change execQualityCheck tile p k s = _
  simp only [execQualityCheck, hx, hy, hwin]
  rfl

end Quality

theorem State.joinWindow_changes (s : State) (p layer : Nat) (x : Sample) (win : List (Nat × Nat × Nat × Bool)) :
    Changes s (s.joinWindow p layer x win) [.samples, .plots] :=
  ((s.checked_changes x _).mono (by decide)).trans ((Changes.updPlot _ _ _).mono (by decide))

/-- What a figure leaves: the window, the entry, the check, and nothing of other layers and plots (R125). -/
theorem State.joinWindow_frame (s : State) (p layer : Nat) (x : Sample) (win : List (Nat × Nat × Nat × Bool))
    {t : State} (ht : t = (s.joinWindow p layer x win).newResidual p layer x.limit win) :
    Tab.get [] (t.plot p).quality layer = win ∧
      t.measAt (0x9300 + p) (layer + 1) =
        { seq := ((s.measAt (0x9300 + p) (layer + 1)).seq + 1) % 2 ^ 32, value := toLe 4 (s.figure win), ready := true } ∧
      (∀ z ∈ t.samples, z.tile = x.tile → z.step = x.step → z.forQual = false) ∧
      (∀ i j, j < 256 → (i, j) ≠ (0x9300 + p, layer + 1) → layer < 254 → t.measAt i j = s.measAt i j) ∧
      SameBut [p] s.plot t.plot ∧ Changes s t (.plots :: .meas :: .free :: .samples :: Part.report) := by
  have hj := s.joinWindow_changes p layer x win
  have hplot (q : Nat) : (s.joinWindow p layer x win).plot q =
      if p = q then { s.plot q with quality := Tab.set [] (s.plot q).quality layer win } else s.plot q := State.plot_updPlot
    (s.checked x (fun y => { y with forQual := false })) p q (fun z => { z with quality := Tab.set [] z.quality layer win })
  have hsamples : (s.joinWindow p layer x win).samples = (s.checked x (fun y => { y with forQual := false })).samples := rfl
  have hmeas (i j : Nat) : (s.joinWindow p layer x win).measAt i j = s.measAt i j := by
    rw [State.measAt, hj .meas (by decide), State.measAt]
  have hfig : (s.joinWindow p layer x win).figure win = s.figure win := rfl
  generalize s.joinWindow p layer x win = u at *
  have hn := u.noteFigure_changes p layer win
  have hnp : (u.noteFigure p layer win).plot = u.plot := funext fun q => by rw [State.plot, hn .plots (by decide), State.plot]
  have hm (i j : Nat) := u.measAt_noteFigure p layer win i j
  obtain ⟨hq, hsame, hch⟩ := u.newResidual_frame p layer x.limit win
  rw [← ht] at hq hsame hch
  have htm (i j : Nat) : t.measAt i j = (u.noteFigure p layer win).measAt i j := by
    rw [State.measAt, hch .meas (by decide), State.measAt]
  refine ⟨?_, ?_, fun z hz h1 h2 => ?_, fun i j hj' hne hl => ?_, fun q hq' => ?_,
    ((hj.mono (by decide)).trans (hn.mono (by decide))).trans (hch.mono (by decide))⟩
  · rw [hq, hnp, hplot, if_pos rfl]
    exact Tab.get_set_self _ _ _ _
  · rw [htm, hm, if_pos rfl, hfig, hmeas]
  · rw [hch .samples (by decide), hn .samples (by decide), hsamples] at hz
    obtain ⟨y, rfl⟩ := State.mem_checked hz h1 h2
    rfl
  · rw [htm, hm, if_neg, hmeas]
    intro e
    refine hne ?_
    simp only [ek] at e
    rw [Prod.mk.injEq]
    omega
  · rw [hsame q hq', hnp, hplot, if_neg (fun e => hq' (by simp [e]))]

/-- Where no draw is negative, QUALITY_CHECK does what O20 says. -/
theorem qualityResidual_of_drawsNonneg (hd : DrawsNonneg) : Obligations.QualityResidualOverTheWindow := by
  intro s tile p layer k x hk hx
  subst hk
  refine ⟨fun hy => ⟨_, exec_qualityCheck_none hx hy, fun z hz h1 h2 => ?_, s.checked_changes x _⟩, fun y win hy hwin => ?_⟩
  · obtain ⟨y, rfl⟩ := State.mem_checked hz h1 h2
    rfl
  · obtain ⟨hwindow, hentry, hdone, hothers, hplots, hch⟩ := s.joinWindow_frame p.val k.toNat x win rfl
    have hj := s.joinWindow_changes p.val k.toNat x win
    have hover : Tab.get false ((s.joinWindow p.val k.toNat x win).plot p.val).qualityOver k.toNat =
        Tab.get false (s.plot p.val).qualityOver k.toNat := by
      rw [State.joinWindow, State.plot_updPlot, if_pos rfl]
      rfl
    have hseq : (s.joinWindow p.val k.toNat x win).ev = s.ev := hj .ev (by decide)
    refine ⟨_, s.figure win, exec_qualityCheck_some hx hy hwin, hwindow, by rw [hentry], by rw [hentry],
      fun h0 hfin => s.figure_of_stated h0 hfin, fun ha ho => ?_, fun ha ho => ?_, hdone, hothers, hplots, hch⟩
    · obtain ⟨⟨hs, hlog⟩, hmark⟩ := State.newResidual_first (s := s.joinWindow p.val k.toNat x win) (win := win) ha (hover.trans ho)
      rw [hseq] at hs hlog
      exact ⟨⟨hs, hlog⟩, hmark⟩
    · have hb : belowLimit (s.figure win) x.limit = false := belowLimit_of_less ha (s.figure_k_nonneg hd win)
      have h := State.newResidual_again (s := s.joinWindow p.val k.toNat x win) (win := win) hb (hover.trans ho)
      simpa only [Raises, hseq] using h

/-! ### A window whose figure is drawn -/

/-- An image whose quality layer 0 is the operation at word 0 of loom 0. -/
def watchedImage : Image :=
  { header := ⟨0, 0, 0, 0, 0, 0, 0, 0⟩, sections := [], looms := [], quality := [[(⟨0, 0, 0⟩, 0)]], extents := [], patches := [],
    routes := [], split := false, weightPart := 0, actPart := 0, streams := [], preamble := 0, pools := [], models := [],
    manifest := [], resident := [], signer := [] }

/-- A sample of that operation without a reference, watched against minus infinity. -/
def emptySample : Sample :=
  { tile := 0, slot := 0, loom := 0, ip := 0, plot := 0, step := 0, attempt := 0, first := 0, w := {}, afmt := 0, acodes := [],
    asf := 0, ascales := [], accs := [], y := some ([], 0), forInt := false, forQual := true, limit := 0xFF800000, hold := false }

/-- Its last figure was above the limit; `n` open values have been drawn so far. -/
def drawnState (n : Nat) : State :=
  { State.reset with
    plots := [(0, { image := some watchedImage, qualityOver := [(0, true)] })], samples := [emptySample], free := n }

theorem drawnState_nextSample (n : Nat) : (drawnState n).nextSample 0 0 ((drawnState n).ofLayer 0 0) = some emptySample := by
  have hlayer : (drawnState n).ofLayer 0 0 emptySample = true := rfl
  have hfinal : (drawnState n).sampleFinal emptySample = true := rfl
  have hsamples : (drawnState n).samples = [emptySample] := rfl
  rw [State.nextSample, hsamples]
  exact List.find?_cons_of_pos (by rw [hlayer, hfinal]; rfl)

/-- The window that the sample joins is empty, and its sums are nothing but zeros. -/
theorem drawnState_window (n : Nat) : [(0, 0, 0, false)] =
    (Tab.get [] ((drawnState n).plot 0).quality 0 ++ [(emptySample.step, emptySample.qualitySums [] 0)]).drop
      ((Tab.get [] ((drawnState n).plot 0).quality 0).length + 1 - 256) := by
  have hsums : emptySample.qualitySums [] 0 = (0, 0, false) := by simp [Sample.qualitySums]
  have hold : Tab.get [] ((drawnState n).plot 0).quality 0 = [] := rfl
  have hstep : emptySample.step = 0 := rfl
  simp [hsums, hold, hstep]

/-- O20 asks that no draw is negative: a draw is compared with 0.8 times the limit as a residual is (R126). -/
theorem drawsNonneg_of_qualityResidual (h : Obligations.QualityResidualOverTheWindow) : DrawsNonneg := by
  intro n
  by_contra hneg
  obtain ⟨hless, hbelow⟩ := minus_infinity_below (not_le.1 hneg)
  have hx : (drawnState n).nextSample (0 : Phys).val (0 : PlotId).val ((drawnState n).ofLayer (0 : PlotId).val (0 : Byte).toNat) =
      some emptySample := drawnState_nextSample n
  obtain ⟨-, hclause⟩ := h (drawnState n) 0 0 0 0 emptySample rfl hx
  obtain ⟨t, v, ht, -, hvalue, -, -, -, hagain, -⟩ := hclause ([], 0) [(0, 0, 0, false)] rfl (drawnState_window n)
  obtain rfl := Host.Outcome.next.inj ((exec_qualityCheck_some hx rfl (drawnState_window n)).symm.trans ht)
  obtain ⟨-, hentry, -⟩ := (drawnState n).joinWindow_frame 0 0 emptySample [(0, 0, 0, false)] rfl
  have hv : fp32.decode v = fp32.decode ((drawnState n).figure [(0, 0, 0, false)]) := by
    rw [← fp32_decode_mod v, ← fp32_decode_mod ((drawnState n).figure _)]
    exact congrArg fp32.decode (toLe_four_inj (hvalue.symm.trans (congrArg Meas.value hentry)))
  have habove : f32less emptySample.limit v = true := by
    unfold f32less
    rw [hv]
    exact hless
  obtain ⟨hseq, -⟩ := hagain habove rfl
  have hraised := State.newResidual_below (s := (drawnState n).joinWindow 0 0 emptySample [(0, 0, 0, false)]) (p := 0) (layer := 0)
    (win := [(0, 0, 0, false)]) hbelow rfl
  exact Nat.succ_ne_self (drawnState n).ev.seq (hraised.symm.trans hseq)

end Sys2Proof.Machine

open Sys2Proof Sys2Proof.Machine

/-- O20 stays unsettled: its clause on a figure above the limit, reported before, asks that no open value that is drawn is negative
(R125, R126), and `Config.freeValue` has no body; every other clause holds whatever is drawn. -/
theorem qualityResidualOverTheWindow_iff : Obligations.QualityResidualOverTheWindow ↔ DrawsNonneg :=
  ⟨drawsNonneg_of_qualityResidual, qualityResidual_of_drawsNonneg⟩
end

section
/-! SUPPORT. The shared operations keep the canonical form of the Cellar's memory and of the tables of queue pairs, keys and
sessions (R145, R278, R282, R386): one lemma per operation. -/

namespace Sys2Proof.Machine

section Words

variable {s t : State}

theorem tablesCanonical_iff : tablesCanonical s ↔ Tab.wf 0 s.cellar.mem = true ∧ Tab.wf {} s.qps = true ∧ Tab.wf 0 s.keys = true ∧
    Tab.wf none s.sessions = true := Iff.rfl

theorem tablesCanonical_ite {c : Prop} [Decidable c] (hs : tablesCanonical s) (ht : tablesCanonical t) :
    tablesCanonical (if c then s else t) := by
  split
  · exact hs
  · exact ht

/-- A fold keeps the canonical form of the state that it carries along. -/
theorem foldlOn_canonical {α β : Type} (g : β → State) {f : β → α → β}
    (hf : ∀ b x, tablesCanonical (g b) → tablesCanonical (g (f b x))) (l : List α) {b : β} (h : tablesCanonical (g b)) :
    tablesCanonical (g (l.foldl f b)) :=
  List.foldlRecOn (motive := fun b => tablesCanonical (g b)) l f h (fun b hb x _ => hf b x hb)

theorem foldl_canonical {α : Type} {f : State → α → State} (hf : ∀ s x, tablesCanonical s → tablesCanonical (f s x)) (l : List α)
    (h : tablesCanonical s) : tablesCanonical (l.foldl f s) := foldlOn_canonical id hf l h

/-- The same where the fold may fail. -/
theorem foldlOpt_canonical {α β : Type} (g : β → Option State) {f : β → α → β}
    (hf : ∀ b x, (∀ u, g b = some u → tablesCanonical u) → ∀ u, g (f b x) = some u → tablesCanonical u) (l : List α) {b : β}
    (h : ∀ u, g b = some u → tablesCanonical u) : ∀ u, g (l.foldl f b) = some u → tablesCanonical u :=
  List.foldlRecOn (motive := fun b => ∀ u, g b = some u → tablesCanonical u) l f h (fun b hb x _ => hf b x hb)

theorem Tab.wf_mapSome {α β : Type} [DecidableEq α] [DecidableEq β] (f : α → β) {t : Tab (Option α)} (h : Tab.wf none t = true) :
    Tab.wf none (t.map (fun e => (e.1, e.2.map f))) = true := by
  rw [Tab.wf_iff] at h ⊢
  obtain ⟨hrise, hsome⟩ := h
  refine ⟨List.pairwise_map.2 hrise, fun e he => ?_⟩
  obtain ⟨x, hx, rfl⟩ := List.mem_map.1 he
  simpa using hsome x hx

end Words

section Canonical

variable {s t : State} (h : tablesCanonical s)
include h

/-! ### The words of the state -/

theorem State.setCell_canonical (idx sub v) : tablesCanonical (s.setCell idx sub v) := h

theorem State.bump_canonical (w idx sub n) : tablesCanonical (s.bump w idx sub n) := by
  grind [State.bump, State.setCell_canonical]

theorem State.setBlob_canonical (idx sub b) : tablesCanonical (s.setBlob idx sub b) := h
theorem State.measure_canonical (idx sub v) : tablesCanonical (s.measure idx sub v) := h
theorem State.emit_canonical (o) : tablesCanonical (s.emit o) := h

theorem raisePort_canonical (x r) : tablesCanonical (raisePort x r s) := by
  grind [raisePort, tablesCanonical_iff, State.emit_canonical]

theorem State.raise_canonical (ev plot params) : tablesCanonical (s.raise ev plot params) := by
  unfold State.raise
  obtain ⟨hmem, hqps, hkeys, hsessions⟩ := h
  refine raisePort_canonical (raisePort_canonical ?_ _ _) _ _
  exact ⟨hmem, hqps, hkeys, Tab.wf_mapSome _ hsessions⟩

theorem State.raiseLimited_canonical (ev scope period plot params) : tablesCanonical (s.raiseLimited ev scope period plot params) := by
  grind [State.raiseLimited, tablesCanonical_iff, State.raise_canonical]

theorem State.setHolder_canonical (k holder) : tablesCanonical (s.setHolder k holder) := by
  obtain ⟨hmem, hqps, hkeys, hsessions⟩ := h
  unfold State.setHolder
  split
  · exact ⟨hmem, hqps, hkeys, hsessions⟩
  · exact ⟨hmem, hqps, Tab.wf_set _ _ _ _ hkeys, hsessions⟩

theorem State.updPlot_canonical (p f) : tablesCanonical (s.updPlot p f) := h
theorem State.updSite_canonical (t f) : tablesCanonical (s.updSite t f) := h
theorem State.updReg_canonical (k f) : tablesCanonical (s.updReg k f) := h
theorem State.updSlot_canonical (n f) : tablesCanonical (s.updSlot n f) := h
theorem State.updLoom_canonical (n f) : tablesCanonical (s.updLoom n f) := h
theorem State.newEpoch_canonical (e) : tablesCanonical (s.newEpoch e) := h

theorem State.newEpochs_canonical (ls) : tablesCanonical (s.newEpochs ls) := by
  grind [State.newEpochs, foldl_canonical, State.newEpoch_canonical]

theorem State.mapChanged_canonical : tablesCanonical (s.mapChanged) := by
  grind [State.mapChanged, State.setCell_canonical]

theorem State.logDefect_canonical (kind site detail promoted event) : tablesCanonical (s.logDefect kind site detail promoted event)
    := by
  grind [State.logDefect, tablesCanonical_iff, State.raise_canonical]

theorem State.draw_canonical : tablesCanonical (s.draw).2 := by
  grind [State.draw, tablesCanonical_iff]

/-! ### Serving a Ledger request -/

theorem State.updBox_canonical (fn g) : tablesCanonical (s.updBox fn g) := h

theorem State.updSession_canonical (n g) : tablesCanonical (s.updSession n g) := by
  obtain ⟨hmem, hqps, hkeys, hsessions⟩ := h
  exact ⟨hmem, hqps, hkeys, Tab.wf_upd _ _ _ _ hsessions⟩

theorem State.answer_canonical (f q r) : tablesCanonical (s.answer f q r) := by
  grind [State.answer, State.emit_canonical, State.updBox_canonical, State.updSession_canonical]

theorem State.dropFrame_canonical (sub) : tablesCanonical (s.dropFrame sub) := by
  grind [State.dropFrame, State.bump_canonical, State.raiseLimited_canonical]

theorem State.serve_canonical (f q) {act : State → State × Reply} (hact : ∀ s, tablesCanonical s → tablesCanonical (act s).1) :
    tablesCanonical (s.serve f q act) := by
  grind [State.serve, State.answer_canonical, State.dropFrame_canonical, State.updSession_canonical, State.emit_canonical]

theorem State.serveWrite_canonical (f idx sub body cond) {act : State → State} (hact : ∀ s, tablesCanonical s → tablesCanonical (act
    s)) : tablesCanonical (s.serveWrite f idx sub body cond act) := by
  grind [State.serveWrite, State.serve_canonical]

theorem State.burn_canonical (idx sub v) : tablesCanonical (s.burn idx sub v).1 := by
  grind [State.burn, tablesCanonical_iff, State.raise_canonical]

theorem State.servePersist_canonical (f idx sub body cond) {after : State → State} (hafter : ∀ s, tablesCanonical s →
    tablesCanonical (after s)) : tablesCanonical (s.servePersist f idx sub body cond after) := by
  grind [State.servePersist, State.serve_canonical, State.burn_canonical]

/-! ### Units of the Cellar -/

theorem State.cstore_canonical (a bs) : tablesCanonical (s.cstore a bs) :=
  ⟨cstore_cellarCanonical s a bs h.1, h.2⟩

theorem State.poison_canonical (lt r) : tablesCanonical (s.poison lt r) := by
  grind [State.poison, tablesCanonical_iff, State.bump_canonical]

theorem State.poisonUnit_canonical (lt r) : tablesCanonical (s.poisonUnit lt r) := by
  grind [State.poisonUnit, State.raise_canonical, State.poison_canonical]

theorem State.checkCodes_canonical (lt r ks e) : tablesCanonical (s.checkCodes lt r ks e) := by
  grind [State.checkCodes, State.bump_canonical, State.raise_canonical, State.cstore_canonical, State.poisonUnit_canonical]

theorem State.unpoison_canonical (lt r) : tablesCanonical (s.unpoison lt r) := by
  grind [State.unpoison, tablesCanonical_iff, State.setCell_canonical]

theorem State.measureRows_canonical (lt done) : tablesCanonical (s.measureRows lt done) := by
  grind [State.measureRows, State.measure_canonical]

theorem State.rebuildUnit_canonical (lt r) : tablesCanonical (s.rebuildUnit lt r) := by
  grind [State.rebuildUnit, tablesCanonical_iff, State.cstore_canonical, State.poison_canonical, State.measureRows_canonical]

theorem State.unitWrite_canonical (lt r off plot data) : tablesCanonical (s.unitWrite lt r off plot data) := by
  grind [State.unitWrite, tablesCanonical_iff, foldl_canonical, State.cstore_canonical, State.unpoison_canonical,
    State.rebuildUnit_canonical]

theorem State.applyDelta_canonical (w) : tablesCanonical (s.applyDelta w) := by
  grind [State.applyDelta, State.cstore_canonical]

theorem State.deltaNow_canonical (w) : tablesCanonical (s.deltaNow w) := by
  grind [State.deltaNow, tablesCanonical_iff, State.applyDelta_canonical]

theorem State.settleRow_canonical (lt r) : tablesCanonical (s.settleRow lt r) := by
  grind [State.settleRow, foldl_canonical, State.deltaNow_canonical]

theorem State.settledWrite_canonical (a plot data) : tablesCanonical (s.settledWrite a plot data) := by
  grind [State.settledWrite, tablesCanonical_iff, State.unitWrite_canonical, State.applyDelta_canonical]

theorem State.longWrite_canonical (a plot fuel data) : tablesCanonical (s.longWrite a plot fuel data) := by
  induction fuel generalizing s a data with
  | zero => exact h
  | succ k ih => grind [State.longWrite, State.settledWrite_canonical]

/-! ### Rings, requests, steps and plots that end -/

theorem State.updQp_canonical (n f) : tablesCanonical (s.updQp n f) := by
  obtain ⟨hmem, hqps, hrest⟩ := h
  exact ⟨hmem, Tab.wf_upd _ _ _ _ hqps, hrest⟩

theorem State.emitResult_canonical (n x index d) : tablesCanonical (s.emitResult n x index d) := by
  grind [State.emitResult, State.emit_canonical]

theorem State.ringWrite_canonical (n r) : tablesCanonical (s.ringWrite n r) := by
  grind [State.ringWrite, State.emitResult_canonical, State.updQp_canonical]

theorem State.ringIrq_canonical (n) : tablesCanonical (s.ringIrq n) := by
  grind [State.ringIrq, State.emit_canonical]

theorem State.postOne_canonical (n r) : tablesCanonical (s.postOne n r) := by
  grind [State.postOne, State.ringWrite_canonical, State.updQp_canonical]

theorem State.post_canonical (n rs) : tablesCanonical (s.post n rs) := by
  grind [State.post, foldl_canonical, State.postOne_canonical, State.ringIrq_canonical]

theorem State.failoverEnd_canonical (x) : tablesCanonical (s.failoverEnd x) := by
  grind [State.failoverEnd, tablesCanonical_iff, State.raise_canonical]

theorem State.failoverEnds_canonical : tablesCanonical (s.failoverEnds) := by
  grind [State.failoverEnds, State.failoverEnd_canonical]

theorem State.noteBusy_canonical (p) : tablesCanonical (s.noteBusy p) := by
  grind [State.noteBusy, State.updPlot_canonical]

theorem State.wakeP4_canonical : tablesCanonical (s.wakeP4) := by
  grind [State.wakeP4, tablesCanonical_iff]

theorem State.trigger_canonical (p) : tablesCanonical (s.trigger p) := by
  grind [State.trigger, State.wakeP4_canonical, State.updPlot_canonical]

theorem State.updOb_canonical (i f) : tablesCanonical (s.updOb i f) := h

theorem State.updPool_canonical (p m f) : tablesCanonical (s.updPool p m f) := by
  grind [State.updPool, State.updPlot_canonical]

theorem State.returnFrame_canonical (p m frame) : tablesCanonical (s.returnFrame p m frame) := by
  grind [State.returnFrame, State.updPool_canonical]

theorem State.releaseRemote_canonical (p m slot) : tablesCanonical (s.releaseRemote p m slot) := by
  grind [State.releaseRemote, State.updPool_canonical]

theorem State.allocFrame_canonical (p m j) {r : Nat × State} (hr : s.allocFrame p m j = some r) : tablesCanonical r.2 := by
  grind [State.allocFrame, State.updPool_canonical]

theorem State.giveBlock_canonical (i f) (ht : s.giveBlock i f = some t) : tablesCanonical t := by
  simp only [State.giveBlock, Option.bind_eq_some_iff, Option.map_eq_some_iff] at ht
  obtain ⟨x, -, b, -, rfl⟩ := ht
  exact State.updOb_canonical h _ _

theorem State.holdPage_canonical (i d j) (ht : s.holdPage i d j = some t) : tablesCanonical t := by
  unfold State.holdPage at ht
  dsimp only at ht
  split at ht
  · exact Option.some.inj ht ▸ h
  · refine foldlOpt_canonical id (fun o j ho u hu => ?_) _ (fun u hu => ?_) t ht
    · obtain ⟨v, hv, hu⟩ := Option.bind_eq_some_iff.1 hu
      exact State.giveBlock_canonical (ho v hv) _ _ hu
    · grind [State.giveBlock_canonical]

theorem State.releasePage_canonical (i d j) : tablesCanonical (s.releasePage i d j) := by
  grind [State.releasePage, State.updOb_canonical, State.releaseRemote_canonical, State.returnFrame_canonical]

theorem State.releasePages_canonical (i) : tablesCanonical (s.releasePages i) := by
  grind [State.releasePages, foldl_canonical, State.releasePage_canonical]

theorem State.transferEnd_canonical (i d j) : tablesCanonical (s.transferEnd i d j) := by
  grind [State.transferEnd, State.updOb_canonical, State.releaseRemote_canonical]

theorem State.maybeFree_canonical (i) : tablesCanonical (s.maybeFree i) := by
  grind [State.maybeFree, tablesCanonical_iff]

theorem State.dropSamples_canonical (id p) : tablesCanonical (s.dropSamples id p) := by
  grind [State.dropSamples, tablesCanonical_iff, State.updPlot_canonical]

theorem State.updStep_canonical (id f) : tablesCanonical (s.updStep id f) := h

theorem State.cancelSamples_canonical (i) : tablesCanonical (s.cancelSamples i) := by
  grind [State.cancelSamples, State.updStep_canonical, State.dropSamples_canonical]

theorem State.endCore_canonical (i st final) : tablesCanonical (s.endCore i st final) := by
  unfold State.endCore
  cases st <;> grind [State.noteBusy_canonical, State.updOb_canonical, State.bump_canonical, State.raise_canonical,
    State.cancelSamples_canonical, State.releasePages_canonical]

theorem State.endRequest_canonical (i st final tag) : tablesCanonical (s.endRequest i st final tag) := by
  grind [State.endRequest, State.post_canonical, State.endCore_canonical]

theorem State.settleCore_canonical (i) : tablesCanonical (s.settleCore i).1 := by
  grind [State.settleCore, State.endCore_canonical]

theorem State.postAll_canonical (es) : tablesCanonical (s.postAll es) := by
  grind [State.postAll, foldl_canonical, State.post_canonical]

theorem State.settle_canonical (i) : tablesCanonical (s.settle i) := by
  grind [State.settle, State.settleCore_canonical, State.maybeFree_canonical, State.postAll_canonical]

theorem State.drainCore_canonical (i) : tablesCanonical (s.drainCore i) := by
  grind [State.drainCore, State.releasePages_canonical, State.updOb_canonical, State.noteBusy_canonical]

theorem State.startDrain_canonical (i) : tablesCanonical (s.startDrain i) := by
  grind [State.startDrain, State.settle_canonical, State.drainCore_canonical]

theorem State.newTag_canonical (p) : tablesCanonical (s.newTag p).2 := by
  grind [State.newTag, State.updPlot_canonical]

theorem State.pickStep_canonical (n) : tablesCanonical (s.pickStep n) := by
  grind [State.pickStep, State.updLoom_canonical]

theorem State.discard_canonical (id) : tablesCanonical (s.discard id) := by
  grind [State.discard, foldl_canonical, State.updStep_canonical, State.dropSamples_canonical, State.updLoom_canonical]

theorem State.discardAll_canonical (p) : tablesCanonical (s.discardAll p) := by
  grind [State.discardAll, foldl_canonical, State.discard_canonical]

theorem State.dropStep_canonical (id) : tablesCanonical (s.dropStep id) := by
  grind [State.dropStep, tablesCanonical_iff, foldl_canonical, State.updOb_canonical, State.noteBusy_canonical,
    State.updLoom_canonical]

theorem State.cutStep_canonical (id) : tablesCanonical (s.cutStep id) := by
  grind [State.cutStep, State.dropStep_canonical, State.bump_canonical, State.dropSamples_canonical]

theorem State.faultPlot_canonical (p poisonedFor) : tablesCanonical (s.faultPlot p poisonedFor) := by
  grind [State.faultPlot, foldl_canonical, State.cutStep_canonical, State.endRequest_canonical, State.settle_canonical,
    State.releasePages_canonical, State.setCell_canonical, State.updPlot_canonical]

theorem State.addrFault_canonical (p n) : tablesCanonical (s.addrFault p n) := by
  grind [State.addrFault, State.faultPlot_canonical, State.raise_canonical, State.bump_canonical]

/-! ### Bench partitions -/

theorem State.partFault_canonical (p) : tablesCanonical (s.partFault p) := by
  grind [State.partFault, State.faultPlot_canonical, State.bump_canonical]

/-! ### Messages and their channels -/

theorem State.updChan_canonical (k f) : tablesCanonical (s.updChan k f) := h

theorem State.takeChan_canonical (plot t e) : tablesCanonical (s.takeChan plot t e).2 := by
  grind [State.takeChan, tablesCanonical_iff]

theorem State.enqueue_canonical (t e m) : tablesCanonical (s.enqueue t e m) := by
  grind [State.enqueue, tablesCanonical_iff, State.takeChan_canonical, State.updChan_canonical]

theorem State.retryChans_canonical : tablesCanonical (s.retryChans) := by
  grind [State.retryChans, tablesCanonical_iff, foldl_canonical, State.enqueue_canonical]

theorem State.countFallback_canonical (m) : tablesCanonical (s.countFallback m) := by
  grind [State.countFallback, State.bump_canonical, State.updLoom_canonical]

theorem State.release_canonical (m) : tablesCanonical (s.release m) := by
  grind [State.release, State.updChan_canonical]

theorem State.deliver_canonical (m) : tablesCanonical (s.deliver m) := h

theorem State.dimension_canonical (t aim goal m) : tablesCanonical (s.dimension t aim goal m) := by
  grind [State.dimension, State.enqueue_canonical, State.deliver_canonical, State.release_canonical]

theorem State.placeTile_canonical (t goal m) : tablesCanonical (s.placeTile t goal m) := by
  grind [State.placeTile, State.release_canonical, State.updChan_canonical, State.dimension_canonical,
    State.countFallback_canonical]

theorem State.place_canonical (t m) : tablesCanonical (s.place t m) := by
  grind [State.place, State.release_canonical, State.deliver_canonical, State.enqueue_canonical, State.placeTile_canonical]

theorem State.inject_canonical (m) : tablesCanonical (s.inject m) := by
  grind [State.inject, tablesCanonical_iff, State.place_canonical]

theorem State.takeMsg_canonical (e want) : tablesCanonical (s.takeMsg e want) := h

theorem State.sendDelta_canonical (w) : tablesCanonical (s.sendDelta w) := by
  grind [State.sendDelta, State.inject_canonical]

theorem State.writeUnit_canonical (lt r off plot parcel data) : tablesCanonical (s.writeUnit lt r off plot parcel data) := by
  grind [State.writeUnit, tablesCanonical_iff, State.unitWrite_canonical, State.sendDelta_canonical]

theorem State.redirect_canonical (old new) : tablesCanonical (s.redirect old new) := h

theorem State.unpark_canonical : tablesCanonical (s.unpark) := by
  grind [State.unpark, tablesCanonical_iff, foldl_canonical, State.inject_canonical]

theorem State.rederive_canonical (p r) : tablesCanonical (s.rederive p r) := by
  unfold State.rederive
  refine foldlOn_canonical Prod.fst (fun a x ha => ?_) _ h
  grind [State.takeChan_canonical, State.raise_canonical]

theorem State.rederiveAll_canonical (old) : tablesCanonical (s.rederiveAll old) := by
  grind [State.rederiveAll, foldl_canonical, State.setCell_canonical, State.rederive_canonical]

theorem State.checkCycles_canonical (p rs) : tablesCanonical (s.checkCycles p rs).1 := by
  grind [State.checkCycles, tablesCanonical_iff, foldl_canonical, State.raise_canonical, State.bump_canonical]

theorem State.updFerry_canonical (x f) : tablesCanonical (s.updFerry x f) := h

theorem State.enqueueFrame_canonical (x loom ticket attempt bs) : tablesCanonical (s.enqueueFrame x loom ticket attempt bs) := by
  grind [State.enqueueFrame, State.updFerry_canonical]

theorem State.staleOut_canonical (x m) : tablesCanonical (s.staleOut x m) := by
  grind [State.staleOut, State.draw_canonical, State.enqueueFrame_canonical]

/-! ### Tiles that fail -/

theorem State.groupBits_canonical : tablesCanonical (s.groupBits) := by
  grind [State.groupBits, State.setCell_canonical]

theorem State.noteLapse_canonical (a) : tablesCanonical (s.noteLapse a) := by
  cases a <;> grind [State.noteLapse, State.bump_canonical, State.raise_canonical]

theorem State.spillTile_canonical (t) : tablesCanonical (s.spillTile t) := by
  grind [State.spillTile, tablesCanonical_iff, foldl_canonical, State.updChan_canonical, State.release_canonical,
    State.inject_canonical]

theorem State.freshLooms_canonical (lt) : tablesCanonical (s.freshLooms lt) := by
  grind [State.freshLooms, foldl_canonical, State.updLoom_canonical]

theorem State.losePages_canonical (p) : tablesCanonical (s.losePages p) := by
  grind [State.losePages, foldl_canonical, State.updOb_canonical]

theorem State.loseBoth_canonical (lt m) : tablesCanonical (s.loseBoth lt m) := by
  unfold State.loseBoth
  dsimp only
  split
  · exact h
  · refine foldl_canonical (fun s p hs => State.faultPlot_canonical (State.losePages_canonical hs p) p _) _ ?_
    exact State.raise_canonical (foldl_canonical (fun s u hs => State.poison_canonical hs u.1 u.2) _ h) _ _ _

theorem State.reissueOne_canonical (w data) : tablesCanonical (s.reissueOne w data) := by
  grind [State.reissueOne, tablesCanonical_iff, State.rebuildUnit_canonical, State.settleRow_canonical, State.cstore_canonical,
    State.sendDelta_canonical]

theorem State.reissue_canonical (ws) : tablesCanonical (s.reissue ws) := by
  grind [State.reissue, foldl_canonical, State.reissueOne_canonical]

theorem State.rebuildState_canonical : tablesCanonical (s.rebuildState) := by
  grind [State.rebuildState, State.setCell_canonical]

theorem State.newCellar_canonical (lt) : tablesCanonical (s.newCellar lt) :=
  ⟨newCellar_cellarCanonical s lt h.1, h.2⟩

theorem State.beginRecovery_canonical : tablesCanonical (s.beginRecovery) := by
  grind [State.beginRecovery, tablesCanonical_iff, State.setCell_canonical]

theorem State.endRecovery_canonical : tablesCanonical (s.endRecovery) := by
  grind [State.endRecovery, tablesCanonical_iff, State.setCell_canonical, State.bump_canonical]

theorem State.discardOn_canonical (t lt) : tablesCanonical (s.discardOn t lt) := by
  grind [State.discardOn, foldl_canonical, State.discardAll_canonical]

theorem State.promote_canonical (t lt r cause kind sound) : tablesCanonical (s.promote t lt r cause kind sound) := by
  grind [State.promote, foldl_canonical, State.updSite_canonical, State.mapChanged_canonical, State.newEpochs_canonical,
    State.raise_canonical, State.logDefect_canonical, State.loseBoth_canonical, State.groupBits_canonical,
    State.freshLooms_canonical, State.newCellar_canonical, State.reissue_canonical, State.spillTile_canonical,
    State.redirect_canonical, State.rebuildState_canonical, State.rederiveAll_canonical]

theorem State.orphan_canonical (t lt cause kind sound) : tablesCanonical (s.orphan t lt cause kind sound) := by
  grind [State.orphan, tablesCanonical_iff, foldl_canonical, State.updSite_canonical, State.mapChanged_canonical,
    State.newEpochs_canonical, State.raise_canonical, State.logDefect_canonical, State.loseBoth_canonical,
    State.faultPlot_canonical, State.groupBits_canonical, State.freshLooms_canonical, State.rederiveAll_canonical,
    State.spillTile_canonical, State.endRecovery_canonical, State.rebuildState_canonical]

theorem State.endHold_canonical (t) : tablesCanonical (s.endHold t) := by
  grind [State.endHold, State.bump_canonical, State.updSite_canonical]

theorem State.failIdle_canonical (t kind cause sound) : tablesCanonical (s.failIdle t kind cause sound) := by
  grind [State.failIdle, State.rederiveAll_canonical, State.raise_canonical, State.logDefect_canonical, State.mapChanged_canonical,
    State.updSite_canonical]

theorem State.failNow_canonical (t cause sound) : tablesCanonical (s.failNow t cause sound) := by
  grind [State.failNow, State.endHold_canonical, State.failIdle_canonical, State.discardOn_canonical, State.beginRecovery_canonical,
    State.noteLapse_canonical, State.promote_canonical, State.orphan_canonical]

theorem State.failTile_canonical (t cause sound) : tablesCanonical (s.failTile t cause sound) := by
  grind [State.failTile, tablesCanonical_iff, State.failNow_canonical]

theorem State.failWaiting_canonical : tablesCanonical (s.failWaiting) := by
  grind [State.failWaiting, tablesCanonical_iff, foldl_canonical, State.failNow_canonical]

theorem State.useSpare_canonical (x n event) : tablesCanonical (s.useSpare x n event) := by
  grind [State.useSpare, State.updSite_canonical, State.raise_canonical, State.logDefect_canonical, State.mapChanged_canonical,
    State.newEpoch_canonical, State.updLoom_canonical]

theorem State.failSlot_canonical (x event) : tablesCanonical (s.failSlot x event) := by
  grind [State.failSlot, State.failTile_canonical, State.discard_canonical, State.useSpare_canonical, State.noteLapse_canonical]

theorem State.startShutdown_canonical (cause) : tablesCanonical (s.startShutdown cause) := by
  grind [State.startShutdown, tablesCanonical_iff, foldl_canonical, State.discardAll_canonical, State.raise_canonical]

end Canonical

end Sys2Proof.Machine
end

section
/-! SUPPORT. The commands of tiles, fabric, looms, Cellar and Pantry keep the canonical form of the tables: one lemma per command,
after those of the operations of its chapter. -/

namespace Sys2Proof.Machine

section Canonical

variable {s t : State} (h : tablesCanonical s)
include h

/-! ### Holds, time and ticks -/

theorem State.noteHeadroom_canonical (x old) : tablesCanonical (s.noteHeadroom x old) := by
  grind [State.noteHeadroom, State.raise_canonical]

theorem State.raiseTap_canonical (x d) : tablesCanonical (s.raiseTap x d) := by
  grind [State.raiseTap, State.noteHeadroom_canonical, State.bump_canonical, State.updSlot_canonical]

theorem State.canaryDead_canonical (x) : tablesCanonical (s.canaryDead x) := by
  grind [State.canaryDead, State.raise_canonical, State.failSlot_canonical, State.updSite_canonical, State.logDefect_canonical,
    State.mapChanged_canonical]

theorem State.canaryFail_canonical (x d) : tablesCanonical (s.canaryFail x d) := by
  grind [State.canaryFail, State.updSlot_canonical, State.raiseTap_canonical]

theorem execCanaryTest_canonical (slot settled) (ht : execCanaryTest slot settled s = .next t) : tablesCanonical t := by
  grind [execCanaryTest, foldl_canonical, State.canaryDead_canonical, State.canaryFail_canonical]

theorem execTrimApply_canonical (slot) (ht : execTrimApply slot s = .next t) : tablesCanonical t := by
  grind [execTrimApply, foldl_canonical, State.raiseTap_canonical]

theorem execHoldAssert_canonical (tile sensed) (ht : execHoldAssert tile sensed s = .next t) : tablesCanonical t := by
  grind [execHoldAssert, State.raise_canonical, State.bump_canonical, State.updSite_canonical]

theorem execHoldRelease_canonical (tile lowest) (ht : execHoldRelease tile lowest s = .next t) : tablesCanonical t := by
  grind [execHoldRelease, State.raise_canonical, State.bump_canonical, State.updSite_canonical]

theorem execHoldTimeout_canonical (tile) (ht : execHoldTimeout tile s = .next t) : tablesCanonical t := by
  unfold execHoldTimeout at ht
  split at ht
  · exact Host.Outcome.next.inj ht ▸ h
  · rw [← Host.Outcome.next.inj ht]
    split
    · exact tablesCanonical_ite (State.failTile_canonical h _ _ _) h
    · exact tablesCanonical_ite (State.startShutdown_canonical h 0) h

theorem State.passNs_canonical : tablesCanonical (s.passNs) := by
  grind [State.passNs, tablesCanonical_iff]

theorem execBellRefEdge_canonical (phaseError) (ht : execBellRefEdge phaseError s = .next t) : tablesCanonical t := by
  grind [execBellRefEdge, tablesCanonical_iff, State.raise_canonical]

theorem execBellRefLoss_canonical (ht : execBellRefLoss s = .next t) : tablesCanonical t := by
  grind [execBellRefLoss, tablesCanonical_iff, State.raise_canonical]

theorem State.countTick_canonical (instant corr) : tablesCanonical (s.countTick instant corr) := by
  grind [State.countTick, tablesCanonical_iff, State.bump_canonical]

theorem execTickEdge_canonical (ht : execTickEdge s = .next t) : tablesCanonical t := by
  grind [execTickEdge, tablesCanonical_iff, State.countTick_canonical, State.raise_canonical]

theorem execTickMissing_canonical (ht : execTickMissing s = .next t) : tablesCanonical t := by
  grind [execTickMissing, tablesCanonical_iff, State.raise_canonical]

theorem execTimeLoad_canonical (f body) (ht : execTimeLoad f body s = .next t) : tablesCanonical t := by
  grind [execTimeLoad, tablesCanonical_iff, State.serveWrite_canonical]

theorem execTickPeriod_canonical (f body) (ht : execTickPeriod f body s = .next t) : tablesCanonical t := by
  grind [execTickPeriod, State.serveWrite_canonical, State.setCell_canonical]

/-! ### Routers and endpoints -/

theorem State.sendTransfer_canonical (k u m left) : tablesCanonical (s.sendTransfer k u m left) := by
  grind [State.sendTransfer, State.updChan_canonical, State.place_canonical, State.release_canonical]

theorem execMessageForward_canonical (site edge chan) (ht : execMessageForward site edge chan s = .next t) : tablesCanonical t := by
  grind [execMessageForward, State.updChan_canonical, State.sendTransfer_canonical]

theorem execCreditReturn_canonical (site edge chan cls set) (ht : execCreditReturn site edge chan cls set s = .next t) :
    tablesCanonical t := by
  grind [execCreditReturn, State.updChan_canonical]

theorem State.passOn_canonical (n m) : tablesCanonical (s.passOn n m) := by
  grind [State.passOn, State.inject_canonical]

theorem State.land_canonical (n stream w m) : tablesCanonical (s.land n stream w m) := by
  grind [State.land, foldl_canonical, State.partFault_canonical, State.updLoom_canonical]

theorem State.accept_canonical (e m) : tablesCanonical (s.accept e m) := by
  grind [State.accept, tablesCanonical_iff, State.staleOut_canonical, State.passOn_canonical, State.land_canonical]

theorem execMessageReceive_canonical (endpoint) (ht : execMessageReceive endpoint s = .next t) : tablesCanonical t := by
  grind [execMessageReceive, tablesCanonical_iff, State.faultPlot_canonical, State.inject_canonical, State.accept_canonical]

theorem State.countStale_canonical (sender) : tablesCanonical (s.countStale sender) := by
  grind [State.countStale, State.updLoom_canonical, State.bump_canonical]

theorem State.reissueStale_canonical : tablesCanonical (s.reissueStale) := by
  grind [State.reissueStale, tablesCanonical_iff, foldl_canonical, State.inject_canonical]

theorem execEpochStaleReply_canonical (sender dest) (ht : execEpochStaleReply sender dest s = .next t) : tablesCanonical t := by
  grind [execEpochStaleReply, tablesCanonical_iff, State.countStale_canonical, State.reissueStale_canonical,
    State.updLoom_canonical]

theorem State.rewriteStale_canonical (ls) : tablesCanonical (s.rewriteStale ls) := h

theorem execStepRerun_canonical (step) (ht : execStepRerun step s = .next t) : tablesCanonical t := by
  grind [execStepRerun, foldl_canonical, State.rewriteStale_canonical, State.discard_canonical, State.newTag_canonical,
    State.updStep_canonical, State.pickStep_canonical]

/-! ### Sequencers -/

theorem State.seq_canonical (l op) {act : Nat → Nat → State → State} (hact : ∀ x y s, tablesCanonical s → tablesCanonical (act x y
    s)) : tablesCanonical (s.seq l op act) := by
  grind [State.seq, State.addrFault_canonical]

theorem State.advance_canonical (n) : tablesCanonical (s.advance n) := by
  grind [State.advance, State.updLoom_canonical]

theorem State.advanceWith_canonical (n f) : tablesCanonical (s.advanceWith n f) := by
  grind [State.advanceWith, State.advance_canonical, State.updLoom_canonical]

theorem State.interlock_canonical (p n k by_) : tablesCanonical (s.interlock p n k by_) := by
  grind [State.interlock, State.bump_canonical, State.updLoom_canonical]

theorem State.stallFor_canonical (p n why count) : tablesCanonical (s.stallFor p n why count) := by
  cases count <;> grind [State.stallFor, State.interlock_canonical, State.updLoom_canonical]

theorem State.benchParity_canonical (l p id) : tablesCanonical (s.benchParity l p id) := by
  grind [State.benchParity, State.raise_canonical, State.bump_canonical, State.updSlot_canonical, State.failSlot_canonical,
    State.discard_canonical]

theorem State.upsets_canonical (n ws) : tablesCanonical (s.upsets n ws) := by
  grind [State.upsets, State.updLoom_canonical]

theorem State.benchGate_canonical (l p id ranges) {act : State → State} (hact : ∀ s, tablesCanonical s → tablesCanonical (act s)) :
    tablesCanonical (s.benchGate l p id ranges act) := by
  grind [State.benchGate, State.updLoom_canonical, State.interlock_canonical, State.benchParity_canonical]

theorem State.badFormat_canonical (p) : tablesCanonical (s.badFormat p) := by
  grind [State.badFormat, State.faultPlot_canonical]

/-! ### Weights and passes -/

theorem State.count9210_canonical (sub n) : tablesCanonical (s.count9210 sub n) := by
  grind [State.count9210, State.bump_canonical]

theorem State.countFormat_canonical (fmt cs ws) : tablesCanonical (s.countFormat fmt cs ws) := by
  grind [State.countFormat, State.count9210_canonical]

theorem execLdw_canonical (l x) (ht : execLdw l x s = .next t) : tablesCanonical t := by
  grind [execLdw, State.seq_canonical, State.upsets_canonical, State.badFormat_canonical, State.benchGate_canonical,
    State.count9210_canonical, State.countFormat_canonical, State.updLoom_canonical, State.advance_canonical]

theorem execXchg_canonical (l) (ht : execXchg l s = .next t) : tablesCanonical t := by
  grind [execXchg, State.seq_canonical, State.advanceWith_canonical, State.stallFor_canonical]

theorem State.offer_canonical (x) : tablesCanonical (s.offer x) := by
  grind [State.offer, tablesCanonical_iff, State.updSite_canonical]

theorem State.ageSamples_canonical (n) : tablesCanonical (s.ageSamples n) := h

theorem State.witness_canonical (l p id ip w a accs) : tablesCanonical (s.witness l p id ip w a accs) := by
  grind [State.witness, foldl_canonical, State.offer_canonical]

theorem execPass_canonical (l a luck) (ht : execPass l a luck s = .next t) : tablesCanonical t := by
  grind [execPass, State.seq_canonical, State.upsets_canonical, State.badFormat_canonical, State.benchGate_canonical,
    State.count9210_canonical, State.countFormat_canonical, State.advanceWith_canonical, State.witness_canonical,
    State.ageSamples_canonical]

/-! ### Fullers -/

theorem State.sendAppend_canonical (p n l op) : tablesCanonical (s.sendAppend p n l op) := by
  cases op <;> grind [State.sendAppend, State.inject_canonical]

theorem State.updFresh_canonical (n id f) : tablesCanonical (s.updFresh n id f) := h

theorem State.copyFull_canonical (id n l wrong op) : tablesCanonical (s.copyFull id n l wrong op) := by
  cases op <;> grind [State.copyFull, State.updFresh_canonical]

theorem execFull_canonical (l run) (ht : execFull l run s = .next t) : tablesCanonical t := by
  grind [execFull, foldl_canonical, State.seq_canonical, State.upsets_canonical, State.badFormat_canonical,
    State.addrFault_canonical, State.partFault_canonical, State.benchGate_canonical, State.stallFor_canonical,
    State.copyFull_canonical, State.count9210_canonical, State.advanceWith_canonical, State.sendAppend_canonical]

/-! ### Decoupling queues -/

theorem execSend_canonical (l dest epoch cls kind x upset) (ht : execSend l dest epoch cls kind x upset s = .next t) :
    tablesCanonical t := by
  grind [execSend, tablesCanonical_iff, State.seq_canonical, State.upsets_canonical, State.updLoom_canonical,
    State.badFormat_canonical, State.partFault_canonical, State.addrFault_canonical, State.benchGate_canonical,
    State.advance_canonical, State.inject_canonical]

theorem State.sendPieces_canonical (p n q t attempt r data) : tablesCanonical (s.sendPieces p n q t attempt r data) := by
  refine foldlOn_canonical Prod.fst (fun a x ha => ?_) _ h
  grind [State.inject_canonical]

theorem State.issueTo_canonical (p l q r) : tablesCanonical (s.issueTo p l q r) := by
  cases r <;> grind [State.issueTo, State.interlock_canonical, State.emit_canonical, State.enqueueFrame_canonical,
    State.sendPieces_canonical, State.advanceWith_canonical]

theorem execIssue_canonical (l q x) (ht : execIssue l q x s = .next t) : tablesCanonical t := by
  grind [execIssue, State.seq_canonical, State.upsets_canonical, State.stallFor_canonical, State.addrFault_canonical,
    State.partFault_canonical, State.benchGate_canonical, State.issueTo_canonical]

theorem State.badWait_canonical (p n) : tablesCanonical (s.badWait p n) := by
  grind [State.badWait, State.faultPlot_canonical, State.raise_canonical, State.bump_canonical]

theorem State.linkDiscard_canonical (p id) : tablesCanonical (s.linkDiscard p id) := by
  grind [State.linkDiscard, State.faultPlot_canonical, State.discard_canonical, State.updStep_canonical]

theorem execWait_canonical (l q ticket) (ht : execWait l q ticket s = .next t) : tablesCanonical t := by
  grind [execWait, State.seq_canonical, State.badWait_canonical, State.stallFor_canonical, State.faultPlot_canonical,
    State.updLoom_canonical, State.linkDiscard_canonical, State.advanceWith_canonical]

theorem execFence_canonical (l q) (ht : execFence l q s = .next t) : tablesCanonical t := by
  grind [execFence, State.seq_canonical, State.stallFor_canonical, State.advanceWith_canonical]

theorem execHint_canonical (l lead cls) (ht : execHint l lead cls s = .next t) : tablesCanonical t := by
  grind [execHint, State.seq_canonical, State.advanceWith_canonical, State.inject_canonical, State.advance_canonical,
    State.bump_canonical]

theorem execBr_canonical (l field value target) (ht : execBr l field value target s = .next t) : tablesCanonical t := by
  grind [execBr, State.seq_canonical, State.updLoom_canonical, State.advance_canonical]

theorem execStepend_canonical (l) (ht : execStepend l s = .next t) : tablesCanonical t := by
  grind [execStepend, State.seq_canonical, State.stallFor_canonical, State.updStep_canonical, State.updLoom_canonical,
    State.pickStep_canonical]

/-! ### Assayers -/

theorem State.checked_canonical (x f) : tablesCanonical (s.checked x f) := h

theorem execAssayCheck_canonical (tile p flip) (ht : execAssayCheck tile p flip s = .next t) : tablesCanonical t := by
  grind [execAssayCheck, State.checked_canonical, State.bump_canonical, State.raise_canonical, State.setCell_canonical,
    State.failSlot_canonical, State.discard_canonical, State.logDefect_canonical, State.updSite_canonical]

theorem State.newResidual_canonical (p layer lim win) : tablesCanonical (s.newResidual p layer lim win) := by
  grind [State.newResidual, State.draw_canonical, State.measure_canonical, State.updPlot_canonical, State.raise_canonical]

theorem execQualityCheck_canonical (tile p layer) (ht : execQualityCheck tile p layer s = .next t) : tablesCanonical t := by
  grind [execQualityCheck, State.checked_canonical, State.newResidual_canonical, State.updPlot_canonical]

/-! ### The Cellar's commands -/

theorem State.answerRead_canonical (tag st data) : tablesCanonical (s.answerRead tag st data) := h

theorem State.cellarFault_canonical (tag src) : tablesCanonical (s.cellarFault tag src) := by
  grind [State.cellarFault, State.faultPlot_canonical, State.raise_canonical, State.bump_canonical]

theorem State.poisonedRead_canonical (tag lt r) : tablesCanonical (s.poisonedRead tag lt r) := by
  grind [State.poisonedRead, State.answerRead_canonical, State.faultPlot_canonical]

theorem State.returnRead_canonical (tag a n data) : tablesCanonical (s.returnRead tag a n data) := by
  grind [State.returnRead, State.inject_canonical, State.takeMsg_canonical]

theorem State.goodRead_canonical (tag a n) : tablesCanonical (s.goodRead tag a n) := by
  grind [State.goodRead, State.returnRead_canonical, State.answerRead_canonical]

theorem execCellarRead_canonical (addr tag len e) (ht : execCellarRead addr tag len e s = .next t) : tablesCanonical t := by
  grind [execCellarRead, State.cellarFault_canonical, State.answerRead_canonical, State.poisonedRead_canonical,
    State.goodRead_canonical, State.poisonUnit_canonical, State.checkCodes_canonical]

theorem execChainXor_canonical (member row x) (ht : execChainXor member row x s = .next t) : tablesCanonical t := by
  grind [execChainXor, State.checkCodes_canonical, State.inject_canonical, State.takeMsg_canonical]

theorem execCellarWrite_canonical (addr tag data) (ht : execCellarWrite addr tag data s = .next t) : tablesCanonical t := by
  grind [execCellarWrite, State.cellarFault_canonical, State.writeUnit_canonical, State.takeMsg_canonical]

theorem execParityDeltaApply_canonical (id) (ht : execParityDeltaApply id s = .next t) : tablesCanonical t := by
  grind [execParityDeltaApply, State.deltaNow_canonical, State.takeMsg_canonical, State.inject_canonical]

theorem State.parcelWritten_canonical (p n) : tablesCanonical (s.parcelWritten p n) := by
  grind [State.parcelWritten, State.updPlot_canonical, State.bump_canonical]

theorem State.writeDone_canonical (w) : tablesCanonical (s.writeDone w) := by
  grind [State.writeDone, tablesCanonical_iff, State.parcelWritten_canonical]

theorem execCellarWriteComplete_canonical (id) (ht : execCellarWriteComplete id s = .next t) : tablesCanonical t := by
  grind [execCellarWriteComplete, State.writeDone_canonical, State.takeMsg_canonical]

theorem State.splitWrite_canonical (a plot data) : tablesCanonical (s.splitWrite a plot data) := by
  grind [State.splitWrite, State.writeUnit_canonical]

theorem State.noteAppend_canonical (id x) : tablesCanonical (s.noteAppend id x) := by
  grind [State.noteAppend, State.updStep_canonical]

theorem execKvAppend_canonical (p m layer request position kv head codes scales) (ht : execKvAppend p m layer request position kv
    head codes scales s = .next t) : tablesCanonical t := by
  rw [← Host.Outcome.next.inj ht]
  repeat' split
  all_goals grind [State.takeMsg_canonical, State.splitWrite_canonical, State.noteAppend_canonical]

theorem State.scrubNext_canonical (t c e) : tablesCanonical (s.scrubNext t c e) := by
  grind [State.scrubNext, tablesCanonical_iff, State.checkCodes_canonical, State.setCell_canonical]

theorem execRefreshSlot_canonical (tile chan x) (ht : execRefreshSlot tile chan x s = .next t) : tablesCanonical t := by
  grind [execRefreshSlot, tablesCanonical_iff, State.scrubNext_canonical]

theorem execRefreshIntervalChange_canonical (tile tj highest) (ht : execRefreshIntervalChange tile tj highest s = .next t) :
    tablesCanonical t := by
  grind [execRefreshIntervalChange, State.raise_canonical, State.setCell_canonical]

theorem execRebuildStart_canonical (lt) (ht : execRebuildStart lt s = .next t) : tablesCanonical t := by
  grind [execRebuildStart, tablesCanonical_iff, State.raise_canonical, State.measureRows_canonical, State.rebuildState_canonical]

theorem State.restoreRow_canonical (lt r) : tablesCanonical (s.restoreRow lt r) := by
  grind [State.restoreRow, State.poisonUnit_canonical, State.cstore_canonical, State.applyDelta_canonical]

theorem State.clearErased_canonical (lt r) : tablesCanonical (s.clearErased lt r) := by
  grind [State.clearErased, tablesCanonical_iff]

theorem State.rebuildComplete_canonical (lt u) : tablesCanonical (s.rebuildComplete lt u) := by
  grind [State.rebuildComplete, tablesCanonical_iff, State.endRecovery_canonical, State.raise_canonical, State.groupBits_canonical,
    State.rebuildState_canonical]

theorem execRebuildRow_canonical (ht : execRebuildRow s = .next t) : tablesCanonical t := by
  rw [← Host.Outcome.next.inj ht]
  split
  · exact h
  next lt _ _ =>
    split
    · exact h
    next u _ =>
      split
      · exact State.rebuildComplete_canonical h _ _
      next ph r _ =>
        have hrow (v : Tab (Option Unbuilt)) : tablesCanonical { s.restoreRow lt r with
            cellar := { (s.restoreRow lt r).cellar with unbuilt := v } } := State.restoreRow_canonical h lt r
        have hdone (v done) := State.clearErased_canonical (State.measureRows_canonical (hrow v) lt done) lt r
        exact tablesCanonical_ite h (tablesCanonical_ite (State.rebuildComplete_canonical (hdone _ _) _ _) (hdone _ _))

/-! ### Spills and fills -/

theorem State.putFrame_canonical (p im x f data) : tablesCanonical (s.putFrame p im x f data) := by
  grind [State.putFrame, foldl_canonical, State.longWrite_canonical]

theorem execSpillStart_canonical (p request) (ht : execSpillStart p request s = .next t) : tablesCanonical t := by
  rw [← Host.Outcome.next.inj ht]
  repeat' split
  all_goals grind [State.poisonUnit_canonical, State.poisonedRead_canonical, State.updPool_canonical, State.updOb_canonical,
    State.emit_canonical]

theorem State.movedPage_canonical (i d j) : tablesCanonical (s.movedPage i d j) := by
  grind [State.movedPage, State.updOb_canonical, State.transferEnd_canonical, State.settle_canonical, State.releasePages_canonical]

theorem execSpillAck_canonical (p request draft page) (ht : execSpillAck p request draft page s = .next t) : tablesCanonical t := by
  grind [execSpillAck, State.movedPage_canonical, State.raise_canonical, State.updOb_canonical, State.bump_canonical,
    State.returnFrame_canonical]

theorem execSpillAckTimeout_canonical (p request draft page) (ht : execSpillAckTimeout p request draft page s = .next t) :
    tablesCanonical t := by
  grind [execSpillAckTimeout, State.movedPage_canonical, State.raise_canonical, State.updOb_canonical]

theorem execFillStart_canonical (p request) (ht : execFillStart p request s = .next t) : tablesCanonical t := by
  rw [← Host.Outcome.next.inj ht]
  split
  · exact h
  · dsimp only
    split
    · refine tablesCanonical_ite h ?_
      split
      · exact h
      · split
        · exact h
        next hframe => exact State.emit_canonical (State.updOb_canonical (State.allocFrame_canonical h _ _ _ hframe) _ _) _
    · exact h

theorem State.lostTransferEnd_canonical (i d j) : tablesCanonical (s.lostTransferEnd i d j) := by
  grind [State.lostTransferEnd, State.settle_canonical, State.transferEnd_canonical]

theorem execFillComplete_canonical (p request draft page data) (ht : execFillComplete p request draft page data s = .next t) :
    tablesCanonical t := by
  grind [execFillComplete, State.lostTransferEnd_canonical, State.bump_canonical, State.putFrame_canonical,
    State.movedPage_canonical, State.updOb_canonical]

theorem State.fillFails_canonical (p request draft page why) : tablesCanonical (s.fillFails p request draft page why) := by
  grind [State.fillFails, State.lostTransferEnd_canonical, State.settle_canonical, State.releasePages_canonical,
    State.transferEnd_canonical, State.updOb_canonical, State.raise_canonical, State.bump_canonical, State.emit_canonical,
    State.returnFrame_canonical, State.endRequest_canonical]

theorem execFillFailed_canonical (p request draft page why) (ht : execFillFailed p request draft page why s = .next t) :
    tablesCanonical t := by
  grind [execFillFailed, State.fillFails_canonical]

end Canonical

end Sys2Proof.Machine
end

section
/-! SUPPORT. The commands of images, plots, requests and host ports keep the canonical form of the tables: one lemma per command,
after those of the operations of its chapter. -/

namespace Sys2Proof.Machine

section Canonical

variable {s t : State} (h : tablesCanonical s)
include h

/-! ### Images and Parcels -/

theorem State.cancelAll_canonical (p) : tablesCanonical (s.cancelAll p) := by
  grind [State.cancelAll, foldl_canonical, State.settle_canonical, State.endRequest_canonical]

theorem State.releaseExtents_canonical (p) : tablesCanonical (s.releaseExtents p) := by
  grind [State.releaseExtents, tablesCanonical_iff, foldl_canonical, State.raise_canonical]

theorem State.releaseRoutes_canonical (p) : tablesCanonical (s.releaseRoutes p) := by
  grind [State.releaseRoutes, tablesCanonical_iff, foldl_canonical, State.retryChans_canonical, State.release_canonical]

theorem State.clearLooms_canonical (p) : tablesCanonical (s.clearLooms p) := by
  grind [State.clearLooms, foldl_canonical, State.updLoom_canonical, State.newEpochs_canonical]

theorem State.unloadImage_canonical (p) : tablesCanonical (s.unloadImage p) := by
  grind [State.unloadImage, tablesCanonical_iff, foldl_canonical, State.setCell_canonical, State.updPlot_canonical,
    State.maybeFree_canonical, State.updOb_canonical, State.updLoom_canonical]

theorem State.failLoad_canonical (p) : tablesCanonical (s.failLoad p) := by
  grind [State.failLoad, tablesCanonical_iff, State.updPlot_canonical, State.releaseRoutes_canonical, State.noteBusy_canonical,
    State.releaseExtents_canonical, State.setCell_canonical, State.unloadImage_canonical]

theorem State.takePlan_canonical (p im) : tablesCanonical (s.takePlan p im) := h

theorem State.checkLoad_canonical (p im gen x) : tablesCanonical (s.checkLoad p im gen x).1 := by
  grind [State.checkLoad, State.setCell_canonical, State.updPlot_canonical, State.raise_canonical, State.takePlan_canonical]

theorem execLoadRequest_canonical (f p body img) (ht : execLoadRequest f p body img s = .next t) : tablesCanonical t := by
  grind [execLoadRequest, State.serve_canonical, State.checkLoad_canonical, State.trigger_canonical, State.updPlot_canonical,
    State.cancelAll_canonical, State.setCell_canonical]

theorem execReloadDrainEnd_canonical (p) (ht : execReloadDrainEnd p s = .next t) : tablesCanonical t := by
  grind [execReloadDrainEnd, State.setCell_canonical, State.releaseExtents_canonical, State.unloadImage_canonical,
    State.clearLooms_canonical, State.releaseRoutes_canonical, State.updPlot_canonical, State.checkLoad_canonical]

theorem execImageAuthenticated_canonical (p verifies) (ht : execImageAuthenticated p verifies s = .next t) : tablesCanonical t := by
  grind [execImageAuthenticated, State.failLoad_canonical, State.setCell_canonical, State.raise_canonical]

theorem State.takeEngine_canonical (p use xs) : tablesCanonical (s.takeEngine p use xs) := h

theorem State.takeSave_canonical (p im) : tablesCanonical (s.takeSave p im) := by
  grind [State.takeSave, foldl_canonical, State.updPlot_canonical, State.takeEngine_canonical]

theorem execImageApplied_canonical (p) (ht : execImageApplied p s = .next t) : tablesCanonical t := by
  grind [execImageApplied, tablesCanonical_iff, foldl_canonical, State.failLoad_canonical, State.takeSave_canonical,
    State.takeEngine_canonical, State.updLoom_canonical, State.setCell_canonical, State.updPlot_canonical,
    State.checkCycles_canonical, State.rederive_canonical]

theorem execLoadReady_canonical (p) (ht : execLoadReady p s = .next t) : tablesCanonical t := by
  grind [execLoadReady, State.failLoad_canonical, State.setCell_canonical, State.updPlot_canonical, State.noteBusy_canonical]

theorem State.ringTake_canonical (p im e) : tablesCanonical (s.ringTake p im e) := by
  grind [State.ringTake, State.updPlot_canonical]

theorem State.ringFilled_canonical (p n range) : tablesCanonical (s.ringFilled p n range) := by
  grind [State.ringFilled, State.updPlot_canonical]

theorem State.sendParcel_canonical (p n port a bytes) : tablesCanonical (s.sendParcel p n port a bytes) := by
  grind [State.sendParcel, State.inject_canonical, State.parcelWritten_canonical, State.writeUnit_canonical]

theorem execParcelReceive_canonical (p n bytes tagOk) (ht : execParcelReceive p n bytes tagOk s = .next t) : tablesCanonical t := by
  unfold execParcelReceive at ht
  split at ht
  · cases ht
  · rw [← Host.Outcome.next.inj ht]
    dsimp only
    repeat' split
    all_goals grind [State.bump_canonical, State.raise_canonical, State.updPlot_canonical, State.failLoad_canonical,
      State.cellarFault_canonical, State.ringTake_canonical, State.sendParcel_canonical]

theorem execRouteLoad_canonical (p) (ht : execRouteLoad p s = .next t) : tablesCanonical t := by
  grind [execRouteLoad, tablesCanonical_iff, State.updPlot_canonical, State.unpark_canonical, State.raise_canonical,
    State.checkCycles_canonical]

theorem execChannelReleaseRoute_canonical (site edge chan) (ht : execChannelReleaseRoute site edge chan s = .next t) :
    tablesCanonical t := by
  grind [execChannelReleaseRoute, tablesCanonical_iff, State.retryChans_canonical]

theorem State.checkPieces_canonical (p n r e) : tablesCanonical (s.checkPieces p n r e) := by
  grind [State.checkPieces, foldl_canonical, State.checkCodes_canonical, State.poisonUnit_canonical]

theorem State.takePieces_canonical (p n q t attempt r) : tablesCanonical (s.takePieces p n q t attempt r).1 := by
  refine foldlOn_canonical Prod.fst (fun a x ha => ?_) _ h
  grind [State.takeMsg_canonical]

theorem State.entryEffect_canonical (p n q e st data ecc stale) : tablesCanonical (s.entryEffect p n q e st data ecc stale).1 := by
  grind [State.entryEffect, foldl_canonical, State.updLoom_canonical, State.checkPieces_canonical, State.takePieces_canonical,
    State.ringFilled_canonical, State.longWrite_canonical, State.raise_canonical, State.bump_canonical]

theorem execQueueEntryComplete_canonical (l q ticket attempt st back) (ht : execQueueEntryComplete l q ticket attempt st back s =
    .next t) : tablesCanonical t := by
  grind [execQueueEntryComplete, State.entryEffect_canonical, State.noteBusy_canonical, State.updLoom_canonical,
    State.interlock_canonical]

theorem execUnfilledReadResume_canonical (l) (ht : execUnfilledReadResume l s = .next t) : tablesCanonical t := by
  grind [execUnfilledReadResume, State.updLoom_canonical, State.interlock_canonical]

theorem execStreamPassEnd_canonical (p layer loadNs computeNs) (ht : execStreamPassEnd p layer loadNs computeNs s = .next t) :
    tablesCanonical t := by
  grind [execStreamPassEnd, State.raiseLimited_canonical, State.bump_canonical]

/-! ### Steps and plots -/

theorem State.toCool_canonical (i) : tablesCanonical (s.toCool i) := by
  grind [State.toCool, State.updOb_canonical, State.post_canonical]

theorem State.allocPages_canonical (p i m d hi) (ht : (s.allocPages p i m d hi).1 = some t) : tablesCanonical t := by
  refine foldlOpt_canonical Prod.fst (fun b j hb u hu => ?_) _ (fun u hu => ?_) t ht
  · split at hu
    · exact hb u hu
    next v hv =>
      split at hu
      · exact hb u hu
      · split at hu
        next f s1 hsome =>
          obtain ⟨w, hw, hr⟩ := Option.bind_eq_some_iff.1 hsome
          rw [← Option.some.inj hu]
          exact State.updOb_canonical (State.allocFrame_canonical (State.holdPage_canonical (hb v hv) _ _ _ hw) _ _ _ hr) _ _
        · cases hu
        · exact hb u hu
  · exact Option.some.inj hu ▸ h

theorem State.allocFor_canonical (p i o hi) (ht : (s.allocFor p i o hi).1 = some t) : tablesCanonical t := by
  unfold State.allocFor at ht
  dsimp only at ht
  have hmain : ∀ u, (match s.pool p o.mslot with
      | some _ => s.allocPages p i o.mslot false hi
      | none => (some s, 0)).1 = some u → tablesCanonical u := by grind [State.allocPages_canonical]
  split at ht
  · cases ht
  next s1 h1 _ => exact Option.some.inj ht ▸ hmain s1 h1
  next s1 dm h1 _ =>
    split at ht
    · exact Option.some.inj ht ▸ hmain s1 h1
    · exact State.allocPages_canonical (hmain s1 h1) _ _ _ _ _ ht

omit h in
theorem State.consider_canonical (p mdl) {b : State × List StepReq × Nat × Nat} (hb : tablesCanonical b.1) (c) :
    tablesCanonical (State.consider p mdl b c).1 := by
  unfold State.consider
  dsimp only
  split
  · exact State.raiseLimited_canonical (State.bump_canonical hb _ _ _ _) _ _ _ _ _
  · split
    · exact hb
    · split
      · exact State.raiseLimited_canonical (State.bump_canonical hb _ _ _ _) _ _ _ _ _
      next s1 h1 => exact State.allocFor_canonical hb _ _ _ _ h1

theorem State.coolClass_canonical (mark m c x free os) : tablesCanonical (State.coolClass mark m c x s free os) := by
  induction os generalizing s free with
  | nil => exact h
  | cons e rest ih => grind [State.coolClass, State.toCool_canonical]

theorem State.coolPool_canonical (p m) : tablesCanonical (s.coolPool p m) := by
  grind [State.coolPool, foldl_canonical, State.coolClass_canonical]

theorem State.coolLow_canonical (p m) : tablesCanonical (s.coolLow p m) := by
  grind [State.coolLow, State.coolPool_canonical]

theorem State.takeServing_canonical (p) : tablesCanonical (s.takeServing p) := by
  grind [State.takeServing, foldl_canonical, State.updPlot_canonical]

theorem State.startGap_canonical (p m) : tablesCanonical (s.startGap p m) := by
  grind [State.startGap, State.updPlot_canonical, State.bump_canonical]

theorem execStepForm_canonical (p m) (ht : execStepForm p m s = .next t) : tablesCanonical t := by
  rw [← Host.Outcome.next.inj ht]
  split
  next im mdl _ _ =>
    have hformed : tablesCanonical
        (((s.takeServing p.val).candidates p.val m.val).foldl (State.consider p.val mdl) (s.takeServing p.val, [], 0, 0)).1 :=
      foldlOn_canonical Prod.fst (fun b c hb => State.consider_canonical p.val mdl hb c) _ (State.takeServing_canonical h p.val)
    dsimp only
    generalize ((s.takeServing p.val).candidates p.val m.val).foldl (State.consider p.val mdl) (s.takeServing p.val, [], 0, 0) = r at *
    have hcool := State.coolLow_canonical hformed p.val m.val
    generalize r.1.coolLow p.val m.val = s1 at *
    refine tablesCanonical_ite h (tablesCanonical_ite (State.startGap_canonical h _ _) (tablesCanonical_ite hcool ?_))
    refine foldl_canonical (fun s k hs => State.pickStep_canonical hs k) _
      (foldl_canonical (fun s q hs => State.updOb_canonical hs _ _) _ ?_)
    have htag : tablesCanonical (s1.newTag p.val).2 := State.newTag_canonical hcool _
    exact htag
  · exact h

theorem State.settlePages_canonical (i c) : tablesCanonical (s.settlePages i c) := by
  grind [State.settlePages, foldl_canonical, State.updOb_canonical, State.bump_canonical, State.returnFrame_canonical]

theorem State.leave_canonical (i) : tablesCanonical (s.leave i).1 := by
  grind [State.leave, State.settleCore_canonical, State.releasePages_canonical, State.maybeFree_canonical]

theorem State.countCommit_canonical (i r c tokens k smp) : tablesCanonical (s.countCommit i r c tokens k smp) := by
  grind [State.countCommit, State.updPlot_canonical, State.bump_canonical]

theorem State.turnAfter_canonical (i more smp spent turnEnd) : tablesCanonical (s.turnAfter i more smp spent turnEnd) := by
  grind [State.turnAfter, State.updOb_canonical]

theorem State.commitWith_canonical (r e trained) : tablesCanonical (s.commitWith r e trained).1 := by
  grind [State.commitWith, State.updOb_canonical, State.countCommit_canonical, State.settlePages_canonical,
    State.turnAfter_canonical, State.releasePages_canonical, State.settleCore_canonical, State.drainCore_canonical,
    State.maybeFree_canonical]

theorem State.commitReq_canonical (driven r out) : tablesCanonical (s.commitReq driven r out).1 := by
  grind [State.commitReq, State.leave_canonical, State.bump_canonical, State.commitWith_canonical]

theorem execStepCommit_canonical (step outs) (ht : execStepCommit step outs s = .next t) : tablesCanonical t := by
  rw [← Host.Outcome.next.inj ht]
  split
  · exact h
  next x _ =>
    refine tablesCanonical_ite h (State.bump_canonical (State.bump_canonical (State.postAll_canonical ?_ _) _ _ _ _) _ _ _ _)
    refine foldlOn_canonical (Prod.fst : State × List (Nat × Result) → State) (fun b q hb => ?_) _ ?_
    · exact State.commitReq_canonical hb _ _ _
    · have hkept (y) : tablesCanonical { s with samples := y } := h
      exact State.dropStep_canonical (hkept _) step

theorem execPlotCreate_canonical (f p body) (ht : execPlotCreate f p body s = .next t) : tablesCanonical t := by
  grind [execPlotCreate, tablesCanonical_iff, State.serveWrite_canonical, State.setCell_canonical, State.raise_canonical,
    State.newEpochs_canonical]

theorem execPlotResize_canonical (f p sub body) (ht : execPlotResize f p sub body s = .next t) : tablesCanonical t := by
  grind [execPlotResize, State.serveWrite_canonical, State.setCell_canonical]

theorem execTeardown_canonical (f p) (ht : execTeardown f p s = .next t) : tablesCanonical t := by
  grind [execTeardown, State.serveWrite_canonical, State.updPlot_canonical, State.trigger_canonical, State.cancelAll_canonical,
    State.setCell_canonical]

theorem State.unbind_canonical (p) : tablesCanonical (s.unbind p) := by
  grind [State.unbind, foldl_canonical, State.updQp_canonical]

theorem execTeardownDrainEnd_canonical (p) (ht : execTeardownDrainEnd p s = .next t) : tablesCanonical t := by
  grind [execTeardownDrainEnd, tablesCanonical_iff, foldl_canonical, State.releaseRoutes_canonical, State.unloadImage_canonical,
    State.clearLooms_canonical, State.releaseExtents_canonical, State.unbind_canonical, State.setCell_canonical,
    State.failoverEnds_canonical]

theorem State.zeroUnits_canonical (x us) : tablesCanonical (s.zeroUnits x us) := by
  grind [State.zeroUnits, foldl_canonical, State.settledWrite_canonical]

theorem State.eraseExtent_canonical (x) : tablesCanonical (s.eraseExtent x) := by
  have hmark {t : State} (ht : tablesCanonical t) (v) : tablesCanonical { t with cellar := { t.cellar with erase := v } } := ht
  exact hmark (State.zeroUnits_canonical h x _) _

theorem State.forgetPlot_canonical (p) : tablesCanonical (s.forgetPlot p) := h

theorem execEraseEnd_canonical (p) (ht : execEraseEnd p s = .next t) : tablesCanonical t := by
  grind [execEraseEnd, foldl_canonical, State.eraseExtent_canonical, State.raise_canonical, State.forgetPlot_canonical]

theorem execPlotReset_canonical (f p) (ht : execPlotReset f p s = .next t) : tablesCanonical t := by
  grind [execPlotReset, State.serveWrite_canonical, State.updPlot_canonical, State.trigger_canonical, State.cancelAll_canonical]

theorem execPlotResetClear_canonical (p) (ht : execPlotResetClear p s = .next t) : tablesCanonical t := by
  grind [execPlotResetClear, tablesCanonical_iff, foldl_canonical, State.clearLooms_canonical, State.maybeFree_canonical,
    State.updOb_canonical, State.updPlot_canonical, State.settledWrite_canonical, State.updLoom_canonical, State.setCell_canonical]

/-! ### Submissions and results -/

theorem State.countIgnored_canonical (n) : tablesCanonical (s.countIgnored n) := by
  grind [State.countIgnored, State.bump_canonical]

theorem execSqTailDoorbell_canonical (fn n v) (ht : execSqTailDoorbell fn n v s = .next t) : tablesCanonical t := by
  grind [execSqTailDoorbell, State.countIgnored_canonical, State.updQp_canonical]

theorem State.consume_canonical (n at_ k) : tablesCanonical (s.consume n at_ k) := by
  induction k generalizing s at_ with
  | zero => exact h
  | succ k ih => grind [State.consume, State.updQp_canonical, State.updOb_canonical, State.maybeFree_canonical]

theorem execRqHeadDoorbell_canonical (fn n v) (ht : execRqHeadDoorbell fn n v s = .next t) : tablesCanonical t := by
  grind [execRqHeadDoorbell, State.countIgnored_canonical, State.raise_canonical, State.updQp_canonical, State.consume_canonical]

theorem execResultEntryWrite_canonical (qp) (ht : execResultEntryWrite qp s = .next t) : tablesCanonical t := by
  grind [execResultEntryWrite, State.ringIrq_canonical, State.updQp_canonical, State.ringWrite_canonical]

theorem State.refuseSub_canonical (n e st) : tablesCanonical (s.refuseSub n e st) := by
  grind [State.refuseSub, State.post_canonical]

theorem State.ringFetched_canonical (n) : tablesCanonical (s.ringFetched n) := by
  grind [State.ringFetched, tablesCanonical_iff]

theorem State.submission_canonical (n e op) {act : State → Nat → State × Option Status} (hact : ∀ s x, tablesCanonical s →
    tablesCanonical (act s x).1) : tablesCanonical (s.submission n e op act) := by
  grind [State.submission, State.updQp_canonical, State.ringFetched_canonical, State.refuseSub_canonical]

theorem State.ack_canonical (i e) : tablesCanonical (s.ack i e) := by
  grind [State.ack, State.post_canonical]

theorem execOpenReq_canonical (qp e) (ht : execOpenReq qp e s = .next t) : tablesCanonical t := by
  grind [execOpenReq, tablesCanonical_iff, State.submission_canonical, State.ack_canonical, State.trigger_canonical,
    State.bump_canonical]

theorem execAppend_canonical (qp e) (ht : execAppend qp e s = .next t) : tablesCanonical t := by
  grind [execAppend, State.submission_canonical, State.ack_canonical, State.trigger_canonical, State.updOb_canonical]

theorem execHintSubmission_canonical (qp e) (ht : execHintSubmission qp e s = .next t) : tablesCanonical t := by
  grind [execHintSubmission, State.submission_canonical, State.updOb_canonical, State.ack_canonical, State.wakeP4_canonical]

theorem execCancel_canonical (qp e) (ht : execCancel qp e s = .next t) : tablesCanonical t := by
  grind [execCancel, State.submission_canonical, State.endRequest_canonical, State.post_canonical, State.settle_canonical]

theorem execClose_canonical (qp e) (ht : execClose qp e s = .next t) : tablesCanonical t := by
  grind [execClose, State.submission_canonical, State.post_canonical, State.startDrain_canonical, State.updOb_canonical]

theorem execStatus_canonical (qp e) (ht : execStatus qp e s = .next t) : tablesCanonical t := by
  grind [execStatus, State.submission_canonical, State.post_canonical]

theorem execCoolDelayExpire_canonical (p request) (ht : execCoolDelayExpire p request s = .next t) : tablesCanonical t := by
  grind [execCoolDelayExpire, State.toCool_canonical]

theorem execDeadlineMiss_canonical (p request) (ht : execDeadlineMiss p request s = .next t) : tablesCanonical t := by
  grind [execDeadlineMiss, tablesCanonical_iff, State.updOb_canonical, State.raiseLimited_canonical, State.bump_canonical,
    State.settle_canonical, State.endRequest_canonical, State.post_canonical]

/-! ### Host ports, keys and sessions -/

theorem State.releaseKey_canonical (k cause) : tablesCanonical (s.releaseKey k cause) := by
  grind [State.releaseKey, State.raise_canonical, State.bump_canonical, State.setHolder_canonical]

theorem State.releaseKeysOf_canonical (holder cause) : tablesCanonical (s.releaseKeysOf holder cause) := by
  grind [State.releaseKeysOf, foldl_canonical, State.releaseKey_canonical]

theorem State.takeKey_canonical (w k) : tablesCanonical (s.takeKey w k).2 := by
  grind [State.takeKey, State.setHolder_canonical]

theorem State.giveKey_canonical (w k) : tablesCanonical (s.giveKey w k).2 := by
  grind [State.giveKey, State.setHolder_canonical, State.bump_canonical]

theorem State.endSession_canonical (n cause keyCause) : tablesCanonical (s.endSession n cause keyCause) := by
  have hend {t : State} (ht : tablesCanonical t) : tablesCanonical { t with sessions := Tab.set none t.sessions n none } := by
    obtain ⟨hmem, hqps, hkeys, hsessions⟩ := ht
    exact ⟨hmem, hqps, hkeys, Tab.wf_set none _ n none hsessions⟩
  unfold State.endSession
  split
  · exact h
  · exact State.raise_canonical (hend (State.releaseKeysOf_canonical h _ _)) _ _ _

theorem State.endVia_canonical (x) : tablesCanonical (s.endVia x) := by
  grind [State.endVia, foldl_canonical, State.endSession_canonical]

theorem execTake_canonical (fn k) (ht : execTake fn k s = .next t) : tablesCanonical t := by
  grind [execTake, State.emit_canonical, State.takeKey_canonical]

theorem execGive_canonical (fn k) (ht : execGive fn k s = .next t) : tablesCanonical t := by
  grind [execGive, State.giveKey_canonical]

theorem execForceRelease_canonical (f body) (ht : execForceRelease f body s = .next t) : tablesCanonical t := by
  grind [execForceRelease, State.serveWrite_canonical, State.releaseKey_canonical]

theorem State.portsTrain_canonical : tablesCanonical (s.portsTrain) := by
  grind [State.portsTrain, State.setCell_canonical]

theorem execPortLinkUp_canonical (x gen width) (ht : execPortLinkUp x gen width s = .next t) : tablesCanonical t := by
  grind [execPortLinkUp, State.setCell_canonical, State.raise_canonical]

theorem execPortRetrain_canonical (x gen width) (ht : execPortRetrain x gen width s = .next t) : tablesCanonical t := by
  grind [execPortRetrain, State.raise_canonical, State.setCell_canonical]

theorem State.clearFuncs_canonical (x one) : tablesCanonical (s.clearFuncs x one) := h

theorem State.stopQps_canonical (ns reason) : tablesCanonical (s.stopQps ns reason) := by
  grind [State.stopQps, foldl_canonical, State.raise_canonical, State.updQp_canonical]

theorem State.failover_canonical (x) : tablesCanonical (s.failover x) := by
  grind [State.failover, tablesCanonical_iff, foldl_canonical, State.updQp_canonical, State.bump_canonical, State.stopQps_canonical]

theorem execPortLinkDown_canonical (x cause) (ht : execPortLinkDown x cause s = .next t) : tablesCanonical t := by
  grind [execPortLinkDown, foldl_canonical, State.setCell_canonical, State.raise_canonical, State.clearFuncs_canonical,
    State.bump_canonical, State.noteBusy_canonical, State.updLoom_canonical, State.noteLapse_canonical, State.endVia_canonical,
    State.failoverEnds_canonical, State.failover_canonical, State.releaseKeysOf_canonical]

theorem execVfFlr_canonical (x vf) (ht : execVfFlr x vf s = .next t) : tablesCanonical t := by
  grind [execVfFlr, State.failoverEnds_canonical, State.stopQps_canonical, State.clearFuncs_canonical]

theorem State.rewriteRing_canonical (n) : tablesCanonical (s.rewriteRing n) := by
  grind [State.rewriteRing, foldl_canonical, State.emitResult_canonical]

theorem execFailoverRewrite_canonical (qp fault) (ht : execFailoverRewrite qp fault s = .next t) : tablesCanonical t := by
  grind [execFailoverRewrite, State.failoverEnd_canonical, State.stopQps_canonical, State.updQp_canonical,
    State.rewriteRing_canonical]

theorem State.countContext_canonical (n) : tablesCanonical (s.countContext n) := by
  grind [State.countContext, State.bump_canonical]

theorem execQueueContextWrite_canonical (fn n word v) (ht : execQueueContextWrite fn n word v s = .next t) : tablesCanonical t := by
  grind [execQueueContextWrite, State.countContext_canonical, State.updQp_canonical]

theorem execQpEnable_canonical (fn n v) (ht : execQpEnable fn n v s = .next t) : tablesCanonical t := by
  grind [execQpEnable, State.updQp_canonical]

theorem State.dropRing_canonical (n) : tablesCanonical (s.dropRing n) := by
  grind [State.dropRing, foldl_canonical, State.maybeFree_canonical, State.updOb_canonical]

theorem State.disableQp_canonical (n) : tablesCanonical (s.disableQp n) := by
  grind [State.disableQp, State.updQp_canonical, State.dropRing_canonical]

theorem State.countFields_canonical (k v) : tablesCanonical (s.countFields k v) := by
  grind [State.countFields, State.countContext_canonical]

theorem execQpDisable_canonical (fn n v) (ht : execQpDisable fn n v s = .next t) : tablesCanonical t := by
  grind [execQpDisable, State.failoverEnds_canonical, State.disableQp_canonical, State.countFields_canonical]

theorem execQpResume_canonical (fn n v) (ht : execQpResume fn n v s = .next t) : tablesCanonical t := by
  grind [execQpResume, State.countFields_canonical, State.rewriteRing_canonical, State.updQp_canonical]

theorem execIdentityLowRead_canonical (fn r) (ht : execIdentityLowRead fn r s = .next t) : tablesCanonical t := by
  grind [execIdentityLowRead, tablesCanonical_iff, State.emit_canonical]

theorem execHeartbeatTick_canonical (ht : execHeartbeatTick s = .next t) : tablesCanonical t := by
  grind [execHeartbeatTick, tablesCanonical_iff]

theorem execMbGo_canonical (fn ctrl frame) (ht : execMbGo fn ctrl frame s = .next t) : tablesCanonical t := by
  grind [execMbGo, State.updBox_canonical, State.emit_canonical]

/-! ### Ethernet paths -/

theorem execEthMode_canonical (f port body) (ht : execEthMode f port body s = .next t) : tablesCanonical t := by
  grind [execEthMode, State.serveWrite_canonical, State.setCell_canonical, State.raise_canonical]

theorem execEthLinkUp_canonical (port) (ht : execEthLinkUp port s = .next t) : tablesCanonical t := by
  grind [execEthLinkUp, State.raise_canonical, State.setCell_canonical]

theorem execEthLinkDown_canonical (port cause) (ht : execEthLinkDown port cause s = .next t) : tablesCanonical t := by
  grind [execEthLinkDown, State.raise_canonical, State.setCell_canonical]

theorem State.clearPath_canonical (p i) : tablesCanonical (s.clearPath p i) := h

theorem State.writePath_canonical (f p i body) : tablesCanonical (s.writePath f p i body) := by
  grind [State.writePath, State.serveWrite_canonical, State.clearPath_canonical, State.setBlob_canonical]

theorem execPath_canonical (f p i body) (ht : execPath f p i body s = .next t) : tablesCanonical t := by
  grind [execPath, State.writePath_canonical]

theorem execPathEnable_canonical (f p i body) (ht : execPathEnable f p i body s = .next t) : tablesCanonical t := by
  grind [execPathEnable, State.writePath_canonical]

theorem execEcnMark_canonical (p i) (ht : execEcnMark p i s = .next t) : tablesCanonical t := by
  grind [execEcnMark, tablesCanonical_iff]

theorem execEcnRecovery_canonical (p i) (ht : execEcnRecovery p i s = .next t) : tablesCanonical t := by
  grind [execEcnRecovery, tablesCanonical_iff]

theorem execEnIdleLimit_canonical (l ticket) (ht : execEnIdleLimit l ticket s = .next t) : tablesCanonical t := by
  grind [execEnIdleLimit, State.noteBusy_canonical, State.interlock_canonical, State.updLoom_canonical]

/-! ### Ferry ports -/

theorem State.dropFerry_canonical (x) : tablesCanonical (s.dropFerry x) := by
  grind [State.dropFerry, foldl_canonical, State.updLoom_canonical, State.noteBusy_canonical]

theorem State.spoilSweep_canonical (x why) : tablesCanonical (s.spoilSweep x why) := by
  grind [State.spoilSweep, tablesCanonical_iff]

theorem State.ferryDown_canonical (x cause) : tablesCanonical (s.ferryDown x cause) := by
  grind [State.ferryDown, State.updFerry_canonical, State.dropFerry_canonical, State.raise_canonical, State.spoilSweep_canonical]

theorem State.ferryRetrain_canonical (x rise) : tablesCanonical (s.ferryRetrain x rise) := by
  grind [State.ferryRetrain, State.spoilSweep_canonical, State.updFerry_canonical]

theorem State.sendConfirm_canonical (x) : tablesCanonical (s.sendConfirm x) := by
  grind [State.sendConfirm, State.emit_canonical]

theorem State.sendRequest_canonical (x retrain) : tablesCanonical (s.sendRequest x retrain) := by
  grind [State.sendRequest, State.emit_canonical, State.updFerry_canonical]

theorem execFlitSend_canonical (port cls) (ht : execFlitSend port cls s = .next t) : tablesCanonical t := by
  grind [execFlitSend, State.emit_canonical, State.updFerry_canonical]

theorem State.resend_canonical (x) : tablesCanonical (s.resend x) := by
  grind [State.resend, foldl_canonical, State.updFerry_canonical, State.emit_canonical, State.ferryRetrain_canonical]

theorem execRetryRequest_canonical (port seq) (ht : execRetryRequest port seq s = .next t) : tablesCanonical t := by
  grind [execRetryRequest, State.resend_canonical, State.updFerry_canonical]

theorem State.frameIn_canonical (x cls flits bs) : tablesCanonical (s.frameIn x cls flits bs) := by
  grind [State.frameIn, State.updFerry_canonical, State.inject_canonical, State.trigger_canonical]

theorem State.flitIn_canonical (x y) : tablesCanonical (s.flitIn x y) := by
  grind [State.flitIn, State.updFerry_canonical, State.frameIn_canonical]

theorem State.askRetry_canonical (port) : tablesCanonical (s.askRetry port) := by
  grind [State.askRetry, State.emit_canonical, State.updFerry_canonical]

theorem execFlitReceive_canonical (port x crcOk) (ht : execFlitReceive port x crcOk s = .next t) : tablesCanonical t := by
  grind [execFlitReceive, State.updFerry_canonical, State.askRetry_canonical, State.ferryRetrain_canonical, State.flitIn_canonical]

theorem execPartialFrameTimeout_canonical (port cls) (ht : execPartialFrameTimeout port cls s = .next t) : tablesCanonical t := by
  grind [execPartialFrameTimeout, State.updFerry_canonical, State.raise_canonical, State.emit_canonical]

theorem execFerryDetect_canonical (port) (ht : execFerryDetect port s = .next t) : tablesCanonical t := by
  grind [execFerryDetect, State.updFerry_canonical, State.wakeP4_canonical]

theorem execFerryTrainingEnd_canonical (port gen lanes) (ht : execFerryTrainingEnd port gen lanes s = .next t) : tablesCanonical t
    := by
  grind [execFerryTrainingEnd, State.sendConfirm_canonical, State.updFerry_canonical]

theorem execFerryRetrainTimeout_canonical (port) (ht : execFerryRetrainTimeout port s = .next t) : tablesCanonical t := by
  grind [execFerryRetrainTimeout, State.ferryDown_canonical]

theorem execFerryConfirm_canonical (port jobTag serial) (ht : execFerryConfirm port jobTag serial s = .next t) : tablesCanonical t
    := by
  grind [execFerryConfirm, State.setCell_canonical, State.raise_canonical, State.updFerry_canonical, State.resend_canonical]

theorem State.newJob_canonical (x) : tablesCanonical (s.newJob x) := by
  grind [State.newJob, State.updFerry_canonical, State.dropFerry_canonical, State.sendConfirm_canonical, State.spoilSweep_canonical]

theorem State.configure_canonical (x v) : tablesCanonical (s.configure x v) := by
  grind [State.configure, State.setCell_canonical, State.ferryDown_canonical, State.newJob_canonical, State.sendConfirm_canonical]

theorem execFerryConfig_canonical (f port body) (ht : execFerryConfig f port body s = .next t) : tablesCanonical t := by
  grind [execFerryConfig, State.serveWrite_canonical, State.configure_canonical]

theorem execFerryRetrainRequest_canonical (f port body) (ht : execFerryRetrainRequest f port body s = .next t) : tablesCanonical t
    := by
  grind [execFerryRetrainRequest, State.serveWrite_canonical, State.configure_canonical, State.sendRequest_canonical,
    State.ferryRetrain_canonical]

theorem State.chooseWidth_canonical (x peer) : tablesCanonical (s.chooseWidth x peer) := by
  grind [State.chooseWidth, State.ferryRetrain_canonical, State.updFerry_canonical, State.spoilSweep_canonical]

theorem execLaneBad_canonical (port lane) (ht : execLaneBad port lane s = .next t) : tablesCanonical t := by
  grind [execLaneBad, State.logDefect_canonical, State.updFerry_canonical, State.chooseWidth_canonical, State.sendRequest_canonical]

theorem State.follow_canonical (x retrain bad) : tablesCanonical (s.follow x retrain bad) := by
  grind [State.follow, State.updFerry_canonical, State.ferryRetrain_canonical, State.chooseWidth_canonical]

theorem execWidthChangeRequest_canonical (port serial retrain bad) (ht : execWidthChangeRequest port serial retrain bad s = .next t)
    : tablesCanonical t := by
  grind [execWidthChangeRequest, State.follow_canonical, State.updFerry_canonical, State.chooseWidth_canonical]

theorem execWidthChangeDone_canonical (port) (ht : execWidthChangeDone port s = .next t) : tablesCanonical t := by
  grind [execWidthChangeDone, State.updFerry_canonical, State.resend_canonical, State.raise_canonical, State.sendRequest_canonical,
    State.ferryRetrain_canonical]

theorem execFerryOwner_canonical (f port body) (ht : execFerryOwner f port body s = .next t) : tablesCanonical t := by
  grind [execFerryOwner, State.serveWrite_canonical, State.setCell_canonical]

theorem execSweepRequest_canonical (f body) (ht : execSweepRequest f body s = .next t) : tablesCanonical t := by
  grind [execSweepRequest, tablesCanonical_iff, State.serveWrite_canonical, State.setCell_canonical]

theorem execSweepEnd_canonical (st counts) (ht : execSweepEnd st counts s = .next t) : tablesCanonical t := by
  grind [execSweepEnd, tablesCanonical_iff, State.raise_canonical, State.measure_canonical, State.setCell_canonical]

end Canonical

end Sys2Proof.Machine
end

section
/-! SUPPORT. The commands of power, Ledger, faults, security and start-up keep the canonical form of the tables, and so does every
step. -/

namespace Sys2Proof.Machine

section Canonical

variable {s t : State} (h : tablesCanonical s)
include h

/-! ### Power and cooling -/

theorem execPhaseAdd_canonical (tile d) (ht : execPhaseAdd tile d s = .next t) : tablesCanonical t := by
  grind [execPhaseAdd, State.updReg_canonical]

theorem execSensorFallback_canonical (tile sensed) (ht : execSensorFallback tile sensed s = .next t) : tablesCanonical t := by
  grind [execSensorFallback, State.raise_canonical, State.updReg_canonical]

theorem execSensorFallbackExit_canonical (tile sensed) (ht : execSensorFallbackExit tile sensed s = .next t) : tablesCanonical t := by
  grind [execSensorFallbackExit, State.updReg_canonical]

theorem State.checkPhases_canonical (site) : tablesCanonical (s.checkPhases site) := by
  cases site <;> grind [State.checkPhases, State.failTile_canonical]

theorem execPhaseOpen_canonical (site d phase) (ht : execPhaseOpen site d phase s = .next t) : tablesCanonical t := by
  grind [execPhaseOpen, State.updReg_canonical, State.checkPhases_canonical, State.raise_canonical, State.logDefect_canonical]

theorem execSenseFail_canonical (site d phase) (ht : execSenseFail site d phase s = .next t) : tablesCanonical t := by
  grind [execSenseFail, State.updReg_canonical, State.raise_canonical, State.logDefect_canonical]

theorem State.noRebuild_canonical (lt) : tablesCanonical (s.noRebuild lt) := by
  grind [State.noRebuild, tablesCanonical_iff, State.groupBits_canonical, State.rebuildState_canonical]

theorem execShortDetect_canonical (tile d) (ht : execShortDetect tile d s = .next t) : tablesCanonical t := by
  grind [execShortDetect, State.raise_canonical, State.updReg_canonical, State.noRebuild_canonical, State.failTile_canonical]

theorem execSoftStartRetry_canonical (tile d reached) (ht : execSoftStartRetry tile d reached s = .next t) : tablesCanonical t := by
  grind [execSoftStartRetry, State.mapChanged_canonical, State.updSite_canonical, State.updReg_canonical, State.raise_canonical,
    State.logDefect_canonical]

theorem execHintReceived_canonical (tile p lead cls) (ht : execHintReceived tile p lead cls s = .next t) : tablesCanonical t := by
  grind [execHintReceived, tablesCanonical_iff, State.updReg_canonical, State.bump_canonical]

theorem execHintRaiseHoldEnd_canonical (tile) (ht : execHintRaiseHoldEnd tile s = .next t) : tablesCanonical t := by
  grind [execHintRaiseHoldEnd, State.updReg_canonical]

theorem State.saveWrite_canonical (rs bs) : tablesCanonical (s.saveWrite rs bs) := by
  induction rs generalizing s bs with
  | nil => exact h
  | cons r rs ih => exact ih (State.longWrite_canonical h _ _ _ _) _

theorem State.saveLoom_canonical (p n im) : tablesCanonical (s.saveLoom p n im) := by
  grind [State.saveLoom, State.updLoom_canonical, State.saveWrite_canonical]

theorem State.restoreLoom_canonical (p n im) : tablesCanonical (s.restoreLoom p n im) := by
  grind [State.restoreLoom, State.faultPlot_canonical, State.updLoom_canonical]

theorem State.savePlot_canonical (p) : tablesCanonical (s.savePlot p) := by
  grind [State.savePlot, foldl_canonical, State.saveLoom_canonical]

theorem State.restorePlot_canonical (p) : tablesCanonical (s.restorePlot p) := by
  grind [State.restorePlot, foldl_canonical, State.restoreLoom_canonical]

theorem State.setPstate_canonical (p d) : tablesCanonical (s.setPstate p d) := by
  grind [State.setPstate, State.raiseLimited_canonical, State.setCell_canonical]

theorem execPstateEntry_canonical (p) (ht : execPstateEntry p s = .next t) : tablesCanonical t := by
  grind [execPstateEntry, foldl_canonical, State.updLoom_canonical, State.savePlot_canonical, State.setPstate_canonical]

theorem execPstateExit_canonical (p) (ht : execPstateExit p s = .next t) : tablesCanonical t := by
  grind [execPstateExit, State.restorePlot_canonical, State.setPstate_canonical, State.updPlot_canonical]

theorem execP4Entry_canonical (ht : execP4Entry s = .next t) : tablesCanonical t := by
  grind [execP4Entry, tablesCanonical_iff, State.raise_canonical, State.setCell_canonical]

theorem execP4Exit_canonical (ht : execP4Exit s = .next t) : tablesCanonical t := by
  grind [execP4Exit, tablesCanonical_iff, State.raise_canonical, State.setCell_canonical]

theorem execLatencyTolerance_canonical (f p body) (ht : execLatencyTolerance f p body s = .next t) : tablesCanonical t := by
  grind [execLatencyTolerance, State.serveWrite_canonical, State.setCell_canonical, State.trigger_canonical]

theorem execCap_canonical (f body) (ht : execCap f body s = .next t) : tablesCanonical t := by
  grind [execCap, State.serveWrite_canonical, State.setCell_canonical]

theorem State.setLimit_canonical (v) : tablesCanonical (s.setLimit v) := by
  grind [State.setLimit, State.setCell_canonical]

theorem State.applyCool_canonical : tablesCanonical (s.applyCool) := by
  grind [State.applyCool, tablesCanonical_iff, State.setLimit_canonical, State.raise_canonical]

theorem State.degrade_canonical : tablesCanonical (s.degrade) := by
  grind [State.degrade, tablesCanonical_iff, State.raise_canonical]

theorem State.coolState_canonical : tablesCanonical (s.coolState) := by
  grind [State.coolState, State.setCell_canonical]

theorem execCoolReading_canonical (inlet outlet flow seq) (ht : execCoolReading inlet outlet flow seq s = .next t) : tablesCanonical
    t := by
  grind [execCoolReading, tablesCanonical_iff, State.measure_canonical, State.coolState_canonical, State.applyCool_canonical,
    State.degrade_canonical]

theorem execCoolReadingTimeout_canonical (ht : execCoolReadingTimeout s = .next t) : tablesCanonical t := by
  unfold execCoolReadingTimeout at ht
  split at ht
  · exact Host.Outcome.next.inj ht ▸ h
  · rw [← Host.Outcome.next.inj ht]
    exact tablesCanonical_ite h (State.coolState_canonical (State.applyCool_canonical (State.degrade_canonical h)))

theorem execCoolNoDataTimeout_canonical (ht : execCoolNoDataTimeout s = .next t) : tablesCanonical t := by
  grind [execCoolNoDataTimeout, tablesCanonical_iff, State.degrade_canonical]

theorem execCoolGraceExpire_canonical (ht : execCoolGraceExpire s = .next t) : tablesCanonical t := by
  grind [execCoolGraceExpire, State.applyCool_canonical]

theorem execCoolNormal_canonical (ht : execCoolNormal s = .next t) : tablesCanonical t := by
  grind [execCoolNormal, tablesCanonical_iff, State.raise_canonical, State.setCell_canonical]

theorem State.coolCut_canonical (hot) : tablesCanonical (s.coolCut hot) := by
  grind [State.coolCut, tablesCanonical_iff, State.setCell_canonical]

theorem State.endPace_canonical : tablesCanonical (s.endPace) := by
  grind [State.endPace, tablesCanonical_iff, State.setCell_canonical, State.raise_canonical]

theorem State.setPace_canonical (slot pct natural) : tablesCanonical (s.setPace slot pct natural) := by
  grind [State.setPace, tablesCanonical_iff, State.setCell_canonical]

theorem State.pace_canonical (xs natural) : tablesCanonical (s.pace xs natural).1 := by
  grind [State.pace, tablesCanonical_iff, State.setCell_canonical, State.measure_canonical, State.endPace_canonical,
    State.setPace_canonical, State.raise_canonical]

theorem State.thermal_canonical (xs natural) : tablesCanonical (s.thermal xs natural) := by
  grind [State.thermal, tablesCanonical_iff, State.pace_canonical, State.raise_canonical, State.coolCut_canonical]

theorem execOvertemp_canonical (tile tj) (ht : execOvertemp tile tj s = .next t) : tablesCanonical t := by
  grind [execOvertemp, State.startShutdown_canonical, State.raise_canonical]

theorem State.lowDone_canonical : tablesCanonical (s.lowDone) := by
  grind [State.lowDone, tablesCanonical_iff, State.raise_canonical]

theorem execLowInputDetect_canonical (vbus duty busLimit) (ht : execLowInputDetect vbus duty busLimit s = .next t) : tablesCanonical
    t := by
  grind [execLowInputDetect, tablesCanonical_iff, State.raise_canonical]

theorem execLowInputRelease_canonical (vbus duty) (ht : execLowInputRelease vbus duty s = .next t) : tablesCanonical t := by
  grind [execLowInputRelease, tablesCanonical_iff, State.lowDone_canonical]

theorem execVbusLowShutdown_canonical (vbus) (ht : execVbusLowShutdown vbus s = .next t) : tablesCanonical t := by
  grind [execVbusLowShutdown, tablesCanonical_iff, State.startShutdown_canonical]

theorem State.finishWrites_canonical : tablesCanonical (s.finishWrites) := by
  grind [State.finishWrites, tablesCanonical_iff, foldl_canonical, State.applyDelta_canonical]

theorem execWarmShutdown_canonical (ht : execWarmShutdown s = .next t) : tablesCanonical t := by
  grind [execWarmShutdown, tablesCanonical_iff, foldl_canonical, State.finishWrites_canonical, State.savePlot_canonical,
    State.updLoom_canonical]

theorem State.lowSample_canonical (duty) : tablesCanonical (s.lowSample duty) := by
  grind [State.lowSample, tablesCanonical_iff, State.lowDone_canonical]

theorem State.keepSample_canonical (d place w) : tablesCanonical (s.keepSample d place w) := h

theorem State.takeTile_canonical (d e) : tablesCanonical (s.takeTile d e) := by
  grind [State.takeTile, State.updReg_canonical, State.keepSample_canonical]

theorem State.plotSample_canonical (p now) : tablesCanonical (s.plotSample p now) := by
  grind [State.plotSample, State.updPlot_canonical, State.measure_canonical]

theorem State.agreeCap_canonical : tablesCanonical (s.agreeCap) := h

theorem State.engineSample_canonical (w) : tablesCanonical (s.engineSample w) := by
  grind [State.engineSample, tablesCanonical_iff, foldl_canonical, State.updPlot_canonical]

theorem State.rateSample_canonical (natural) : tablesCanonical (s.rateSample natural) := by
  grind [State.rateSample, foldl_canonical, State.measure_canonical]

theorem State.inputSample_canonical (x base) : tablesCanonical (s.inputSample x base) := by
  grind [State.inputSample, foldl_canonical, State.measure_canonical, State.setCell_canonical]

theorem execPowerSample_canonical (x) (ht : execPowerSample x s = .next t) : tablesCanonical t := by
  rw [← Host.Outcome.next.inj ht]
  refine tablesCanonical_ite h (State.rateSample_canonical (State.thermal_canonical (State.lowSample_canonical ?_ _) _ _) _)
  refine foldl_canonical (fun s e hs => State.updSite_canonical hs _ _) _
    (foldl_canonical (fun s e hs => State.updReg_canonical hs _ _) _ (State.engineSample_canonical ?_ _))
  refine foldl_canonical (fun s e hs => State.plotSample_canonical hs _ _) _ (State.inputSample_canonical ?_ _ _)
  refine foldl_canonical (fun s e hs => State.keepSample_canonical hs _ _ _) _ ?_
  refine foldl_canonical (fun s e hs => State.takeTile_canonical hs _ _) _
    (foldl_canonical (fun s e hs => State.takeTile_canonical hs _ _) _ ?_)
  exact State.agreeCap_canonical h

/-! ### Ledger reads -/

theorem State.drawEth_canonical (port) : tablesCanonical (s.drawEth port).2 := by
  refine foldlOn_canonical (Prod.snd : List Nat × State → State) (fun a k ha => ?_) _ h
  grind [State.draw_canonical]

theorem State.fetch_canonical (r idx sub) : tablesCanonical (s.fetch r idx sub).2 := by
  grind [State.fetch, State.draw_canonical, State.drawEth_canonical]

theorem State.readReply_canonical (w idx sub newer arg) : tablesCanonical (s.readReply w idx sub newer arg).1 := by
  grind [State.readReply, State.fetch_canonical]

theorem State.blockReply_canonical (w idx sub offset body) : tablesCanonical (s.blockReply w idx sub offset body).1 := by
  grind [State.blockReply, State.fetch_canonical]

/-! ### Ledger requests -/

theorem execRead_canonical (f idx sub newer arg) (ht : execRead f idx sub newer arg s = .next t) : tablesCanonical t := by
  grind [execRead, State.serve_canonical, State.readReply_canonical]

theorem execBlockRead_canonical (f idx sub offset body) (ht : execBlockRead f idx sub offset body s = .next t) : tablesCanonical t
    := by
  grind [execBlockRead, State.serve_canonical, State.blockReply_canonical]

theorem State.store_canonical (idx sub body) : tablesCanonical (s.store idx sub body) := by
  grind [State.store, State.setBlob_canonical, State.setCell_canonical]

theorem execWrite_canonical (f idx sub body) (ht : execWrite f idx sub body s = .next t) : tablesCanonical t := by
  grind [execWrite, State.serveWrite_canonical, State.store_canonical]

theorem execWritePersist_canonical (f idx sub body) (ht : execWritePersist f idx sub body s = .next t) : tablesCanonical t := by
  grind [execWritePersist, State.servePersist_canonical]

theorem execKeyTake_canonical (f k) (ht : execKeyTake f k s = .next t) : tablesCanonical t := by
  grind [execKeyTake, State.serve_canonical, State.takeKey_canonical]

theorem execKeyGive_canonical (f k) (ht : execKeyGive f k s = .next t) : tablesCanonical t := by
  grind [execKeyGive, State.serve_canonical, State.giveKey_canonical]

theorem execCloseSession_canonical (f session) (ht : execCloseSession f session s = .next t) : tablesCanonical t := by
  grind [execCloseSession, State.serve_canonical, State.endSession_canonical]

theorem execRequestRepeat_canonical (f command idx sub) (ht : execRequestRepeat f command idx sub s = .next t) : tablesCanonical t
    := by
  grind [execRequestRepeat, State.dropFrame_canonical, State.emit_canonical, State.updSession_canonical]

theorem execSessionIdleExpire_canonical (session) (ht : execSessionIdleExpire session s = .next t) : tablesCanonical t := by
  grind [execSessionIdleExpire, State.endSession_canonical]

theorem execSubscribe_canonical (f arg body) (ht : execSubscribe f arg body s = .next t) : tablesCanonical t := by
  grind [execSubscribe, tablesCanonical_iff, State.serve_canonical, State.updSession_canonical]

theorem execEventIrq_canonical (x) (ht : execEventIrq x s = .next t) : tablesCanonical t := by
  grind [execEventIrq, tablesCanonical_iff, State.emit_canonical]

theorem execEventFrame_canonical (session) (ht : execEventFrame session s = .next t) : tablesCanonical t := by
  grind [execEventFrame, State.updSession_canonical, State.bump_canonical, State.emit_canonical]

theorem execMeasurementRefresh_canonical (idx sub value) (ht : execMeasurementRefresh idx sub value s = .next t) : tablesCanonical t
    := by
  grind [execMeasurementRefresh, State.measure_canonical, State.setCell_canonical]

theorem State.eyeLane_canonical (kind port lane v) : tablesCanonical (s.eyeLane kind port lane v) := by
  have heyes (e) : tablesCanonical { s with eyes := e } := h
  unfold State.eyeLane
  dsimp only
  split
  · split
    · exact State.raise_canonical (heyes _) _ _ _
    · exact h
  · split
    · exact heyes _
    · split
      · exact heyes _
      · split
        · exact h
        · exact State.raise_canonical (heyes _) _ _ _

theorem execEyeRefresh_canonical (kind port lanes) (ht : execEyeRefresh kind port lanes s = .next t) : tablesCanonical t := by
  grind [execEyeRefresh, foldl_canonical, State.measure_canonical, State.eyeLane_canonical]

/-! ### Liveness and takeovers -/

theorem execLivenessExchange_canonical (tile answered) (ht : execLivenessExchange tile answered s = .next t) : tablesCanonical t := by
  grind [execLivenessExchange, State.updSite_canonical, State.failTile_canonical]

theorem execTileFail_canonical (tile cause sound) (ht : execTileFail tile cause sound s = .next t) : tablesCanonical t := by
  grind [execTileFail, State.failTile_canonical]

theorem State.reeveBack_canonical : tablesCanonical (s.reeveBack) := by
  grind [State.reeveBack, State.reissueStale_canonical, State.failWaiting_canonical, State.endRecovery_canonical]

theorem execHeartbeatSend_canonical (u) (ht : execHeartbeatSend u s = .next t) : tablesCanonical t := by
  cases u <;> grind [execHeartbeatSend, tablesCanonical_iff, State.endRecovery_canonical, State.reeveBack_canonical]

theorem State.moveDrover_canonical (p k) : tablesCanonical (s.moveDrover p k) := by
  grind [State.moveDrover, State.setCell_canonical, State.discardAll_canonical]

theorem execDroverLoss_canonical (k) (ht : execDroverLoss k s = .next t) : tablesCanonical t := by
  grind [execDroverLoss, tablesCanonical_iff, foldl_canonical, State.beginRecovery_canonical, State.noteLapse_canonical,
    State.discardAll_canonical, State.raise_canonical, State.endRecovery_canonical, State.bump_canonical,
    State.moveDrover_canonical]

theorem execReeveTakeover_canonical (ht : execReeveTakeover s = .next t) : tablesCanonical t := by
  grind [execReeveTakeover, tablesCanonical_iff, State.beginRecovery_canonical, State.noteLapse_canonical, State.raise_canonical,
    State.bump_canonical, State.setCell_canonical]

theorem execConstableTakeover_canonical (ht : execConstableTakeover s = .next t) : tablesCanonical t := by
  grind [execConstableTakeover, tablesCanonical_iff, State.beginRecovery_canonical, State.noteLapse_canonical,
    State.raise_canonical, State.bump_canonical, State.setCell_canonical]

/-! ### Update, sessions and security -/

theorem State.bootSelect_canonical : tablesCanonical (s.bootSelect) := by
  grind [State.bootSelect, tablesCanonical_iff, State.raise_canonical]

theorem execBootTimeout_canonical (ht : execBootTimeout s = .next t) : tablesCanonical t := by
  grind [execBootTimeout, tablesCanonical_iff, State.raise_canonical]

theorem State.setIdleSlot_canonical (v) : tablesCanonical (s.setIdleSlot v) := h

theorem execUpdateRequest_canonical (f body) (ht : execUpdateRequest f body s = .next t) : tablesCanonical t := by
  grind [execUpdateRequest, tablesCanonical_iff, State.serveWrite_canonical, State.setCell_canonical]

theorem execUpdateChunk_canonical (f body) (ht : execUpdateChunk f body s = .next t) : tablesCanonical t := by
  grind [execUpdateChunk, tablesCanonical_iff, State.serveWrite_canonical, State.setCell_canonical]

theorem execUpdatePhaseEnd_canonical (verified header) (ht : execUpdatePhaseEnd verified header s = .next t) : tablesCanonical t := by
  grind [execUpdatePhaseEnd, State.setCell_canonical, State.setIdleSlot_canonical, State.raise_canonical]

theorem execHello_canonical (f body signer verifies) (ht : execHello f body signer verifies s = .next t) : tablesCanonical t := by
  grind [execHello, tablesCanonical_iff, State.serve_canonical, State.raise_canonical]

theorem execReport_canonical (f arg) (ht : execReport f arg s = .next t) : tablesCanonical t := by
  rw [← Host.Outcome.next.inj ht]
  refine State.serve_canonical h _ _ (fun s hs => ?_)
  have hopen (n y es) : tablesCanonical { s with sessions := Tab.set none s.sessions n (some y), exchanges := es } := by
    obtain ⟨hmem, hqps, hkeys, hsessions⟩ := hs
    exact ⟨hmem, hqps, hkeys, Tab.wf_set none _ n (some y) hsessions⟩
  dsimp only
  split
  · exact hs
  · split
    · exact hs
    · split
      · exact hs
      · split
        · exact hs
        · split
          · exact hs
          · exact State.raise_canonical (hopen _ _ _) _ _ _

theorem execHelloExpire_canonical (nonce) (ht : execHelloExpire nonce s = .next t) : tablesCanonical t := by
  grind [execHelloExpire, tablesCanonical_iff]

theorem execParcelKey_canonical (f p slot body tagOk) (ht : execParcelKey f p slot body tagOk s = .next t) : tablesCanonical t := by
  grind [execParcelKey, State.serveWrite_canonical, State.updPlot_canonical]

theorem execFirewallDigestCheck_canonical (tile ticket differs again) (ht : execFirewallDigestCheck tile ticket differs again s =
    .next t) : tablesCanonical t := by
  grind [execFirewallDigestCheck, State.failTile_canonical, State.raise_canonical]

theorem execPinnedLevel_canonical (f body) (ht : execPinnedLevel f body s = .next t) : tablesCanonical t := by
  grind [execPinnedLevel, State.servePersist_canonical]

/-! ### Resets -/

theorem State.replay_canonical (r) : tablesCanonical (s.replay r) := by
  grind [State.replay, tablesCanonical_iff, State.updSite_canonical]

theorem State.buildMap_canonical : tablesCanonical (s.buildMap) := by
  grind [State.buildMap, foldl_canonical, State.updSite_canonical, State.replay_canonical, State.rebuildState_canonical,
    State.groupBits_canonical, State.raise_canonical]

theorem State.resetExit_canonical : tablesCanonical (s.resetExit) := by
  grind [State.resetExit, tablesCanonical_iff, foldl_canonical, State.updSite_canonical]

theorem State.startTaps_canonical (taps) : tablesCanonical (s.startTaps taps) := by
  grind [State.startTaps, foldl_canonical, State.updSlot_canonical, State.noteHeadroom_canonical]

omit h in
theorem State.cold_canonical (cause) : tablesCanonical (s.cold cause) :=
  ⟨rfl, rfl, rfl, rfl⟩

theorem execColdStart_canonical (cause) (ht : execColdStart cause s = .next t) : tablesCanonical t := by
  grind [execColdStart, State.cold_canonical]

theorem execBusStageStart_canonical (vbus taps) (ht : execBusStageStart vbus taps s = .next t) : tablesCanonical t := by
  have hempty (rst power) : tablesCanonical { s with rst, power, cellar := {} } := ⟨rfl, h.2⟩
  rw [← Host.Outcome.next.inj ht]
  refine tablesCanonical_ite h (State.setCell_canonical (State.startTaps_canonical (State.resetExit_canonical (State.buildMap_canonical
    (State.bootSelect_canonical (State.portsTrain_canonical ?_)))) _) _ _ _)
  exact hempty _ _

theorem State.goReady_canonical : tablesCanonical (s.goReady) := by
  grind [State.goReady, tablesCanonical_iff, foldl_canonical, State.setCell_canonical]

theorem execColdStartReady_canonical (ht : execColdStartReady s = .next t) : tablesCanonical t := by
  grind [execColdStartReady, State.goReady_canonical]

theorem State.stopLooms_canonical : tablesCanonical (s.stopLooms) := by
  grind [State.stopLooms, foldl_canonical, State.updLoom_canonical]

theorem State.pageReset_canonical (i e) : tablesCanonical (s.pageReset i e) := by
  grind [State.pageReset, State.updOb_canonical, State.returnFrame_canonical, State.transferEnd_canonical,
    State.fillFails_canonical]

theorem State.obReset_canonical (i) : tablesCanonical (s.obReset i) := by
  grind [State.obReset, foldl_canonical, State.pageReset_canonical, State.settle_canonical, State.releasePages_canonical]

theorem State.plotReset_canonical (p) : tablesCanonical (s.plotReset p) := by
  grind [State.plotReset, State.setCell_canonical, State.failLoad_canonical, State.clearLooms_canonical, State.updPlot_canonical,
    State.setPstate_canonical, State.faultPlot_canonical]

theorem State.linksDown_canonical : tablesCanonical (s.linksDown) := by
  grind [State.linksDown, foldl_canonical, State.raise_canonical, State.clearFuncs_canonical, State.bump_canonical,
    State.setCell_canonical, State.ferryDown_canonical]

theorem State.fabricReset_canonical : tablesCanonical (s.fabricReset) := h

theorem State.warm_canonical (cause) : tablesCanonical (s.warm cause) := by
  grind [State.warm, tablesCanonical_iff, foldl_canonical, State.resetExit_canonical, State.cutStep_canonical,
    State.finishWrites_canonical, State.savePlot_canonical, State.linksDown_canonical, State.stopLooms_canonical,
    State.releaseKey_canonical, State.endSession_canonical, State.disableQp_canonical, State.obReset_canonical,
    State.fabricReset_canonical, State.plotReset_canonical, State.bootSelect_canonical, State.portsTrain_canonical,
    State.setCell_canonical]

theorem State.warmTrigger_canonical (cause) : tablesCanonical (s.warmTrigger cause) := by
  grind [State.warmTrigger, State.warm_canonical]

theorem execWarmReset_canonical (cause) (ht : execWarmReset cause s = .next t) : tablesCanonical t := by
  grind [execWarmReset, State.warmTrigger_canonical]

theorem execShutdownRestart_canonical (vbus) (ht : execShutdownRestart vbus s = .next t) : tablesCanonical t := by
  grind [execShutdownRestart, tablesCanonical_iff, State.warm_canonical]

theorem execResetWatchdog_canonical (ht : execResetWatchdog s = .next t) : tablesCanonical t := by
  grind [execResetWatchdog, State.warmTrigger_canonical]

theorem State.coresUp_canonical : tablesCanonical (s.coresUp) := by
  grind [State.coresUp, tablesCanonical_iff, State.raise_canonical, State.setCell_canonical]

theorem execWarmResetRestore_canonical (ht : execWarmResetRestore s = .next t) : tablesCanonical t := by
  grind [execWarmResetRestore, foldl_canonical, State.coresUp_canonical, State.restorePlot_canonical, State.raise_canonical,
    State.goReady_canonical, State.failWaiting_canonical]

theorem execResetKey_canonical (v) (ht : execResetKey v s = .next t) : tablesCanonical t := by
  grind [execResetKey, tablesCanonical_iff]

theorem execResetCmd_canonical (v) (ht : execResetCmd v s = .next t) : tablesCanonical t := by
  grind [execResetCmd, tablesCanonical_iff, State.warmTrigger_canonical, State.cold_canonical]

theorem execResetArmExpire_canonical (ht : execResetArmExpire s = .next t) : tablesCanonical t := by
  grind [execResetArmExpire, tablesCanonical_iff]

/-! ### Every command -/

theorem exec_canonical (c : Instr) (ht : exec c s = .next t) : tablesCanonical t := by
  cases c with
  | canaryTest slot settled => exact execCanaryTest_canonical h slot settled ht
  | trimApply slot => exact execTrimApply_canonical h slot ht
  | holdAssert tile sensed => exact execHoldAssert_canonical h tile sensed ht
  | holdRelease tile lowest => exact execHoldRelease_canonical h tile lowest ht
  | holdTimeout tile => exact execHoldTimeout_canonical h tile ht
  | messageForward site edge chan => exact execMessageForward_canonical h site edge chan ht
  | creditReturn site edge chan cls set => exact execCreditReturn_canonical h site edge chan cls set ht
  | messageReceive endpoint => exact execMessageReceive_canonical h endpoint ht
  | epochStaleReply sender dest => exact execEpochStaleReply_canonical h sender dest ht
  | stepRerun step => exact execStepRerun_canonical h step ht
  | bellRefEdge phaseError => exact execBellRefEdge_canonical h phaseError ht
  | bellRefLoss => exact execBellRefLoss_canonical h ht
  | tickEdge => exact execTickEdge_canonical h ht
  | tickMissing => exact execTickMissing_canonical h ht
  | timeLoad f body => exact execTimeLoad_canonical h f body ht
  | tickPeriod f body => exact execTickPeriod_canonical h f body ht
  | ldw l x => exact execLdw_canonical h l x ht
  | xchg l => exact execXchg_canonical h l ht
  | pass l a x => exact execPass_canonical h l a x ht
  | full l x => exact execFull_canonical h l x ht
  | send l dest epoch cls kind src upset => exact execSend_canonical h l dest epoch cls kind src upset ht
  | issue l q x => exact execIssue_canonical h l q x ht
  | wait l q t => exact execWait_canonical h l q t ht
  | fence l q => exact execFence_canonical h l q ht
  | hint l lead cls => exact execHint_canonical h l lead cls ht
  | br l field value target => exact execBr_canonical h l field value target ht
  | stepend l => exact execStepend_canonical h l ht
  | assayCheck tile p flip => exact execAssayCheck_canonical h tile p flip ht
  | qualityCheck tile p layer => exact execQualityCheck_canonical h tile p layer ht
  | cellarRead addr tag len e => exact execCellarRead_canonical h addr tag len e ht
  | chainXor member row x => exact execChainXor_canonical h member row x ht
  | cellarWrite addr tag data => exact execCellarWrite_canonical h addr tag data ht
  | parityDeltaApply id => exact execParityDeltaApply_canonical h id ht
  | cellarWriteComplete id => exact execCellarWriteComplete_canonical h id ht
  | kvAppend p m layer request position kv head codes scales =>
    exact execKvAppend_canonical h p m layer request position kv head codes scales ht
  | refreshSlot tile chan x => exact execRefreshSlot_canonical h tile chan x ht
  | refreshIntervalChange tile tj highest => exact execRefreshIntervalChange_canonical h tile tj highest ht
  | rebuildStart lt => exact execRebuildStart_canonical h lt ht
  | rebuildRow => exact execRebuildRow_canonical h ht
  | spillAck p request draft page => exact execSpillAck_canonical h p request draft page ht
  | spillAckTimeout p request draft page => exact execSpillAckTimeout_canonical h p request draft page ht
  | fillComplete p request draft page data => exact execFillComplete_canonical h p request draft page data ht
  | fillFailed p request draft page why => exact execFillFailed_canonical h p request draft page why ht
  | spillStart p request => exact execSpillStart_canonical h p request ht
  | fillStart p request => exact execFillStart_canonical h p request ht
  | loadRequest f p body img => exact execLoadRequest_canonical h f p body img ht
  | reloadDrainEnd p => exact execReloadDrainEnd_canonical h p ht
  | imageAuthenticated p verifies => exact execImageAuthenticated_canonical h p verifies ht
  | imageApplied p => exact execImageApplied_canonical h p ht
  | loadReady p => exact execLoadReady_canonical h p ht
  | parcelReceive p n bytes tagOk => exact execParcelReceive_canonical h p n bytes tagOk ht
  | routeLoad p => exact execRouteLoad_canonical h p ht
  | channelReleaseRoute site edge chan => exact execChannelReleaseRoute_canonical h site edge chan ht
  | queueEntryComplete l q t attempt st x => exact execQueueEntryComplete_canonical h l q t attempt st x ht
  | unfilledReadResume l => exact execUnfilledReadResume_canonical h l ht
  | hintReceived tile p lead cls => exact execHintReceived_canonical h tile p lead cls ht
  | streamPassEnd p layer loadNs computeNs => exact execStreamPassEnd_canonical h p layer loadNs computeNs ht
  | stepForm p m => exact execStepForm_canonical h p m ht
  | stepCommit step outs => exact execStepCommit_canonical h step outs ht
  | plotCreate f p body => exact execPlotCreate_canonical h f p body ht
  | plotResize f p sub body => exact execPlotResize_canonical h f p sub body ht
  | teardown f p => exact execTeardown_canonical h f p ht
  | teardownDrainEnd p => exact execTeardownDrainEnd_canonical h p ht
  | eraseEnd p => exact execEraseEnd_canonical h p ht
  | plotReset f p => exact execPlotReset_canonical h f p ht
  | plotResetClear p => exact execPlotResetClear_canonical h p ht
  | sqTailDoorbell fn n v => exact execSqTailDoorbell_canonical h fn n v ht
  | openReq qp e => exact execOpenReq_canonical h qp e ht
  | append qp e => exact execAppend_canonical h qp e ht
  | hintSubmission qp e => exact execHintSubmission_canonical h qp e ht
  | cancel qp e => exact execCancel_canonical h qp e ht
  | close qp e => exact execClose_canonical h qp e ht
  | status qp e => exact execStatus_canonical h qp e ht
  | rqHeadDoorbell fn n v => exact execRqHeadDoorbell_canonical h fn n v ht
  | coolDelayExpire p request => exact execCoolDelayExpire_canonical h p request ht
  | deadlineMiss p request => exact execDeadlineMiss_canonical h p request ht
  | resultEntryWrite qp => exact execResultEntryWrite_canonical h qp ht
  | portLinkUp x gen width => exact execPortLinkUp_canonical h x gen width ht
  | portLinkDown x cause => exact execPortLinkDown_canonical h x cause ht
  | vfFlr x vf => exact execVfFlr_canonical h x vf ht
  | failoverRewrite qp fault => exact execFailoverRewrite_canonical h qp fault ht
  | queueContextWrite fn n word v => exact execQueueContextWrite_canonical h fn n word v ht
  | qpEnable fn n v => exact execQpEnable_canonical h fn n v ht
  | qpDisable fn n v => exact execQpDisable_canonical h fn n v ht
  | qpResume fn n v => exact execQpResume_canonical h fn n v ht
  | identityLowRead fn r => exact execIdentityLowRead_canonical h fn r ht
  | heartbeatTick => exact execHeartbeatTick_canonical h ht
  | mbGo fn ctrl frame => exact execMbGo_canonical h fn ctrl frame ht
  | take fn k => exact execTake_canonical h fn k ht
  | give fn k => exact execGive_canonical h fn k ht
  | forceRelease f body => exact execForceRelease_canonical h f body ht
  | ethMode f port body => exact execEthMode_canonical h f port body ht
  | ethLinkUp port => exact execEthLinkUp_canonical h port ht
  | ethLinkDown port cause => exact execEthLinkDown_canonical h port cause ht
  | path f p k body => exact execPath_canonical h f p k body ht
  | pathEnable f p k body => exact execPathEnable_canonical h f p k body ht
  | ecnMark p k => exact execEcnMark_canonical h p k ht
  | ecnRecovery p k => exact execEcnRecovery_canonical h p k ht
  | enIdleLimit l t => exact execEnIdleLimit_canonical h l t ht
  | flitSend port cls => exact execFlitSend_canonical h port cls ht
  | flitReceive port x crcOk => exact execFlitReceive_canonical h port x crcOk ht
  | retryRequest port seq => exact execRetryRequest_canonical h port seq ht
  | partialFrameTimeout port cls => exact execPartialFrameTimeout_canonical h port cls ht
  | ferryTrainingEnd port gen lanes => exact execFerryTrainingEnd_canonical h port gen lanes ht
  | ferryRetrainTimeout port => exact execFerryRetrainTimeout_canonical h port ht
  | ferryConfirm port jobTag serial => exact execFerryConfirm_canonical h port jobTag serial ht
  | ferryConfig f port body => exact execFerryConfig_canonical h f port body ht
  | ferryRetrainRequest f port body => exact execFerryRetrainRequest_canonical h f port body ht
  | laneBad port lane => exact execLaneBad_canonical h port lane ht
  | widthChangeRequest port serial retrain bad => exact execWidthChangeRequest_canonical h port serial retrain bad ht
  | widthChangeDone port => exact execWidthChangeDone_canonical h port ht
  | ferryOwner f port body => exact execFerryOwner_canonical h f port body ht
  | sweepRequest f body => exact execSweepRequest_canonical h f body ht
  | sweepEnd st counts => exact execSweepEnd_canonical h st counts ht
  | powerSample x => exact execPowerSample_canonical h x ht
  | phaseAdd tile d => exact execPhaseAdd_canonical h tile d ht
  | sensorFallback tile sensed => exact execSensorFallback_canonical h tile sensed ht
  | sensorFallbackExit tile sensed => exact execSensorFallbackExit_canonical h tile sensed ht
  | pstateEntry p => exact execPstateEntry_canonical h p ht
  | pstateExit p => exact execPstateExit_canonical h p ht
  | p4Entry => exact execP4Entry_canonical h ht
  | p4Exit => exact execP4Exit_canonical h ht
  | latencyTolerance f p body => exact execLatencyTolerance_canonical h f p body ht
  | cap f body => exact execCap_canonical h f body ht
  | coolReading inlet outlet flow seq => exact execCoolReading_canonical h inlet outlet flow seq ht
  | coolReadingTimeout => exact execCoolReadingTimeout_canonical h ht
  | coolNoDataTimeout => exact execCoolNoDataTimeout_canonical h ht
  | coolGraceExpire => exact execCoolGraceExpire_canonical h ht
  | coolNormal => exact execCoolNormal_canonical h ht
  | overtemp tile tj => exact execOvertemp_canonical h tile tj ht
  | shortDetect tile d => exact execShortDetect_canonical h tile d ht
  | softStartRetry tile d reached => exact execSoftStartRetry_canonical h tile d reached ht
  | phaseOpen site d phase => exact execPhaseOpen_canonical h site d phase ht
  | senseFail site d phase => exact execSenseFail_canonical h site d phase ht
  | lowInputDetect vbus duty busLimit => exact execLowInputDetect_canonical h vbus duty busLimit ht
  | lowInputRelease vbus duty => exact execLowInputRelease_canonical h vbus duty ht
  | vbusLowShutdown vbus => exact execVbusLowShutdown_canonical h vbus ht
  | warmShutdown => exact execWarmShutdown_canonical h ht
  | shutdownRestart vbus => exact execShutdownRestart_canonical h vbus ht
  | read f idx sub newer arg => exact execRead_canonical h f idx sub newer arg ht
  | write f idx sub body => exact execWrite_canonical h f idx sub body ht
  | writePersist f idx sub body => exact execWritePersist_canonical h f idx sub body ht
  | blockRead f idx sub offset body => exact execBlockRead_canonical h f idx sub offset body ht
  | subscribe f arg body => exact execSubscribe_canonical h f arg body ht
  | keyTake f k => exact execKeyTake_canonical h f k ht
  | keyGive f k => exact execKeyGive_canonical h f k ht
  | closeSession f session => exact execCloseSession_canonical h f session ht
  | requestRepeat f command idx sub => exact execRequestRepeat_canonical h f command idx sub ht
  | sessionIdleExpire session => exact execSessionIdleExpire_canonical h session ht
  | eventIrq x => exact execEventIrq_canonical h x ht
  | eventFrame session => exact execEventFrame_canonical h session ht
  | measurementRefresh idx sub value => exact execMeasurementRefresh_canonical h idx sub value ht
  | eyeRefresh kind port lanes => exact execEyeRefresh_canonical h kind port lanes ht
  | livenessExchange tile answered => exact execLivenessExchange_canonical h tile answered ht
  | tileFail tile cause sound => exact execTileFail_canonical h tile cause sound ht
  | heartbeatSend u => exact execHeartbeatSend_canonical h u ht
  | droverLoss k => exact execDroverLoss_canonical h k ht
  | reeveTakeover => exact execReeveTakeover_canonical h ht
  | constableTakeover => exact execConstableTakeover_canonical h ht
  | resetWatchdog => exact execResetWatchdog_canonical h ht
  | bootTimeout => exact execBootTimeout_canonical h ht
  | updateRequest f body => exact execUpdateRequest_canonical h f body ht
  | updateChunk f body => exact execUpdateChunk_canonical h f body ht
  | updatePhaseEnd verified header => exact execUpdatePhaseEnd_canonical h verified header ht
  | hello f body signer verifies => exact execHello_canonical h f body signer verifies ht
  | report f arg => exact execReport_canonical h f arg ht
  | helloExpire nonce => exact execHelloExpire_canonical h nonce ht
  | parcelKey f p slot body tagOk => exact execParcelKey_canonical h f p slot body tagOk ht
  | firewallDigestCheck tile t differs again => exact execFirewallDigestCheck_canonical h tile t differs again ht
  | pinnedLevel f body => exact execPinnedLevel_canonical h f body ht
  | coldStart cause => exact execColdStart_canonical h cause ht
  | coldStartReady => exact execColdStartReady_canonical h ht
  | warmReset cause => exact execWarmReset_canonical h cause ht
  | warmResetRestore => exact execWarmResetRestore_canonical h ht
  | resetKey v => exact execResetKey_canonical h v ht
  | resetCmd v => exact execResetCmd_canonical h v ht
  | resetArmExpire => exact execResetArmExpire_canonical h ht
  | busStageStart vbus taps => exact execBusStageStart_canonical h vbus taps ht
  | hintRaiseHoldEnd tile => exact execHintRaiseHoldEnd_canonical h tile ht
  | portRetrain x gen width => exact execPortRetrain_canonical h x gen width ht
  | ferryDetect port => exact execFerryDetect_canonical h port ht

/-! ### Every step -/

theorem step_canonical (ht : step s = .next t) : tablesCanonical t := by
  unfold step at ht
  split at ht
  · exact Host.Outcome.next.inj ht ▸ State.passNs_canonical h
  next c rest _ => exact exec_canonical (s := { s with pending := rest }) h c ht

end Canonical

end Sys2Proof.Machine

open Sys2Proof Sys2Proof.Machine

/-- Settles O5: every command keeps the canonical form, by the lemmas on the operations that it is made of. -/
theorem tablesStayCanonical : Obligations.TablesStayCanonical := fun _ _ h hstep => step_canonical h hstep
end

section
/-! SUPPORT. What the Cellar's units read, and what supplying, counting and poisoning them leave (R145 to R167). -/

namespace Sys2Proof.Machine

/-! ### Frames -/

theorem Changes.setCellar (s : State) (x : Cellar) : Changes s { s with cellar := x } [.cellar] := by
  intro p hp
  cases p
  case cellar => exact absurd (List.mem_singleton.2 rfl) hp
  all_goals rfl

/-- Earlier updates that raise nothing. -/
theorem Raises.after {s u t : State} {es : List (Nat × Nat × List Nat)} (h : Raises u t es) (hu : u.ev.seq = s.ev.seq) :
    Raises s t es := by
  simp only [Raises, hu] at h
  exact h

theorem InFabric.changes {s t : State} (h : InFabric s t) : Changes s t [.fabric] := by
  obtain ⟨f, rfl⟩ := h
  exact Changes.setFabric s f

theorem State.takeMsg_fabric {s t : State} (h : t.fabric = s.fabric) (e : Nat) (want : Msg → Bool) :
    (t.takeMsg e want).fabric = (s.takeMsg e want).fabric := by
  simp only [State.takeMsg, h]

theorem State.takeMsg_inFabric (s : State) (e : Nat) (want : Msg → Bool) : InFabric s (s.takeMsg e want) := ⟨_, rfl⟩

/-- A message that `s.vc2` makes is of VC2 (R34). -/
theorem State.inject_vc2_inFabric (s u : State) (src dest plot : Nat) (kind : BitVec 3) (ref : Nat) (data : List Byte) :
    InFabric s (s.inject (u.vc2 src dest plot kind ref data)) := s.inject_inFabric (Nat.le_refl 2)

theorem State.cellar_of_offFault {s t : State} (h : t.offFault = s.offFault) : t.cellar = s.cellar :=
  (congrArg State.cellar h : t.offFault.cellar = s.offFault.cellar)

theorem State.endLoad_cellar (s : State) (p : Nat) : (s.endLoad p).cellar = s.cellar := by
  unfold State.endLoad
  split <;> rfl

theorem State.markFaulted_cellar (s : State) (p : Nat) : (s.markFaulted p).cellar = s.cellar := by
  unfold State.markFaulted
  split <;> rfl

/-- A fault of a plot does not reach the Cellar (R245). -/
@[simp] theorem State.faultPlot_cellar (s : State) (p : Nat) (f : Nat → Bool) : (s.faultPlot p f).cellar = s.cellar := by
  rw [State.faultPlot_eq]
  split
  · rw [State.markFaulted_cellar, State.endLoad_cellar, State.cellar_of_offFault (s.endWork_offFault p f)]
  · rfl

/-! ### Bytes of a unit -/

theorem length_xorBytes {as bs : List Byte} (h : as.length = bs.length) : (xorBytes as bs).length = bs.length := by
  induction as generalizing bs with
  | nil => rfl
  | cons a as ih =>
    cases bs with
    | nil => simp at h
    | cons b bs => simp [xorBytes, ih (Nat.succ.inj h)]

@[simp] theorem State.length_cbytes (s : State) (a n : Nat) : (s.cbytes a n).length = n := by
  unfold State.cbytes
  induction n generalizing a with
  | zero => rfl
  | succ n ih => exact congrArg Nat.succ (ih (a + 1))

/-- The XOR of ranges of one length has that length. -/
theorem length_foldl_xorBytes {α : Type} {f : α → List Byte} {n : Nat} (hf : ∀ x, (f x).length = n) (l : List α)
    {acc : List Byte} (h : acc.length = n) : (l.foldl (fun acc x => xorBytes acc (f x)) acc).length = n := by
  induction l generalizing acc with
  | nil => exact h
  | cons x l ih => exact ih ((length_xorBytes (h.trans (hf x).symm)).trans (hf x))

@[simp] theorem State.length_chainBytes (s : State) (lt r off n : Nat) : (s.chainBytes lt r off n).length = n :=
  length_foldl_xorBytes (fun m => s.length_cbytes (unitAddr m r + off) n) _ List.length_replicate

/-- A store of `n` bytes is read back as they are. -/
theorem State.cbytes_cstore_of_length (s : State) (a : Nat) {bs : List Byte} {n : Nat} (h : bs.length = n) :
    (s.cstore a bs).cbytes a n = bs := h ▸ cbytes_cstore s a bs

theorem State.cbytes_of_mem {s t : State} (h : t.cellar.mem = s.cellar.mem) (a n : Nat) : t.cbytes a n = s.cbytes a n := by
  rw [State.cbytes, h, State.cbytes]

section SameCellar

variable {s t : State} (h : t.cellar = s.cellar)
include h

theorem State.built_of_cellar (lt r : Nat) : t.built lt r = s.built lt r := by
  unfold State.built State.rowKind
  rw [h]

theorem State.poisoned_of_cellar (lt r : Nat) : t.poisoned lt r = s.poisoned lt r := by
  rw [State.poisoned, h, State.poisoned]

theorem State.canSupply_of_cellar (lt r : Nat) : t.canSupply lt r = s.canSupply lt r := by
  simp only [State.canSupply, State.built_of_cellar h, State.poisoned_of_cellar h]

theorem State.chainBytes_of_cellar (lt r off n : Nat) : t.chainBytes lt r off n = s.chainBytes lt r off n := by
  simp only [State.chainBytes, State.cbytes, h]

theorem State.dataRead_of_cellar (a n : Nat) : t.dataRead a n = s.dataRead a n := by
  simp only [State.dataRead, State.unitRead, State.built_of_cellar h, State.chainBytes_of_cellar h, State.cbytes, h]

end SameCellar

theorem State.tileName_of_sites {s t : State} (h : t.sites = s.sites) (lt : Nat) : t.tileName lt = s.tileName lt := by
  rw [State.tileName, State.physOf, h, State.tileName, State.physOf]

theorem State.dataRead_of_built {s : State} {a : Nat} (n : Nat)
    (h : s.built (caTile a) (dataRow (caTile a % 12) (caOffset a)) = true) :
    s.dataRead a n = s.cbytes (unitAddr (caTile a) (dataRow (caTile a % 12) (caOffset a)) + caOffset a % 4096) n := if_pos h

theorem State.dataRead_of_lost {s : State} {a : Nat} (n : Nat)
    (h : s.built (caTile a) (dataRow (caTile a % 12) (caOffset a)) = false) :
    s.dataRead a n = s.chainBytes (caTile a) (dataRow (caTile a % 12) (caOffset a)) (caOffset a % 4096) n :=
  if_neg (by rw [h]; decide)

/-! ### Codewords (R151) -/

/-- One and two wrong bits are corrected and counted. -/
def State.countCodes (s : State) (ks : List Nat) (e : EccFound) : State :=
  let one := countWrong e ks 1
  let two := countWrong e ks 2
  let s1 := if one + two = 0 then s else s.bump 64 0x6010 1 (one + two)
  if two = 0 then s1 else s1.bump 64 0x6010 2 two

theorem State.countCodes_changes (s : State) (ks : List Nat) (e : EccFound) : Changes s (s.countCodes ks e) [.led] := by
  unfold State.countCodes
  extract_lets one two s1
  have h1 : Changes s s1 [.led] := by
    dsimp only [s1]
    split
    · exact Changes.refl s _
    · exact Changes.bump s _ _ _ _
  split
  · exact h1
  · exact h1.trans (Changes.bump s1 _ _ _ _)

@[simp] theorem State.countCodes_cellar (s : State) (ks : List Nat) (e : EccFound) : (s.countCodes ks e).cellar = s.cellar :=
  s.countCodes_changes ks e .cellar (by decide)

@[simp] theorem State.countCodes_fabric (s : State) (ks : List Nat) (e : EccFound) : (s.countCodes ks e).fabric = s.fabric :=
  s.countCodes_changes ks e .fabric (by decide)

/-- The two counters of corrected codewords, and no other cell (R151). -/
theorem State.countCodes_cells (s : State) (ks : List Nat) (e : EccFound) :
    (0 < countWrong e ks 1 + countWrong e ks 2 →
      (s.countCodes ks e).cell 0x6010 1 = satAdd 64 (s.cell 0x6010 1) (countWrong e ks 1 + countWrong e ks 2)) ∧
    (0 < countWrong e ks 2 → (s.countCodes ks e).cell 0x6010 2 = satAdd 64 (s.cell 0x6010 2) (countWrong e ks 2)) ∧
    (countWrong e ks 2 = 0 → (s.countCodes ks e).cell 0x6010 2 = s.cell 0x6010 2) ∧
    CellsBut [(0x6010, 1), (0x6010, 2)] s (s.countCodes ks e) := by
  unfold State.countCodes
  extract_lets one two s1
  have h1 (hn : 0 < one + two) : s1.cell 0x6010 1 = satAdd 64 (s.cell 0x6010 1) (one + two) := by
    dsimp only [s1]
    rw [if_neg (by omega), State.cell_bump_self]
  have h2 : s1.cell 0x6010 2 = s.cell 0x6010 2 := by
    dsimp only [s1]
    split
    · rfl
    · exact State.cell_setCell_ne _ _ _ _ _ _ (by decide)
  have hs1 : CellsBut [(0x6010, 1), (0x6010, 2)] s s1 := by
    dsimp only [s1]
    split
    · exact CellsBut.of_led rfl
    · exact (CellsBut.bump s _ _ _ _ (by decide)).mono (by decide)
  by_cases h0 : two = 0
  · rw [if_pos h0]
    exact ⟨h1, fun hn => absurd h0 (by omega), fun _ => h2, hs1⟩
  · rw [if_neg h0]
    refine ⟨fun hn => (State.cell_setCell_ne _ _ _ _ _ _ (by decide)).trans (h1 hn), fun _ => ?_, fun h => absurd h h0,
      hs1.trans ((CellsBut.bump s1 _ _ _ _ (by decide)).mono (by decide))⟩
    rw [State.cell_bump_self, h2]

theorem State.checkCodes_eq (s : State) (lt r : Nat) (ks : List Nat) (e : EccFound) :
    s.checkCodes lt r ks e =
      if deadCodes e ks = false then s.countCodes ks e
      else if (s.countCodes ks e).canSupply lt r then
        (((s.countCodes ks e).cstore (unitAddr lt r) ((s.countCodes ks e).chainBytes lt r 0 4096)).bump 32 0x6010 3 1).raise
          0x6001 0xFF [s.tileName lt, r]
      else (s.countCodes ks e).poisonUnit lt r := rfl

theorem State.checkCodes_sound {s : State} (lt r : Nat) {ks : List Nat} {e : EccFound} (h : deadCodes e ks = false) :
    s.checkCodes lt r ks e = s.countCodes ks e := if_pos h

/-- A unit that is written again from its stripe row (R151). -/
def State.rewriteUnit (s : State) (lt r : Nat) : State :=
  ((s.cstore (unitAddr lt r) (s.chainBytes lt r 0 4096)).bump 32 0x6010 3 1).raise 0x6001 0xFF [s.tileName lt, r]

theorem State.checkCodes_supplied {s : State} {lt r : Nat} {ks : List Nat} {e : EccFound} (h : deadCodes e ks = true)
    (hs : s.canSupply lt r = true) : s.checkCodes lt r ks e = (s.countCodes ks e).rewriteUnit lt r := by
  have hc : (s.countCodes ks e).canSupply lt r = true := (State.canSupply_of_cellar (s.countCodes_cellar ks e) lt r).trans hs
  have hn : s.tileName lt = (s.countCodes ks e).tileName lt :=
    (State.tileName_of_sites (s.countCodes_changes ks e .sites (by decide)) lt).symm
  rw [State.checkCodes_eq, if_neg (by rw [h]; decide), if_pos hc, State.rewriteUnit, hn]

theorem State.checkCodes_unsupplied {s : State} {lt r : Nat} {ks : List Nat} {e : EccFound} (h : deadCodes e ks = true)
    (hs : s.canSupply lt r = false) : s.checkCodes lt r ks e = (s.countCodes ks e).poisonUnit lt r := by
  have hc : ¬ (s.countCodes ks e).canSupply lt r = true := by
    rw [State.canSupply_of_cellar (s.countCodes_cellar ks e), hs]
    decide
  rw [State.checkCodes_eq, if_neg (by rw [h]; decide), if_neg hc]

theorem State.rewriteUnit_cellar (s : State) (lt r : Nat) :
    (s.rewriteUnit lt r).cellar = (s.cstore (unitAddr lt r) (s.chainBytes lt r 0 4096)).cellar := by
  simp [State.rewriteUnit]

/-- What a store of a unit's range leaves: the ranges of the memory outside it, and what is known of the units. -/
theorem State.rewriteUnit_bytes (s : State) (lt r : Nat) :
    (s.rewriteUnit lt r).cbytes (unitAddr lt r) 4096 = s.chainBytes lt r 0 4096 ∧
    (∀ a, ¬ (unitAddr lt r ≤ a ∧ a < unitAddr lt r + 4096) →
      Tab.get 0 (s.rewriteUnit lt r).cellar.mem a = Tab.get 0 s.cellar.mem a) := by
  constructor
  · exact (State.cbytes_of_mem (congrArg Cellar.mem (s.rewriteUnit_cellar lt r)) _ _).trans
      (s.cbytes_cstore_of_length _ (s.length_chainBytes lt r 0 4096))
  · intro a ha
    rw [State.rewriteUnit_cellar]
    exact cellar_get_cstore s _ a _ (by rw [State.length_chainBytes]; omega)

theorem State.rewriteUnit_report (s : State) (lt r : Nat) :
    (s.rewriteUnit lt r).cell 0x6010 3 = satAdd 32 (s.cell 0x6010 3) 1 ∧
    Raises s (s.rewriteUnit lt r) [(0x6001, 0xFF, [s.tileName lt, r])] ∧ CellsBut [(0x6010, 3)] s (s.rewriteUnit lt r) ∧
    Changes s (s.rewriteUnit lt r) (.cellar :: .led :: Part.report) := by
  unfold State.rewriteUnit
  generalize s.chainBytes lt r 0 4096 = bs
  refine ⟨?_, Raises.one (t := (s.cstore (unitAddr lt r) bs).bump 32 0x6010 3 1) rfl _ _ _, ?_, ?_⟩
  · rw [State.cell_raise, State.cell_bump_self]
    rfl
  · have hcount := CellsBut.bump (s.cstore (unitAddr lt r) bs) 32 0x6010 3 1 (by decide)
    exact (CellsBut.of_led rfl).trans (hcount.trans (CellsBut.of_led (by simp)))
  · exact ((Changes.setCellar s _).mono (by decide)).trans (((Changes.bump _ _ _ _ _).mono (by decide)).trans
      ((Changes.raise _ _ _ _).mono (by decide)))

theorem State.poisonUnit_spec (s : State) (lt r : Nat) :
    (s.poisonUnit lt r).poisoned lt r = true ∧ (s.poisonUnit lt r).cellar.mem = s.cellar.mem := by
  have hc : (s.poisonUnit lt r).cellar = (s.poison lt r).cellar := by simp [State.poisonUnit]
  rw [State.poisoned_of_cellar hc, hc, State.poison]
  split
  · exact ⟨‹_›, rfl⟩
  · exact ⟨Tab.get_set_self false s.cellar.poison (unitKey lt r) true, rfl⟩

end Sys2Proof.Machine
end

section
/-! SUPPORT. CELLAR_READ (R151, R152, R160, R164): what each way to answer leaves, and which one a read takes. -/

namespace Sys2Proof.Machine

/-! ### Answers -/

theorem State.vc2_of_epochs {s t : State} (he : t.epochs = s.epochs) (hn : t.now = s.now) : t.vc2 = s.vc2 := by
  unfold State.vc2 State.epoch State.epochRec
  rw [he, hn]

theorem State.physOf_of_sites {s t : State} (h : t.sites = s.sites) : t.physOf = s.physOf := by
  unfold State.physOf
  rw [h]

section Return

variable (s : State) (tag a n : Nat) (data : List Byte)

theorem State.returnRead_inFabric : InFabric s (s.returnRead tag a n data) := by
  unfold State.returnRead
  split
  · exact .refl s
  · split
    · exact .refl s
    · exact (s.takeMsg_inFabric _ _).trans (State.inject_vc2_inFabric _ _ _ _ _ _ _ _)

variable {s tag a n}

theorem State.returnRead_of_unasked {t0 : Nat} (ht : s.physOf (caTile a) = some t0)
    (hm : (Tab.get [] s.fabric.taken (ctrl t0)).find? (isReadRequest tag a n) = none) : s.returnRead tag a n data = s := by
  simp only [State.returnRead, ht, hm]

theorem State.returnRead_of_asked {t0 : Nat} {m : Msg} (ht : s.physOf (caTile a) = some t0)
    (hm : (Tab.get [] s.fabric.taken (ctrl t0)).find? (isReadRequest tag a n) = some m) :
    s.returnRead tag a n data =
      (s.takeMsg (ctrl t0) (isReadRequest tag a n)).inject (s.vc2 (ctrl t0) m.src.toNat tag 4 m.ref data) := by
  simp only [State.returnRead, ht, hm]

end Return

section Good

variable (s : State) (tag a n : Nat)

theorem State.goodRead_inFabric : InFabric (s.answerRead tag .done (s.dataRead a n)) (s.goodRead tag a n) :=
  State.returnRead_inFabric _ _ _ _ _

theorem State.goodRead_cellar :
    (s.goodRead tag a n).cellar = { s.cellar with returned := some (tag, .done, s.dataRead a n) } := by
  obtain ⟨f, hf⟩ := s.goodRead_inFabric tag a n
  rw [hf]
  rfl

theorem State.goodRead_changes : Changes s (s.goodRead tag a n) [.cellar, .fabric] :=
  ((Changes.setCellar s _).mono (by decide)).trans ((s.goodRead_inFabric tag a n).changes.mono (by decide))

theorem State.cell_goodRead (i j : Nat) : (s.goodRead tag a n).cell i j = s.cell i j :=
  State.cell_of_led (s.goodRead_changes tag a n .led (by decide)) i j

variable {s tag a n}

theorem State.goodRead_of_unasked {t0 : Nat} (ht : s.physOf (caTile a) = some t0)
    (hm : (Tab.get [] s.fabric.taken (ctrl t0)).find? (isReadRequest tag a n) = none) :
    (s.goodRead tag a n).fabric = s.fabric := by
  rw [State.goodRead, State.returnRead_of_unasked (s := s.answerRead tag .done (s.dataRead a n)) _ ht hm]
  rfl

theorem State.goodRead_of_asked {t0 : Nat} {m : Msg} (ht : s.physOf (caTile a) = some t0)
    (hm : (Tab.get [] s.fabric.taken (ctrl t0)).find? (isReadRequest tag a n) = some m) :
    (s.goodRead tag a n).fabric =
      (((s.answerRead tag .done (s.dataRead a n)).takeMsg (ctrl t0) (isReadRequest tag a n)).inject
        (s.vc2 (ctrl t0) m.src.toNat tag 4 m.ref (s.dataRead a n))).fabric :=
  congrArg State.fabric (State.returnRead_of_asked (s := s.answerRead tag .done (s.dataRead a n)) _ ht hm)

end Good

/-- A poisoned unit's read returns INTEGRITY and writes no byte (R152). -/
theorem State.poisonedRead_cellar (s : State) (tag lt r : Nat) :
    (s.poisonedRead tag lt r).cellar = { s.cellar with returned := some (tag, .integrity, []) } := by
  unfold State.poisonedRead
  dsimp only
  split
  · exact State.faultPlot_cellar _ _ _
  · rfl

theorem State.cellarFault_cellar (s : State) (tag : Nat) (src : Option Nat) : (s.cellarFault tag src).cellar = s.cellar := by
  unfold State.cellarFault
  dsimp only
  split
  · simp
  · rfl

/-- An access that a plot may not make faults it, and no other plot (R157, R160). -/
theorem State.plotState_cellarFault {s : State} {tag : Nat} (src : Option Nat) (htag : tag < 16)
    (h : s.plotState tag = 1 ∨ s.plotState tag = 2) : (s.cellarFault tag src).plotState tag = 5 := by
  unfold State.cellarFault
  rw [if_pos htag]
  refine State.plotState_faultPlot _ _ _ htag ?_
  unfold State.plotState at h ⊢
  rwa [State.cell_raise, State.bump, State.cell_setCell_ne _ _ _ _ _ _ (by simp only [ek]; omega)]

theorem State.plotState_cellarFault_other (s : State) {tag p : Nat} (src : Option Nat) (hp : p < 16) (h : p ≠ tag) :
    (s.cellarFault tag src).plotState p = s.plotState p := by
  unfold State.cellarFault State.plotState
  dsimp only
  split
  · rw [State.cell_faultPlot _ _ _ _ _ (by simp only [ek]; omega) (by simp only [ek]; omega) (by simp only [ek]; omega),
      State.cell_raise, State.bump, State.cell_setCell_ne _ _ _ _ _ _ (by simp only [ek]; omega)]
  · rfl

/-! ### Which answer a read takes -/

section Read

variable {s : State} {addr : BitVec 40} {tag : BitVec 5} {len : Fin 4097} {e : EccFound} {lt r : Nat} {ks : List Nat}
variable (hu : unitOk addr len.val = true) (hlt : lt = caTile addr.toNat) (hr : r = dataRow (lt % 12) (caOffset addr.toNat))
  (hheld : s.cellarHeld lt = false)
include hu hlt hr hheld

theorem exec_cellarRead_denied (h : s.addrOk addr.toNat = false ∨ s.tagOwns tag.toNat addr.toNat = false) :
    exec (.cellarRead addr tag len e) s = .next ((s.answerRead tag.toNat .denied []).cellarFault tag.toNat
      (s.asker lt (isReadRequest tag.toNat addr.toNat len.val))) := by
  change execCellarRead addr tag len e s = _
  subst hlt
  simp only [execCellarRead, hu, hheld, if_pos h, Bool.true_eq_false, Bool.false_eq_true, if_false]

section Open

variable (haddr : s.addrOk addr.toNat = true) (hown : s.tagOwns tag.toNat addr.toNat = true)
  (hfill : (lt, r) ∉ s.fillingUnits tag.toNat)
include haddr hown hfill

theorem exec_cellarRead_open (hks : ks = codewordsOf (caOffset addr.toNat % 4096) len.val) :
    exec (.cellarRead addr tag len e) s = .next (
      if s.poisoned lt r then s.poisonedRead tag.toNat lt r
      else if (s.built lt r = false ∨ deadCodes e ks) ∧ s.chainHeld lt r then s
      else if s.built lt r = false then
        (if s.canSupply lt r then s.goodRead tag.toNat addr.toNat len.val else (s.poisonUnit lt r).poisonedRead tag.toNat lt r)
      else if (s.checkCodes lt r ks e).poisoned lt r then (s.checkCodes lt r ks e).poisonedRead tag.toNat lt r
      else (s.checkCodes lt r ks e).goodRead tag.toNat addr.toNat len.val) := by
  change execCellarRead addr tag len e s = _
  have hc : (s.fillingUnits tag.toNat).contains (lt, r) = false := by simpa using hfill
  subst hlt hr hks
  simp only [execCellarRead, hu, hheld, haddr, hown, hc, Bool.true_eq_false, Bool.false_eq_true, if_false, or_self]

theorem exec_cellarRead_poisoned (hp : s.poisoned lt r = true) :
    exec (.cellarRead addr tag len e) s = .next (s.poisonedRead tag.toNat lt r) := by
  rw [exec_cellarRead_open hu hlt hr hheld haddr hown hfill rfl, if_pos hp]

section Unpoisoned

variable (hp : s.poisoned lt r = false) (hks : ks = codewordsOf (caOffset addr.toNat % 4096) len.val)
include hp hks

theorem exec_cellarRead_sound (hb : s.built lt r = true) (hd : deadCodes e ks = false) :
    exec (.cellarRead addr tag len e) s = .next ((s.countCodes ks e).goodRead tag.toNat addr.toNat len.val) := by
  rw [exec_cellarRead_open hu hlt hr hheld haddr hown hfill hks, State.checkCodes_sound lt r hd,
    State.poisoned_of_cellar (s.countCodes_cellar ks e)]
  simp [hp, hb, hd]

theorem exec_cellarRead_lost (hb : s.built lt r = false) (hch : s.chainHeld lt r = false) (hs : s.canSupply lt r = true) :
    exec (.cellarRead addr tag len e) s = .next (s.goodRead tag.toNat addr.toNat len.val) := by
  rw [exec_cellarRead_open hu hlt hr hheld haddr hown hfill hks]
  simp [hp, hb, hch, hs]

theorem exec_cellarRead_supplied (hb : s.built lt r = true) (hd : deadCodes e ks = true) (hch : s.chainHeld lt r = false)
    (hs : s.canSupply lt r = true) : exec (.cellarRead addr tag len e) s =
      .next (((s.countCodes ks e).rewriteUnit lt r).goodRead tag.toNat addr.toNat len.val) := by
  have hp1 : ((s.countCodes ks e).rewriteUnit lt r).poisoned lt r = false := by
    rw [State.poisoned, State.rewriteUnit_cellar]
    exact (State.poisoned_of_cellar (s.countCodes_cellar ks e) lt r).trans hp
  rw [exec_cellarRead_open hu hlt hr hheld haddr hown hfill hks, State.checkCodes_supplied hd hs]
  simp [hp, hb, hch, hp1]

theorem exec_cellarRead_unsupplied (hb : s.built lt r = true) (hd : deadCodes e ks = true) (hch : s.chainHeld lt r = false)
    (hs : s.canSupply lt r = false) : exec (.cellarRead addr tag len e) s =
      .next (((s.countCodes ks e).poisonUnit lt r).poisonedRead tag.toNat lt r) := by
  have hp1 := ((s.countCodes ks e).poisonUnit_spec lt r).1
  rw [exec_cellarRead_open hu hlt hr hheld haddr hown hfill hks, State.checkCodes_unsupplied hd hs]
  simp [hp, hb, hch, hp1]

end Unpoisoned

/-! ### What each answer leaves -/

section Sound

variable (hp : s.poisoned lt r = false) (hks : ks = codewordsOf (caOffset addr.toNat % 4096) len.val)
include hp hks

theorem cellarRead_sound (hb : s.built lt r = true) (hd : deadCodes e ks = false) :
    ∃ t, exec (.cellarRead addr tag len e) s = .next t ∧
      t.cellar = { s.cellar with returned := some (tag.toNat, .done,
        s.cbytes (unitAddr lt r + caOffset addr.toNat % 4096) len.val) } ∧
      (0 < countWrong e ks 1 + countWrong e ks 2 →
        t.cell 0x6010 1 = satAdd 64 (s.cell 0x6010 1) (countWrong e ks 1 + countWrong e ks 2)) ∧
      (0 < countWrong e ks 2 → t.cell 0x6010 2 = satAdd 64 (s.cell 0x6010 2) (countWrong e ks 2)) ∧
      (countWrong e ks 2 = 0 → t.cell 0x6010 2 = s.cell 0x6010 2) ∧
      (∀ t0, s.physOf lt = some t0 →
        (Tab.get [] s.fabric.taken (ctrl t0)).find? (isReadRequest tag.toNat addr.toNat len.val) = none → t.fabric = s.fabric) ∧
      (∀ t0 m, s.physOf lt = some t0 →
        (Tab.get [] s.fabric.taken (ctrl t0)).find? (isReadRequest tag.toNat addr.toNat len.val) = some m →
        ∃ v : State, v.fabric = (s.takeMsg (ctrl t0) (isReadRequest tag.toNat addr.toNat len.val)).fabric ∧
          t.fabric = (v.inject (s.vc2 (ctrl t0) m.src.toNat tag.toNat 4 m.ref
            (s.cbytes (unitAddr lt r + caOffset addr.toNat % 4096) len.val))).fabric) ∧
      CellsBut [(0x6010, 1), (0x6010, 2)] s t ∧ Changes s t [.cellar, .led, .fabric] := by
  refine ⟨_, exec_cellarRead_sound hu hlt hr hheld haddr hown hfill hp hks hb hd, ?_⟩
  have hch := s.countCodes_changes ks e
  obtain ⟨h1, h2, h2', hcells⟩ := s.countCodes_cells ks e
  have hdata : (s.countCodes ks e).dataRead addr.toNat len.val =
      s.cbytes (unitAddr lt r + caOffset addr.toNat % 4096) len.val := by
    subst hlt hr
    rw [State.dataRead_of_cellar (s.countCodes_cellar ks e), State.dataRead_of_built _ hb]
  have hcellar := s.countCodes_cellar ks e
  have hfab := s.countCodes_fabric ks e
  have hphys := State.physOf_of_sites (hch .sites (by decide))
  have hvc2 := State.vc2_of_epochs (hch .epochs (by decide)) (hch .now (by decide))
  generalize s.countCodes ks e = u at *
  refine ⟨by rw [State.goodRead_cellar, hcellar, hdata], fun hn => (u.cell_goodRead _ _ _ _ _).trans (h1 hn),
    fun hn => (u.cell_goodRead _ _ _ _ _).trans (h2 hn), fun hn => (u.cell_goodRead _ _ _ _ _).trans (h2' hn),
    fun t0 ht hm => ?_, fun t0 m ht hm => ?_, hcells.trans (CellsBut.of_led (u.goodRead_changes _ _ _ .led (by decide))),
    (hch.mono (by decide)).trans ((u.goodRead_changes _ _ _).mono (by decide))⟩
  all_goals
    rw [hlt, ← hphys] at ht
    rw [← hfab] at hm
  · exact (State.goodRead_of_unasked ht hm).trans hfab
  · refine ⟨(u.answerRead tag.toNat .done (u.dataRead addr.toNat len.val)).takeMsg (ctrl t0)
      (isReadRequest tag.toNat addr.toNat len.val), State.takeMsg_fabric (s := s) hfab _ _, ?_⟩
    rw [State.goodRead_of_asked ht hm, hdata, hvc2]

theorem cellarRead_lost (hb : s.built lt r = false) (hch : s.chainHeld lt r = false) (hs : s.canSupply lt r = true) :
    ∃ t, exec (.cellarRead addr tag len e) s = .next t ∧
      t.cellar = { s.cellar with returned := some (tag.toNat, .done,
        s.chainBytes lt r (caOffset addr.toNat % 4096) len.val) } ∧ Changes s t [.cellar, .fabric] := by
  refine ⟨_, exec_cellarRead_lost hu hlt hr hheld haddr hown hfill hp hks hb hch hs, ?_, s.goodRead_changes _ _ _⟩
  subst hlt hr
  rw [State.goodRead_cellar, State.dataRead_of_lost _ hb]

theorem cellarRead_supplied (hb : s.built lt r = true) (hd : deadCodes e ks = true) (hch : s.chainHeld lt r = false)
    (hs : s.canSupply lt r = true) :
    ∃ t, exec (.cellarRead addr tag len e) s = .next t ∧
      t.cbytes (unitAddr lt r) 4096 = s.chainBytes lt r 0 4096 ∧
      (∀ a, ¬ (unitAddr lt r ≤ a ∧ a < unitAddr lt r + 4096) → Tab.get 0 t.cellar.mem a = Tab.get 0 s.cellar.mem a) ∧
      t.cellar.returned = some (tag.toNat, .done, t.cbytes (unitAddr lt r + caOffset addr.toNat % 4096) len.val) ∧
      (0 < countWrong e ks 1 + countWrong e ks 2 →
        t.cell 0x6010 1 = satAdd 64 (s.cell 0x6010 1) (countWrong e ks 1 + countWrong e ks 2)) ∧
      t.cell 0x6010 3 = satAdd 32 (s.cell 0x6010 3) 1 ∧ Raises s t [(0x6001, 0xFF, [s.tileName lt, r])] ∧
      CellsBut [(0x6010, 1), (0x6010, 2), (0x6010, 3)] s t ∧ Changes s t (.cellar :: .led :: .fabric :: Part.report) := by
  refine ⟨_, exec_cellarRead_supplied hu hlt hr hheld haddr hown hfill hp hks hb hd hch hs, ?_⟩
  have hch := s.countCodes_changes ks e
  obtain ⟨h1, -, -, hcells⟩ := s.countCodes_cells ks e
  have hname := State.tileName_of_sites (hch .sites (by decide)) lt
  have hchain := State.chainBytes_of_cellar (s.countCodes_cellar ks e) lt r 0 4096
  have hbuilt := (State.built_of_cellar (s.countCodes_cellar ks e) lt r).trans hb
  have hmem := congrArg Cellar.mem (s.countCodes_cellar ks e)
  have h3 := hcells 0x6010 3 (by decide) (by decide)
  have hev := congrArg Events.seq (hch .ev (by decide))
  generalize s.countCodes ks e = u at *
  obtain ⟨hbytes, hrest⟩ := u.rewriteUnit_bytes lt r
  obtain ⟨hcount, hraise, hcells3, hch3⟩ := u.rewriteUnit_report lt r
  have hbuilt' : (u.rewriteUnit lt r).built lt r = true := by
    simp only [State.built, State.rowKind, State.rewriteUnit_cellar] at hbuilt ⊢
    exact hbuilt
  have h13 : (u.rewriteUnit lt r).cell 0x6010 1 = u.cell 0x6010 1 := hcells3 _ _ (by decide) (by decide)
  generalize u.rewriteUnit lt r = v at *
  have hg := v.goodRead_changes tag.toNat addr.toNat len.val
  have hgc := v.goodRead_cellar tag.toNat addr.toNat len.val
  have hgm := congrArg Cellar.mem hgc
  refine ⟨?_, fun a ha => ?_, ?_, fun hn => ?_, ?_, ?_, ?_, ?_⟩
  · rw [State.cbytes_of_mem hgm, hbytes, hchain]
  · rw [hgm, hrest a ha, hmem]
  · rw [hgc, State.cbytes_of_mem hgm]
    subst hlt hr
    rw [State.dataRead_of_built _ hbuilt']
  · rw [State.cell_goodRead, h13, h1 hn]
  · rw [State.cell_goodRead, hcount, h3]
  · rw [← hname]
    exact (hraise.after hev).congr (hg .ev (by decide)) (hg .now (by decide))
  · exact (hcells.mono (by decide)).trans ((hcells3.mono (by decide)).trans (CellsBut.of_led (hg .led (by decide))))
  · exact (hch.mono (by decide)).trans ((hch3.mono (by decide)).trans (hg.mono (by decide)))

theorem cellarRead_unsupplied (hb : s.built lt r = true) (hd : deadCodes e ks = true) (hch : s.chainHeld lt r = false)
    (hs : s.canSupply lt r = false) :
    ∃ t, exec (.cellarRead addr tag len e) s = .next t ∧ t.poisoned lt r = true ∧
      t.cellar.returned = some (tag.toNat, .integrity, []) ∧ t.cellar.mem = s.cellar.mem ∧ Changes s t Part.work := by
  refine ⟨_, exec_cellarRead_unsupplied hu hlt hr hheld haddr hown hfill hp hks hb hd hch hs, ?_⟩
  obtain ⟨hpoison, hmem⟩ := (s.countCodes ks e).poisonUnit_spec lt r
  refine ⟨?_, by rw [State.poisonedRead_cellar], ?_, ?_⟩
  · rw [State.poisoned, State.poisonedRead_cellar]
    exact hpoison
  · rw [State.poisonedRead_cellar]
    exact hmem.trans (congrArg Cellar.mem (s.countCodes_cellar ks e))
  · exact ((s.countCodes_changes ks e).mono (by decide)).trans
      ((Changes.of_fixed (State.poisonUnit_inner _ _ _)).trans (Changes.of_fixed (State.poisonedRead_inner _ _ _ _)))

end Sound

end Open

theorem cellarRead_denied (h : s.addrOk addr.toNat = false ∨ s.tagOwns tag.toNat addr.toNat = false) :
    ∃ t, exec (.cellarRead addr tag len e) s = .next t ∧ t.cellar.returned = some (tag.toNat, .denied, []) ∧
      t.cellar.mem = s.cellar.mem ∧
      (tag.toNat < 16 → (s.plotState tag.toNat = 1 ∨ s.plotState tag.toNat = 2) → t.plotState tag.toNat = 5) ∧
      (∀ p, p < 16 → p ≠ tag.toNat → t.plotState p = s.plotState p) ∧ Changes s t Part.work :=
  ⟨_, exec_cellarRead_denied hu hlt hr hheld h, by rw [State.cellarFault_cellar]; rfl, by rw [State.cellarFault_cellar]; rfl,
    fun htag hst => State.plotState_cellarFault _ htag hst, fun p hp hne => State.plotState_cellarFault_other _ _ hp hne,
    (Changes.of_fixed (State.answerRead_inner _ _ _ _)).trans (Changes.of_fixed (State.cellarFault_inner _ _ _))⟩

theorem cellarRead_poisoned (haddr : s.addrOk addr.toNat = true) (hown : s.tagOwns tag.toNat addr.toNat = true)
    (hfill : (lt, r) ∉ s.fillingUnits tag.toNat) (hp : s.poisoned lt r = true) :
    ∃ t, exec (.cellarRead addr tag len e) s = .next t ∧ t.cellar.returned = some (tag.toNat, .integrity, []) ∧
      t.cellar.mem = s.cellar.mem ∧ Changes s t Part.work :=
  ⟨_, exec_cellarRead_poisoned hu hlt hr hheld haddr hown hfill hp, by rw [State.poisonedRead_cellar],
    by rw [State.poisonedRead_cellar], Changes.of_fixed (State.poisonedRead_inner _ _ _ _)⟩

end Read

end Sys2Proof.Machine

open Sys2Proof Sys2Proof.Machine

/-- Settles O21: one lemma for each way in which a read is answered. -/
theorem cellarReads : Obligations.CellarReads := by
  unfold Obligations.CellarReads
  refine ⟨?_, ?_⟩
  · intro s addr tag len e lt r ks hu hlt hr hheld haddr hown hp hfill hks
    exact ⟨cellarRead_sound hu hlt hr hheld haddr hown hfill hp hks, cellarRead_lost hu hlt hr hheld haddr hown hfill hp hks,
      cellarRead_supplied hu hlt hr hheld haddr hown hfill hp hks, cellarRead_unsupplied hu hlt hr hheld haddr hown hfill hp hks⟩
  · intro s addr tag len e hu hheld
    exact ⟨cellarRead_denied hu rfl rfl hheld, cellarRead_poisoned hu rfl rfl hheld⟩
end

section
/-! SUPPORT. The slots of a Cellar channel that refresh and scrub, and the rebuild of a member's units (R141, R147 to R149, R162,
R165). -/

namespace Sys2Proof.Machine

/-! ### Refreshing and scrubbing -/

/-- Slot 31, and slot 15 while the interval is 32 µs, are the refresh's (R141). -/
theorem cellarSlot_eq_refresh_iff (slot : Nat) (fast : Bool) :
    cellarSlot slot fast = .refresh ↔ slot = 31 ∨ (slot = 15 ∧ fast = true) := by
  unfold cellarSlot
  by_cases h31 : slot = 31
  · simp [h31]
  by_cases h15 : slot = 15
  · cases fast <;> simp [h15]
  simp only [h31, h15, if_false, false_and, or_self, iff_false]
  split
  · simp
  · split
    · simp
    · split <;> simp

/-- The channel's rows refreshed in the present interval go up by one (R147). -/
def State.refreshRow (s : State) (k v : Nat) : State :=
  { s with cellar := { s.cellar with refresh := Tab.set 0 s.cellar.refresh k v } }

/-- The scrubber moves on to access `v` of the channel; the end of a pass of the tile is noted (R149). -/
def State.scrubOn (s : State) (t c v now : Nat) : State :=
  let s1 := { s with cellar := { s.cellar with scrub := Tab.set 0 s.cellar.scrub (t * 48 + c) v } }
  if v % scrubAccesses = 0 ∧ (List.range 48).all (fun j =>
      decide (v / scrubAccesses ≤ Tab.get 0 s1.cellar.scrub (t * 48 + j) / scrubAccesses)) then s1.setCell 0x6010 6 now
  else s1

theorem State.scrubOn_spec (s : State) (t c v now : Nat) :
    (s.scrubOn t c v now).cellar = { s.cellar with scrub := Tab.set 0 s.cellar.scrub (t * 48 + c) v } ∧
    CellsBut [(0x6010, 6)] s (s.scrubOn t c v now) ∧ Changes s (s.scrubOn t c v now) [.cellar, .led] := by
  have h1 := Changes.setCellar s { s.cellar with scrub := Tab.set 0 s.cellar.scrub (t * 48 + c) v }
  unfold State.scrubOn
  dsimp only
  split
  · exact ⟨rfl, (CellsBut.of_led rfl).setCell _ _ _ (by decide) List.mem_cons_self,
      (h1.mono (by decide)).trans ((Changes.setCell _ _ _ _).mono (by decide))⟩
  · exact ⟨rfl, CellsBut.of_led rfl, h1.mono (by decide)⟩

section Slot

variable {s : State} {tile : Phys} {ch : Fin 48} {slot : Fin 32} {e : EccFound}

theorem exec_refreshSlot_other
    (h : s.refreshNs tile.val = 0 ∨ (slot.val ≠ 31 ∧ ¬ (slot.val = 15 ∧ s.refreshNs tile.val = 32000))) :
    exec (.refreshSlot tile ch ⟨slot, e⟩) s = .next s := by
  change execRefreshSlot tile ch ⟨slot, e⟩ s = _
  have hc : s.refreshNs tile.val = 0 ∨ cellarSlot slot.val (s.refreshNs tile.val = 32000) ≠ .refresh := by
    rw [Ne, cellarSlot_eq_refresh_iff, decide_eq_true_eq]
    tauto
  simp only [execRefreshSlot, if_pos hc]

section Turn

variable (hns : s.refreshNs tile.val ≠ 0) (hslot : slot.val = 31 ∨ (slot.val = 15 ∧ s.refreshNs tile.val = 32000))
include hns hslot

/-- The turn of a refresh: the interval's next row, or the scrubber. -/
theorem exec_refreshSlot_turn {v n rows : Nat} (hv : v = Tab.get 0 s.cellar.refresh (tile.val * 48 + ch.val))
    (hn : n = s.now / s.refreshNs tile.val) (hrows : rows = if v / 4096 = n then v % 4096 else 0) :
    exec (.refreshSlot tile ch ⟨slot, e⟩) s = .next (if rows < 2048 then
      s.refreshRow (tile.val * 48 + ch.val) (n * 4096 + rows + 1) else s.scrubNext tile.val ch.val e) := by
  change execRefreshSlot tile ch ⟨slot, e⟩ s = _
  subst hv hn hrows
  have hc : ¬ (s.refreshNs tile.val = 0 ∨ cellarSlot slot.val (s.refreshNs tile.val = 32000) ≠ .refresh) := by
    rw [Ne, cellarSlot_eq_refresh_iff, decide_eq_true_eq]
    tauto
  simp only [execRefreshSlot, if_neg hc, State.refreshRow]

theorem exec_refreshSlot_first
    (h : Tab.get 0 s.cellar.refresh (tile.val * 48 + ch.val) / 4096 ≠ s.now / s.refreshNs tile.val) :
    exec (.refreshSlot tile ch ⟨slot, e⟩) s =
      .next (s.refreshRow (tile.val * 48 + ch.val) (s.now / s.refreshNs tile.val * 4096 + 1)) := by
  rw [exec_refreshSlot_turn hns hslot rfl rfl (if_neg h).symm]
  rfl

variable (h : Tab.get 0 s.cellar.refresh (tile.val * 48 + ch.val) / 4096 = s.now / s.refreshNs tile.val)
include h

theorem exec_refreshSlot_next (hr : Tab.get 0 s.cellar.refresh (tile.val * 48 + ch.val) % 4096 < 2048) :
    exec (.refreshSlot tile ch ⟨slot, e⟩) s =
      .next (s.refreshRow (tile.val * 48 + ch.val) (Tab.get 0 s.cellar.refresh (tile.val * 48 + ch.val) + 1)) := by
  rw [exec_refreshSlot_turn hns hslot rfl rfl (if_pos h).symm, if_pos hr, ← h, Nat.div_add_mod']

theorem exec_refreshSlot_scrub {x : Nat × Nat} (hr : 2048 ≤ Tab.get 0 s.cellar.refresh (tile.val * 48 + ch.val) % 4096)
    (hx : x = scrubAt ch.val (Tab.get 0 s.cellar.scrub (tile.val * 48 + ch.val) % scrubAccesses))
    (hp : s.poisoned (s.site tile.val).logical x.1 = false) (hb : s.built (s.site tile.val).logical x.1 = true)
    (hd : deadCodes e (codewordsOf (512 * x.2) 512) = false) :
    exec (.refreshSlot tile ch ⟨slot, e⟩) s = .next ((s.countCodes (codewordsOf (512 * x.2) 512) e).scrubOn tile.val ch.val
      (Tab.get 0 s.cellar.scrub (tile.val * 48 + ch.val) + 1) s.now) := by
  rw [exec_refreshSlot_turn hns hslot rfl rfl (if_pos h).symm, if_neg (by omega)]
  subst hx
  simp only [State.scrubNext, hp, hb, hd, State.checkCodes_sound _ _ hd, Bool.false_and, Bool.or_false, Bool.not_true,
    Bool.false_eq_true, if_false]
  rfl

end Turn

end Slot

theorem State.refreshRow_spec (s : State) (k v : Nat) :
    Tab.get 0 (s.refreshRow k v).cellar.refresh k = v ∧ (s.refreshRow k v).cellar.scrub = s.cellar.scrub ∧
    (s.refreshRow k v).cellar.mem = s.cellar.mem ∧ Changes s (s.refreshRow k v) [.cellar] :=
  ⟨Tab.get_set_self 0 s.cellar.refresh k v, rfl, rfl, Changes.setCellar s _⟩

/-- What the scrubber leaves of a sound access (R149, R151). -/
theorem State.scrubOn_counted (s : State) (ks : List Nat) (e : EccFound) {t : State} (tile c v : Nat)
    (ht : t = (s.countCodes ks e).scrubOn tile c v s.now) :
    Tab.get 0 t.cellar.scrub (tile * 48 + c) = v ∧ t.cellar.refresh = s.cellar.refresh ∧ t.cellar.mem = s.cellar.mem ∧
    (0 < countWrong e ks 1 + countWrong e ks 2 →
      t.cell 0x6010 1 = satAdd 64 (s.cell 0x6010 1) (countWrong e ks 1 + countWrong e ks 2)) ∧
    CellsBut [(0x6010, 1), (0x6010, 2), (0x6010, 6)] s t ∧ Changes s t [.cellar, .led] := by
  obtain ⟨hcellar, hcells, hch⟩ := (s.countCodes ks e).scrubOn_spec tile c v s.now
  rw [← ht, State.countCodes_cellar] at hcellar
  rw [← ht] at hcells hch
  obtain ⟨h1, -, -, hcount⟩ := s.countCodes_cells ks e
  rw [hcellar]
  exact ⟨Tab.get_set_self 0 s.cellar.scrub _ v, rfl, rfl, fun hn => (hcells 0x6010 1 (by decide) (by decide)).trans (h1 hn),
    (hcount.mono (by decide)).trans (hcells.mono (by decide)), ((s.countCodes_changes ks e).mono (by decide)).trans hch⟩

/-! ### The refresh interval (R147) -/

/-- A tile's refresh interval takes a new value, and is reported. -/
def State.setInterval (s : State) (tile v : Nat) : State := (s.setCell 0x6030 (tile + 1) v).raise 0x6301 0xFF [tile, v]

theorem State.setInterval_spec (s : State) (tile : Phys) (v : Nat) :
    (s.setInterval tile.val v).cell 0x6030 (tile.val + 1) = v ∧
    Raises s (s.setInterval tile.val v) [(0x6301, 0xFF, [tile.val, v])] ∧
    CellsBut [(0x6030, tile.val + 1)] s (s.setInterval tile.val v) ∧
    Changes s (s.setInterval tile.val v) (.led :: Part.report) := by
  refine ⟨?_, Raises.one (t := s.setCell 0x6030 (tile.val + 1) v) rfl _ _ _, ?_, ?_⟩
  · rw [State.setInterval, State.cell_raise, State.cell_setCell_self]
  · exact ((CellsBut.of_led rfl).setCell 0x6030 _ v (by omega) List.mem_cons_self).trans
      (CellsBut.of_led (by simp [State.setInterval]))
  · exact ((Changes.setCell s _ _ _).mono (by decide)).trans ((Changes.raise _ _ _ _).mono (by decide))

section Interval

variable {s : State} {tile : Phys} {tj highest : U16}

theorem exec_refreshIntervalChange_hot (hw : s.wheelRuns tile.val = true) (hv : s.cell 0x6030 (tile.val + 1) = 64)
    (ht : 1360 < int16 tj.toNat) :
    exec (.refreshIntervalChange tile tj highest) s = .next (s.setInterval tile.val 32) := by
  change execRefreshIntervalChange tile tj highest s = _
  simp only [execRefreshIntervalChange, hw, hv, ht, Bool.true_eq_false, if_false, and_self, if_true]
  rfl

theorem exec_refreshIntervalChange_cool (hw : s.wheelRuns tile.val = true) (hv : s.cell 0x6030 (tile.val + 1) = 32)
    (ht : int16 highest.toNat ≤ 1312) :
    exec (.refreshIntervalChange tile tj highest) s = .next (s.setInterval tile.val 64) := by
  change execRefreshIntervalChange tile tj highest s = _
  simp only [execRefreshIntervalChange, hw, hv, ht, Bool.true_eq_false, if_false, and_self, if_true, Nat.reduceEqDiff,
    false_and]
  rfl

theorem exec_refreshIntervalChange_stopped (hw : s.wheelRuns tile.val = false) :
    exec (.refreshIntervalChange tile tj highest) s = .next s := by
  change execRefreshIntervalChange tile tj highest s = _
  simp only [execRefreshIntervalChange, hw, if_true]

end Interval

/-! ### Rebuilds (R162, R165) -/

theorem State.rebuildState_changes (s : State) : Changes s s.rebuildState [.led] :=
  (Changes.setCell s _ _ _).trans (Changes.setCell _ _ _ _)

/-- While a rebuild runs 6020:01 reads 1 and 6020:02 its logical tile. -/
theorem State.rebuildState_running {s : State} {lt since : Nat} (h : s.cellar.rebuild = some (lt, since)) :
    s.rebuildState.cell 0x6020 1 = 1 ∧ s.rebuildState.cell 0x6020 2 = lt ∧
    CellsBut [(0x6020, 1), (0x6020, 2)] s s.rebuildState := by
  have he : s.rebuildState = (s.setCell 0x6020 1 1).setCell 0x6020 2 lt := by
    simp only [State.rebuildState, h, Option.isSome_some, if_true]
  rw [he]
  exact ⟨(State.cell_setCell_ne _ _ _ _ _ _ (by decide)).trans (State.cell_setCell_self _ _ _ _), State.cell_setCell_self _ _ _ _,
    ((CellsBut.of_led rfl).setCell _ _ _ (by decide) (by decide)).setCell _ _ _ (by decide) (by decide)⟩

theorem State.measureRows_changes (s : State) (lt done : Nat) : Changes s (s.measureRows lt done) [.meas] := by
  unfold State.measureRows
  split
  · split
    · intro p hp
      cases p
      case meas => exact absurd (List.mem_singleton.2 rfl) hp
      all_goals rfl
    · exact Changes.refl s _
  · exact Changes.refl s _

/-- The tile that is first in line leaves it, and its rebuild runs from now on. -/
def State.beginRebuild (s : State) (lt : Nat) : State :=
  { s with cellar := { s.cellar with rebuild := some (lt, s.now), waiting := s.cellar.waiting.tail } }

theorem exec_rebuildStart {s : State} {lt : Logi} (hr : s.cellar.rebuild = none) (hw : s.cellar.waiting.head? = some lt.val) :
    exec (.rebuildStart lt) s = .next (((s.beginRebuild lt.val).rebuildState.measureRows lt.val
      (((Tab.get none s.cellar.unbuilt lt.val).map Unbuilt.done).getD 0)).raise 0x6201 0xFF [lt.val, s.tileName lt.val]) := by
  change execRebuildStart lt s = _
  simp only [execRebuildStart, if_pos (And.intro hr hw)]
  rfl

theorem rebuildStart_starts {s : State} {lt : Logi} (hr : s.cellar.rebuild = none) (hw : s.cellar.waiting.head? = some lt.val) :
    ∃ t, exec (.rebuildStart lt) s = .next t ∧ t.cellar.rebuild = some (lt.val, s.now) ∧
      t.cellar.waiting = s.cellar.waiting.tail ∧ t.cell 0x6020 1 = 1 ∧ t.cell 0x6020 2 = lt.val ∧
      Raises s t [(0x6201, 0xFF, [lt.val, s.tileName lt.val])] ∧ t.cellar.mem = s.cellar.mem ∧
      CellsBut [(0x6020, 1), (0x6020, 2)] s t ∧ Changes s t (.cellar :: .led :: .meas :: Part.report) := by
  refine ⟨_, exec_rebuildStart hr hw, ?_⟩
  obtain ⟨h1, h2, hcells⟩ := State.rebuildState_running (s := s.beginRebuild lt.val) rfl
  have hb : Changes s (s.beginRebuild lt.val) [.cellar] := Changes.setCellar s _
  have hr := (s.beginRebuild lt.val).rebuildState_changes
  have hm := (s.beginRebuild lt.val).rebuildState.measureRows_changes lt.val
    (((Tab.get none s.cellar.unbuilt lt.val).map Unbuilt.done).getD 0)
  have hcellar : (s.beginRebuild lt.val).rebuildState.cellar = (s.beginRebuild lt.val).cellar := rfl
  generalize (s.beginRebuild lt.val).rebuildState = u at *
  generalize u.measureRows lt.val _ = v at *
  have hled := hm .led (by decide)
  have hvc := (hm .cellar (by decide)).trans hcellar
  have hev : v.ev = s.ev := (hm .ev (by decide)).trans ((hr .ev (by decide)).trans (hb .ev (by decide)))
  have hc : (v.raise 0x6201 0xFF [lt.val, s.tileName lt.val]).cellar = (s.beginRebuild lt.val).cellar := by simpa using hvc
  refine ⟨by rw [hc]; rfl, by rw [hc]; rfl, ?_, ?_, Raises.one (congrArg Events.seq hev) _ _ _, by rw [hc]; rfl, ?_, ?_⟩
  · rw [State.cell_raise, State.cell_of_led hled, h1]
  · rw [State.cell_raise, State.cell_of_led hled, h2]
  · exact (CellsBut.of_led rfl).trans (hcells.trans ((CellsBut.of_led hled).trans (CellsBut.of_led (by simp))))
  · exact ((hb.mono (by decide)).trans (hr.mono (by decide))).trans
      ((hm.mono (by decide)).trans ((Changes.raise _ _ _ _).mono (by decide)))

/-- A unit that the row can supply is written from the chain (R163). -/
theorem State.restoreRow_supplied {s : State} {lt r : Nat} (hp : s.poisoned lt r = false) (hs : s.canSupply lt r = true)
    (he : r % 12 = lt % 12 ∨ Tab.get 0 s.cellar.erase (rowExtent lt r) = 0) :
    s.restoreRow lt r = s.cstore (unitAddr lt r) (s.chainBytes lt r 0 4096) := by
  have hne : ¬ (r % 12 ≠ lt % 12 ∧
      Tab.get 0 (s.cstore (unitAddr lt r) (s.chainBytes lt r 0 4096)).cellar.erase (rowExtent lt r) ≠ 0) := fun h => he.elim h.1 h.2
  rw [State.restoreRow, if_neg (by rw [hp]; decide), if_neg (by rw [hs]; decide)]
  exact if_neg hne

theorem State.clearErased_of_kept {s : State} {lt r : Nat}
    (he : r % 12 = lt % 12 ∨ Tab.get 0 s.cellar.erase (rowExtent lt r) = 0) : s.clearErased lt r = s :=
  if_neg fun h => he.elim h.1 h.2.1

theorem State.endRecovery_changes (s : State) : Changes s s.endRecovery [.procs, .led] :=
  ((Changes.setProcs s _).mono (by decide)).trans (((Changes.bump _ _ _ _ _).mono (by decide)).trans
    ((Changes.setCell _ _ _ _).mono (by decide)))

/-- The rebuild of a member is over: it is none that runs, and the member has no lost unit. -/
def State.closeRebuild (s : State) (lt : Nat) : State :=
  { s with cellar := { s.cellar with rebuild := none, unbuilt := Tab.set none s.cellar.unbuilt lt none } }

/-- The end of a rebuild is counted and reported, and changes nothing of what the Cellar holds. -/
theorem State.rebuildComplete_changes (s : State) (lt : Nat) (u : Unbuilt) :
    Changes (s.closeRebuild lt) (s.rebuildComplete lt u) (.led :: .procs :: Part.report) := by
  have hb : Changes (s.closeRebuild lt) (s.closeRebuild lt).rebuildState.groupBits [.led] :=
    (State.rebuildState_changes _).trans (Changes.setCell _ _ _ _)
  exact (hb.mono (by decide)).trans (((Changes.raise _ _ _ _).mono (by decide)).trans
    ((State.endRecovery_changes _).mono (by decide)))

/-- What a row's restoration leaves alone: all of the Cellar but which units are lost and whose rebuild runs. -/
def SameHold (s t : State) : Prop :=
  t.cellar.mem = s.cellar.mem ∧ t.cellar.poison = s.cellar.poison ∧ t.cellar.writes = s.cellar.writes ∧
    t.cellar.owner = s.cellar.owner

theorem SameHold.trans {s t u : State} (h : SameHold s t) (h' : SameHold t u) : SameHold s u := by
  obtain ⟨hm, hp, hw, ho⟩ := h
  obtain ⟨hm', hp', hw', ho'⟩ := h'
  exact ⟨hm'.trans hm, hp'.trans hp, hw'.trans hw, ho'.trans ho⟩

theorem SameHold.of_cellar {s t : State} (h : t.cellar = s.cellar) : SameHold s t := by
  unfold SameHold
  rw [h]
  exact ⟨rfl, rfl, rfl, rfl⟩

theorem State.rebuildComplete_sameHold (s : State) (lt : Nat) (u : Unbuilt) : SameHold s (s.rebuildComplete lt u) :=
  SameHold.trans (t := s.closeRebuild lt) ⟨rfl, rfl, rfl, rfl⟩
    (SameHold.of_cellar (s.rebuildComplete_changes lt u .cellar (by decide)))

/-- The rebuild goes on from the row after `r`. -/
def State.markRow (s : State) (lt : Nat) (u : Unbuilt) : State :=
  { s with cellar := { s.cellar with unbuilt := Tab.set none s.cellar.unbuilt lt (some u) } }

/-- What follows when a row is restored: the rebuild goes on, or is complete. -/
def State.rowRestored (s : State) (lt : Nat) (u : Unbuilt) : State :=
  let s1 := (s.markRow lt u).measureRows lt u.done
  if s1.nextUnbuilt lt u = none then s1.rebuildComplete lt u else s1

theorem State.rowRestored_spec (s : State) (lt : Nat) (u : Unbuilt) :
    SameHold s (s.rowRestored lt u) ∧ Changes s (s.rowRestored lt u) (.cellar :: .led :: .meas :: .procs :: Part.report) := by
  have hm := (s.markRow lt u).measureRows_changes lt u.done
  have hh : SameHold s ((s.markRow lt u).measureRows lt u.done) :=
    SameHold.trans (t := s.markRow lt u) ⟨rfl, rfl, rfl, rfl⟩ (SameHold.of_cellar (hm .cellar (by decide)))
  have hch : Changes s ((s.markRow lt u).measureRows lt u.done) (.cellar :: .led :: .meas :: .procs :: Part.report) :=
    ((Changes.setCellar s _).mono (by decide)).trans (hm.mono (by decide))
  unfold State.rowRestored
  dsimp only
  split
  · exact ⟨hh.trans (State.rebuildComplete_sameHold _ _ _), hch.trans (((Changes.setCellar _ _).mono (by decide)).trans
      ((State.rebuildComplete_changes _ _ _).mono (by decide)))⟩
  · exact ⟨hh, hch⟩

section Row

variable {s : State} {lt since ph r : Nat} {u : Unbuilt} (hreb : s.cellar.rebuild = some (lt, since))
  (hu : Tab.get none s.cellar.unbuilt lt = some u) (hheld : s.cellarHeld lt = false) (hch : s.chainHeld lt r = false)
  (hnext : s.nextUnbuilt lt u = some (ph, r)) (hp : s.poisoned lt r = false) (hs : s.canSupply lt r = true)
  (he : r % 12 = lt % 12 ∨ Tab.get 0 s.cellar.erase (rowExtent lt r) = 0)
include hreb hu hheld hch hnext hp hs he

theorem exec_rebuildRow_supplied : exec .rebuildRow s = .next ((s.cstore (unitAddr lt r) (s.chainBytes lt r 0 4096)).rowRestored lt
    { u with phase := ph, next := r + 1, done := u.done + 1 }) := by
  change execRebuildRow s = _
  have hr := State.restoreRow_supplied hp hs he
  simp only [execRebuildRow, hreb, hu, hnext, hheld, hch, Bool.false_eq_true, or_self, if_false, hr]
  generalize s.chainBytes lt r 0 4096 = bs
  have hk (d : Nat) (v : Unbuilt) :
      Tab.get 0 (((s.cstore (unitAddr lt r) bs).markRow lt v).measureRows lt d).cellar.erase (rowExtent lt r) =
        Tab.get 0 s.cellar.erase (rowExtent lt r) := by
    rw [State.measureRows_changes _ _ _ .cellar (by decide)]
    rfl
  rw [State.clearErased_of_kept]
  · rfl
  · exact he.imp_right fun h => (hk _ _).trans h

theorem rebuildRow_supplied : ∃ t, exec .rebuildRow s = .next t ∧ t.cbytes (unitAddr lt r) 4096 = s.chainBytes lt r 0 4096 ∧
    (∀ a, ¬ (unitAddr lt r ≤ a ∧ a < unitAddr lt r + 4096) → Tab.get 0 t.cellar.mem a = Tab.get 0 s.cellar.mem a) ∧
    t.cellar.poison = s.cellar.poison ∧ t.cellar.writes = s.cellar.writes ∧ t.cellar.owner = s.cellar.owner ∧
    Changes s t (.cellar :: .led :: .meas :: .procs :: Part.report) := by
  refine ⟨_, exec_rebuildRow_supplied hreb hu hheld hch hnext hp hs he, ?_⟩
  have hlen := s.length_chainBytes lt r 0 4096
  generalize s.chainBytes lt r 0 4096 = bs at *
  obtain ⟨⟨hmem, hpo, hwr, how⟩, hchg⟩ := (s.cstore (unitAddr lt r) bs).rowRestored_spec lt
    { u with phase := ph, next := r + 1, done := u.done + 1 }
  refine ⟨?_, fun a ha => ?_, hpo, hwr, how, ((Changes.setCellar s _).mono (by decide)).trans hchg⟩
  · rw [State.cbytes_of_mem hmem]
    exact s.cbytes_cstore_of_length _ hlen
  · rw [hmem]
    exact cellar_get_cstore s _ a bs (by omega)

end Row

end Sys2Proof.Machine

open Sys2Proof Sys2Proof.Machine

/-- Settles O23: slots that refresh, slots that scrub, the interval's two changes, the start of a rebuild and one row of it. -/
theorem refreshAndRebuild : Obligations.RefreshAndRebuild := by
  unfold Obligations.RefreshAndRebuild
  refine ⟨fun s tile => ⟨fun ch slot e hns hslot => ⟨fun h => ?_, fun h => ⟨fun hr => ?_, fun x hr hx hp hb hd => ?_⟩⟩,
    fun ch slot e h => ?_, fun tj highest hw hv ht => ?_, fun tj highest hw hv ht => ?_, fun tj highest hw => ?_⟩,
    fun s lt hr hw => rebuildStart_starts hr hw,
    fun s lt since ph r u hreb hu hheld hch hnext hp hs he => rebuildRow_supplied hreb hu hheld hch hnext hp hs he⟩
  · exact ⟨_, exec_refreshSlot_first hns hslot h, s.refreshRow_spec _ _⟩
  · exact ⟨_, exec_refreshSlot_next hns hslot h hr, s.refreshRow_spec _ _⟩
  · exact ⟨_, exec_refreshSlot_scrub hns hslot h hr hx hp hb hd, s.scrubOn_counted _ _ _ _ _ rfl⟩
  · exact ⟨_, exec_refreshSlot_other h, rfl⟩
  · exact ⟨_, exec_refreshIntervalChange_hot hw hv ht, s.setInterval_spec tile 32⟩
  · exact ⟨_, exec_refreshIntervalChange_cool hw hv ht, s.setInterval_spec tile 64⟩
  · exact ⟨_, exec_refreshIntervalChange_stopped hw, rfl⟩
end

section
/-! SUPPORT. Writes to the Cellar and their parity, the partials of a chain, and the appends of the Pantry (R156, R158, R160, R163,
R218). -/

namespace Sys2Proof.Machine

/-! ### A write and its delta -/

theorem State.sendDelta_inFabric (s : State) (w : CWrite) : InFabric s (s.sendDelta w) := by
  unfold State.sendDelta
  split
  · exact s.inject_vc2_inFabric _ _ _ _ _ _ _
  · exact .refl s

theorem State.sendDelta_of_path {s : State} {w : CWrite} {x : Nat × Nat} (h : s.deltaPath w = some x) :
    s.sendDelta w = s.inject (s.vc2 x.1 x.2 0x1F 2 w.id w.delta) := by
  simp only [State.sendDelta, h]

/-- A write is outstanding from now on. -/
def State.pend (s : State) (w : CWrite) : State :=
  { s with cellar := { s.cellar with writes := s.cellar.writes ++ [w], nextId := s.cellar.nextId + 1 } }

/-- The write that a store of `data` at an offset of a unit leaves outstanding (R158). -/
def State.newWrite (s : State) (lt r off plot : Nat) (data : List Byte) : CWrite :=
  ⟨s.cellar.nextId, lt, r, off, xorBytes (s.cbytes (unitAddr lt r + off) data.length) data, plot, false, 0⟩

section Sound

variable {s : State} {lt r : Nat} (hb : s.built lt r = true) (hp : s.poisoned lt r = false)
include hb hp

theorem State.unitWrite_sound (off plot : Nat) (data : List Byte) : s.unitWrite lt r off plot data =
    (s.cstore (unitAddr lt r + off) data).pend (s.newWrite lt r off plot data) := by
  have ho : s.cellar.orphans.contains lt = false := by
    simp only [State.built, Bool.and_eq_true, Bool.not_eq_true'] at hb
    exact hb.1
  have hp' : ((s.cstore (unitAddr lt r + off) data).pend (s.newWrite lt r off plot data)).poisoned lt r = false := hp
  have hun : ((s.cstore (unitAddr lt r + off) data).pend (s.newWrite lt r off plot data)).unpoison lt r =
      (s.cstore (unitAddr lt r + off) data).pend (s.newWrite lt r off plot data) := if_neg (by rw [hp']; decide)
  unfold State.unitWrite
  simp only [ho, hb, hp, Bool.false_eq_true, if_false, if_true]
  change (if off = 0 ∧ data.length = 4096 then
    ((s.cstore (unitAddr lt r + off) data).pend (s.newWrite lt r off plot data)).unpoison lt r
    else (s.cstore (unitAddr lt r + off) data).pend (s.newWrite lt r off plot data)) = _
  rw [hun, ite_self]

theorem State.writeUnit_sound (off plot : Nat) (data : List Byte) : s.writeUnit lt r off plot 0 data =
    ((s.cstore (unitAddr lt r + off) data).pend (s.newWrite lt r off plot data)).sendDelta (s.newWrite lt r off plot data) := by
  unfold State.writeUnit
  rw [State.unitWrite_sound hb hp]
  have hl : ((s.cstore (unitAddr lt r + off) data).pend (s.newWrite lt r off plot data)).cellar.writes.getLast? =
      some (s.newWrite lt r off plot data) := List.getLast?_concat
  have hd : ((s.cstore (unitAddr lt r + off) data).pend (s.newWrite lt r off plot data)).cellar.writes.dropLast =
      s.cellar.writes := List.dropLast_concat
  simp only [hl, hd]
  exact if_pos ⟨rfl, rfl⟩

end Sound

section Write

variable {s : State} {addr : BitVec 40} {tag : BitVec 5} {data : List Byte} {lt r off : Nat}
  (hu : unitOk addr data.length = true) (hlt : lt = caTile addr.toNat) (hr : r = dataRow (lt % 12) (caOffset addr.toNat))
  (hoff : off = caOffset addr.toNat % 4096) (hheld : s.cellarHeld lt = false) (haddr : s.addrOk addr.toNat = true)
  (hown : s.tagOwns tag.toNat addr.toNat = true) (hb : s.built lt r = true) (hp : s.poisoned lt r = false)
  (hnone : ∀ m ∈ Tab.get [] s.fabric.taken (ctrl ((s.physOf lt).getD 112)),
    (isDataWrite tag.toNat data m && parcelOf addr.toNat m.ref != 0) = false)
include hu hlt hr hoff hheld haddr hown hb hp hnone

theorem exec_cellarWrite_sound : exec (.cellarWrite addr tag data) s =
    .next (((s.cstore (unitAddr lt r + off) data).pend (s.newWrite lt r off tag.toNat data)).sendDelta
      (s.newWrite lt r off tag.toNat data)) := by
  change execCellarWrite addr tag data s = _
  have hfind : (Tab.get [] s.fabric.taken (ctrl ((s.physOf lt).getD 112))).find?
      (fun m => isDataWrite tag.toNat data m && parcelOf addr.toNat m.ref != 0) = none :=
    List.find?_eq_none.2 fun m hm => by rw [hnone m hm]; decide
  subst hlt hr hoff
  rw [← State.writeUnit_sound hb hp]
  simp only [execCellarWrite, hu, hheld, haddr, hown, hfind, State.rowHeld, hb, Bool.true_eq_false, Bool.false_eq_true, or_self,
    if_false, Option.map_none, Option.getD_none, Bool.not_true, Bool.false_and, Bool.or_false, if_true]

theorem cellarWrite_sound : ∃ t, exec (.cellarWrite addr tag data) s = .next t ∧
    t.cbytes (unitAddr lt r + off) data.length = data ∧
    (∀ a, ¬ (unitAddr lt r + off ≤ a ∧ a < unitAddr lt r + off + data.length) →
      Tab.get 0 t.cellar.mem a = Tab.get 0 s.cellar.mem a) ∧
    t.cellar.writes = s.cellar.writes ++ [⟨s.cellar.nextId, lt, r, off,
      xorBytes (s.cbytes (unitAddr lt r + off) data.length) data, tag.toNat, false, 0⟩] ∧
    (∀ a b, s.physOf lt = some a → s.physOf (lt / 12 * 12 + r % 12) = some b → ∃ v : State, v.fabric = s.fabric ∧
      t.fabric = (v.inject (s.vc2 (ctrl a) (ctrl b) 0x1F 2 s.cellar.nextId
        (xorBytes (s.cbytes (unitAddr lt r + off) data.length) data))).fabric) ∧
    t.cellar.nextId = s.cellar.nextId + 1 ∧ Changes s t [.cellar, .fabric] := by
  refine ⟨_, exec_cellarWrite_sound hu hlt hr hoff hheld haddr hown hb hp hnone, ?_⟩
  have hf := ((s.cstore (unitAddr lt r + off) data).pend (s.newWrite lt r off tag.toNat data)).sendDelta_inFabric
    (s.newWrite lt r off tag.toNat data)
  have hcellar := hf.changes .cellar (by decide)
  refine ⟨?_, fun a ha => ?_, ?_, fun a b ha hb => ?_, ?_,
    ((Changes.setCellar s _).mono (by decide)).trans (hf.changes.mono (by decide))⟩
  · rw [State.cbytes_of_mem (congrArg Cellar.mem hcellar)]
    exact cbytes_cstore s _ data
  · rw [hcellar]
    exact cellar_get_cstore s _ a data (by omega)
  · rw [hcellar]
    rfl
  · have hpath : ((s.cstore (unitAddr lt r + off) data).pend (s.newWrite lt r off tag.toNat data)).deltaPath
        (s.newWrite lt r off tag.toNat data) = some (ctrl a, ctrl b) := by
      change (match s.physOf lt, s.physOf (lt / 12 * 12 + r % 12) with
        | some a, some b => some (ctrl a, ctrl b)
        | _, _ => none) = _
      rw [ha, hb]
    exact ⟨(s.cstore (unitAddr lt r + off) data).pend (s.newWrite lt r off tag.toNat data), rfl,
      by rw [State.sendDelta_of_path hpath]; rfl⟩
  · rw [hcellar]
    rfl

end Write

/-! ### The parity member -/

section Delta

variable {s : State} {id : Nat} {w : CWrite} (hw : s.cellar.writes.find? (fun x => x.id == id) = some w) (ha : w.applied = false)
  (harr : ∀ x, s.deltaPath w = some x → s.arrived x.2 (isVc2 0x1F 2 id) = true) (hheld : s.cellarHeld w.parityTile = false)

include hw ha hheld in
theorem exec_parityDeltaApply_pathless (hx : s.deltaPath w = none) : exec (.parityDeltaApply id) s = .next (s.deltaNow w) := by
  change execParityDeltaApply id s = _
  simp only [execParityDeltaApply, hw, hheld, hx, ha, Bool.false_eq_true, if_false]

include hw ha harr hheld in
theorem exec_parityDeltaApply_arrived {x : Nat × Nat} (hx : s.deltaPath w = some x) : exec (.parityDeltaApply id) s =
    .next (((s.deltaNow w).takeMsg x.2 (isVc2 0x1F 2 id)).inject
      (((s.deltaNow w).takeMsg x.2 (isVc2 0x1F 2 id)).vc2 x.2 x.1 0x1F 6 id [])) := by
  change execParityDeltaApply id s = _
  simp only [execParityDeltaApply, hw, hheld, hx, ha, harr x hx, Bool.false_eq_true, if_false, if_true]

end Delta

section Apply

variable {s : State} {w : CWrite} (hb : s.built w.parityTile w.row = true)
include hb

theorem State.deltaNow_cellar : (s.deltaNow w).cellar = { (s.cstore (unitAddr w.parityTile w.row + w.offset)
    (xorBytes (s.cbytes (unitAddr w.parityTile w.row + w.offset) w.delta.length) w.delta)).cellar with
      writes := s.cellar.writes.map (fun x => if x.id = w.id then { x with applied := true } else x) } := by
  have happ : s.applyDelta w = s.cstore (unitAddr w.parityTile w.row + w.offset)
      (xorBytes (s.cbytes (unitAddr w.parityTile w.row + w.offset) w.delta.length) w.delta) := if_pos hb
  rw [State.deltaNow, happ]
  rfl

/-- The parity member's bytes take the XOR with the delta, and the write counts as applied (R158). -/
theorem State.deltaNow_applies {t : State} (ht : t.cellar = (s.deltaNow w).cellar) :
    t.cbytes (unitAddr w.parityTile w.row + w.offset) w.delta.length =
      xorBytes (s.cbytes (unitAddr w.parityTile w.row + w.offset) w.delta.length) w.delta ∧
    (∀ a, ¬ (unitAddr w.parityTile w.row + w.offset ≤ a ∧ a < unitAddr w.parityTile w.row + w.offset + w.delta.length) →
      Tab.get 0 t.cellar.mem a = Tab.get 0 s.cellar.mem a) ∧
    t.cellar.writes = s.cellar.writes.map (fun x => if x.id = w.id then { x with applied := true } else x) := by
  rw [State.deltaNow_cellar hb] at ht
  have hlen := length_xorBytes (s.length_cbytes (unitAddr w.parityTile w.row + w.offset) w.delta.length)
  refine ⟨?_, fun a ha => ?_, by rw [ht]⟩
  · rw [State.cbytes_of_mem (s := s.cstore _ _) (by rw [ht])]
    exact s.cbytes_cstore_of_length _ hlen
  · rw [ht]
    exact cellar_get_cstore s _ a _ (by rw [hlen]; omega)

end Apply

theorem State.deltaNow_changes (s : State) (w : CWrite) : Changes s (s.deltaNow w) [.cellar] := by
  have h : Changes s (s.applyDelta w) [.cellar] := by
    unfold State.applyDelta
    dsimp only
    split
    · exact Changes.setCellar s _
    · exact Changes.refl s _
  exact h.trans (Changes.setCellar _ _)

section Delta

variable {s : State} {id : Nat} {w : CWrite} (hw : s.cellar.writes.find? (fun x => x.id == id) = some w) (ha : w.applied = false)
  (harr : ∀ x, s.deltaPath w = some x → s.arrived x.2 (isVc2 0x1F 2 id) = true) (hheld : s.cellarHeld w.parityTile = false)
include hw ha harr hheld

/-- The delta is applied, and where the two tiles have controllers the acknowledgement is all else that moves. -/
theorem exec_parityDeltaApply : ∃ t, exec (.parityDeltaApply id) s = .next t ∧ InFabric (s.deltaNow w) t ∧
    ∀ x, s.deltaPath w = some x → ∃ v : State, v.fabric = (s.takeMsg x.2 (isVc2 0x1F 2 id)).fabric ∧
      t.fabric = (v.inject (s.vc2 x.2 x.1 0x1F 6 id [])).fabric := by
  have hch := s.deltaNow_changes w
  cases hx : s.deltaPath w with
  | none => exact ⟨_, exec_parityDeltaApply_pathless hw ha hheld hx, .refl _, fun x h => by cases h⟩
  | some x =>
    have hvc2 : ((s.deltaNow w).takeMsg x.2 (isVc2 0x1F 2 id)).vc2 = s.vc2 :=
      State.vc2_of_epochs (t := (s.deltaNow w).takeMsg _ _) (hch .epochs (by decide)) (hch .now (by decide))
    refine ⟨_, exec_parityDeltaApply_arrived hw ha harr hheld hx,
      (State.takeMsg_inFabric _ _ _).trans (State.inject_vc2_inFabric _ _ _ _ _ _ _ _), fun y hy => ?_⟩
    obtain rfl : x = y := Option.some.inj hy
    exact ⟨_, State.takeMsg_fabric (hch .fabric (by decide)) _ _, by rw [hvc2]⟩

theorem parityDeltaApply_applies (hb : s.built w.parityTile w.row = true) : ∃ t, exec (.parityDeltaApply id) s = .next t ∧
    t.cbytes (unitAddr w.parityTile w.row + w.offset) w.delta.length =
      xorBytes (s.cbytes (unitAddr w.parityTile w.row + w.offset) w.delta.length) w.delta ∧
    (∀ a, ¬ (unitAddr w.parityTile w.row + w.offset ≤ a ∧ a < unitAddr w.parityTile w.row + w.offset + w.delta.length) →
      Tab.get 0 t.cellar.mem a = Tab.get 0 s.cellar.mem a) ∧
    t.cellar.writes = s.cellar.writes.map (fun x => if x.id = id then { x with applied := true } else x) ∧
    (∀ x, s.deltaPath w = some x → ∃ v : State, v.fabric = (s.takeMsg x.2 (isVc2 0x1F 2 id)).fabric ∧
      t.fabric = (v.inject (s.vc2 x.2 x.1 0x1F 6 id [])).fabric) ∧
    Changes s t [.cellar, .fabric] := by
  obtain ⟨t, ht, hf, hpath⟩ := exec_parityDeltaApply hw ha harr hheld
  have hid : w.id = id := by simpa using List.find?_some hw
  obtain ⟨hbytes, hrest, hwrites⟩ := State.deltaNow_applies hb (hf.changes .cellar (by decide))
  exact ⟨t, ht, hbytes, hrest, hid ▸ hwrites, hpath,
    ((s.deltaNow_changes w).mono (by decide)).trans (hf.changes.mono (by decide))⟩

end Delta

/-! ### A write that is complete -/

/-- A write is outstanding no more. -/
def State.dropWrite (s : State) (id : Nat) : State :=
  { s with cellar := { s.cellar with writes := s.cellar.writes.filter (fun x => x.id != id) } }

theorem State.writeDone_eq (s : State) (w : CWrite) : s.writeDone w =
    if w.parcel = 0 ∨ 16 ≤ w.plot then s.dropWrite w.id else (s.dropWrite w.id).parcelWritten w.plot (w.parcel - 1) := rfl

theorem State.parcelWritten_changes (s : State) (p n : Nat) : Changes s (s.parcelWritten p n) [.led, .plots] :=
  ((Changes.bump _ _ _ _ _).mono (by decide)).trans ((Changes.updPlot _ _ _).mono (by decide))

/-- The Parcel is counted once, and stands among those written (R306). -/
theorem State.parcelWritten_spec (s : State) (p n : Nat) :
    (s.parcelWritten p n).cell (0x5100 + p) 0x13 = satAdd 64 (s.cell (0x5100 + p) 0x13) 1 ∧
    n ∈ ((s.parcelWritten p n).plot p).written ∧ CellsBut [(0x5100 + p, 0x13)] s (s.parcelWritten p n) := by
  unfold State.parcelWritten
  refine ⟨by rw [State.cell_updPlot, State.cell_bump_self], ?_,
    (CellsBut.bump s _ _ _ _ (by decide)).trans (CellsBut.of_led rfl)⟩
  rw [State.plot_updPlot, if_pos rfl]
  dsimp only
  split
  · rename_i h
    exact List.contains_iff_mem.1 h
  · simp

theorem State.writeDone_changes (s : State) (w : CWrite) : Changes s (s.writeDone w) [.cellar, .led, .plots] := by
  have hd : Changes s (s.dropWrite w.id) [.cellar] := Changes.setCellar s _
  rw [State.writeDone_eq]
  split
  · exact hd.mono (by decide)
  · exact (hd.mono (by decide)).trans ((State.parcelWritten_changes _ _ _).mono (by decide))

theorem State.writeDone_cellar (s : State) (w : CWrite) : (s.writeDone w).cellar = (s.dropWrite w.id).cellar := by
  rw [State.writeDone_eq]
  split
  · rfl
  · exact State.parcelWritten_changes _ _ _ .cellar (by decide)

section Complete

variable {s : State} {id : Nat}

theorem exec_cellarWriteComplete_none (h : s.cellar.writes.find? (fun x => x.id == id && x.applied) = none) :
    exec (.cellarWriteComplete id) s = .next s := by
  change execCellarWriteComplete id s = _
  simp only [execCellarWriteComplete, h]

variable {w : CWrite} (hw : s.cellar.writes.find? (fun x => x.id == id && x.applied) = some w)
  (harr : ∀ x, s.deltaPath w = some x → s.arrived x.1 (isVc2 0x1F 6 id) = true)
include hw harr

theorem exec_cellarWriteComplete_some : ∃ u, InFabric s u ∧ exec (.cellarWriteComplete id) s = .next (u.writeDone w) := by
  change ∃ u, InFabric s u ∧ execCellarWriteComplete id s = _
  cases hx : s.deltaPath w with
  | none => exact ⟨s, .refl s, by simp only [execCellarWriteComplete, hw, hx]⟩
  | some x =>
    exact ⟨s.takeMsg x.1 (isVc2 0x1F 6 id), s.takeMsg_inFabric _ _, by
      simp only [execCellarWriteComplete, hw, hx, harr x hx, if_true]⟩

theorem cellarWriteComplete_completes : ∃ t, exec (.cellarWriteComplete id) s = .next t ∧
    t.cellar.writes = s.cellar.writes.filter (fun x => x.id != id) ∧ t.cellar.mem = s.cellar.mem ∧
    (w.parcel = 0 → CellsBut [] s t ∧ t.plots = s.plots) ∧
    (w.parcel ≠ 0 → w.plot < 16 → t.cell (0x5100 + w.plot) 0x13 = satAdd 64 (s.cell (0x5100 + w.plot) 0x13) 1 ∧
      w.parcel - 1 ∈ (t.plot w.plot).written ∧ CellsBut [(0x5100 + w.plot, 0x13)] s t) ∧
    Changes s t [.cellar, .fabric, .led, .plots] := by
  obtain ⟨u, hf, hu⟩ := exec_cellarWriteComplete_some hw harr
  have hid : w.id = id := (show w.id = id ∧ w.applied = true by simpa using List.find?_some hw).1
  have hcellar := hf.changes .cellar (by decide)
  have hled := hf.changes .led (by decide)
  have hplots := hf.changes .plots (by decide)
  refine ⟨_, hu, ?_, ?_, fun h0 => ?_, fun h0 hp => ?_,
    (hf.changes.mono (by decide)).trans ((u.writeDone_changes w).mono (by decide))⟩
  · rw [State.writeDone_cellar, State.dropWrite, hcellar, hid]
  · rw [State.writeDone_cellar, State.dropWrite, hcellar]
  · rw [State.writeDone_eq, if_pos (Or.inl h0)]
    exact ⟨CellsBut.of_led hled, hplots⟩
  · rw [State.writeDone_eq, if_neg (by omega)]
    obtain ⟨hcount, hmem, hcells⟩ := (u.dropWrite w.id).parcelWritten_spec w.plot (w.parcel - 1)
    have hd : (u.dropWrite w.id).led = s.led := hled
    exact ⟨by rw [hcount, State.cell_of_led hd], hmem, (CellsBut.of_led hd).trans hcells⟩

end Complete

/-! ### The partials of a chain -/

section Chain

variable {s : State} {m lost : Logi} {row : Fin 786432} {b : List Byte} {e : EccFound} {t0 u0 : Nat}

variable (hlen : b.length = 4096) (hm : m.val ∈ others lost.val) (hb : s.built m.val row.val = true)
  (hp : s.poisoned m.val row.val = false) (hheld : s.cellarHeld m.val = false) (hd : deadCodes e (List.range 128) = false)
  (ht0 : s.physOf m.val = some t0) (hu0 : s.physOf (chainNext lost.val m.val) = some u0)
  (hfirst : chainPrev lost.val m.val = none → b = List.replicate 4096 0)
  (hlater : chainPrev lost.val m.val ≠ none →
    s.arrived (ctrl t0) (fun x => isVc2 0x1F 4 (chainRef lost.val row.val) x && x.payload == b) = true)
include hlen hm hb hp hheld hd ht0 hu0 hfirst hlater

/-- A member whose partial has come, the first of the chain with zeros, sends on from the state with its codewords counted. -/
theorem exec_chainXor_sound {u : State} (hu : u = s.countCodes (List.range 128) e) : exec (.chainXor m row ⟨lost, b, e⟩) s =
    .next ((u.takeMsg (ctrl t0) (fun x => isVc2 0x1F 4 (chainRef lost.val row.val) x && x.payload == b)).inject
      (u.vc2 (ctrl t0) (ctrl u0) 0x1F 4 (chainRef lost.val row.val) (xorBytes b (u.cbytes (unitAddr m.val row.val) 4096)))) := by
  change execChainXor m row ⟨lost, b, e⟩ s = _
  have hwf : Instr.wf (.chainXor m row ⟨lost, b, e⟩) = true := decide_eq_true hlen
  have hc : (others lost.val).contains m.val = true := List.contains_iff_mem.2 hm
  have hch := s.countCodes_changes (List.range 128) e
  have hphys := State.physOf_of_sites (hch .sites (by decide))
  have hpu : (s.countCodes (List.range 128) e).poisoned m.val row.val = false :=
    (State.poisoned_of_cellar (s.countCodes_cellar _ e) _ _).trans hp
  subst hu
  rw [execChainXor, if_neg (by rw [hwf]; decide)]
  simp only [hc, hb, hp, hheld, hd, State.checkCodes_sound _ _ hd, hphys, ht0, hu0, hpu, Bool.true_eq_false, Bool.false_eq_true,
    false_and, or_false, false_or, if_false]
  refine congrArg Host.Outcome.next (if_neg ?_)
  cases hprev : chainPrev lost.val m.val with
  | none => simp [hfirst hprev]
  | some x => exact fun h => absurd ((hlater (by rw [hprev]; exact Option.some_ne_none x)).symm.trans h) (by decide)

theorem chainXor_sends : ∃ t, exec (.chainXor m row ⟨lost, b, e⟩) s = .next t ∧
    (∃ v : State, v.fabric =
        (s.takeMsg (ctrl t0) (fun x => isVc2 0x1F 4 (chainRef lost.val row.val) x && x.payload == b)).fabric ∧
      t.fabric = (v.inject (s.vc2 (ctrl t0) (ctrl u0) 0x1F 4 (chainRef lost.val row.val)
        (xorBytes b (s.cbytes (unitAddr m.val row.val) 4096)))).fabric) ∧
    CellsBut [(0x6010, 1), (0x6010, 2)] s t ∧ Changes s t [.fabric, .led] := by
  refine ⟨_, exec_chainXor_sound hlen hm hb hp hheld hd ht0 hu0 hfirst hlater rfl, ?_⟩
  have hch := s.countCodes_changes (List.range 128) e
  obtain ⟨-, -, -, hcells⟩ := s.countCodes_cells (List.range 128) e
  have hbytes := State.cbytes_of_mem (congrArg Cellar.mem (s.countCodes_cellar (List.range 128) e)) (unitAddr m.val row.val) 4096
  generalize s.countCodes (List.range 128) e = u at *
  rw [hbytes, State.vc2_of_epochs (hch .epochs (by decide)) (hch .now (by decide))]
  have hf := (u.takeMsg_inFabric (ctrl t0) (fun x => isVc2 0x1F 4 (chainRef lost.val row.val) x && x.payload == b)).trans
    (State.inject_vc2_inFabric _ s (ctrl t0) (ctrl u0) 0x1F 4 (chainRef lost.val row.val)
      (xorBytes b (s.cbytes (unitAddr m.val row.val) 4096)))
  exact ⟨⟨_, State.takeMsg_fabric (hch .fabric (by decide)) _ _, rfl⟩,
    hcells.trans (CellsBut.of_led (hf.changes .led (by decide))), (hch.mono (by decide)).trans (hf.changes.mono (by decide))⟩

end Chain

/-! ### Writes of any unit change the Cellar, its counters and measurements, and the fabric -/

theorem State.poison_changes (s : State) (lt r : Nat) : Changes s (s.poison lt r) [.cellar, .led, .meas] := by
  unfold State.poison
  split
  · exact Changes.refl s _
  · exact ((Changes.setCellar s _).mono (by decide)).trans ((Changes.bump _ _ _ _ _).mono (by decide))

theorem State.unpoison_changes (s : State) (lt r : Nat) : Changes s (s.unpoison lt r) [.cellar, .led, .meas] := by
  unfold State.unpoison
  split
  · exact ((Changes.setCellar s _).mono (by decide)).trans ((Changes.setCell _ _ _ _).mono (by decide))
  · exact Changes.refl s _

theorem State.cstore_changes (s : State) (a : Nat) (bs : List Byte) : Changes s (s.cstore a bs) [.cellar, .led, .meas] :=
  (Changes.setCellar s _).mono (by decide)

theorem State.rebuildUnit_changes (s : State) (lt r : Nat) : Changes s (s.rebuildUnit lt r) [.cellar, .led, .meas] := by
  unfold State.rebuildUnit
  split
  · exact Changes.refl s _
  · have h : Changes s (if s.canSupply lt r then s.cstore (unitAddr lt r) (s.chainBytes lt r 0 4096)
        else if r % 12 = lt % 12 then s else s.poison lt r) [.cellar, .led, .meas] := by
      split
      · exact s.cstore_changes _ _
      · split
        · exact Changes.refl s _
        · exact s.poison_changes lt r
    exact (h.trans ((Changes.setCellar _ _).mono (by decide))).trans ((State.measureRows_changes _ _ _).mono (by decide))

/-- A store that fills its unit ends the unit's poison (R152). -/
theorem State.filled_changes {s t : State} (h : Changes s t [.cellar, .led, .meas]) (c : Prop) [Decidable c] (lt r : Nat) :
    Changes s (if c then t.unpoison lt r else t) [.cellar, .led, .meas] := by
  split
  · exact h.trans (t.unpoison_changes lt r)
  · exact h

theorem State.unitWrite_changes (s : State) (lt r off plot : Nat) (data : List Byte) :
    Changes s (s.unitWrite lt r off plot data) [.cellar, .led, .meas] := by
  unfold State.unitWrite
  dsimp only
  split
  · split
    · exact Changes.refl s _
    · exact State.filled_changes (s.cstore_changes _ _) _ _ _
  · have h0 : Changes s (if s.built lt r then s else s.rebuildUnit lt r) [.cellar, .led, .meas] := by
      split
      · exact Changes.refl s _
      · exact s.rebuildUnit_changes lt r
    generalize (if s.built lt r then s else s.rebuildUnit lt r) = s0 at *
    exact State.filled_changes ((h0.trans (s0.cstore_changes _ _)).trans ((Changes.setCellar _ _).mono (by decide))) _ _ _

theorem State.writeUnit_changes (s : State) (lt r off plot parcel : Nat) (data : List Byte) :
    Changes s (s.writeUnit lt r off plot parcel data) [.cellar, .led, .meas, .fabric] := by
  have h := (s.unitWrite_changes lt r off plot data).mono (qs := [.cellar, .led, .meas, .fabric]) (by decide)
  unfold State.writeUnit
  dsimp only
  split
  · split
    · exact h.trans (((Changes.setCellar _ _).mono (by decide)).trans ((State.sendDelta_inFabric _ _).changes.mono (by decide)))
    · exact h
  · exact h

/-- A piece of a split write, unless it is empty. -/
theorem State.writePiece_changes {s t : State} (h : Changes s t [.cellar, .led, .meas, .fabric]) (lt r off plot : Nat)
    (data : List Byte) : Changes s (if data = [] then t else t.writeUnit lt r off plot 0 data) [.cellar, .led, .meas, .fabric] := by
  split
  · exact h
  · exact h.trans (t.writeUnit_changes lt r off plot 0 data)

theorem State.splitWrite_changes (s : State) (a plot : Nat) (data : List Byte) :
    Changes s (s.splitWrite a plot data) [.cellar, .led, .meas, .fabric] :=
  State.writePiece_changes (State.writePiece_changes (Changes.refl s _) _ _ _ _ _) _ _ _ _ _

/-! ### Appends -/

theorem State.noteAppend_changes (s : State) (id : Nat) (x : Append) : Changes s (s.noteAppend id x) [.steps] :=
  Changes.updStep s id _

/-- The running step that makes an append records it last (R220). -/
theorem State.noteAppend_running {s : State} {id : Nat} {x : Append} {z : Step} (hz : s.stepAt id = some z)
    (hst : z.st = .running) : (s.noteAppend id x).stepAt id = some { z with appends := z.appends ++ [x] } ∧
      SameBut [id] s.stepAt (s.noteAppend id x).stepAt := by
  constructor
  · rw [State.noteAppend, State.stepAt_updStep, if_pos rfl, hz, Option.map_some, if_pos hst]
  · intro n hn
    rw [State.noteAppend, State.stepAt_updStep, if_neg (fun h => hn (by simp [h]))]

section Append

variable {s : State} {p : PlotId} {m : MSlot} {layer : Nat} {request : U32} {u : BitVec 24} {kv : Fin 2} {head : Nat}
  {codes scales : List Byte} {i e : Nat} {d : Bool} {x : PoolSt} {im : Image}
  (hi : s.findReq p.val request.toNat = some i) (hx : s.pool p.val m.val = some x) (him : (s.plot p.val).image = some im)
  (hd : s.listOf p.val i m.val = some d)
  (he : imageExtent im (portionAt x.desc layer (pgFrame ((s.obAt i).page d (u.toNat / 64)))).1 = some e)
include hi hx him hd he

theorem exec_kvAppend_outside (h : ¬ ((s.obAt i).committed ≤ u.toNat ∧ u.toNat < (s.obAt i).provisional)) :
    exec (.kvAppend p m layer request u kv head codes scales) s = .next s := by
  change execKvAppend p m layer request u kv head codes scales s = _
  simp only [execKvAppend, hi, hx, him, hd, he]
  refine congrArg Host.Outcome.next (if_neg fun hc => h ?_)
  obtain ⟨-, hlow, hhigh, -⟩ := hc
  exact ⟨hlow, hhigh⟩

section Inside

variable (hlow : (s.obAt i).committed ≤ u.toNat) (hhigh : u.toNat < (s.obAt i).provisional) (hlayer : layer < x.desc.layers.toNat)
  (hhead : head < x.desc.kvHeads.toNat) (hcodes : codes.length = poolCb x.desc) (hscales : scales.length = poolSb x.desc)
  (hpage : pgState ((s.obAt i).page d (u.toNat / 64)) = 1 ∨ pgState ((s.obAt i).page d (u.toNat / 64)) = 2)
  {c b : Nat}
  (hc : c = (portionAt x.desc layer (pgFrame ((s.obAt i).page d (u.toNat / 64)))).2 * codeSize x.desc
    + ((kv.val * x.desc.kvHeads.toNat + head) * 64 + u.toNat % 64) * poolCb x.desc)
  (hb : b = perExtent x.desc * codeSize x.desc
    + (portionAt x.desc layer (pgFrame ((s.obAt i).page d (u.toNat / 64)))).2 * scaleSize x.desc
    + ((kv.val * x.desc.kvHeads.toNat + head) * 64 + u.toNat % 64) * poolSb x.desc)
  (hfree : ∀ y ∈ rangeUnits e c codes.length ++ rangeUnits e b scales.length, s.rowHeld y.1 y.2 = false)
  {t0 : Nat} {s1 s2 : State} (ht0 : s.physOf (e / 176) = some t0)
  (harr : s.arrived (ctrl t0) (isAppend p.val (appendRef m.val layer request.toNat u.toNat kv.val head) codes scales) = true)
  (hs1 : s1 = s.takeMsg (ctrl t0) (isAppend p.val (appendRef m.val layer request.toNat u.toNat kv.val head) codes scales))
  (hs2 : s2 = (s1.splitWrite (extentAddr e c) p.val codes).splitWrite (extentAddr e b) p.val scales)
include hlow hhigh hlayer hhead hcodes hscales hpage hc hb hfree ht0 harr hs1 hs2

theorem exec_kvAppend_inside : exec (.kvAppend p m layer request u kv head codes scales) s =
    .next (s2.noteAppend ((s.obAt i).step.getD s2.nextStep) ⟨m.val, layer, request.toNat, u.toNat, kv.val, head,
      (List.range (s2.cellar.nextId - s.cellar.nextId)).map (fun k => s.cellar.nextId + k)⟩) := by
  change execKvAppend p m layer request u kv head codes scales s = _
  have hheld : (rangeUnits e c codes.length ++ rangeUnits e b scales.length).any (fun y => s.rowHeld y.1 y.2) = false :=
    List.any_eq_false.2 fun y hy => by rw [hfree y hy]; decide
  have hall := And.intro hpage (And.intro hlow (And.intro hhigh (And.intro hlayer (And.intro hhead (And.intro hcodes hscales)))))
  subst hs1 hs2 hc hb
  simp only [execKvAppend, hi, hx, him, hd, he, if_pos hall, ht0, harr, hheld, Bool.not_true, Bool.or_self, Bool.false_eq_true,
    if_false]

theorem kvAppend_appends : ∃ t, exec (.kvAppend p m layer request u kv head codes scales) s = .next t ∧
    t.cellar = s2.cellar ∧ t.fabric = s2.fabric ∧
    (∀ id z, (s.obAt i).step = some id → s.stepAt id = some z → z.st = .running →
      ∃ ids, t.stepAt id = some { z with appends :=
        z.appends ++ [⟨m.val, layer, request.toNat, u.toNat, kv.val, head, ids⟩] } ∧ SameBut [id] s.stepAt t.stepAt) ∧
    Changes s t [.cellar, .led, .fabric, .steps, .meas] := by
  refine ⟨_, exec_kvAppend_inside hi hx him hd he hlow hhigh hlayer hhead hcodes hscales hpage hc hb hfree ht0 harr hs1 hs2, ?_⟩
  have hch : Changes s s2 [.cellar, .led, .meas, .fabric] := by
    subst hs1 hs2
    exact (((s.takeMsg_inFabric _ _).changes.mono (by decide)).trans (State.splitWrite_changes _ _ _ _)).trans
      (State.splitWrite_changes _ _ _ _)
  refine ⟨rfl, rfl, fun id z hid hz hst => ?_, (hch.mono (by decide)).trans ((s2.noteAppend_changes _ _).mono (by decide))⟩
  have hstep : s2.stepAt = s.stepAt := by
    unfold State.stepAt
    rw [hch .steps (by decide)]
  rw [hid, Option.getD_some, ← hstep]
  exact ⟨_, State.noteAppend_running (hstep ▸ hz) hst⟩

end Inside

end Append

end Sys2Proof.Machine

open Sys2Proof Sys2Proof.Machine

/-- Settles O22: a write, its delta and its end, a member's part of a chain, and an append inside and outside the step's
positions. -/
theorem cellarWritesAndTheirParity : Obligations.CellarWritesAndTheirParity := by
  unfold Obligations.CellarWritesAndTheirParity
  refine ⟨⟨?_, ?_, ?_⟩, ?_, ?_⟩
  · intro s addr tag data lt r off hu hlt hr hoff hheld haddr hown hb hp hnone
    exact cellarWrite_sound hu hlt hr hoff hheld haddr hown hb hp hnone
  · intro s id w hw ha harr hheld hb
    exact parityDeltaApply_applies hw ha harr hheld hb
  · intro s id
    exact ⟨fun h => ⟨_, exec_cellarWriteComplete_none h, rfl⟩, fun w hw harr => cellarWriteComplete_completes hw harr⟩
  · intro s m lost row b e t0 u0 hlen hm hb hp hheld hd ht0 hu0 hfirst hlater
    exact chainXor_sends hlen hm hb hp hheld hd ht0 hu0 hfirst hlater
  · intro s p m layer request u kv head codes scales i e d x im hi hx him hd he
    refine ⟨fun h => ⟨_, exec_kvAppend_outside hi hx him hd he h, rfl⟩, ?_⟩
    intro hlow hhigh hlayer hhead hcodes hscales hpage c b hc hb hfree t0 s1 ht0 harr hs1
    exact kvAppend_appends hi hx him hd he hlow hhigh hlayer hhead hcodes hscales hpage hc hb hfree ht0 harr hs1 rfl
end

section
/-! PROOFS. ISSUE, WAIT and FENCE (R192 to R194, R197): the statement O17. -/

namespace Sys2Proof.Machine

/-! ### Queues -/

@[simp] theorem LoomSt.queue_updQueue (l : LoomSt) (q k : Nat) (f : Queue → Queue) :
    (l.updQueue q f).queue k = if q = k then f (l.queue k) else l.queue k := by
  simp [LoomSt.queue, LoomSt.updQueue, Tab.get_upd]

theorem State.loom_advanceWith (s : State) (n : Nat) (f : LoomSt → LoomSt) :
    (s.advanceWith n f).loom n = { f (s.loom n) with ip := (f (s.loom n)).ip + 1, stall := none } := by
  simp [State.advanceWith, State.advance]

theorem WithinLoom.advanceWith (ks : List (Nat × Nat)) (s : State) (n : Nat) (f : LoomSt → LoomSt) :
    WithinLoom ks n s (s.advanceWith n f) := (WithinLoom.updLoom ks s n f).trans (.updLoom ks _ n _)

/-- A change of one loom alone. -/
theorem State.advanceWith_changes (s : State) (n : Nat) (f : LoomSt → LoomSt) : Changes s (s.advanceWith n f) [.looms] :=
  (Changes.updLoom s n f).trans (Changes.updLoom _ n _)

/-- An interlock that is counted (R201). -/
theorem WithinLoom.interlock (s : State) (p n k by_ : Nat) (hk : k < 255) :
    WithinLoom [(0x3300 + p, k + 1)] n s (s.interlock p n k by_) :=
  (WithinLoom.updLoom _ s n _).trans (.bump List.mem_cons_self (by omega) n _ 64 by_)

theorem State.loom_interlock (s : State) (p n k by_ : Nat) :
    ∃ c, (s.interlock p n k by_).loom n = { s.loom n with ctr := c } :=
  ⟨Tab.set 0 (s.loom n).ctr k (satAdd 32 (Tab.get 0 (s.loom n).ctr k) by_), by simp [State.interlock]⟩

/-- A loom that waits uncounted: the wait is noted, or stands already. -/
theorem State.loom_stallFor (s : State) (p n : Nat) (why : Stall) :
    (s.stallFor p n why none).loom n = { s.loom n with stall := some why } := by
  unfold State.stallFor
  split
  next h => rw [← h]
  · simp

theorem WithinLoom.stallFor (s : State) (p n : Nat) (why : Stall) : WithinLoom [] n s (s.stallFor p n why none) := by
  unfold State.stallFor
  split
  · exact ⟨fun _ _ => rfl, .of_led rfl, Changes.refl _ _⟩
  · exact .updLoom _ s n _

theorem State.stallFor_changes (s : State) (p n : Nat) (why : Stall) : Changes s (s.stallFor p n why none) [.looms] := by
  unfold State.stallFor
  split
  · exact Changes.refl _ _
  · exact Changes.updLoom s n _

/-! ### What ISSUE asks does not depend on the Bench's parity bits -/

@[simp] theorem State.badRange_upsets (s : State) (n : Nat) (ws : List BenchWord) (p m : Nat) (r : QReq) :
    (s.upsets n ws).badRange p m r = s.badRange p m r := by
  unfold State.upsets
  split <;> rfl

@[simp] theorem State.rangeHeld_upsets (s : State) (n : Nat) (ws : List BenchWord) (p m : Nat) (r : QReq) :
    (s.upsets n ws).rangeHeld p m r = s.rangeHeld p m r := by
  unfold State.upsets
  split <;> rfl

/-- Parity bits that are spoiled, of the loom that issues. -/
theorem State.loom_upsets_self (s : State) (n : Nat) (ws : List BenchWord) :
    ∃ b, (s.upsets n ws).loom n = { s.loom n with badWords := b } := by
  rw [State.loom_upsets, if_pos rfl]
  exact ⟨_, rfl⟩

/-! ### Issuing a request -/

/-- A loom that has placed an entry in a queue, with the lines of its fill pending (R193, R199). -/
def LoomSt.placed (l : LoomSt) (q t : Nat) (e : QEntry) (target : Option (Nat × Nat)) : LoomSt :=
  let l1 := l.updQueue q (fun u => { issued := u.issued + 1, entries := u.entries ++ [e] })
  match target with
  | some g => l1.mark q t g
  | none => l1

theorem LoomSt.placed_eq (l : LoomSt) (q t : Nat) (e : QEntry) (target : Option (Nat × Nat)) : ∃ m, l.placed q t e target =
    { l.updQueue q (fun u => { issued := u.issued + 1, entries := u.entries ++ [e] }) with pending := m } := by
  cases target with
  | none => exact ⟨_, rfl⟩
  | some g => exact ⟨_, rfl⟩

/-- The entry that ISSUE places (R193). -/
def State.newEntry (s : State) (p : Nat) (l : Loom) (q : Nat) (r : QReq) : QEntry :=
  { ticket := ((s.loom l.n).queue q).issued % 256, req := r, attempt := (s.loom l.n).attempt
    status := match r with | .ferry y _ _ => s.ferryRefuses p y.val | _ => none
    data := match r with | .drain b _ n => (s.loom l.n).bytes b.toNat n.val | _ => []
    order := (s.loom l.n).issuedAll }

/-- Whether a request fills lines that wait to be filled already. -/
def State.overlaps (s : State) (p n : Nat) (r : QReq) : Bool :=
  match s.fillRange p n r with
  | some g => (s.loom n).pendingIn (lineRange g.1 g.2).1 (lineRange g.1 g.2).2
  | none => false

/-- That is counted (R199). -/
def State.countOverlap (s : State) (p : Nat) (l : Loom) (r : QReq) : State :=
  if s.overlaps p l.n r then s.interlock p l.n 2 1 else s

/-- What leaves the loom with a request, as the loom stands in `s`: a transfer, a frame, or messages to other tiles. -/
def State.sendIssued (v s : State) (p : Nat) (l : Loom) (q : Nat) (r : QReq) : State :=
  match r with
  | .ether i o _ w _ =>
    if pathOn (s.pathDesc p i.val) = false ∨ (w = true ∧ s.cellarStatus p l.n r ≠ .done) then v
    else v.emit (.rdma p i.val o.toNat w (if w then s.sealed p i.val o.toNat
      ((s.piecesOf p l.n r).flatMap (fun x => s.dataRead x.1 x.2)) else []))
  | .ferry y b n =>
    if (v.ferryRefuses p y.val).isNone then
      v.enqueueFrame y.val l.n (s.newEntry p l q r).ticket (s.loom l.n).attempt ((s.loom l.n).bytes b.toNat n.val) else v
  | _ => v.sendPieces p l.n q (s.newEntry p l q r).ticket (s.loom l.n).attempt r (s.newEntry p l q r).data

theorem State.issueTo_eq (s : State) (p : Nat) (l : Loom) (q : Nat) (r : QReq) :
    s.issueTo p l q r = ((s.countOverlap p l r).sendIssued s p l q r).advanceWith l.n (fun x =>
      x.placed q (s.newEntry p l q r).ticket { s.newEntry p l q r with attempt := x.attempt, order := x.issuedAll }
        (s.fillRange p l.n r)) := by
  cases r <;> rfl

theorem WithinLoom.countOverlap (s : State) (p : Nat) (l : Loom) (r : QReq) :
    WithinLoom [(0x3300 + p, 3)] l.n s (s.countOverlap p l r) := by
  unfold State.countOverlap
  split
  · exact .interlock s p l.n 2 1 (by decide)
  · exact ⟨fun _ _ => rfl, .of_led rfl, Changes.refl _ _⟩

theorem State.loom_countOverlap (s : State) (p : Nat) (l : Loom) (r : QReq) :
    ∃ c, (s.countOverlap p l r).loom l.n = { s.loom l.n with ctr := c } := by
  unfold State.countOverlap
  split
  · exact s.loom_interlock p l.n 2 1
  · exact ⟨_, rfl⟩

/-- The messages of a request are of VC2 (R34, R171). -/
theorem State.sendPieces_inFabric (s : State) (p n q t attempt : Nat) (r : QReq) (data : List Byte) :
    InFabric s (s.sendPieces p n q t attempt r data) := by
  unfold State.sendPieces
  extract_lets xs drain
  generalize xs.zipIdx = ys
  suffices h : ∀ b : State × List Byte, InFabric b.1 (List.foldl _ b ys).1 from h (s, data)
  induction ys with
  | nil => exact fun b => .refl b.1
  | cons y ys ih =>
    intro b
    refine InFabric.trans ?_ (ih _)
    dsimp only
    split
    · exact .refl b.1
    · split <;> exact State.inject_vc2_inFabric _ _ _ _ _ _ _ _

theorem State.sendIssued_changes (v s : State) (p : Nat) (l : Loom) (q : Nat) (r : QReq) :
    Changes v (v.sendIssued s p l q r) [.out, .ferry, .fabric] := by
  unfold State.sendIssued
  split
  · split
    · exact Changes.refl _ _
    · exact (Changes.emit v _).mono (by decide)
  · split
    · intro z hz
      cases z
      case ferry => exact absurd (by decide) hz
      all_goals rfl
    · exact Changes.refl _ _
  · exact (v.sendPieces_inFabric _ _ _ _ _ _ _).changes.mono (by decide)

/-! ### ISSUE -/

section Issue

variable {s u : State} {l : Loom} {p id : Nat} {q : Fin 6} {r : QReq} {up : List BenchWord}

/-- A loom that ISSUE leaves, but for its interlock counters, its parity bits and its pending lines. -/
theorem State.loom_issueTo (s : State) (p : Nat) (l : Loom) (q : Nat) (r : QReq) : ∃ c m, (s.issueTo p l q r).loom l.n =
    { (s.loom l.n).updQueue q (fun y => { issued := y.issued + 1, entries := y.entries ++ [s.newEntry p l q r] }) with
      ctr := c, pending := m, ip := (s.loom l.n).ip + 1, stall := none } := by
  obtain ⟨c, hc⟩ := s.loom_countOverlap p l r
  have hv : ((s.countOverlap p l r).sendIssued s p l q r).loom l.n = { s.loom l.n with ctr := c } := by
    rw [State.loom, State.sendIssued_changes _ s p l q r .looms (by decide), ← State.loom, hc]
  rw [State.issueTo_eq, State.loom_advanceWith, hv]
  obtain ⟨m, hm⟩ := LoomSt.placed_eq { s.loom l.n with ctr := c } q (s.newEntry p l q r).ticket (s.newEntry p l q r)
    (s.fillRange p l.n r)
  exact ⟨c, m, congrArg (fun x : LoomSt => { x with ip := x.ip + 1, stall := none }) hm⟩

theorem State.queue_issueTo (s : State) (p : Nat) (l : Loom) (q : Nat) (r : QReq) (k : Nat) :
    ((s.issueTo p l q r).loom l.n).queue k = if q = k then { issued := ((s.loom l.n).queue k).issued + 1
                                                             entries := ((s.loom l.n).queue k).entries ++ [s.newEntry p l q r] }
      else (s.loom l.n).queue k := by
  obtain ⟨c, m, h⟩ := s.loom_issueTo p l q r
  rw [LoomSt.queue, h]
  exact (s.loom l.n).queue_updQueue q k (fun y => { issued := y.issued + 1, entries := y.entries ++ [s.newEntry p l q r] })

/-- The entry takes the Bench's bytes whatever their parity bits. -/
theorem State.newEntry_upsets (s : State) (ws : List BenchWord) (p : Nat) (l : Loom) (q : Nat) (r : QReq) :
    (s.upsets l.n ws).newEntry p l q r = { s.newEntry p l q r with status := ((s.upsets l.n ws).newEntry p l q r).status } := by
  obtain ⟨b, hb⟩ := s.loom_upsets_self l.n ws
  have hbytes : ((s.upsets l.n ws).loom l.n).bytes = (s.loom l.n).bytes := hb ▸ LoomSt.bytes_congr rfl rfl
  unfold State.newEntry
  rw [hbytes, hb]
  rfl

theorem State.issueTo_frame (s : State) (p : Nat) (l : Loom) (q : Nat) (r : QReq) :
    SameBut [l.n] s.loom (s.issueTo p l q r).loom ∧ CellsBut [(0x3300 + p, 3)] s (s.issueTo p l q r) ∧
      Changes s (s.issueTo p l q r) [.led, .looms, .out, .ferry, .fabric] := by
  obtain ⟨hl, hc, hch⟩ := WithinLoom.countOverlap s p l r
  have hs := State.sendIssued_changes (s.countOverlap p l r) s p l q r
  have hsl : ((s.countOverlap p l r).sendIssued s p l q r).loom = (s.countOverlap p l r).loom := funext fun n => by
    rw [State.loom, hs .looms (by decide), State.loom]
  rw [State.issueTo_eq]
  obtain ⟨hl', hc', hch'⟩ := WithinLoom.advanceWith [(0x3300 + p, 3)] ((s.countOverlap p l r).sendIssued s p l q r) l.n (fun x =>
      x.placed q (s.newEntry p l q r).ticket { s.newEntry p l q r with attempt := x.attempt, order := x.issuedAll }
        (s.fillRange p l.n r))
  exact ⟨hl.trans (hsl ▸ hl'), (hc.trans (.of_led (hs .led (by decide)))).trans hc',
    ((hch.mono (by decide)).trans (hs.mono (by decide))).trans (hch'.mono (by decide))⟩

/-- ISSUE runs at its word: a full queue, an address fault, and an entry that is placed, in the order of the checks (R137, R192, R199). -/
theorem exec_issue (hu : u = s.upsets l.n up) (hr : Runs u l 6 p id) (hq : queueTakes q r = true) :
    exec (.issue l q ⟨r, up⟩) s = .next (
      if queueDepth q.val ≤ (((u.loom l.n).queue q.val).entries.filter (fun e => e.status.isNone)).length then
        u.stallFor p l.n (.queueFull q.val) (some 4)
      else if u.badRange p l.n r then u.addrFault p l.n
      else if q.val = 3 ∧ u.rangeHeld p l.n r then u
      else if leavesByFabric r ∧ (sourceRange r).any (fun g => !u.partOk p .fabricOut 0 g.1 g.2) then u.partFault p
      else u.benchGate l p id (sourceRange r) (fun s => s.issueTo p l q.val r)) := by
  change execIssue l q ⟨r, up⟩ s = _
  rw [execIssue]
  dsimp only
  rw [if_neg (by simp [hq]), ← hu, State.seq_of_runs hr (by decide) (by decide)]

/-- The queues of a loom whose parity bits were spoiled. -/
theorem State.queue_upsets (s : State) (n : Nat) (ws : List BenchWord) (q : Nat) :
    ((s.upsets n ws).loom n).queue q = (s.loom n).queue q := by
  obtain ⟨b, h⟩ := s.loom_upsets_self n ws
  rw [h]
  rfl

theorem issue_places (hu : u = s.upsets l.n up) (hr : Runs u l 6 p id) (hq : queueTakes q r = true)
    (hroom : (((s.loom l.n).queue q.val).entries.filter (fun e => e.status.isNone)).length < queueDepth q.val)
    (hbad : s.badRange p l.n r = false) (hheld : q = 3 → s.rangeHeld p l.n r = false)
    (hpart : leavesByFabric r = true → ∀ g ∈ sourceRange r, s.partOk p .fabricOut 0 g.1 g.2 = true)
    (hready : BenchReady u l (sourceRange r)) :
    exec (.issue l q ⟨r, up⟩) s = .next (u.issueTo p l q.val r) := by
  obtain ⟨hfill, hpar⟩ := hready
  rw [exec_issue hu hr hq]
  subst hu
  rw [State.queue_upsets, State.badRange_upsets, State.rangeHeld_upsets, if_neg (by omega), if_neg (by simp [hbad]), if_neg, if_neg,
    State.benchGate_of_filled hfill, if_neg (by simp [hpar])]
  · rintro ⟨hl, ha⟩
    obtain ⟨g, hg, hno⟩ := List.any_eq_true.1 ha
    simp [hpart hl g hg] at hno
  · rintro ⟨h3, hh⟩
    rw [hheld (Fin.ext h3)] at hh
    cases hh

theorem issue_addrFault (hu : u = s.upsets l.n up) (hr : Runs u l 6 p id) (hq : queueTakes q r = true)
    (hroom : (((s.loom l.n).queue q.val).entries.filter (fun e => e.status.isNone)).length < queueDepth q.val)
    (hbad : s.badRange p l.n r = true) (hst : s.plotState p = 2) :
    ∃ t, exec (.issue l q ⟨r, up⟩) s = .next t ∧ t.plotState p = 5 ∧
      t.cell (0x3300 + p) 9 = satAdd 32 (s.cell (0x3300 + p) 9) 1 ∧ Changes s t Part.work := by
  have hp : p < 16 := State.lt_of_ownerOf hr.2.1
  have hcell : ∀ i j, u.cell i j = s.cell i j := hu ▸ State.cell_upsets s l.n up
  have hsu : Changes s u [.looms] := hu ▸ Changes.of_offLooms (State.upsets_offLooms s l.n up)
  obtain ⟨h5, h9, -⟩ := State.addrFault_serving l.n hp ((hcell _ _).trans hst)
  have hbad' : u.badRange p l.n r = true := by rw [hu, State.badRange_upsets, hbad]
  have hroom' : ¬ queueDepth q.val ≤ (((u.loom l.n).queue q.val).entries.filter (fun e => e.status.isNone)).length := by
    rw [hu, State.queue_upsets]
    omega
  rw [exec_issue hu hr hq, if_neg hroom', if_pos hbad']
  exact ⟨_, rfl, h5, by rw [h9, hcell], (hsu.mono (by decide)).trans (Changes.of_fixed (State.addrFault_inner u p l.n))⟩

/-- With the queue full the loom waits, which is counted once (R193, R201). -/
theorem issue_waits (hu : u = s.upsets l.n up) (hr : Runs u l 6 p id) (hq : queueTakes q r = true)
    (hfull : queueDepth q.val ≤ (((s.loom l.n).queue q.val).entries.filter (fun e => e.status.isNone)).length)
    (hst : (s.loom l.n).stall = none) :
    ∃ t, exec (.issue l q ⟨r, up⟩) s = .next t ∧ (t.loom l.n).stall = some (.queueFull q.val) ∧
      (t.loom l.n).queues = (s.loom l.n).queues ∧ (t.loom l.n).ip = (s.loom l.n).ip ∧ WithinLoom [(0x3300 + p, 5)] l.n s t := by
  have hw : WithinLoom [(0x3300 + p, 5)] l.n s u := hu ▸ WithinLoom.upsets _ s l.n up
  obtain ⟨b, hb⟩ := s.loom_upsets_self l.n up
  obtain ⟨c, hc⟩ := u.loom_interlock p l.n 4 1
  have hq' : ((u.loom l.n).queue q.val) = (s.loom l.n).queue q.val := by rw [hu, State.queue_upsets]
  rw [exec_issue hu hr hq, hq', if_pos hfull, State.stallFor, if_neg (by rw [hu, hb]; simp [hst])]
  refine ⟨_, rfl, ?_, ?_, ?_, (hw.trans (.interlock u p l.n 4 1 (by decide))).trans (.updLoom _ _ _ _)⟩ <;>
    rw [State.loom_updLoom, if_pos rfl]
  · rw [hc, hu, hb]
  · rw [hc, hu, hb]

end Issue

/-! ### WAIT and FENCE -/

section Consume

variable {s : State} {l : Loom} {p id : Nat} {q : Fin 6}

/-- A loom whose tickets for which `p` holds are consumed goes on. -/
theorem State.consumed_spec (s : State) (n q : Nat) (f : List QEntry → List QEntry) {t : State}
    (ht : t = s.advanceWith n (fun y => y.updQueue q (fun u => { u with entries := f u.entries }))) :
    ((t.loom n).queue q).entries = f ((s.loom n).queue q).entries ∧ (∀ k, k ≠ q → (t.loom n).queue k = (s.loom n).queue k) ∧
      (t.loom n).ip = (s.loom n).ip + 1 ∧ (t.loom n).stall = none ∧ SameBut [n] s.loom t.loom ∧ Changes s t [.looms] := by
  have hl := s.loom_advanceWith n (fun y => y.updQueue q (fun u => { u with entries := f u.entries }))
  obtain ⟨hsame, -, -⟩ := WithinLoom.advanceWith [] s n (fun y => y.updQueue q (fun u => { u with entries := f u.entries }))
  subst ht
  have hq : ∀ k, ((s.advanceWith n (fun y => y.updQueue q (fun u => { u with entries := f u.entries }))).loom n).queue k =
      if q = k then { (s.loom n).queue k with entries := f ((s.loom n).queue k).entries } else (s.loom n).queue k := fun k => by
    rw [LoomSt.queue, hl]
    exact (s.loom n).queue_updQueue q k (fun u => { u with entries := f u.entries })
  refine ⟨by rw [hq, if_pos rfl], fun k hk => by rw [hq, if_neg (Ne.symm hk)], by rw [hl]; rfl, by rw [hl], hsame,
    s.advanceWith_changes n _⟩

/-- A ticket that is complete with DONE is consumed (R194). -/
theorem exec_wait_done {t0 : Byte} {e : QEntry} (hr : Runs s l 7 p id)
    (he : ((s.loom l.n).queue q.val).entries.find? (fun e => e.isTicket (s.loom l.n).attempt t0.toNat) = some e)
    (hd : e.status = some .done) :
    exec (.wait l q t0) s = .next (s.advanceWith l.n (fun y => y.updQueue q.val (fun u => { u with
      entries := dropFirst (fun e => e.isTicket (s.loom l.n).attempt t0.toNat) u.entries }))) := by
  change execWait l q t0 s = _
  rw [execWait, State.seq_of_runs hr (by decide) (by decide)]
  simp only [he, hd]

/-- On one that is not complete the loom waits (R194). -/
theorem exec_wait_open {t0 : Byte} {e : QEntry} (hr : Runs s l 7 p id)
    (he : ((s.loom l.n).queue q.val).entries.find? (fun e => e.isTicket (s.loom l.n).attempt t0.toNat) = some e)
    (hd : e.status = none) : exec (.wait l q t0) s = .next (s.stallFor p l.n (.wait q.val t0.toNat) none) := by
  change execWait l q t0 s = _
  rw [execWait, State.seq_of_runs hr (by decide) (by decide)]
  simp only [he, hd]

theorem exec_fence (hr : Runs s l 8 p id) : exec (.fence l q) s = .next (
    if ((s.loom l.n).queue q.val).entries.any (fun e => e.attempt == (s.loom l.n).attempt && e.status.isNone) then
      s.stallFor p l.n (.fence q.val) none
    else s.advanceWith l.n (fun y => y.updQueue q.val (fun u => { u with
      entries := u.entries.filter (fun e => e.attempt != (s.loom l.n).attempt) }))) := by
  change execFence l q s = _
  rw [execFence, State.seq_of_runs hr (by decide) (by decide)]

end Consume

end Sys2Proof.Machine

open Sys2Proof Sys2Proof.Machine

/-- Settles O17: ISSUE by the order of its checks, its entry by `State.loom_issueTo`; WAIT and FENCE by what is consumed. -/
theorem queueEntriesAreIssuedAndAwaited : Obligations.QueueEntriesAreIssuedAndAwaited := by
  refine ⟨fun s l p id q r up u hu hr hq => ⟨fun hroom hbad hheld hpart hready => ?_, fun hroom hbad hst =>
      issue_addrFault hu hr hq hroom hbad hst, fun hfull hst => ?_⟩,
    fun s l p id q => ⟨fun t0 e hr he => ⟨fun hd => ?_, fun hd => ?_⟩, fun hr => ⟨fun hall => ?_, fun hany => ?_⟩⟩⟩
  · obtain ⟨c, m, hl⟩ := u.loom_issueTo p l q.val r
    obtain ⟨hloom, hcells, hch⟩ := u.issueTo_frame p l q.val r
    obtain ⟨hsu, hcu, hchu⟩ : WithinLoom [(0x3300 + p, 3)] l.n s u := hu ▸ WithinLoom.upsets _ s l.n up
    obtain ⟨b, hb⟩ := s.loom_upsets_self l.n up
    rw [← hu] at hb
    have hq0 : (u.loom l.n).queue q.val = (s.loom l.n).queue q.val := hu ▸ s.queue_upsets l.n up q.val
    refine ⟨_, issue_places hu hr hq hroom hbad hheld hpart hready, ?_, ⟨(u.newEntry p l q.val r).status, ?_, ?_⟩, ?_, ?_, ?_,
      hsu.trans hloom, hcu.trans hcells, (hchu.mono (by decide)).trans hch⟩
    · rw [State.queue_issueTo, if_pos rfl, hq0]
    · rw [State.queue_issueTo, if_pos rfl, hq0, hu, State.newEntry_upsets]
      cases r <;> rfl
    · intro hne
      cases r
      case ferry => exact absurd rfl (hne _ _ _)
      all_goals rfl
    · intro k hk
      rw [State.queue_issueTo, if_neg (Ne.symm hk), hu, State.queue_upsets]
    · rw [hl, hb]
      exact LoomSt.bytes_congr rfl rfl
    · rw [hl, hb]
  · obtain ⟨t, he, hs, hqs, hip, hl, hc, hch⟩ := issue_waits hu hr hq hfull hst
    exact ⟨t, he, hs, hqs, hip, hl, hc, hch⟩
  · obtain ⟨h1, h2, h3, h4, h5, h6⟩ := s.consumed_spec l.n q.val (dropFirst (fun e => e.isTicket (s.loom l.n).attempt t0.toNat)) rfl
    exact ⟨_, exec_wait_done hr he hd, h1, h2, h3, h4, h5, h6⟩
  · obtain ⟨hl, -, -⟩ := WithinLoom.stallFor s p l.n (.wait q.val t0.toNat)
    exact ⟨_, exec_wait_open hr he hd, s.loom_stallFor p l.n _, hl, s.stallFor_changes p l.n _⟩
  · obtain ⟨h1, h2, h3, -, h5, h6⟩ := s.consumed_spec l.n q.val (List.filter (fun e => e.attempt != (s.loom l.n).attempt)) rfl
    refine ⟨_, (exec_fence hr).trans (congrArg _ (if_neg ?_)), h1, h2, h3, h5, h6⟩
    intro hany
    obtain ⟨e, he, hopen⟩ := List.any_eq_true.1 hany
    have hdone := List.all_eq_true.1 hall e he
    rw [Bool.and_eq_true, beq_iff_eq, Option.isNone_iff_eq_none] at hopen
    obtain ⟨ha, hn⟩ := hopen
    simp [ha, hn] at hdone
  · obtain ⟨hl, -, -⟩ := WithinLoom.stallFor s p l.n (.fence q.val)
    exact ⟨_, (exec_fence hr).trans (congrArg _ (if_pos hany)), s.loom_stallFor p l.n _, hl, s.stallFor_changes p l.n _⟩
end

section
/-! PROOFS. HINT, BR, STEPEND and words that are no instruction (R168, R191, R198, R201, R202): the statement O18. -/

namespace Sys2Proof.Machine

/-! ### HINT and BR -/

/-- A hint is sent, and the loom goes on (R202). -/
def State.sendHint (s : State) (p : Nat) (l : Loom) (lead : Byte) (c : BitVec 2) : State :=
  (s.inject (s.hintMsg p l.n lead c)).advanceWith l.n (fun x => { x with lastHint := some s.now })

section Hint

variable {s : State} {l : Loom} {p id : Nat} {lead : Byte} {c : BitVec 2}

/-- A hint is only counted within 100 µs of the last one, else it is sent (R202). -/
theorem exec_hint (hr : Runs s l 9 p id) (hlead : bits ((s.loom l.n).program.getD (s.loom l.n).ip 0).toNat 15 8 = lead.toNat)
    (hc : bits ((s.loom l.n).program.getD (s.loom l.n).ip 0).toNat 1 0 = c.toNat) :
    exec (.hint l lead c) s = .next (match (s.loom l.n).lastHint with
      | some t => if s.now < t + 100000 then (s.bump 64 (0x3300 + p) 0xB 1).advance l.n else s.sendHint p l lead c
      | none => s.sendHint p l lead c) := by
  change execHint l lead c s = _
  rw [execHint, State.seq_of_runs hr (by decide) (by decide)]
  dsimp only
  rw [if_neg (not_or.2 ⟨not_not.2 hlead, not_not.2 hc⟩)]
  cases (s.loom l.n).lastHint <;> rfl

theorem exec_hint_sent (hr : Runs s l 9 p id)
    (hlead : bits ((s.loom l.n).program.getD (s.loom l.n).ip 0).toNat 15 8 = lead.toNat)
    (hc : bits ((s.loom l.n).program.getD (s.loom l.n).ip 0).toNat 1 0 = c.toNat)
    (hlast : ∀ t0, (s.loom l.n).lastHint = some t0 → t0 + 100000 ≤ s.now) :
    exec (.hint l lead c) s = .next (s.sendHint p l lead c) := by
  rw [exec_hint hr hlead hc]
  cases h : (s.loom l.n).lastHint with
  | none => rfl
  | some t0 => exact congrArg _ (if_neg (Nat.not_lt.2 (hlast t0 h)))

theorem exec_hint_counted {t0 : Nat} (hr : Runs s l 9 p id)
    (hlead : bits ((s.loom l.n).program.getD (s.loom l.n).ip 0).toNat 15 8 = lead.toNat)
    (hc : bits ((s.loom l.n).program.getD (s.loom l.n).ip 0).toNat 1 0 = c.toNat)
    (hlast : (s.loom l.n).lastHint = some t0) (hsoon : s.now < t0 + 100000) :
    exec (.hint l lead c) s = .next ((s.bump 64 (0x3300 + p) 0xB 1).advance l.n) := by
  rw [exec_hint hr hlead hc, hlast]
  exact congrArg _ (if_pos hsoon)

/-- A hint is a message of VC3: it touches the fabric, and its loom the time of the hint. -/
theorem State.sendHint_spec (s : State) (p : Nat) (l : Loom) (lead : Byte) (c : BitVec 2) :
    (s.sendHint p l lead c).loom l.n = { s.loom l.n with lastHint := some s.now, ip := (s.loom l.n).ip + 1, stall := none } ∧
      (s.sendHint p l lead c).fabric = (s.inject (s.hintMsg p l.n lead c)).fabric ∧
      SameBut [l.n] s.loom (s.sendHint p l lead c).loom ∧ Changes s (s.sendHint p l lead c) [.fabric, .looms] := by
  have hin : InFabric s (s.inject (s.hintMsg p l.n lead c)) := s.inject_inFabric (by decide : 2 ≤ (3 : Fin 4).val)
  have hloom : (s.inject (s.hintMsg p l.n lead c)).loom = s.loom := funext fun n => by
    rw [State.loom, hin.changes .looms (by decide), State.loom]
  unfold State.sendHint
  refine ⟨?_, rfl, ?_, (hin.changes.mono (by decide)).trans ((State.advanceWith_changes _ _ _).mono (by decide))⟩
  · rw [State.loom_advanceWith, hloom]
  · obtain ⟨h, -, -⟩ := WithinLoom.advanceWith [] (s.inject (s.hintMsg p l.n lead c)) l.n
      (fun x => { x with lastHint := some s.now })
    exact hloom ▸ h

theorem State.loom_advance (s : State) (n : Nat) :
    (s.advance n).loom n = { s.loom n with ip := (s.loom n).ip + 1, stall := none } := by
  simp [State.advance]

/-- BR goes to its target or to the next word (R191). -/
theorem exec_br {field : Fin 16} {value : U32} {target : BitVec 13} (hr : Runs s l 0xA p id) :
    exec (.br l field value target) s = .next (s.updLoom l.n (fun x => { x with
      ip := if (s.loom l.n).desc.getD field.val 0 = value.toNat then target.toNat else x.ip + 1, stall := none })) := by
  change execBr l field value target s = _
  rw [execBr, State.seq_of_runs hr (by decide) (by decide)]
  by_cases h : (s.loom l.n).desc.getD field.val 0 = value.toNat
  · simp only [if_pos h]
  · simp only [if_neg h]
    rfl

end Hint

/-! ### What a loom keeps of its Bench between two steps -/

/-- A number that a table was changed at is listed there once, with the new value. -/
theorem Tab.eq_of_mem_upd {α : Type} [DecidableEq α] {d : α} {t : Tab α} {k : Nat} {f : α → α} {v : α}
    (h : (k, v) ∈ Tab.upd d t k f) : v = f (Tab.get d t k) := by
  unfold Tab.upd Tab.set at h
  split at h
  · exact absurd rfl (Tab.not_mem_erase t k _ h)
  · rcases (Tab.mem_insert _ _ _ _).1 h with h | h
    · exact (Prod.ext_iff.1 h).2
    · exact absurd rfl (Tab.not_mem_erase t k _ h)

/-- A loss spares the ranges that it leaves alone (R168). -/
theorem LoomSt.bytes_lose (l : LoomSt) (n : Nat) {keep : List (Nat × Nat)} {a : Nat}
    (ha : keep.any (fun r => decide (r.1 ≤ a) && decide (a < r.1 + r.2)) = true) : (l.lose n keep).bytes a 1 = l.bytes a 1 := by
  have hbench : Tab.get 0 (l.lose n keep).bench a = Tab.get 0 l.bench a := Tab.get_keep _ _ _ _ ha
  have hfind : ∀ vs : List (Nat × List (Nat × Nat)),
      (vs.filter (fun v => v.2 != keep)).find? (fun v => !v.2.any (fun r => decide (r.1 ≤ a) && decide (a < r.1 + r.2))) =
        vs.find? (fun v => !v.2.any (fun r => decide (r.1 ≤ a) && decide (a < r.1 + r.2))) := fun vs => by
    rw [List.find?_filter]
    congr 1
    funext v
    by_cases hv : v.2 = keep
    · simp [hv, ha]
    · simp [hv]
  have hblank : (l.lose n keep).blank a = l.blank a := by
    unfold LoomSt.blank LoomSt.lose
    simp only [List.find?_cons, ha, Bool.not_true, hfind]
  simp only [LoomSt.bytes, Tab.getList, LoomSt.overBlank, hbench, hblank]

/-- A loom without work stands as it stood, or begins a running step of its plot that it has not ended (R191). -/
theorem State.loom_pickStep (s : State) (n : Nat) : (s.pickStep n).loom n = s.loom n ∨
    ∃ id x, (id, some x) ∈ s.steps ∧ n ∉ x.ended ∧ (s.pickStep n).loom n = ((s.loom n).lose n (s.residents n)).begin_ id x := by
  unfold State.pickStep
  split
  · split
    next id x hx =>
      have hwant := List.find?_some hx
      simp only [Bool.and_eq_true, Bool.not_eq_true', List.contains_eq_mem, decide_eq_false_iff_not] at hwant
      exact .inr ⟨id, x, List.mem_of_find?_eq_some hx, hwant.2, by simp⟩
    · exact .inl rfl
  · exact .inl rfl

theorem State.loom_pickStep_ne (s : State) {n m : Nat} (h : n ≠ m) : (s.pickStep n).loom m = s.loom m := by
  unfold State.pickStep
  split
  · split
    · simp [h]
    · rfl
  · rfl

/-! ### STEPEND -/

/-- A loom ends its part of a step (R198). -/
def State.endPart (s : State) (id n : Nat) : State :=
  (s.updStep id (fun x => { x with ended := x.ended ++ [n] })).updLoom n (fun x =>
    { x with step := none, stall := none, queues := x.carry })

section Stepend

variable {s : State} {l : Loom} {p id : Nat}

theorem exec_stepend_done (hr : Runs s l 0xB p id) (hd : s.stepDone p l.n = true) :
    exec (.stepend l) s = .next ((s.endPart id l.n).pickStep l.n) := by
  change execStepend l s = _
  rw [execStepend, State.seq_of_runs hr (by decide) (by decide)]
  exact congrArg _ (if_neg (by simp [hd]))

theorem State.endPart_changes (s : State) (id n : Nat) : Changes s (s.endPart id n) [.looms, .steps] :=
  ((Changes.updStep s id _).mono (by decide)).trans ((Changes.updLoom _ n _).mono (by decide))

theorem State.residents_endPart (s : State) (id n : Nat) : (s.endPart id n).residents = s.residents := rfl

/-- A step whose part a loom has ended is not the one that it takes next (R191, R198). -/
theorem State.step_pickStep_endPart (s : State) (id n : Nat) : (((s.endPart id n).pickStep n).loom n).step ≠ some id := by
  have hloom : (s.endPart id n).loom n = { s.loom n with step := none, stall := none, queues := (s.loom n).carry } := by
    simp [State.endPart, State.loom, State.updLoom, State.updStep]
  rcases (s.endPart id n).loom_pickStep n with h | ⟨id', x, hx, hnot, h⟩ <;> rw [h]
  · rw [hloom]
    exact Option.some_ne_none id ∘ Eq.symm
  · rintro he
    obtain rfl : id' = id := Option.some.inj he
    obtain ⟨y, -, rfl⟩ := Option.map_eq_some_iff.1 (Tab.eq_of_mem_upd hx).symm
    exact hnot (List.mem_append_right _ (List.mem_singleton.2 rfl))

/-- The resident regions stay, whether the loom begins another step or not (R168). -/
theorem State.bytes_pickStep_endPart (s : State) (id n : Nat) {a : Nat}
    (ha : (s.residents n).any (fun r => decide (r.1 ≤ a) && decide (a < r.1 + r.2)) = true) :
    (((s.endPart id n).pickStep n).loom n).bytes a 1 = (s.loom n).bytes a 1 := by
  have hbytes : ((s.endPart id n).loom n).bytes = (s.loom n).bytes := by
    rw [State.endPart, State.loom_updLoom, if_pos rfl]
    exact LoomSt.bytes_congr rfl rfl
  rcases (s.endPart id n).loom_pickStep n with h | ⟨id', x, -, -, h⟩ <;> rw [h]
  · rw [hbytes]
  · have hbegin : ∀ y : LoomSt, (y.begin_ id' x).bytes = y.bytes := fun y => LoomSt.bytes_congr rfl rfl
    rw [hbegin, State.residents_endPart, LoomSt.bytes_lose _ _ ha, hbytes]

theorem stepend_ends {x : Step} (hr : Runs s l 0xB p id) (hd : s.stepDone p l.n = true) (hx : s.stepAt id = some x) :
    ∃ t, exec (.stepend l) s = .next t ∧ t.stepAt id = some { x with ended := x.ended ++ [l.n] } ∧
      (t.loom l.n).step ≠ some id ∧
      (∀ a, (s.residents l.n).any (fun r => decide (r.1 ≤ a) && decide (a < r.1 + r.2)) = true →
        (t.loom l.n).bytes a 1 = (s.loom l.n).bytes a 1) ∧ SameBut [l.n] s.loom t.loom ∧
      SameBut [id] s.stepAt t.stepAt ∧ Changes s t [.looms, .steps] := by
  have hoff := State.pickStep_offLooms (s.endPart id l.n) l.n
  have hstep : ∀ j, ((s.endPart id l.n).pickStep l.n).stepAt j =
      if id = j then (s.stepAt j).map (fun x => { x with ended := x.ended ++ [l.n] }) else s.stepAt j := fun j =>
    (State.stepAt_of_offLooms hoff j).trans (s.stepAt_updStep id j _)
  refine ⟨_, exec_stepend_done hr hd, ?_, s.step_pickStep_endPart id l.n, fun a ha => s.bytes_pickStep_endPart id l.n ha,
    fun m hm => ?_, fun j hj => ?_, (s.endPart_changes id l.n).trans ((Changes.of_offLooms hoff).mono (by decide))⟩
  · rw [hstep, if_pos rfl, hx]
    rfl
  · have hne : l.n ≠ m := fun e => hm (by simp [e])
    rw [State.loom_pickStep_ne _ hne, State.endPart, State.loom_updLoom, if_neg hne]
    rfl
  · rw [hstep, if_neg (fun e => hj (by simp [e]))]

end Stepend

/-! ### Words that are no instruction -/

section NoInstruction

variable {s : State} {l : Loom} {p id : Nat} {w : U64}

/-- Whatever a word with a reserved opcode was taken for, it is an address fault (R191). -/
theorem State.seq_of_reserved (hstep : (s.loom l.n).step = some id) (hown : s.ownerOf l.n = some p)
    (hfree : ∃ k, s.slotOf l.n = some k ∧ (s.site (slotTile k)).held = none) (hstall : (s.loom l.n).stall = none)
    (hw : (s.loom l.n).program[(s.loom l.n).ip]? = some w) (hop : opOf w = 0 ∨ 0xB < opOf w) (op : Nat)
    (act : Nat → Nat → State → State) : s.seq l op act = s.addrFault p l.n := by
  obtain ⟨k, hk, hheld⟩ := hfree
  simp only [State.seq, hstep, hown, hk, hheld, hstall, hw, retries]
  rw [if_neg (by simp), if_pos hop]

/-- An address fault is counted, halts looms at most, and faults a CREATED or SERVING plot (R199, R201, R245). -/
theorem State.addrFault_spec (s : State) {p : Nat} (n : Nat) (hp : p < 16) :
    (s.addrFault p n).cell (0x3300 + p) 9 = satAdd 32 (s.cell (0x3300 + p) 9) 1 ∧
      ((s.plotState p = 1 ∨ s.plotState p = 2) → (s.addrFault p n).plotState p = 5) ∧
      KeepsProgress s (s.addrFault p n) := by
  unfold State.addrFault
  refine ⟨?_, fun h => State.plotState_faultPlot _ _ _ hp ?_, ?_⟩
  · rw [State.cell_faultPlot _ _ _ _ _ (by simp only [ek]; omega) (by simp only [ek]; omega) (by simp only [ek]; omega),
      State.cell_raise, State.cell_bump_self]
  · rwa [State.plotState, State.cell_raise, State.bump, State.cell_setCell_ne _ _ _ _ _ _ (by simp only [ek]; omega)]
  · exact (KeepsProgress.of_looms (by simp)).trans (State.faultPlot_keepsProgress _ p _)

end NoInstruction

end Sys2Proof.Machine

open Sys2Proof Sys2Proof.Machine

/-- Settles O18: HINT, BR and STEPEND at their words; a reserved opcode is found before the instruction is told (`seq_of_reserved`). -/
theorem hintsBranchesStepEnds : Obligations.HintsBranchesStepEnds := by
  refine ⟨fun s l p id => ⟨fun lead c hr hlead hc => ⟨fun hlast => ?_, fun t0 hlast hsoon => ?_⟩, fun field value target hr => ?_,
    fun x hr hd hx => stepend_ends hr hd hx⟩, fun s l p id w hstep hown hfree hstall hw hop => ?_⟩
  · exact ⟨_, exec_hint_sent hr hlead hc hlast, s.sendHint_spec p l lead c⟩
  · obtain ⟨hl, hcells, hch⟩ := (WithinLoom.bump (ks := [(0x3300 + p, 0xB)]) List.mem_cons_self (by decide) l.n s 64 1).trans
      (.updLoom _ _ l.n (fun x => { x with ip := x.ip + 1, stall := none }))
    exact ⟨_, exec_hint_counted hr hlead hc hlast hsoon, State.cell_bump_self _ _ _ _ _, State.loom_advance _ _, hl, hcells, hch⟩
  · obtain ⟨hl, -, -⟩ := WithinLoom.updLoom [] s l.n (fun x => { x with
      ip := if (s.loom l.n).desc.getD field.val 0 = value.toNat then target.toNat else x.ip + 1, stall := none })
    exact ⟨_, exec_br hr, by rw [State.loom_updLoom, if_pos rfl], hl, Changes.updLoom s l.n _⟩
  · have hseq := State.seq_of_reserved hstep hown hfree hstall hw hop
    obtain ⟨hcount, h5, hkeep⟩ := s.addrFault_spec l.n (State.lt_of_ownerOf hown)
    obtain ⟨hfg, hbg, hbytes, -⟩ := hkeep l.n
    refine ⟨s.addrFault p l.n, congrArg Host.Outcome.next (hseq 2 _), congrArg Host.Outcome.next (hseq 0xB _),
      congrArg Host.Outcome.next (hseq 8 _), hcount, h5, hfg, hbg, hbytes,
      Changes.of_fixed (s.addrFault_inner p l.n)⟩
end

section
/-! PROOFS. ROUTE_LOAD and CHANNEL_RELEASE_ROUTE (R187, R188, R190): the statement O29. -/

namespace Sys2Proof.Machine

/-! ### Cycles, and messages that wait -/

/-- Routes that lie on no cycle keep their entries (R190). -/
theorem State.checkCycles_of_acyclic {s : State} {p : Nat} {rs : List Route} (h0 : onCycle (rs.filter (fun r => r.cls == 0)) = [])
    (h1 : onCycle (rs.filter (fun r => r.cls == 1)) = []) : (s.checkCycles p rs).1 = s := by
  simp [State.checkCycles, h0, h1]

/-- Where no message waits at its source none enters the fabric (R188). -/
theorem State.unpark_of_none {s : State} (h : s.fabric.parked = []) : s.unpark = s := by
  have hs : { s with fabric := { s.fabric with parked := [] } } = s := by rw [← h]
  simpa [State.unpark, h] using hs

theorem State.unpark_offRoad (s : State) : s.unpark.offRoad = s.offRoad :=
  foldl_keeps State.offRoad _ (fun m _ u => u.inject_offRoad m) _

/-- Messages that go on leave the routes and the flows without one (R188). -/
theorem State.unpark_routes (s : State) : s.unpark.fabric.routes = s.fabric.routes ∧ s.unpark.fabric.derived = s.fabric.derived := by
  have h : s.unpark.offRoad.fabric = s.offRoad.fabric := by rw [State.unpark_offRoad]
  simp only [State.offRoad, Fabric.mk.injEq] at h
  obtain ⟨-, hroutes, -, -, -, -, -, -, -, -, hderived, -⟩ := h
  exact ⟨hroutes, hderived⟩

/-- Where no message of a fallback flow waits for a channel none looks again (R38). -/
theorem State.retryChans_of_none {s : State} (h : s.fabric.waitChan = []) : s.retryChans = s := by
  have hs : { s with fabric := { s.fabric with waitChan := [] } } = s := by rw [← h]
  simpa [State.retryChans, h] using hs

/-! ### ROUTE_LOAD -/

/-- Derived routes of a plot take the place of the fallback (R187). -/
def State.loadRoutes (s : State) (p : Nat) (im : Image) (ds : List Derived) : State :=
  { s with fabric := { s.fabric with routes := holdEntries s.fabric.routes (ds.flatMap (fun (d : Derived) => routeEntries p d.route))
                                     derived := s.fabric.derived.filter (fun d => !ds.contains d) } }.updPlot p
    (fun x => { x with image := some { im with routes := im.routes.map (newPath ds) } })

section RouteLoad

variable {s : State} {p : PlotId} {im : Image} {ds : List Derived} (him : (s.plot p.val).image = some im) (hne : ds ≠ [])
  (hds : ds = s.fabric.derived.filter (fun d => d.plot == p.val && d.missing == []))
  (hacyclic : ∀ rs : List Route, rs.Sublist (im.routes.map (newPath ds)) → onCycle rs = [])
include him hne hds hacyclic

theorem exec_routeLoad : exec (.routeLoad p) s =
    .next (((s.loadRoutes p.val im ds).raise 0x3103 p.val [p.val, s.cell 0x7021 1]).unpark) := by
  change execRouteLoad p s = _
  unfold execRouteLoad
  rw [him, ← hds]
  dsimp only
  rw [if_neg hne, State.checkCycles_of_acyclic]
  · rfl
  · exact hacyclic _ (List.filter_sublist.trans List.filter_sublist)
  · exact hacyclic _ (List.filter_sublist.trans List.filter_sublist)

theorem routeLoad_loads : ∃ t, exec (.routeLoad p) s = .next t ∧
    t.fabric.routes = holdEntries s.fabric.routes (ds.flatMap (fun d => routeEntries p.val d.route)) ∧
    t.fabric.derived = s.fabric.derived.filter (fun d => !ds.contains d) ∧
    Raises s t [(0x3103, p.val, [p.val, s.cell 0x7021 1])] ∧ SameBut [p.val] s.plot t.plot ∧
    Changes s t (.fabric :: .plots :: .led :: .looms :: Part.report) ∧
    (s.fabric.parked = [] → t.fabric.chans = s.fabric.chans ∧ Changes s t (.fabric :: .plots :: Part.report)) := by
  have hload : Changes s (s.loadRoutes p.val im ds) [.fabric, .plots] :=
    ((Changes.setFabric s _).mono (by decide)).trans ((Changes.updPlot _ _ _).mono (by decide))
  have hplot : SameBut [p.val] s.plot (s.loadRoutes p.val im ds).plot := fun q hq => by
    rw [State.loadRoutes, State.plot_updPlot, if_neg (fun e => hq (by simp [e]))]
    rfl
  have hraise := Changes.raise (s.loadRoutes p.val im ds) 0x3103 p.val [p.val, s.cell 0x7021 1]
  have hev : Raises s ((s.loadRoutes p.val im ds).raise 0x3103 p.val [p.val, s.cell 0x7021 1]) [(0x3103, p.val, [p.val, s.cell 0x7021 1])] :=
    Raises.one (congrArg Events.seq (hload .ev (by decide))) _ _ _
  have hfab : ((s.loadRoutes p.val im ds).raise 0x3103 p.val [p.val, s.cell 0x7021 1]).fabric = (s.loadRoutes p.val im ds).fabric :=
    hraise .fabric (by decide)
  have hsu : Changes s ((s.loadRoutes p.val im ds).raise 0x3103 p.val [p.val, s.cell 0x7021 1]) (.fabric :: .plots :: Part.report) :=
    (hload.mono (by decide)).trans (hraise.mono (by decide))
  have hplots : ((s.loadRoutes p.val im ds).raise 0x3103 p.val [p.val, s.cell 0x7021 1]).plots = (s.loadRoutes p.val im ds).plots :=
    hraise .plots (by decide)
  refine ⟨_, exec_routeLoad him hne hds hacyclic, ?_⟩
  generalize (s.loadRoutes p.val im ds).raise 0x3103 p.val [p.val, s.cell 0x7021 1] = u at hev hfab hsu hplots
  obtain ⟨hroutes, hderived⟩ := u.unpark_routes
  have hun : Changes u u.unpark [.fabric, .led, .looms] := Changes.of_offRoad u.unpark_offRoad
  refine ⟨by rw [hroutes, hfab]; rfl, by rw [hderived, hfab]; rfl, hev.congr (hun .ev (by decide)) (hun .now (by decide)), ?_,
    (hsu.mono (by decide)).trans (hun.mono (by decide)), fun hpark => ?_⟩
  · intro q hq
    rw [State.plot, hun .plots (by decide), hplots, ← State.plot, hplot q hq]
  · have hstay : u.unpark = u := State.unpark_of_none (by rw [hfab]; exact hpark)
    rw [hstay, hfab]
    exact ⟨rfl, hsu⟩

end RouteLoad

/-! ### CHANNEL_RELEASE_ROUTE -/

/-- A channel of an edge goes to the plot of a flow that waits there, and to all its flows that do (R188). -/
def State.giveChan (s : State) (site : Phys) (edge : Fin 4) (ch : Fin 16) (d : Derived) : State :=
  { s with fabric := { s.fabric with
      chanOwner := Tab.set 0 s.fabric.chanOwner (chanKey site.val edge.val ch.val) (d.plot + 1)
      derived := s.fabric.derived.map (fun x =>
        if x.plot = d.plot ∧ x.missing.contains (site.val * 4 + edge.val) then x.give (site.val * 4 + edge.val) ch.val else x) } }

section Release

variable {s : State} {site : Phys} {edge : Fin 4} {ch : Fin 16}

theorem exec_channelRelease_given {d : Derived}
    (hd : s.fabric.derived.find? (fun d => d.missing.contains (site.val * 4 + edge.val)) = some d)
    (hfree : s.chanPlot (chanKey site.val edge.val ch.val) = none) :
    exec (.channelReleaseRoute site edge ch) s = .next (s.giveChan site edge ch d) := by
  change execChannelReleaseRoute site edge ch s = _
  unfold execChannelReleaseRoute
  dsimp only
  rw [if_neg (by simp [hfree]), hd]
  rfl

theorem exec_channelRelease_stays (h : (s.chanPlot (chanKey site.val edge.val ch.val)).isSome = true ∨ (s.fabric.waitChan = [] ∧
    s.fabric.derived.find? (fun d => d.missing.contains (site.val * 4 + edge.val)) = none)) :
    exec (.channelReleaseRoute site edge ch) s = .next s := by
  change execChannelReleaseRoute site edge ch s = _
  unfold execChannelReleaseRoute
  dsimp only
  rcases h with h | ⟨hwait, hd⟩
  · rw [if_pos h]
  · rw [hd, State.retryChans_of_none hwait, ite_self]

/-- A read of a channel's owner after one was set. -/
theorem State.chanPlot_giveChan (s : State) (site : Phys) (edge : Fin 4) (ch : Fin 16) (d : Derived) (k : Nat) :
    (s.giveChan site edge ch d).chanPlot k = if chanKey site.val edge.val ch.val = k then some d.plot else s.chanPlot k := by
  unfold State.chanPlot State.giveChan
  dsimp only
  rw [Tab.get_set]
  by_cases h : chanKey site.val edge.val ch.val = k
  · rw [if_pos h, if_pos h, if_neg (Nat.succ_ne_zero _)]
    rfl
  · rw [if_neg h, if_neg h]

/-- No flow of the plot waits for the edge any more (R188). -/
theorem State.missing_giveChan {d x : Derived} (hx : x ∈ (s.giveChan site edge ch d).fabric.derived) (hp : x.plot = d.plot) :
    site.val * 4 + edge.val ∉ x.missing := by
  obtain ⟨y, -, rfl⟩ := List.mem_map.1 hx
  by_cases h : y.plot = d.plot ∧ y.missing.contains (site.val * 4 + edge.val) = true
  · rw [if_pos h]
    simp [Derived.give]
  · rw [if_neg h] at hp ⊢
    simpa [hp] using h

/-- The flows of other plots wait on (R188). -/
theorem State.mem_giveChan {d x : Derived} (hx : x ∈ s.fabric.derived) (hp : x.plot ≠ d.plot) :
    x ∈ (s.giveChan site edge ch d).fabric.derived :=
  List.mem_map.2 ⟨x, hx, if_neg (fun h => hp h.1)⟩

end Release

end Sys2Proof.Machine

open Sys2Proof Sys2Proof.Machine

/-- Settles O29: the routes that are loaded lie on no cycle; a channel that is released is given, or nothing happens. -/
theorem derivedRoutesAreLoaded : Obligations.DerivedRoutesAreLoaded := by
  refine ⟨fun s p im ds him hne hds hacyclic => routeLoad_loads him hne hds hacyclic,
    fun s site edge ch => ⟨fun d hd hfree => ?_, fun h => ⟨s, exec_channelRelease_stays h, rfl⟩⟩⟩
  refine ⟨_, exec_channelRelease_given hd hfree, by rw [State.chanPlot_giveChan, if_pos rfl], fun k hk => ?_,
    fun x hx hp => State.missing_giveChan hx hp, fun x hx hp => State.mem_giveChan hx hp, rfl, rfl, Changes.setFabric s _⟩
  rw [State.chanPlot_giveChan, if_neg (fun e => hk (by simp [e]))]
end

section
/-! SUPPORT. What the end of a load, of an image and of a plot's routes leaves (R38, R189, R206, R226, R242). -/

namespace Sys2Proof.Machine

/-! ### Folds over looms -/

/-- Looms that are each changed in the same, idempotent way. -/
theorem State.loom_foldl_updLoom {f : LoomSt → LoomSt} (hf : ∀ l, f (f l) = f l) (ls : List Nat) (s : State) (n : Nat) :
    (ls.foldl (fun s n => s.updLoom n f) s).loom n = if n ∈ ls then f (s.loom n) else s.loom n := by
  induction ls generalizing s with
  | nil => simp
  | cons k ls ih =>
    rw [List.foldl_cons, ih, State.loom_updLoom]
    by_cases hk : k = n
    · simp [hk, hf]
    · simp [hk, Ne.symm hk]

/-- Looms that are changed once each. -/
theorem State.loom_foldl_updLoom_of_nodup {α : Type} (k : α → Nat) (f : α → LoomSt → LoomSt) {xs : List α} (h : (xs.map k).Nodup)
    (s : State) : (∀ x ∈ xs, (xs.foldl (fun s x => s.updLoom (k x) (f x)) s).loom (k x) = f x (s.loom (k x))) ∧
      SameBut (xs.map k) s.loom (xs.foldl (fun s x => s.updLoom (k x) (f x)) s).loom := by
  induction xs generalizing s with
  | nil => exact ⟨fun x hx => absurd hx List.not_mem_nil, fun _ _ => rfl⟩
  | cons y ys ih =>
    obtain ⟨hy, hys⟩ := List.nodup_cons.1 h
    obtain ⟨hin, hout⟩ := ih hys (s.updLoom (k y) (f y))
    refine ⟨fun x hx => ?_, fun n hn => ?_⟩
    · rcases List.mem_cons.1 hx with rfl | hx
      · exact (hout _ hy).trans ((s.loom_updLoom _ _ _).trans (if_pos rfl))
      · have hne : k y ≠ k x := fun e => hy (e ▸ List.mem_map_of_mem hx)
        exact (hin x hx).trans (congrArg (f x) ((s.loom_updLoom _ _ _).trans (if_neg hne)))
    · obtain ⟨hny, hnys⟩ := not_or.1 (fun h' => hn (List.mem_cons.2 h'))
      exact (hout n hnys).trans ((s.loom_updLoom _ _ _).trans (if_neg (Ne.symm hny)))

/-! ### Routes are given up -/

theorem InFabric.foldl {α : Type} {f : State → α → State} (h : ∀ s x, InFabric s (f s x)) (xs : List α) (s : State) :
    InFabric s (xs.foldl f s) := by
  induction xs generalizing s with
  | nil => exact .refl s
  | cons x xs ih => exact (h s x).trans (ih _)

theorem State.takeChan_inFabric (s : State) (plot t e : Nat) : InFabric s (s.takeChan plot t e).2 := by
  unfold State.takeChan
  split
  · exact .refl s
  · split
    · exact ⟨_, rfl⟩
    · exact .refl s

/-- A message that joins a queue, or waits for a channel, changes the fabric alone (R38). -/
theorem State.enqueue_onlyFabric (s : State) (t e : Nat) (m : Transit) : InFabric s (s.enqueue t e m) := by
  have h := s.takeChan_inFabric m.msg.plot.toNat t e
  unfold State.enqueue
  split
  · split
    next k u hu => rw [hu] at h; exact h.trans ⟨_, rfl⟩
    next u hu => rw [hu] at h; exact h.trans ⟨_, rfl⟩
  · exact ⟨_, rfl⟩

theorem State.retryChans_inFabric (s : State) : InFabric s s.retryChans :=
  InFabric.trans ⟨_, rfl⟩ (InFabric.foldl (fun u (x : Nat × Transit) => u.enqueue_onlyFabric _ _ x.2) _ _)

theorem State.releaseRoutes_inFabric (s : State) (p : Nat) : InFabric s (s.releaseRoutes p) :=
  (InFabric.trans ⟨_, rfl⟩ (InFabric.foldl (fun u m => u.release_inFabric m) _ _)).trans (State.retryChans_inFabric _)

/-! ### The image is gone -/

/-- A plot's record without an image (R206). -/
def Plot.unloaded (x : Plot) : Plot :=
  { x with image := none, pools := [], saveExt := false, ring := [], written := [], retried := [] }

/-- What is not an Order Book entry. -/
theorem State.maybeFree_changes (s : State) (i : Nat) : Changes s (s.maybeFree i) [.ob] := by
  unfold State.maybeFree
  dsimp only
  split
  · intro q hq
    cases q
    case ob => exact absurd (by decide) hq
    all_goals rfl
  · exact Changes.refl _ _

/-- An image that goes leaves the fabric, the Cellar and the events alone; its looms have no program any more (R131, R226). -/
theorem State.unloadImage_spec (s : State) (p : Nat) :
    (∀ n, (s.unloadImage p).loom n = if n ∈ (s.plot p).looms then { s.loom n with program := [] } else s.loom n) ∧
      (∀ q, (s.unloadImage p).plot q = if p = q then (s.plot q).unloaded else s.plot q) ∧
      CellsBut [(0x9300 + p, 0)] s (s.unloadImage p) ∧
      Changes s (s.unloadImage p) [.samples, .plots, .led, .ob, .looms] := by
  unfold State.unloadImage
  extract_lets unchecked s0 s1 s2
  have h01 : Changes s s1 [.samples, .plots, .led] := by
    intro q hq
    cases q
    case samples | plots | led => exact absurd (by decide) hq
    all_goals rfl
  have h12 : Changes s1 s2 [.ob] := Changes.foldl (fun u i => (Changes.updOb u i _).trans (State.maybeFree_changes _ i)) _ s1
  have h23 : Changes s2 ((s2.plot p).looms.foldl (fun s n => s.updLoom n (fun l => { l with program := [] })) s2) [.looms] :=
    Changes.foldl (fun u n => Changes.updLoom u n _) _ s2
  have hplot : ∀ q, s2.plot q = if p = q then (s.plot q).unloaded else s.plot q := fun q => by
    rw [State.plot, h12 .plots (by decide)]
    exact s0.plot_updPlot p q Plot.unloaded
  have hlooms : (s2.plot p).looms = (s.plot p).looms := by
    rw [hplot, if_pos rfl]
    rfl
  have hloom : ∀ n, s2.loom n = s.loom n := fun n => by
    rw [State.loom, h12 .looms (by decide), h01 .looms (by decide), State.loom]
  refine ⟨fun n => ?_, fun q => ?_, ?_, (h01.mono (by decide)).trans ((h12.mono (by decide)).trans (h23.mono (by decide)))⟩
  · rw [State.loom_foldl_updLoom (f := fun l => { l with program := [] }) (fun _ => rfl), hlooms, hloom]
  · rw [← hplot, State.plot, h23 .plots (by decide), State.plot]
  · exact ((CellsBut.of_led rfl).setCell _ _ _ (by decide) List.mem_cons_self).trans
      (CellsBut.of_led ((h23 .led (by decide)).trans (h12 .led (by decide))))

/-! ### A load fails -/

theorem State.noteBusy_changes (s : State) (p : Nat) : Changes s (s.noteBusy p) [.plots] := by
  unfold State.noteBusy
  split
  · exact Changes.refl _ _
  · exact Changes.updPlot s p _

theorem State.plot_noteBusy (s : State) (p q : Nat) : ∃ b, (s.noteBusy p).plot q = { s.plot q with busyAt := b } := by
  unfold State.noteBusy
  split
  · exact ⟨_, rfl⟩
  · rw [State.plot_updPlot]
    split
    · exact ⟨_, rfl⟩
    · exact ⟨_, rfl⟩

theorem State.plot_noteBusy_ne (s : State) {p q : Nat} (h : p ≠ q) : (s.noteBusy p).plot q = s.plot q := by
  unfold State.noteBusy
  split
  · rfl
  · rw [State.plot_updPlot, if_neg h]

/-- What a failing load gives up first: its channels, and the note that it is in progress. -/
def State.dropLoad (s : State) (p : Nat) : State :=
  ((s.noteBusy p).releaseRoutes p).updPlot p (fun x => { x with loading := none, abandon := false })

/-- Before its image is applied, a load that fails gives its extents back as they are (R242). -/
theorem State.failLoad_of_early {s : State} {p : Nat} (h : s.cell (0x3100 + p) 3 < 4) : ∃ c, s.failLoad p =
    (((({ s.dropLoad p with cellar := c } : State).unloadImage p).setCell (0x3100 + p) 1 0).setCell (0x3100 + p) 2 0).setCell
      (0x3100 + p) 3 6 := by
  unfold State.failLoad
  dsimp only
  rw [if_neg (Nat.not_le.2 h)]
  exact ⟨_, rfl⟩

theorem State.dropLoad_changes (s : State) (p : Nat) : Changes s (s.dropLoad p) [.plots, .fabric] :=
  (((s.noteBusy_changes p).mono (by decide)).trans ((State.releaseRoutes_inFabric _ p).changes.mono (by decide))).trans
    ((Changes.updPlot _ p _).mono (by decide))

/-- It raises nothing then; it reads REFUSED, and no load is in progress. -/
theorem State.failLoad_early {s : State} {p : Nat} (h : s.cell (0x3100 + p) 3 < 4) :
    (s.failLoad p).cell (0x3100 + p) 3 = 6 ∧ ((s.failLoad p).plot p).loading = none ∧
      Changes s (s.failLoad p) [.plots, .fabric, .cellar, .samples, .led, .ob, .looms] := by
  obtain ⟨c, hc⟩ := State.failLoad_of_early h
  have hd := s.dropLoad_changes p
  have hload : ((s.dropLoad p).plot p).loading = none := by rw [State.dropLoad, State.plot_updPlot, if_pos rfl]
  have hcellar := Changes.setCellar (s.dropLoad p) c
  rw [hc]
  generalize s.dropLoad p = u at hd hload hcellar
  obtain ⟨-, hplot, -, hun⟩ := State.unloadImage_spec ({ u with cellar := c } : State) p
  generalize ({ u with cellar := c } : State).unloadImage p = v at hplot hun
  have hcells : Changes v (((v.setCell (0x3100 + p) 1 0).setCell (0x3100 + p) 2 0).setCell (0x3100 + p) 3 6) [.led] :=
    ((Changes.setCell v _ _ _).trans (Changes.setCell _ _ _ _)).trans (Changes.setCell _ _ _ _)
  refine ⟨State.cell_setCell_self _ _ _ _, ?_, (((hd.mono (by decide)).trans (hcellar.mono (by decide))).trans
    (hun.mono (by decide))).trans (hcells.mono (by decide))⟩
  rw [State.plot, hcells .plots (by decide), ← State.plot, hplot, if_pos rfl]
  exact hload

end Sys2Proof.Machine
end

section
/-! PROOFS. IMAGE_AUTHENTICATED, IMAGE_APPLIED and LOAD_READY (R190, R205, R404, R416, R431): the statement O27. -/

namespace Sys2Proof.Machine

/-! ### IMAGE_AUTHENTICATED -/

section Authenticated

variable {s : State} {p : PlotId} {im : Image} {gen : Nat} {x : Port} {ok : Bool}
  (hload : (s.plot p.val).loading = some (im, gen, x))
include hload

/-- While a Constable takeover runs authentication waits (R404). -/
theorem exec_imageAuthenticated_waits (hbusy : s.constableBusy = true) : exec (.imageAuthenticated p ok) s = .next s := by
  change execImageAuthenticated p ok s = _
  unfold execImageAuthenticated
  rw [hload]
  exact congrArg _ (if_pos (.inr hbusy))

variable (hfetched : s.cell (0x3100 + p.val) 3 = 2) (hbusy : s.constableBusy = false)
  (habandon : (s.plot p.val).abandon = false)
include hfetched hbusy habandon

/-- The signature verifies under the plot's image key, or the load fails (R411, R416). -/
theorem exec_imageAuthenticated : exec (.imageAuthenticated p ok) s = .next (
    if ok = true ∧ im.signer = s.blobAt (0x8100 + p.val) 1 ∧ (s.blobAt (0x8100 + p.val) 1).any (fun b => b != 0) = true then
      s.setCell (0x3100 + p.val) 3 3
    else (s.raise 0x8010 p.val [p.val]).failLoad p.val) := by
  change execImageAuthenticated p ok s = _
  unfold execImageAuthenticated
  rw [hload]
  dsimp only
  rw [if_neg (by simp [hfetched, hbusy]), if_neg (by simp [habandon])]

theorem imageAuthenticated_accepts (hok : ok = true) (hkey : im.signer = s.blobAt (0x8100 + p.val) 1)
    (hset : (s.blobAt (0x8100 + p.val) 1).any (fun b => b != 0) = true) :
    ∃ t, exec (.imageAuthenticated p ok) s = .next t ∧ t.cell (0x3100 + p.val) 3 = 3 ∧ CellsBut [(0x3100 + p.val, 3)] s t ∧
      Changes s t [.led] := by
  rw [exec_imageAuthenticated hload hfetched hbusy habandon, if_pos ⟨hok, hkey, hset⟩]
  exact ⟨_, rfl, State.cell_setCell_self _ _ _ _, (CellsBut.of_led rfl).setCell _ _ _ (by decide) List.mem_cons_self,
    Changes.setCell s _ _ _⟩

theorem imageAuthenticated_refuses (hno : ok = false ∨ im.signer ≠ s.blobAt (0x8100 + p.val) 1 ∨
      (s.blobAt (0x8100 + p.val) 1).any (fun b => b != 0) = false) :
    ∃ t, exec (.imageAuthenticated p ok) s = .next t ∧ t.cell (0x3100 + p.val) 3 = 6 ∧ (t.plot p.val).loading = none ∧
      Raises s t [(0x8010, p.val, [p.val])] ∧ Changes s t Part.work := by
  have hnot : ¬ (ok = true ∧ im.signer = s.blobAt (0x8100 + p.val) 1 ∧
      (s.blobAt (0x8100 + p.val) 1).any (fun b => b != 0) = true) := by
    rintro ⟨hok, hkey, hset⟩
    rcases hno with h | h | h
    · exact Bool.false_ne_true (h.symm.trans hok)
    · exact h hkey
    · exact Bool.false_ne_true (h.symm.trans hset)
  rw [exec_imageAuthenticated hload hfetched hbusy habandon, if_neg hnot]
  have hev : Raises s (s.raise 0x8010 p.val [p.val]) [(0x8010, p.val, [p.val])] := Raises.one rfl _ _ _
  have hraise := Changes.raise s 0x8010 p.val [p.val]
  have hcell : (s.raise 0x8010 p.val [p.val]).cell (0x3100 + p.val) 3 < 4 := by rw [State.cell_raise, hfetched]; decide
  generalize s.raise 0x8010 p.val [p.val] = u at hev hraise hcell
  obtain ⟨h6, hnone, hch⟩ := State.failLoad_early hcell
  exact ⟨_, rfl, h6, hnone, hev.congr (hch .ev (by decide)) (hch .now (by decide)),
    (hraise.mono (by decide)).trans (hch.mono (by decide))⟩

end Authenticated

/-! ### IMAGE_APPLIED -/

/-- The engine's copies and the save extents of an image (R169, R431). -/
def State.takeRoom (s : State) (p : Nat) (im : Image) : State :=
  (s.takeEngine p 0 (s.firstFree p (copyExtents im))).takeSave p im

/-- Every loom of an image gets its program (R205). -/
def State.placePrograms (s : State) (im : Image) : State :=
  im.looms.foldl (fun s x => s.updLoom x.loom.n (fun l => { l with program := x.words, ip := 0, ctr := [] })) s

/-- The entries of the Ledger that an image sets: Bench split, class word, image number, quality layers (R131, R136, R178, R205). -/
def State.writeSetup (s : State) (p : Nat) (im : Image) : State :=
  (((((((s.setCell (0x6100 + p) 1 (if im.split then 1 else 0)).setCell (0x6100 + p) 2
    (if im.split then im.weightPart.toNat else 0)).setCell (0x6100 + p) 3 (if im.split then im.actPart.toNat else 0)).setCell
    (0x6100 + p) 4 (if im.split then 64 - im.weightPart.toNat - im.actPart.toNat else 0)).setCell (0x3100 + p) 1 im.klass).setCell
    (0x3100 + p) 2 im.imageId).setCell (0x9300 + p) 0 im.quality.length)

/-- The measurements of an image's quality layers begin anew, and its route entries are loaded (R131, R189). -/
def State.loadEntries (s : State) (p : Nat) (im : Image) : State :=
  { s with meas := s.meas.map (fun (e : Nat × Meas) => if e.1 / 256 = 0x9300 + p then (e.1, { e.2 with ready := false }) else e)
           fabric := { s.fabric with routes := holdEntries s.fabric.routes (im.routes.flatMap (routeEntries p)) } }

/-- The plot's record takes the image (R205). -/
def State.noteImage (s : State) (p : Nat) (im : Image) : State :=
  s.updPlot p (fun x => { x with
    image := some im, pools := im.poolList.map (fun (d : Pool) => (d.slot.val, ({ desc := d } : PoolSt))), written := [], retried := []
    quality := [], qualityOver := [], formed := 0 })

/-- The image in place, as far as nothing but the map generation is concerned. -/
def State.applyImage (s : State) (p : Nat) (im : Image) : State :=
  (((((s.takeRoom p im).placePrograms im).writeSetup p im).loadEntries p im).noteImage p im)

theorem State.takeEngine_changes (s : State) (p use : Nat) (xs : List Nat) : Changes s (s.takeEngine p use xs) [.cellar] :=
  Changes.setCellar s _

theorem State.takeSave_changes (s : State) (p : Nat) (im : Image) : Changes s (s.takeSave p im) [.cellar, .plots] := by
  unfold State.takeSave
  split
  · exact Changes.refl _ _
  · split
    · exact ((Changes.foldl (fun v t => v.takeEngine_changes p 6 _) _ s).mono (by decide)).trans
        ((Changes.updPlot _ p _).mono (by decide))
    · exact Changes.refl _ _

theorem State.takeRoom_changes (s : State) (p : Nat) (im : Image) : Changes s (s.takeRoom p im) [.cellar, .plots] :=
  ((s.takeEngine_changes p 0 _).mono (by decide)).trans (State.takeSave_changes _ p im)

theorem State.placePrograms_changes (s : State) (im : Image) : Changes s (s.placePrograms im) [.looms] :=
  Changes.foldl (fun u _ => Changes.updLoom u _ _) im.looms s

theorem State.writeSetup_changes (s : State) (p : Nat) (im : Image) : Changes s (s.writeSetup p im) [.led] := by
  unfold State.writeSetup
  exact (((((((Changes.setCell s _ _ _).trans (Changes.setCell _ _ _ _)).trans (Changes.setCell _ _ _ _)).trans
    (Changes.setCell _ _ _ _)).trans (Changes.setCell _ _ _ _)).trans (Changes.setCell _ _ _ _)).trans (Changes.setCell _ _ _ _))

/-- What the image set reads as it says. -/
theorem State.cell_writeSetup (s : State) {p : Nat} (hp : p < 16) (im : Image) :
    (s.writeSetup p im).cell (0x3100 + p) 1 = im.klass ∧ (s.writeSetup p im).cell (0x3100 + p) 2 = im.imageId ∧
      (s.writeSetup p im).cell (0x6100 + p) 1 = (if im.split then 1 else 0) ∧
      (s.writeSetup p im).cell (0x9300 + p) 0 = im.quality.length ∧ (s.writeSetup p im).cell 0x7021 1 = s.cell 0x7021 1 := by
  unfold State.writeSetup
  have h31 : 0x3100 + p ≠ 0x7021 := by omega
  have h61 : 0x6100 + p ≠ 0x7021 := by omega
  simp (disch := decide) [State.cell_setCell, h31, h61]

theorem State.loadEntries_changes (s : State) (p : Nat) (im : Image) : Changes s (s.loadEntries p im) [.meas, .fabric] := by
  intro q hq
  cases q
  case meas | fabric => exact absurd (by decide) hq
  all_goals rfl

section Applied

variable {s : State} {p : PlotId} {im : Image} {gen : Nat} {x : Port}

/-- An image in place: looms, routes, Ledger and the plot's record, and nothing beyond. -/
theorem State.applyImage_spec (s : State) (p : PlotId) (im : Image) (hnodup : (im.looms.map (fun y => y.loom.n)).Nodup) :
    (s.applyImage p.val im).cell (0x3100 + p.val) 1 = im.klass ∧ (s.applyImage p.val im).cell (0x3100 + p.val) 2 = im.imageId ∧
      (s.applyImage p.val im).cell (0x6100 + p.val) 1 = (if im.split then 1 else 0) ∧
      (s.applyImage p.val im).cell (0x9300 + p.val) 0 = im.quality.length ∧
      (s.applyImage p.val im).cell 0x7021 1 = s.cell 0x7021 1 ∧
      (∀ y ∈ im.looms, ((s.applyImage p.val im).loom y.loom.n).program = y.words ∧ ((s.applyImage p.val im).loom y.loom.n).ip = 0) ∧
      SameBut (im.looms.map (fun y => y.loom.n)) s.loom (s.applyImage p.val im).loom ∧
      (s.applyImage p.val im).fabric.routes = holdEntries s.fabric.routes (im.routes.flatMap (routeEntries p.val)) ∧
      ((s.applyImage p.val im).plot p.val).image = some im ∧
      Changes s (s.applyImage p.val im) [.cellar, .looms, .led, .meas, .fabric, .plots] := by
  have hroom := s.takeRoom_changes p.val im
  have hloom0 : (s.takeRoom p.val im).loom = s.loom := funext fun n => by rw [State.loom, hroom .looms (by decide), State.loom]
  unfold State.applyImage
  generalize s.takeRoom p.val im = u at hroom hloom0
  have hprog := u.placePrograms_changes im
  obtain ⟨hin, hout⟩ := State.loom_foldl_updLoom_of_nodup (fun y : Program => y.loom.n)
    (fun y l => { l with program := y.words, ip := 0, ctr := [] }) hnodup u
  change ∀ y ∈ im.looms, (u.placePrograms im).loom y.loom.n = _ at hin
  change SameBut _ u.loom (u.placePrograms im).loom at hout
  generalize u.placePrograms im = v at hprog hin hout
  have hset := v.writeSetup_changes p.val im
  obtain ⟨h1, h2, h3, h4, h5⟩ := v.cell_writeSetup p.isLt im
  generalize v.writeSetup p.val im = w at hset h1 h2 h3 h4 h5
  have hent := w.loadEntries_changes p.val im
  have hnote : Changes (w.loadEntries p.val im) ((w.loadEntries p.val im).noteImage p.val im) [.plots] := Changes.updPlot _ _ _
  have hled : v.led = s.led := (hprog .led (by decide)).trans (hroom .led (by decide))
  have hloom : ((w.loadEntries p.val im).noteImage p.val im).loom = v.loom := funext fun n => by
    rw [State.loom, hnote .looms (by decide), hent .looms (by decide), hset .looms (by decide), State.loom]
  refine ⟨h1, h2, h3, h4, h5.trans (State.cell_of_led hled _ _), fun y hy => ?_, ?_, ?_, ?_, ?_⟩
  · rw [hloom, hin y hy]
    exact ⟨rfl, rfl⟩
  · rw [hloom, ← hloom0]
    exact hout
  · have hfab : w.fabric = s.fabric :=
      (hset .fabric (by decide)).trans ((hprog .fabric (by decide)).trans (hroom .fabric (by decide)))
    change holdEntries w.fabric.routes _ = _
    rw [hfab]
  · rw [State.noteImage, State.plot_updPlot, if_pos rfl]
  · exact ((((hroom.mono (by decide)).trans (hprog.mono (by decide))).trans (hset.mono (by decide))).trans
      (hent.mono (by decide))).trans (hnote.mono (by decide))

/-- What follows the check of cycles: the map generation and LOAD_STATE 4, and routes that the map has overtaken (R187, R205). -/
def State.stampImage (s : State) (p : Nat) (im : Image) (gen : Nat) : State :=
  let u := (s.setCell (0x3100 + p) 4 gen).setCell (0x3100 + p) 3 4
  if gen = u.cell 0x7021 1 then u
  else ((im.routes.filter (fun r => u.deriveHops r != routePath r)).foldl (fun s r => s.rederive p r) u).setCell
    (0x3100 + p) 4 (u.cell 0x7021 1)

variable (hload : (s.plot p.val).loading = some (im, gen, x)) (habandon : (s.plot p.val).abandon = false)
  (hauth : s.cell (0x3100 + p.val) 3 = 3) (hbusy : s.constableBusy = false)
  (hroom : copyExtents im ≤ (s.firstFree p.val (copyExtents im)).length) (hnodup : (im.looms.map (fun y => y.loom.n)).Nodup)
  (hgen : gen = s.cell 0x7021 1) (h0 : onCycle (im.routes.filter (fun r => r.cls == 0)) = [])
  (h1 : onCycle (im.routes.filter (fun r => r.cls == 1)) = [])
include hload habandon hauth hbusy hroom hnodup hgen h0 h1

theorem exec_imageApplied : exec (.imageApplied p) s =
    .next (((s.applyImage p.val im).setCell (0x3100 + p.val) 4 gen).setCell (0x3100 + p.val) 3 4) := by
  have hc := State.checkCycles_of_acyclic (s := s.applyImage p.val im) (p := p.val) h0 h1
  have hmap : gen = (((s.applyImage p.val im).setCell (0x3100 + p.val) 4 gen).setCell (0x3100 + p.val) 3 4).cell 0x7021 1 := by
    obtain ⟨-, -, -, -, h7021, -⟩ := s.applyImage_spec p im hnodup
    rw [State.cell_setCell _ _ _ _ _ _ (by decide) (by decide), State.cell_setCell _ _ _ _ _ _ (by decide) (by decide),
      if_neg (by omega), if_neg (by omega), h7021, hgen]
  change execImageApplied p s = _
  unfold execImageApplied
  rw [hload]
  dsimp only
  rw [if_neg (by simp [hauth, hbusy]), if_neg (by simp [habandon, hroom])]
  change Host.Outcome.next (((s.applyImage p.val im).checkCycles p.val im.routes).1.stampImage p.val im gen) = _
  rw [hc, State.stampImage]
  exact congrArg _ (if_pos hmap)

theorem imageApplied_applies : ∃ t, exec (.imageApplied p) s = .next t ∧ t.cell (0x3100 + p.val) 3 = 4 ∧
    t.cell (0x3100 + p.val) 1 = im.klass ∧ t.cell (0x3100 + p.val) 2 = im.imageId ∧ t.cell (0x3100 + p.val) 4 = gen ∧
    t.cell (0x6100 + p.val) 1 = (if im.split then 1 else 0) ∧ t.cell (0x9300 + p.val) 0 = im.quality.length ∧
    (∀ y ∈ im.looms, (t.loom y.loom.n).program = y.words ∧ (t.loom y.loom.n).ip = 0) ∧
    SameBut (im.looms.map (fun y => y.loom.n)) s.loom t.loom ∧
    t.fabric.routes = holdEntries s.fabric.routes (im.routes.flatMap (routeEntries p.val)) ∧ (t.plot p.val).image = some im ∧
    Changes s t [.cellar, .looms, .led, .meas, .fabric, .plots] := by
  refine ⟨_, exec_imageApplied hload habandon hauth hbusy hroom hnodup hgen h0 h1, ?_⟩
  obtain ⟨hk, hid, hsplit, hquality, -, hprog, hlooms, hroutes, himage, hch⟩ := s.applyImage_spec p im hnodup
  generalize s.applyImage p.val im = u at hk hid hsplit hquality hprog hlooms hroutes himage hch
  have hcells : ∀ i j, j < 256 → ((u.setCell (0x3100 + p.val) 4 gen).setCell (0x3100 + p.val) 3 4).cell i j =
      if 0x3100 + p.val = i ∧ 3 = j then 4 else if 0x3100 + p.val = i ∧ 4 = j then gen else u.cell i j := fun i j hj => by
    rw [State.cell_setCell _ _ _ _ _ _ (by decide) hj, State.cell_setCell _ _ _ _ _ _ (by decide) hj]
  have hset : Changes u ((u.setCell (0x3100 + p.val) 4 gen).setCell (0x3100 + p.val) 3 4) [.led] :=
    (Changes.setCell _ _ _ _).trans (Changes.setCell _ _ _ _)
  refine ⟨?_, ?_, ?_, ?_, ?_, ?_, hprog, hlooms, hroutes, himage, hch.trans (hset.mono (by decide))⟩ <;>
    simp (disch := decide) [hcells, hk, hid, hsplit, hquality]

end Applied

/-! ### LOAD_READY -/

section Ready

variable {s : State} {p : PlotId} {im : Image} {gen : Nat} {x : Port}

/-- The load is done (R205). -/
def State.endsReady (s : State) (p : Nat) : State :=
  ((s.noteBusy p).updPlot p (fun x => { x with loading := none })).setCell (0x3100 + p) 3 5

theorem exec_loadReady (hload : (s.plot p.val).loading = some (im, gen, x)) (habandon : (s.plot p.val).abandon = false)
    (happlied : s.cell (0x3100 + p.val) 3 = 4) (hwritten : ∀ n, n < im.manifest.length → (s.plot p.val).written.contains n = true)
    (hwrites : ∀ w ∈ s.cellar.writes, w.plot ≠ p.val) : exec (.loadReady p) s =
      .next (if (s.endsReady p.val).plotState p.val = 1 then (s.endsReady p.val).setCell (0x3000 + p.val) 1 2
        else s.endsReady p.val) := by
  have hall : ((List.range im.manifest.length).all (fun n => (s.plot p.val).written.contains n) &&
      s.cellar.writes.all (fun w => w.plot != p.val)) = true := by
    rw [Bool.and_eq_true, List.all_eq_true, List.all_eq_true]
    exact ⟨fun n hn => hwritten n (List.mem_range.1 hn), fun w hw => by simpa using hwrites w hw⟩
  change execLoadReady p s = _
  unfold execLoadReady
  dsimp only
  rw [hload]
  dsimp only
  rw [if_neg (by simp [happlied]), if_neg (by simp [habandon]), if_pos hall]
  rfl

theorem State.endsReady_spec (s : State) (p : Nat) : ((s.endsReady p).plot p).loading = none ∧
    SameBut [p] s.plot (s.endsReady p).plot ∧ (∀ i j, j < 256 → (s.endsReady p).cell i j =
      if 0x3100 + p = i ∧ 3 = j then 5 else s.cell i j) ∧ Changes s (s.endsReady p) [.led, .plots] := by
  have hnote := s.noteBusy_changes p
  have hplot : ∀ q, (s.endsReady p).plot q = ((s.noteBusy p).updPlot p (fun x => { x with loading := none })).plot q := fun _ => rfl
  refine ⟨?_, fun q hq => ?_, fun i j hj => ?_, ((hnote.mono (by decide)).trans ((Changes.updPlot _ p _).mono (by decide))).trans
    ((Changes.setCell _ _ _ _).mono (by decide))⟩
  · rw [hplot, State.plot_updPlot, if_pos rfl]
  · have hne : p ≠ q := fun e => hq (by simp [e])
    rw [hplot, State.plot_updPlot, if_neg hne, s.plot_noteBusy_ne hne]
  · rw [State.endsReady, State.cell_setCell _ _ _ _ _ _ (by decide) hj, State.cell_updPlot,
      State.cell_of_led (hnote .led (by decide))]

theorem loadReady_serves (hload : (s.plot p.val).loading = some (im, gen, x)) (habandon : (s.plot p.val).abandon = false)
    (happlied : s.cell (0x3100 + p.val) 3 = 4) (hwritten : ∀ n, n < im.manifest.length → (s.plot p.val).written.contains n = true)
    (hwrites : ∀ w ∈ s.cellar.writes, w.plot ≠ p.val) (hst : s.plotState p.val = 1) :
    ∃ t, exec (.loadReady p) s = .next t ∧ t.cell (0x3100 + p.val) 3 = 5 ∧ t.plotState p.val = 2 ∧
      (t.plot p.val).loading = none ∧ SameBut [p.val] s.plot t.plot ∧
      CellsBut [(0x3100 + p.val, 3), (0x3000 + p.val, 1)] s t ∧ Changes s t [.led, .plots] := by
  obtain ⟨hnone, hplots, hcell, hch⟩ := s.endsReady_spec p.val
  have hst' : (s.endsReady p.val).plotState p.val = 1 := by
    rw [State.plotState, hcell _ _ (by decide), if_neg (by omega)]
    exact hst
  rw [exec_loadReady hload habandon happlied hwritten hwrites, if_pos hst']
  have hcell' : ∀ i j, j < 256 → ((s.endsReady p.val).setCell (0x3000 + p.val) 1 2).cell i j =
      if 0x3000 + p.val = i ∧ 1 = j then 2 else if 0x3100 + p.val = i ∧ 3 = j then 5 else s.cell i j := fun i j hj => by
    rw [State.cell_setCell _ _ _ _ _ _ (by decide) hj, hcell i j hj]
  refine ⟨_, rfl, ?_, ?_, hnone, hplots, fun i j hj hn => ?_, hch.trans ((Changes.setCell _ _ _ _).mono (by decide))⟩
  · rw [hcell' _ _ (by decide), if_neg (by omega), if_pos ⟨rfl, rfl⟩]
  · rw [State.plotState, hcell' _ _ (by decide), if_pos ⟨rfl, rfl⟩]
  · rw [hcell' i j hj, if_neg, if_neg]
    · rintro ⟨rfl, rfl⟩
      exact hn List.mem_cons_self
    · rintro ⟨rfl, rfl⟩
      exact hn (List.mem_cons_of_mem _ List.mem_cons_self)

end Ready

end Sys2Proof.Machine

open Sys2Proof Sys2Proof.Machine

/-- Settles O27: a signature that verifies or not, an image that is applied, and a load that is ready. -/
theorem imagesAreAuthenticatedApplied : Obligations.ImagesAreAuthenticatedApplied := by
  refine ⟨fun s p im gen x ok hload hfetched habandon => ⟨fun hbusy => ⟨s, exec_imageAuthenticated_waits hload hbusy, rfl⟩,
      fun hbusy hok hkey hset => imageAuthenticated_accepts hload hfetched hbusy habandon hok hkey hset,
      fun hbusy hno => imageAuthenticated_refuses hload hfetched hbusy habandon hno⟩,
    fun s p im gen x hload habandon => ⟨fun hauth hbusy hroom hnodup hgen h0 h1 =>
      imageApplied_applies hload habandon hauth hbusy hroom hnodup hgen h0 h1,
      fun happlied hwritten hwrites hst => loadReady_serves hload habandon happlied hwritten hwrites hst⟩⟩
end

section
/-! PROOFS. LOAD_REQUEST and RELOAD_DRAIN_END (R179, R185, R186, R205, R206): the statement O26. -/

namespace Sys2Proof.Machine

/-! ### What the checks of a load ask -/

/-- Two states agree on all that the checks of a load look at (R179, R181, R185, R186). -/
def SameForLoad (s t : State) : Prop :=
  Changes s t [.plots, .power, .sessions] ∧ ∀ q, (t.plot q).looms = (s.plot q).looms

section SameForLoad

variable {s t : State} (h : SameForLoad s t)
include h

theorem State.classMatches_of_same (im : Image) : t.classMatches im = s.classMatches im := by
  obtain ⟨hch, -⟩ := h
  have hfactory : t.factory = s.factory := hch .factory (by decide)
  have hotp : t.otp = s.otp := hch .otp (by decide)
  have hlevel : t.level = s.level := by unfold State.level State.persistent; rw [hfactory, hotp]
  have hword : t.classWord = s.classWord := by unfold State.classWord; rw [hfactory, hlevel]
  unfold State.classMatches
  rw [hlevel, hword]

theorem State.imageBad_of_same (p : Nat) (im : Image) : t.imageBad p im = s.imageBad p im := by
  obtain ⟨hch, hlooms⟩ := h
  have hcellar : t.cellar = s.cellar := hch .cellar (by decide)
  unfold State.imageBad
  rw [hlooms, hcellar]

theorem State.freeOn_of_same : t.freeOn = s.freeOn := by
  obtain ⟨hch, -⟩ := h
  have hfree : t.extentFree = s.extentFree := funext fun x => by
    unfold State.extentFree State.extents
    rw [show t.cellar = s.cellar from hch .cellar (by decide), show t.factory = s.factory from hch .factory (by decide)]
  funext lt
  unfold State.freeOn
  rw [hfree]

/-- Room for the plan, beside the other plots' (R185, R186). -/
theorem State.headroomOk_of_same (p : Nat) (im : Image) : t.headroomOk p im = s.headroomOk p im := by
  obtain ⟨hch, hlooms⟩ := h
  have htiles : t.plotTiles p = s.plotTiles p := by unfold State.plotTiles; rw [hlooms]
  have hcell : t.cell = s.cell := funext fun i => funext fun j => State.cell_of_led (hch .led (by decide)) i j
  have hplots : t.plotsOn = s.plotsOn := funext fun lt => by
    unfold State.plotsOn State.plotsNow State.plotExists State.plotState
    simp only [hlooms, hcell]
  have hchan : t.chanPlot = s.chanPlot := funext fun k => by
    unfold State.chanPlot
    rw [show t.fabric = s.fabric from hch .fabric (by decide)]
  unfold State.headroomOk
  rw [htiles, hplots, hchan]

/-- Room for the save extents (R169). -/
theorem State.saveFits_of_same (p : Nat) (im : Image) :
    t.plotTiles p = s.plotTiles p ∧ t.saveFits p im = s.saveFits p im ∧ t.saveTotal p im = s.saveTotal p im := by
  have hfree := State.freeOn_of_same h
  obtain ⟨-, hlooms⟩ := h
  have htiles : t.plotTiles p = s.plotTiles p := by unfold State.plotTiles; rw [hlooms]
  have hneed : t.saveNeed = s.saveNeed := funext fun q => funext fun lt => funext fun i => by unfold State.saveNeed; rw [hlooms]
  refine ⟨htiles, funext fun xs => ?_, ?_⟩
  · unfold State.saveFits
    rw [htiles, hneed, hfree]
  · unfold State.saveTotal
    rw [htiles, hneed]

theorem State.planBad_of_same (p : Nat) (im : Image) (gen : Nat) : t.planBad p im gen = s.planBad p im gen := by
  have hon := State.freeOn_of_same h
  obtain ⟨htiles, hsave, htotal⟩ := State.saveFits_of_same h p im
  have hroom := State.headroomOk_of_same h p im
  obtain ⟨hch, -⟩ := h
  have hcellar : t.cellar = s.cellar := hch .cellar (by decide)
  have hfactory : t.factory = s.factory := hch .factory (by decide)
  have hcell : t.cell = s.cell := funext fun i => funext fun j => State.cell_of_led (hch .led (by decide)) i j
  have hfree : t.extentFree = s.extentFree := by unfold State.extentFree State.extents; rw [hcellar, hfactory]
  have hext : t.freeExtents = s.freeExtents := by unfold State.freeExtents State.extents; rw [hcellar, hfactory]
  have haddr : t.addrOk = s.addrOk := by unfold State.addrOk; rw [hfactory]
  have hnow : t.plotsNow = s.plotsNow := by unfold State.plotsNow State.plotExists State.plotState; rw [hcell]
  have hmine : t.plotExtents = s.plotExtents := by unfold State.plotExtents; rw [hcellar]
  have hquota : t.unusedQuota = s.unusedQuota := by unfold State.unusedQuota; rw [hcell, hmine]
  have hchan : t.chanPlot = s.chanPlot := by unfold State.chanPlot; rw [show t.fabric = s.fabric from hch .fabric (by decide)]
  have hin : t.inboundOf p = s.inboundOf p := by
    unfold State.inboundOf State.rateSum State.pathDesc State.blobAt
    rw [show t.blob = s.blob from hch .blob (by decide)]
  unfold State.planBad
  rw [hon, htiles, hsave, htotal, hroom, hcellar, hcell, hfree, hext, haddr, hnow, hmine, hquota, hchan, hin]

end SameForLoad

theorem State.wakeP4_changes (s : State) : Changes s s.wakeP4 [.power] := by
  unfold State.wakeP4
  split
  · exact Changes.setPower s _
  · exact Changes.refl _ _

/-- A trigger wakes the plot and nothing else (R347, R348). -/
theorem State.trigger_sameForLoad (s : State) (p : Nat) : SameForLoad s (s.trigger p) := by
  have hw := s.wakeP4_changes
  have hplot : s.wakeP4.plot = s.plot := funext fun q => by rw [State.plot, hw .plots (by decide), State.plot]
  unfold State.trigger
  dsimp only
  split
  · exact ⟨hw.mono (by decide), fun q => by rw [hplot]⟩
  · refine ⟨(hw.mono (by decide)).trans ((Changes.updPlot _ p _).mono (by decide)), fun q => ?_⟩
    rw [State.plot_updPlot, hplot]
    split <;> rfl

/-- A request for a load that was heard, with the plot woken (R347, R386). -/
theorem State.heard_trigger_sameForLoad (s : State) (f : Sender) (p : Nat) : SameForLoad s ((s.heard f).trigger p) := by
  have hh := s.heard_changes f
  obtain ⟨ht, hl⟩ := (s.heard f).trigger_sameForLoad p
  refine ⟨(hh.mono (by decide)).trans ht, fun q => (hl q).trans ?_⟩
  rw [State.plot, hh .plots (by decide), State.plot]

/-! ### The Check phase -/

/-- A load is refused (R242). -/
def State.refuseLoad (s : State) (p : Nat) : State :=
  (s.updPlot p (fun y => { y with loading := none, abandon := false })).setCell (0x3100 + p) 3 6

/-- The plan is taken as a whole, and the fetch begins (R185, R205). -/
def State.beginFetch (s : State) (p : Nat) (im : Image) (gen : Nat) (x : Port) : State :=
  ((s.takePlan p im).updPlot p (fun y => { y with loading := some (im, gen, x), abandon := false })).setCell (0x3100 + p) 3 2

section Check

variable {s : State} {p : Nat} {im : Image} {gen : Nat} {x : Port} {st : Status}

theorem State.checkLoad_of_class (h : s.classMatches im = false) :
    s.checkLoad p im gen x = ((s.raise 0x3101 p [p, im.klass]).refuseLoad p, .denied) := by
  unfold State.checkLoad
  exact if_pos h

theorem State.checkLoad_of_image (hc : s.classMatches im = true) (h : s.imageBad p im = some st) :
    s.checkLoad p im gen x = (s.refuseLoad p, st) := by
  unfold State.checkLoad
  dsimp only
  rw [if_neg (by simp [hc]), h]
  rfl

theorem State.checkLoad_of_plan (hc : s.classMatches im = true) (hi : s.imageBad p im = none)
    (h : s.planBad p im gen = some st) : s.checkLoad p im gen x = (s.refuseLoad p, st) := by
  unfold State.checkLoad
  dsimp only
  rw [if_neg (by simp [hc]), hi]
  dsimp only
  rw [h]
  rfl

theorem State.checkLoad_of_passed (hc : s.classMatches im = true) (hi : s.imageBad p im = none)
    (h : s.planBad p im gen = none) : s.checkLoad p im gen x = (s.beginFetch p im gen x, .done) := by
  unfold State.checkLoad
  dsimp only
  rw [if_neg (by simp [hc]), hi]
  dsimp only
  rw [h]
  rfl

theorem State.refuseLoad_changes (s : State) (p : Nat) : Changes s (s.refuseLoad p) [.led, .plots] :=
  ((Changes.updPlot s p _).mono (by decide)).trans ((Changes.setCell _ _ _ _).mono (by decide))

/-- A change of a plot that keeps how it drains. -/
theorem State.drain_updPlot (s : State) (p : Nat) (f : Plot → Plot) (hf : ∀ y, (f y).drain = y.drain) :
    ((s.updPlot p f).plot p).drain = (s.plot p).drain := by
  rw [s.plot_updPlot p p f, if_pos rfl, hf]

theorem State.drain_refuseLoad (s : State) (p : Nat) : ((s.refuseLoad p).plot p).drain = (s.plot p).drain :=
  s.drain_updPlot p (fun y => { y with loading := none, abandon := false }) fun _ => rfl

theorem State.drain_beginFetch (s : State) (p : Nat) (im : Image) (gen : Nat) (x : Port) :
    ((s.beginFetch p im gen x).plot p).drain = (s.plot p).drain :=
  (s.takePlan p im).drain_updPlot p (fun y => { y with loading := some (im, gen, x), abandon := false }) fun _ => rfl

theorem State.refuseLoad_cells (s : State) (p : Nat) :
    (s.refuseLoad p).cell (0x3100 + p) 3 = 6 ∧ CellsBut [(0x3100 + p, 3)] s (s.refuseLoad p) :=
  ⟨State.cell_setCell_self _ _ _ _, (CellsBut.of_led rfl).setCell _ _ _ (by decide) List.mem_cons_self⟩

theorem State.takePlan_changes (s : State) (p : Nat) (im : Image) : Changes s (s.takePlan p im) [.cellar, .fabric] := by
  intro q hq
  cases q
  case cellar | fabric => exact absurd (by decide) hq
  all_goals rfl

theorem State.beginFetch_changes (s : State) (p : Nat) (im : Image) (gen : Nat) (x : Port) :
    Changes s (s.beginFetch p im gen x) [.led, .plots, .cellar, .fabric] :=
  (((s.takePlan_changes p im).mono (by decide)).trans ((Changes.updPlot _ p _).mono (by decide))).trans
    ((Changes.setCell _ _ _ _).mono (by decide))

theorem State.beginFetch_cells (s : State) (p : Nat) (im : Image) (gen : Nat) (x : Port) :
    (s.beginFetch p im gen x).cell (0x3100 + p) 3 = 2 ∧ CellsBut [(0x3100 + p, 3)] s (s.beginFetch p im gen x) :=
  ⟨State.cell_setCell_self _ _ _ _, (CellsBut.of_led rfl).setCell _ _ _ (by decide) List.mem_cons_self⟩

/-- A table in which one value was written at several numbers. -/
theorem Tab.get_foldl_set {α β : Type} [DecidableEq α] (d v : α) (key : β → Nat) (xs : List β) (t : Tab α) (k : Nat) :
    Tab.get d (xs.foldl (fun t e => Tab.set d t (key e) v) t) k = if ∃ e ∈ xs, key e = k then v else Tab.get d t k := by
  induction xs generalizing t with
  | nil => simp
  | cons e xs ih =>
    rw [List.foldl_cons, ih, Tab.get_set]
    by_cases he : key e = k
    · simp [he]
    · simp [he]

/-- Every extent and every channel of the plan is the plot's (R185). -/
theorem State.beginFetch_takes (s : State) (p : Nat) (im : Image) (gen : Nat) (x : Port) :
    (∀ e ∈ im.extents, Tab.get 0 (s.beginFetch p im gen x).cellar.owner (recExtent e) = 1 + p) ∧
      (∀ k ∈ routeChans im, (s.beginFetch p im gen x).chanPlot k = some p) ∧
      (∀ y, (∀ e ∈ im.extents, recExtent e ≠ y) →
        Tab.get 0 (s.beginFetch p im gen x).cellar.owner y = Tab.get 0 s.cellar.owner y) ∧
      (s.beginFetch p im gen x).cellar.mem = s.cellar.mem ∧ (s.beginFetch p im gen x).cellar.erase = s.cellar.erase := by
  refine ⟨fun e he => ?_, fun k hk => ?_, fun y hy => ?_, rfl, rfl⟩
  · exact (Tab.get_foldl_set 0 (1 + p) recExtent im.extents s.cellar.owner _).trans (if_pos ⟨e, he, rfl⟩)
  · have hown : Tab.get 0 (s.beginFetch p im gen x).fabric.chanOwner k = p + 1 :=
      (Tab.get_foldl_set 0 (p + 1) id (routeChans im) s.fabric.chanOwner k).trans (if_pos ⟨k, hk, rfl⟩)
    simp [State.chanPlot, hown]
  · refine (Tab.get_foldl_set 0 (1 + p) recExtent im.extents s.cellar.owner y).trans (if_neg ?_)
    rintro ⟨e, he, h⟩
    exact hy e he h

/-- However the checks end: LOAD_STATE reads 2 or REFUSED, and what is no plan's stays as it is. -/
theorem State.checkLoad_spec (s : State) (p : Nat) (im : Image) (gen : Nat) (x : Port) :
    ((s.checkLoad p im gen x).1.cell (0x3100 + p) 3 = 2 ∨ (s.checkLoad p im gen x).1.cell (0x3100 + p) 3 = 6) ∧
      CellsBut [(0x3100 + p, 3)] s (s.checkLoad p im gen x).1 ∧ ((s.checkLoad p im gen x).1.plot p).drain = (s.plot p).drain ∧
      (s.checkLoad p im gen x).1.cellar.erase = s.cellar.erase ∧ (s.checkLoad p im gen x).1.cellar.mem = s.cellar.mem ∧
      Changes s (s.checkLoad p im gen x).1 (.led :: .plots :: .cellar :: .fabric :: Part.report) := by
  have hrefuse : ∀ u : State, Changes s u Part.report →
      ((u.refuseLoad p).cell (0x3100 + p) 3 = 2 ∨ (u.refuseLoad p).cell (0x3100 + p) 3 = 6) ∧
      CellsBut [(0x3100 + p, 3)] s (u.refuseLoad p) ∧ ((u.refuseLoad p).plot p).drain = (s.plot p).drain ∧
      (u.refuseLoad p).cellar.erase = s.cellar.erase ∧ (u.refuseLoad p).cellar.mem = s.cellar.mem ∧
      Changes s (u.refuseLoad p) (.led :: .plots :: .cellar :: .fabric :: Part.report) := fun u hu => by
    obtain ⟨h6, hcells⟩ := u.refuseLoad_cells p
    have hch := (hu.mono (by decide)).trans ((u.refuseLoad_changes p).mono (qs := .led :: .plots :: .cellar :: .fabric :: Part.report)
      (by decide))
    have hcellar : (u.refuseLoad p).cellar = s.cellar := (u.refuseLoad_changes p .cellar (by decide)).trans (hu .cellar (by decide))
    refine ⟨.inr h6, (CellsBut.of_led (hu .led (by decide))).trans hcells, (u.drain_refuseLoad p).trans ?_, by rw [hcellar], by rw [hcellar], hch⟩
    rw [State.plot, hu .plots (by decide), State.plot]
  cases hc : s.classMatches im with
  | false =>
    rw [State.checkLoad_of_class hc]
    exact hrefuse _ (Changes.raise s _ _ _)
  | true =>
    cases hi : s.imageBad p im with
    | some st =>
      rw [State.checkLoad_of_image hc hi]
      exact hrefuse s (Changes.refl _ _)
    | none =>
      cases hpl : s.planBad p im gen with
      | some st =>
        rw [State.checkLoad_of_plan hc hi hpl]
        exact hrefuse s (Changes.refl _ _)
      | none =>
        rw [State.checkLoad_of_passed hc hi hpl]
        obtain ⟨h2, hcells⟩ := s.beginFetch_cells p im gen x
        exact ⟨.inl h2, hcells, s.drain_beginFetch p im gen x, rfl, rfl, (s.beginFetch_changes p im gen x).mono (by decide)⟩

end Check

/-! ### LOAD_REQUEST -/

section Request

variable {s v : State} {f : Sender} {p : PlotId} {body : List Byte} {im : Image}

/-- The port that a load's descriptor names. -/
def loadPort (body : List Byte) : Port := if bit (field body 16 1) 0 then .b else .a

/-- While its plot drains or is erased a load is answered BUSY (R205). -/
theorem exec_loadRequest_busy (hw : WriteArrives s f (0x3100 + p.val) 0x10 body) (hfields : field body 16 16 / 2 = 0)
    (hst : s.plotState p.val = 3 ∨ s.plotState p.val = 4) : exec (.loadRequest f p body im) s =
      .next ((s.heard f).answer f (writeReq (0x3100 + p.val) 0x10 body) { status := .busy }) := by
  obtain ⟨harr, hcheck⟩ := hw
  have hst' : (s.heard f).plotState p.val = 3 ∨ (s.heard f).plotState p.val = 4 := by
    simpa only [State.plotState, State.cell_heard] using hst
  change execLoadRequest f p body im s = _
  refine congrArg Host.Outcome.next ((State.serve_arrives (q := writeReq (0x3100 + p.val) 0x10 body) harr _).trans ?_)
  dsimp only
  rw [State.writeCheck_heard, hcheck]
  dsimp only
  rw [if_neg (by simp [hfields]), if_pos (hst'.elim .inl (fun h => .inr (.inl h)))]

/-- A first load is checked at once (R205). -/
theorem exec_loadRequest_checked (hw : WriteArrives s f (0x3100 + p.val) 0x10 body) (hfields : field body 16 16 / 2 = 0)
    (hst : s.plotState p.val = 1) (hdrain : (s.plot p.val).drain = none)
    (hload : s.cell (0x3100 + p.val) 3 = 0 ∨ 5 ≤ s.cell (0x3100 + p.val) 3) (hv : v = (s.heard f).trigger p.val) :
    exec (.loadRequest f p body im) s = .next ((v.checkLoad p.val im (field body 12 4) (loadPort body)).1.answer f
      (writeReq (0x3100 + p.val) 0x10 body) { status := (v.checkLoad p.val im (field body 12 4) (loadPort body)).2 }) := by
  obtain ⟨harr, hcheck⟩ := hw
  have hst' : (s.heard f).plotState p.val = 1 := by simpa only [State.plotState, State.cell_heard] using hst
  have hplot : (s.heard f).plot p.val = s.plot p.val := by rw [State.plot, s.heard_changes f .plots (by decide), State.plot]
  subst hv
  change execLoadRequest f p body im s = _
  refine congrArg Host.Outcome.next ((State.serve_arrives (q := writeReq (0x3100 + p.val) 0x10 body) harr _).trans ?_)
  dsimp only
  rw [State.writeCheck_heard, hcheck]
  dsimp only
  rw [if_neg (by simp [hfields]), if_neg, if_pos hst']
  · rfl
  · rw [hst', hplot, hdrain, State.cell_heard]
    rintro (h | h | h | h)
    · exact absurd h (by decide)
    · exact absurd h (by decide)
    · exact absurd h (by decide)
    · omega

/-- A load that is refused in the Check phase takes nothing (R179, R205). -/
theorem loadRequest_refused {u : State} {st : Status} (hv : v = (s.heard f).trigger p.val) (hu : Changes v u Part.report) :
    Answers ((u.refuseLoad p.val).answer f (writeReq (0x3100 + p.val) 0x10 body) { status := st }) f st ∧
      ((u.refuseLoad p.val).answer f (writeReq (0x3100 + p.val) 0x10 body) { status := st }).cell (0x3100 + p.val) 3 = 6 ∧
      CellsBut [(0x3100 + p.val, 3)] s ((u.refuseLoad p.val).answer f (writeReq (0x3100 + p.val) 0x10 body) { status := st }) ∧
      Changes u ((u.refuseLoad p.val).answer f (writeReq (0x3100 + p.val) 0x10 body) { status := st })
        [.led, .plots, .out, .mailbox, .sessions] := by
  obtain ⟨h6, hcells⟩ := u.refuseLoad_cells p.val
  obtain ⟨hsv, -⟩ := s.heard_trigger_sameForLoad f p.val
  have hled : u.led = s.led := (hu .led (by decide)).trans (hv ▸ hsv .led (by decide))
  have hans := State.answer_changes (u.refuseLoad p.val) f (writeReq (0x3100 + p.val) 0x10 body) { status := st }
  exact ⟨State.answer_answers _ _ _ _, (State.cell_answer _ _ _ _ _ _).trans h6,
    ((CellsBut.of_led hled).trans hcells).trans (CellsBut.of_led (hans .led (by decide))),
    ((u.refuseLoad_changes p.val).mono (by decide)).trans (hans.mono (by decide))⟩

variable (hw : WriteArrives s f (0x3100 + p.val) 0x10 body) (hfields : field body 16 16 / 2 = 0)
  (hst : s.plotState p.val = 1) (hdrain : (s.plot p.val).drain = none)
  (hload : s.cell (0x3100 + p.val) 3 = 0 ∨ 5 ≤ s.cell (0x3100 + p.val) 3)
include hw hfields hst hdrain hload

theorem loadRequest_class (hc : s.classMatches im = false) :
    ∃ t, exec (.loadRequest f p body im) s = .next t ∧ Answers t f .denied ∧ t.cell (0x3100 + p.val) 3 = 6 ∧
      Raises s t [(0x3101, p.val, [p.val, im.klass])] ∧ t.cellar = s.cellar ∧ t.fabric = s.fabric ∧
      CellsBut [(0x3100 + p.val, 3)] s t ∧ Changes s t [.led, .plots, .power, .ev, .sessions, .out, .mailbox] := by
  have hsame := s.heard_trigger_sameForLoad f p.val
  obtain ⟨v, hv⟩ : ∃ v, v = (s.heard f).trigger p.val := ⟨_, rfl⟩
  rw [exec_loadRequest_checked hw hfields hst hdrain hload hv]
  rw [← hv] at hsame
  rw [State.checkLoad_of_class ((State.classMatches_of_same hsame im).trans hc)]
  obtain ⟨hsv, -⟩ := hsame
  have hev : Raises s (v.raise 0x3101 p.val [p.val, im.klass]) [(0x3101, p.val, [p.val, im.klass])] :=
    Raises.one (congrArg Events.seq (hsv .ev (by decide))) _ _ _
  have hraise := Changes.raise v 0x3101 p.val [p.val, im.klass]
  obtain ⟨hans, h6, hcells, hch⟩ := loadRequest_refused (body := body) (st := .denied) hv hraise
  exact ⟨_, rfl, hans, h6, hev.congr (hch .ev (by decide)) (hch .now (by decide)),
    (hch .cellar (by decide)).trans ((hraise .cellar (by decide)).trans (hsv .cellar (by decide))),
    (hch .fabric (by decide)).trans ((hraise .fabric (by decide)).trans (hsv .fabric (by decide))), hcells,
    ((hsv.mono (by decide)).trans (hraise.mono (by decide))).trans (hch.mono (by decide))⟩

/-- A check of the image or of the plan that fails. -/
theorem loadRequest_fails {st : Status} (hc : s.classMatches im = true) (h : s.imageBad p.val im = some st ∨
      s.imageBad p.val im = none ∧ s.planBad p.val im (field body 12 4) = some st) :
    ∃ t, exec (.loadRequest f p body im) s = .next t ∧ Answers t f st ∧ t.cell (0x3100 + p.val) 3 = 6 ∧
      CellsBut [(0x3100 + p.val, 3)] s t ∧ Changes s t [.led, .plots, .power, .out, .mailbox, .sessions] := by
  have hsame := s.heard_trigger_sameForLoad f p.val
  obtain ⟨v, hv⟩ : ∃ v, v = (s.heard f).trigger p.val := ⟨_, rfl⟩
  rw [exec_loadRequest_checked hw hfields hst hdrain hload hv]
  rw [← hv] at hsame
  have hclass := (State.classMatches_of_same hsame im).trans hc
  have himage := State.imageBad_of_same hsame p.val im
  have hcheck : v.checkLoad p.val im (field body 12 4) (loadPort body) = (v.refuseLoad p.val, st) := by
    rcases h with hi | ⟨hi, hpl⟩
    · exact State.checkLoad_of_image hclass (himage.trans hi)
    · exact State.checkLoad_of_plan hclass (himage.trans hi) ((State.planBad_of_same hsame p.val im _).trans hpl)
  rw [hcheck]
  obtain ⟨hsv, -⟩ := hsame
  obtain ⟨hans, h6, hcells, hch⟩ := loadRequest_refused (body := body) (st := st) hv (Changes.refl v _)
  exact ⟨_, rfl, hans, h6, hcells, (hsv.mono (by decide)).trans (hch.mono (by decide))⟩

theorem loadRequest_passes (hc : s.classMatches im = true) (hi : s.imageBad p.val im = none)
    (hpl : s.planBad p.val im (field body 12 4) = none) :
    ∃ t, exec (.loadRequest f p body im) s = .next t ∧ Answers t f .done ∧ t.cell (0x3100 + p.val) 3 = 2 ∧
      (∀ e ∈ im.extents, Tab.get 0 t.cellar.owner (recExtent e) = 1 + p.val) ∧ (∀ k ∈ routeChans im, t.chanPlot k = some p.val) ∧
      (∀ x, (∀ e ∈ im.extents, recExtent e ≠ x) → Tab.get 0 t.cellar.owner x = Tab.get 0 s.cellar.owner x) ∧
      t.cellar.mem = s.cellar.mem ∧ CellsBut [(0x3100 + p.val, 3)] s t ∧
      Changes s t [.led, .plots, .power, .cellar, .fabric, .out, .mailbox, .sessions] := by
  have hsame := s.heard_trigger_sameForLoad f p.val
  obtain ⟨v, hv⟩ : ∃ v, v = (s.heard f).trigger p.val := ⟨_, rfl⟩
  rw [exec_loadRequest_checked hw hfields hst hdrain hload hv]
  rw [← hv] at hsame
  rw [State.checkLoad_of_passed ((State.classMatches_of_same hsame im).trans hc) ((State.imageBad_of_same hsame p.val im).trans hi)
    ((State.planBad_of_same hsame p.val im _).trans hpl)]
  obtain ⟨hsv, -⟩ := hsame
  have hcellar : v.cellar = s.cellar := hsv .cellar (by decide)
  obtain ⟨howner, hchans, hothers, hmem, -⟩ := v.beginFetch_takes p.val im (field body 12 4) (loadPort body)
  obtain ⟨h2, hcells⟩ := v.beginFetch_cells p.val im (field body 12 4) (loadPort body)
  have hch := v.beginFetch_changes p.val im (field body 12 4) (loadPort body)
  rw [hcellar] at hothers hmem
  generalize v.beginFetch p.val im (field body 12 4) (loadPort body) = u at howner hchans hothers hmem h2 hcells hch
  have hans := State.answer_changes u f (writeReq (0x3100 + p.val) 0x10 body) { status := .done }
  have hac : (u.answer f (writeReq (0x3100 + p.val) 0x10 body) { status := .done }).cellar = u.cellar := hans .cellar (by decide)
  have haf : (u.answer f (writeReq (0x3100 + p.val) 0x10 body) { status := .done }).fabric = u.fabric := hans .fabric (by decide)
  refine ⟨_, rfl, State.answer_answers _ _ _ _, (State.cell_answer _ _ _ _ _ _).trans h2, ?_, fun k hk => ?_, ?_, ?_,
    ((CellsBut.of_led (hsv .led (by decide))).trans hcells).trans (CellsBut.of_led (hans .led (by decide))),
    ((hsv.mono (by decide)).trans (hch.mono (by decide))).trans (hans.mono (by decide))⟩
  · rw [hac]
    exact howner
  · rw [State.chanPlot, haf]
    exact hchans k hk
  · rw [hac]
    exact hothers
  · rw [hac]
    exact hmem

end Request

/-! ### RELOAD_DRAIN_END -/

/-- A loom of a plot whose work is gone (R419). -/
def LoomSt.cleared (l : LoomSt) : LoomSt :=
  { l with bench := [], void := [], fg := {}, bg := {}, bgReady := false, accs := [], pending := [], step := none, stall := none
           saved := false, queues := [], inPos := [] }

theorem State.newEpochs_changes (s : State) (ls : List Nat) : Changes s (s.newEpochs ls) [.epochs] :=
  Changes.foldl (fun u _ => Changes.newEpoch u _) ls s

theorem State.clearLooms_spec (s : State) (p : Nat) : Changes s (s.clearLooms p) [.epochs, .looms] ∧
    ∀ n ∈ (s.plot p).looms, (s.clearLooms p).loom n = (s.loom n).cleared := by
  have hep := s.newEpochs_changes (s.plot p).looms
  have hloom : ∀ n, (s.newEpochs (s.plot p).looms).loom n = s.loom n := fun n => by
    rw [State.loom, hep .looms (by decide), State.loom]
  refine ⟨(hep.mono (by decide)).trans ((Changes.foldl (fun u _ => Changes.updLoom u _ _) _ _).mono (by decide)), fun n hn => ?_⟩
  exact (State.loom_foldl_updLoom (f := LoomSt.cleared) (fun _ => rfl) (s.plot p).looms (s.newEpochs (s.plot p).looms) n).trans
    ((if_pos hn).trans (congrArg LoomSt.cleared (hloom n)))

/-- The extents of a plot without an owner, each marked to be erased (R206, R421). -/
def State.markErased (s : State) (p : Nat) : State :=
  { s with cellar := { s.cellar with
      owner := Tab.keep (fun x => !(s.plotExtents p ++ s.engineExtents p).contains x) s.cellar.owner
      use := Tab.keep (fun x => !(s.plotExtents p ++ s.engineExtents p).contains x) s.cellar.use
      erase := (s.plotExtents p ++ s.engineExtents p).foldl (fun t x => Tab.set 0 t x (1 + p)) s.cellar.erase } }

theorem State.releaseExtents_eq (s : State) (p : Nat) :
    s.releaseExtents p = if s.plotExtents p ++ s.engineExtents p = [] then s.markErased p
      else (s.markErased p).raise 0x8040 p [p, (s.plotExtents p ++ s.engineExtents p).length] := rfl

/-- The extents of a plot lose their owner and wait to be erased; what they hold stays till then (R206, R421). -/
theorem State.releaseExtents_spec (s : State) (p : Nat) :
    (∀ e ∈ s.plotExtents p, Tab.get 0 (s.releaseExtents p).cellar.erase e = 1 + p) ∧
      (s.releaseExtents p).cellar.mem = s.cellar.mem ∧ Changes s (s.releaseExtents p) (.cellar :: Part.report) := by
  have h1 : Changes s (s.markErased p) [.cellar] := by
    intro q hq
    cases q
    case cellar => exact absurd (by decide) hq
    all_goals rfl
  have herase : ∀ e ∈ s.plotExtents p, Tab.get 0 (s.markErased p).cellar.erase e = 1 + p := fun e he =>
    (Tab.get_foldl_set 0 (1 + p) id _ s.cellar.erase e).trans (if_pos ⟨e, List.mem_append_left _ he, rfl⟩)
  rw [State.releaseExtents_eq]
  split
  · exact ⟨herase, rfl, h1.mono (by decide)⟩
  · have hraise := Changes.raise (s.markErased p) 0x8040 p [p, (s.plotExtents p ++ s.engineExtents p).length]
    have hcellar : State.cellar _ = State.cellar _ := hraise .cellar (by decide)
    exact ⟨fun e he => (congrArg (fun c => Tab.get 0 (Cellar.erase c) e) hcellar).trans (herase e he),
      (congrArg Cellar.mem hcellar).trans rfl, (h1.mono (by decide)).trans (hraise.mono (by decide))⟩

/-- A plot whose old image is gone, CREATED again (R206). -/
def State.unloaded (s : State) (p : Nat) : State :=
  (((((((s.releaseExtents p).setCell (0x3100 + p) 1 0).setCell (0x3100 + p) 2 0).releaseRoutes p).clearLooms p).unloadImage p).updPlot p
    (fun y => { y with drain := none })).setCell (0x3000 + p) 1 1

section Reload

variable {s : State} {p : PlotId} {im : Image} {gen : Nat} {x : Port}

theorem exec_reloadDrainEnd (hdrain : (s.plot p.val).drain = some .reload) (hload : (s.plot p.val).loading = some (im, gen, x)) :
    exec (.reloadDrainEnd p) s = .next (if s.plotDrained p.val = false then s
      else ((s.unloaded p.val).checkLoad p.val im gen x).1) := by
  change execReloadDrainEnd p s = _
  unfold execReloadDrainEnd
  rw [hdrain, hload]
  rfl

/-- What the end of the drain leaves, before the new image is checked. -/
theorem State.unloaded_spec (s : State) (p : Nat) : ((s.unloaded p).plot p).drain = none ∧ (s.unloaded p).plotState p = 1 ∧
    (∀ e ∈ s.plotExtents p, Tab.get 0 (s.unloaded p).cellar.erase e = 1 + p) ∧
    (∀ n ∈ (s.plot p).looms, (s.unloaded p).loom n = { (s.loom n).cleared with program := [] }) ∧
    (s.unloaded p).cellar.mem = s.cellar.mem ∧ Changes s (s.unloaded p) (.epochs :: Part.work) := by
  obtain ⟨herase, hmem, hrel⟩ := s.releaseExtents_spec p
  have hset : Changes (s.releaseExtents p) (((s.releaseExtents p).setCell (0x3100 + p) 1 0).setCell (0x3100 + p) 2 0) [.led] :=
    (Changes.setCell _ _ _ _).trans (Changes.setCell _ _ _ _)
  unfold State.unloaded
  generalize ((s.releaseExtents p).setCell (0x3100 + p) 1 0).setCell (0x3100 + p) 2 0 = u1 at hset
  have hroutes := (u1.releaseRoutes_inFabric p).changes
  generalize u1.releaseRoutes p = u2 at hroutes
  obtain ⟨hclear, hcleared⟩ := u2.clearLooms_spec p
  generalize u2.clearLooms p = u3 at hclear hcleared
  obtain ⟨hprog, hplot, -, hun⟩ := u3.unloadImage_spec p
  generalize u3.unloadImage p = u4 at hprog hplot hun
  have hlast : Changes u4 ((u4.updPlot p (fun y => { y with drain := none })).setCell (0x3000 + p) 1 1) [.plots, .led] :=
    ((Changes.updPlot u4 p _).mono (by decide)).trans ((Changes.setCell _ _ _ _).mono (by decide))
  have h02 : Changes s u2 (.cellar :: .led :: .fabric :: Part.report) :=
    ((hrel.mono (by decide)).trans (hset.mono (by decide))).trans (hroutes.mono (by decide))
  have hplot2 : u2.plot = s.plot := funext fun q => by rw [State.plot, h02 .plots (by decide), State.plot]
  have hloom2 : u2.loom = s.loom := funext fun n => by rw [State.loom, h02 .looms (by decide), State.loom]
  have hplot3 : u3.plot = s.plot := funext fun q => by rw [State.plot, hclear .plots (by decide), ← State.plot, hplot2]
  have hcellar : ((u4.updPlot p (fun y => { y with drain := none })).setCell (0x3000 + p) 1 1).cellar = (s.releaseExtents p).cellar :=
    (hlast .cellar (by decide)).trans ((hun .cellar (by decide)).trans ((hclear .cellar (by decide)).trans
      ((hroutes .cellar (by decide)).trans (hset .cellar (by decide)))))
  refine ⟨?_, State.cell_setCell_self _ _ _ _, fun e he => by rw [hcellar, herase e he], fun n hn => ?_, by rw [hcellar, hmem], ?_⟩
  · have hplot := u4.plot_updPlot p p (fun y => { y with drain := none })
    rw [if_pos rfl] at hplot
    exact congrArg Plot.drain hplot
  · rw [State.loom, hlast .looms (by decide), ← State.loom, hprog, hplot3, if_pos hn, hcleared n (by rw [hplot2]; exact hn), hloom2]
  · exact (((h02.mono (by decide)).trans (hclear.mono (by decide))).trans (hun.mono (by decide))).trans (hlast.mono (by decide))

theorem reloadDrainEnd_checks (hdrain : (s.plot p.val).drain = some .reload)
    (hload : (s.plot p.val).loading = some (im, gen, x)) (hdone : s.plotDrained p.val = true) :
    ∃ t, exec (.reloadDrainEnd p) s = .next t ∧ (t.plot p.val).drain = none ∧ t.plotState p.val = 1 ∧
      (∀ e ∈ s.plotExtents p.val, Tab.get 0 t.cellar.erase e = 1 + p.val) ∧
      (∀ n ∈ (s.plot p.val).looms, (t.loom n).bench = [] ∧ (t.loom n).void = [] ∧ (t.loom n).fg = {} ∧ (t.loom n).bg = {} ∧
        (t.loom n).program = []) ∧
      (t.cell (0x3100 + p.val) 3 = 2 ∨ t.cell (0x3100 + p.val) 3 = 6) ∧ t.cellar.mem = s.cellar.mem ∧
      Changes s t (.epochs :: Part.work) := by
  rw [exec_reloadDrainEnd hdrain hload, if_neg (by simp [hdone])]
  obtain ⟨hd, hst, herase, hlooms, hmem, hun⟩ := s.unloaded_spec p.val
  generalize s.unloaded p.val = u at hd hst herase hlooms hmem hun
  obtain ⟨hstate, hcells, hdr, her, hme, hch⟩ := u.checkLoad_spec p.val im gen x
  refine ⟨_, rfl, hdr.trans hd, (hcells _ _ (by decide) (by simp)).trans hst, fun e he => by rw [her, herase e he],
    fun n hn => ?_, hstate, hme.trans hmem, hun.trans (hch.mono (by decide))⟩
  rw [State.loom, hch .looms (by decide), ← State.loom, hlooms n hn]
  exact ⟨rfl, rfl, rfl, rfl, rfl⟩

end Reload

end Sys2Proof.Machine

open Sys2Proof Sys2Proof.Machine

/-- Settles O26: a load request by the first check that fails, and the end of the drain of a reload. -/
theorem loadsAreCheckedBeforeTheyAreTaken : Obligations.LoadsAreCheckedBeforeTheyAreTaken := by
  refine ⟨fun s f p body im hw hfields => ⟨fun hst hdrain hload => ⟨fun hc => loadRequest_class hw hfields hst hdrain hload hc,
      fun st hc hi => loadRequest_fails hw hfields hst hdrain hload hc (.inl hi),
      fun st hc hi hpl => loadRequest_fails hw hfields hst hdrain hload hc (.inr ⟨hi, hpl⟩),
      fun hc hi hpl => loadRequest_passes hw hfields hst hdrain hload hc hi hpl⟩, fun hst => ?_⟩,
    fun s p im gen x hdrain hload => ⟨fun hno => ⟨s, ?_, rfl⟩, fun hdone => reloadDrainEnd_checks hdrain hload hdone⟩⟩
  · exact ⟨_, exec_loadRequest_busy hw hfields hst, State.answer_answers _ _ _ _,
      ((s.heard_changes f).mono (by decide)).trans (State.answer_changes _ _ _ _)⟩
  · rw [exec_reloadDrainEnd hdrain hload, if_pos hno]
end

section
/-! PROOFS. How queue entries complete, stalled reads go on and streamed passes end (R192, R197, R199, R204): the statement O30. -/

namespace Sys2Proof.Machine

/-! ### What the parts of a completion may change -/

/-- A write that leaves no delta behind (R158). -/
theorem State.settledWrite_changes (s : State) (a plot : Nat) (data : List Byte) :
    Changes s (s.settledWrite a plot data) [.cellar, .led, .meas] := by
  have hw := s.unitWrite_changes (caTile a) (dataRow (caTile a % 12) (caOffset a)) (caOffset a % 4096) plot data
  have hd : ∀ (u : State) (w : CWrite), Changes u (u.applyDelta w) [.cellar, .led, .meas] := fun u w => by
    unfold State.applyDelta
    dsimp only
    split
    · exact u.cstore_changes _ _
    · exact Changes.refl u _
  unfold State.settledWrite
  dsimp only
  split
  · split
    · exact (hw.trans (hd _ _)).trans ((Changes.setCellar _ _).mono (by decide))
    · exact hw
  · exact hw

theorem State.longWrite_changes (s : State) (a plot fuel : Nat) (data : List Byte) :
    Changes s (s.longWrite a plot fuel data) [.cellar, .led, .meas] := by
  induction fuel generalizing s a data with
  | zero => exact Changes.refl s _
  | succ n ih =>
    unfold State.longWrite
    split
    · exact Changes.refl s _
    · exact (s.settledWrite_changes a plot _).trans (ih _ _ _)

theorem State.poisonUnit_changes (s : State) (lt r : Nat) :
    Changes s (s.poisonUnit lt r) (.cellar :: .led :: .meas :: Part.report) :=
  ((s.poison_changes lt r).mono (by decide)).trans ((Changes.raise _ _ _ _).mono (by decide))

theorem State.checkCodes_changes (s : State) (lt r : Nat) (ks : List Nat) (e : EccFound) :
    Changes s (s.checkCodes lt r ks e) (.cellar :: .led :: .meas :: Part.report) := by
  have hcount := (s.countCodes_changes ks e).mono (qs := .cellar :: .led :: .meas :: Part.report) (by decide)
  rw [State.checkCodes_eq]
  split
  · exact hcount
  · split
    · exact hcount.trans ((((State.cstore_changes _ _ _).mono (by decide)).trans ((Changes.bump _ _ _ _ _).mono (by decide))).trans
        ((Changes.raise _ _ _ _).mono (by decide)))
    · exact hcount.trans (State.poisonUnit_changes _ _ _)

/-- The check of one piece of a fill that the loom's own tile serves (R151). -/
def State.checkPiece (s : State) (e : EccFound) (x : (Nat × Nat) × Nat) : State :=
  let u := unitOf x.1.1
  if s.poisoned u.1 u.2 then s
  else if s.built u.1 u.2 then s.checkCodes u.1 u.2 (codewordsOf (caOffset x.1.1 % 4096) x.1.2) (EccFound.piece e x.2)
  else if s.canSupply u.1 u.2 then s else s.poisonUnit u.1 u.2

theorem State.checkPieces_eq (s : State) (p n : Nat) (r : QReq) (e : EccFound) :
    s.checkPieces p n r e = (s.ownPieces p n r).foldl (fun s x => s.checkPiece e x) s := rfl

theorem State.checkPieces_changes (s : State) (p n : Nat) (r : QReq) (e : EccFound) :
    Changes s (s.checkPieces p n r e) (.cellar :: .led :: .meas :: Part.report) := by
  refine Changes.foldl (f := fun s x => s.checkPiece e x) (fun u x => ?_) _ s
  unfold State.checkPiece
  dsimp only
  split
  · exact Changes.refl u _
  · split
    · exact u.checkCodes_changes _ _ _ _
    · split
      · exact Changes.refl u _
      · exact u.poisonUnit_changes _ _

/-- One piece of a request, read or taken out of the message that brought it. -/
def takePiece (p n q t attempt : Nat) (r : QReq) (a : State × List Byte) (x : (Nat × Nat) × Nat) : State × List Byte :=
  match a.1.pieceAt p n q t attempt r x with
  | none => (a.1, a.2 ++ a.1.dataRead x.1.1 x.1.2)
  | some y => (a.1.takeMsg y.1 y.2, a.2 ++ ((((Tab.get [] a.1.fabric.taken y.1).find? y.2).map Msg.payload).getD []).take x.1.2)

theorem State.takePieces_eq (s : State) (p n q t attempt : Nat) (r : QReq) :
    s.takePieces p n q t attempt r = (s.piecesOf p n r).zipIdx.foldl (takePiece p n q t attempt r) (s, []) := rfl

theorem State.takePieces_inFabric (s : State) (p n q t attempt : Nat) (r : QReq) :
    InFabric s (s.takePieces p n q t attempt r).1 := by
  rw [State.takePieces_eq]
  generalize (s.piecesOf p n r).zipIdx = xs
  suffices h : ∀ a : State × List Byte, InFabric a.1 (xs.foldl (takePiece p n q t attempt r) a).1 from h (s, [])
  induction xs with
  | nil => exact fun a => .refl a.1
  | cons x xs ih =>
    intro a
    refine InFabric.trans ?_ (ih _)
    unfold takePiece
    split
    · exact .refl a.1
    · exact a.1.takeMsg_inFabric _ _

theorem State.ringFilled_changes (s : State) (p n : Nat) (range : Nat × Nat) : Changes s (s.ringFilled p n range) [.plots] := by
  unfold State.ringFilled
  split
  · exact Changes.refl s _
  · exact Changes.updPlot s p _

/-! ### What a completion asks of the state -/

/-- A state in which the requests of the queues stand as before: work may have been noted, and corrected codewords counted. -/
structure SameWork (s t : State) : Prop where
  changes : Changes s t [.plots, .led]
  cells : CellsBut [(0x6010, 1), (0x6010, 2)] s t
  plots : ∀ q, ∃ b, t.plot q = { s.plot q with busyAt := b }

namespace SameWork

variable {s t u : State}

theorem trans (h : SameWork s t) (h' : SameWork t u) : SameWork s u where
  changes := h.changes.trans h'.changes
  cells := h.cells.trans h'.cells
  plots q := by
    obtain ⟨b, hb⟩ := h.plots q
    obtain ⟨b', hb'⟩ := h'.plots q
    exact ⟨b', by rw [hb', hb]⟩

theorem noteBusy (s : State) (p : Nat) : SameWork s (s.noteBusy p) where
  changes := (s.noteBusy_changes p).mono (by decide)
  cells := .of_led (s.noteBusy_changes p .led (by decide))
  plots := s.plot_noteBusy p

theorem countCodes (s : State) (ks : List Nat) (e : EccFound) : SameWork s (s.countCodes ks e) where
  changes := (s.countCodes_changes ks e).mono (by decide)
  cells := by
    obtain ⟨-, -, -, hcells⟩ := s.countCodes_cells ks e
    exact hcells
  plots q := ⟨(s.plot q).busyAt, by rw [State.plot, s.countCodes_changes ks e .plots (by decide), State.plot]⟩

variable (h : SameWork s t)
include h

theorem cellar : t.cellar = s.cellar := h.changes .cellar (by decide)

theorem factory : t.factory = s.factory := h.changes .factory (by decide)

theorem sites : t.sites = s.sites := h.changes .sites (by decide)

theorem image (q : Nat) : (t.plot q).image = (s.plot q).image := by
  obtain ⟨b, hb⟩ := h.plots q
  rw [hb]

theorem pools (q : Nat) : (t.plot q).pools = (s.plot q).pools := by
  obtain ⟨b, hb⟩ := h.plots q
  rw [hb]

theorem looms (q : Nat) : (t.plot q).looms = (s.plot q).looms := by
  obtain ⟨b, hb⟩ := h.plots q
  rw [hb]

theorem ownerOf (n : Nat) : t.ownerOf n = s.ownerOf n := by
  have hstate : ∀ q ∈ List.range 16, t.plotExists q = s.plotExists q := fun q hq => by
    have hlt := List.mem_range.1 hq
    have hne : (0x3000 + q, 1) ∉ [(0x6010, 1), (0x6010, 2)] := by simp; omega
    rw [State.plotExists, State.plotState, h.cells _ _ (by decide) hne, State.plotExists, State.plotState]
  rw [State.ownerOf, State.plotsNow, List.filter_congr hstate, State.ownerOf, State.plotsNow]
  simp only [h.looms]

theorem attnOf (n : Nat) : t.attnOf n = s.attnOf n := by
  simp only [State.attnOf, State.programOf, h.ownerOf, h.image]

theorem obAt (i : Nat) : t.obAt i = s.obAt i := by
  rw [State.obAt, h.changes .ob (by decide), State.obAt]

theorem findReq (p request : Nat) : t.findReq p request = s.findReq p request := by
  rw [State.findReq, h.changes .ob (by decide), State.findReq]

theorem listOf (p i m : Nat) : t.listOf p i m = s.listOf p i m := by
  simp only [State.listOf, State.poolSlot, State.model, h.image, h.obAt]

theorem pool (p m : Nat) : t.pool p m = s.pool p m := by
  rw [State.pool, h.pools, State.pool]

theorem portionOf (p n request page : Nat) : t.portionOf p n request page = s.portionOf p n request page := by
  unfold State.portionOf
  rw [h.attnOf, h.image, h.findReq]
  simp only [h.listOf, h.pool, h.obAt]

theorem cellarRanges (p n : Nat) (r : QReq) : t.cellarRanges p n r = s.cellarRanges p n r := by
  cases r
  case pantryRead req g b => rw [State.cellarRanges, h.portionOf, State.cellarRanges]
  case ether i o k w a =>
    rw [State.cellarRanges, State.pathDesc, State.blobAt, h.changes .blob (by decide)]
    rfl
  all_goals rfl

theorem piecesOf (p n : Nat) (r : QReq) : t.piecesOf p n r = s.piecesOf p n r := by
  rw [State.piecesOf, h.cellarRanges, State.piecesOf]

theorem physOf (lt : Nat) : t.physOf lt = s.physOf lt := by
  rw [State.physOf, h.sites, State.physOf]

theorem remoteTile (n a : Nat) : t.remoteTile n a = s.remoteTile n a := by
  rw [State.remoteTile, h.physOf, State.remoteTile]

theorem ownPieces (p n : Nat) (r : QReq) : t.ownPieces p n r = s.ownPieces p n r := by
  simp only [State.ownPieces, h.piecesOf, h.remoteTile]

theorem rangeOwned (p a k : Nat) : t.rangeOwned p a k = s.rangeOwned p a k := by
  simp only [State.rangeOwned, State.addrOk, State.tagOwns, h.cellar, h.factory]

theorem badRange (p n : Nat) (r : QReq) : t.badRange p n r = s.badRange p n r := by
  cases r <;> simp only [State.badRange, h.cellarRanges, h.rangeOwned, h.portionOf]

theorem unreadable (x : Nat × Nat) : t.unreadable x = s.unreadable x := by
  simp only [State.unreadable, State.poisoned_of_cellar h.cellar, State.built_of_cellar h.cellar, State.canSupply_of_cellar h.cellar]

theorem cellarStatus (p n : Nat) (r : QReq) : t.cellarStatus p n r = s.cellarStatus p n r := by
  simp only [State.cellarStatus, h.badRange, h.piecesOf, h.unreadable]

theorem portUp (x : Port) : t.portUp x = s.portUp x := by
  cases x
  · exact congrArg (· == 2) (h.cells 0x2000 1 (by decide) (by decide))
  · exact congrArg (· == 2) (h.cells 0x2000 0x11 (by decide) (by decide))

end SameWork

/-! ### Data for the Bench -/

/-- The Bench address to which a request brings data of the Cellar. -/
def loadsAt : QReq → Option Nat
  | .fill _ b _ => some b.toNat
  | .pantryRead _ _ b => some b.toNat
  | _ => none

theorem loads_of_fillRange {s : State} {p n b k : Nat} {r : QReq} (h : s.fillRange p n r = some (b, k))
    (hr : ∀ x off b len w, r ≠ .host x off b len w) : loadsAt r = some b := by
  cases r
  case fill => exact congrArg (Option.map Prod.fst) h
  case pantryRead => exact congrArg (Option.map Prod.fst) h
  case host x off b len w => exact absurd rfl (hr x off b len w)
  all_goals exact absurd h (by simp [State.fillRange])

/-- Where the data of a fill comes from: the loom's own tile alone, or one message of another tile. -/
def State.Brings (s : State) (p n q : Nat) (e : QEntry) (bs : List Byte) : Prop :=
  ((∀ x ∈ s.piecesOf p n e.req, s.remoteTile n x.1 = none) ∧ bs = (s.piecesOf p n e.req).flatMap (fun x => s.dataRead x.1 x.2)) ∨
    (∃ x u m, s.piecesOf p n e.req = [x] ∧ s.remoteTile n x.1 = some u ∧
      (Tab.get [] s.fabric.taken (loomEndpoint n 2)).find? (isVc2 p 4 (pieceRef n q e.ticket e.attempt 0)) = some m ∧
      bs = m.payload.take x.2)

section Pieces

variable {s t : State} {p n q : Nat} {r : QReq} {e : QEntry} {ecc : EccFound} {bs : List Byte} {b : Nat}

theorem State.pieceAt_own {k attempt : Nat} {x : (Nat × Nat) × Nat} (h : s.remoteTile n x.1.1 = none) :
    s.pieceAt p n q k attempt r x = none := by
  cases r <;> simp [State.pieceAt, h]

theorem State.pieceAt_loads (hr : loadsAt r = some b) (k attempt : Nat) (x : (Nat × Nat) × Nat) : s.pieceAt p n q k attempt r x =
    (s.remoteTile n x.1.1).map (fun _ => (loomEndpoint n 2, isVc2 p 4 (pieceRef n q k attempt x.2))) := by
  cases r
  case fill | pantryRead => rfl
  all_goals exact absurd hr (by simp [loadsAt])

/-- What the loom's own tile holds is read there. -/
theorem State.takePieces_own (k attempt : Nat) (h : ∀ x ∈ s.piecesOf p n r, s.remoteTile n x.1 = none) :
    s.takePieces p n q k attempt r = (s, (s.piecesOf p n r).flatMap (fun x => s.dataRead x.1 x.2)) := by
  rw [State.takePieces_eq]
  generalize s.piecesOf p n r = xs at h
  suffices hfold : ∀ (i : Nat) (acc : List Byte), (xs.zipIdx i).foldl (takePiece p n q k attempt r) (s, acc) =
      (s, acc ++ xs.flatMap (fun x => s.dataRead x.1 x.2)) from hfold 0 []
  induction xs with
  | nil => simp
  | cons x xs ih =>
    intro i acc
    have hx : takePiece p n q k attempt r (s, acc) (x, i) = (s, acc ++ s.dataRead x.1 x.2) := by
      unfold takePiece
      rw [State.pieceAt_own (h x List.mem_cons_self)]
    rw [List.zipIdx_cons, List.foldl_cons, hx, ih (fun y hy => h y (List.mem_cons_of_mem x hy)), List.flatMap_cons,
      List.append_assoc]

theorem State.Brings.takePieces (h : s.Brings p n q e bs) (hr : loadsAt e.req = some b) :
    (s.takePieces p n q e.ticket e.attempt e.req).2 = bs := by
  rcases h with ⟨hown, rfl⟩ | ⟨x, u, m, hx, hu, hm, rfl⟩
  · rw [State.takePieces_own _ _ hown]
  · rw [State.takePieces_eq, hx]
    change (takePiece p n q e.ticket e.attempt e.req (s, []) (x, 0)).2 = _
    unfold takePiece
    rw [State.pieceAt_loads hr, hu]
    dsimp only [Option.map_some]
    rw [hm]
    rfl

/-- What a fill brings does not depend on what was noted or counted meanwhile. -/
theorem State.Brings.of_sameWork (h : s.Brings p n q e bs) (hw : SameWork s t) : t.Brings p n q e bs := by
  have hfabric : t.fabric = s.fabric := hw.changes .fabric (by decide)
  unfold State.Brings
  simp only [hw.piecesOf, hw.remoteTile, State.dataRead_of_cellar hw.cellar, hfabric]
  exact h

/-- Units that are there, without an uncorrectable codeword: the check only counts (R151). -/
theorem State.checkPieces_sound (h : ∀ x ∈ s.ownPieces p n r, s.built (unitOf x.1.1).1 (unitOf x.1.1).2 = true ∧
      deadCodes (EccFound.piece ecc x.2) (codewordsOf (caOffset x.1.1 % 4096) x.1.2) = false) (hw : SameWork s t) :
    SameWork s (t.checkPieces p n r ecc) := by
  rw [State.checkPieces_eq, hw.ownPieces]
  generalize s.ownPieces p n r = xs at h
  induction xs generalizing t with
  | nil => exact hw
  | cons x xs ih =>
    obtain ⟨hbuilt, hcodes⟩ := h x List.mem_cons_self
    refine ih (t := t.checkPiece ecc x) ?_ (fun y hy => h y (List.mem_cons_of_mem x hy))
    unfold State.checkPiece
    dsimp only
    split
    · exact hw
    · rw [State.built_of_cellar hw.cellar, if_pos hbuilt, State.checkCodes_sound _ _ hcodes]
      exact hw.trans (.countCodes t _ _)

/-- The effect of a Cellar fill or a Pantry read. -/
def State.loadEffect (s : State) (p n q : Nat) (e : QEntry) (ecc : EccFound) (stale : Bool) (b : Nat) : State × Status × Bool :=
  let s1 := s.checkPieces p n e.req ecc
  let st := s1.cellarStatus p n e.req
  if st = .done then
    (let r := s1.takePieces p n q e.ticket e.attempt e.req
     (if stale then r.1 else (s1.cellarRanges p n e.req).foldl (fun s g => s.ringFilled p n g)
       (if stale then r.1 else r.1.updLoom n (fun l => l.store b r.2)), st, true))
  else (s1, st, false)

theorem State.entryEffect_loads (h : loadsAt e.req = some b) (st : Status) (data : List Byte) (stale : Bool) :
    s.entryEffect p n q e st data ecc stale = s.loadEffect p n q e ecc stale b := by
  obtain ⟨k, r, a, st0, d, o⟩ := e
  cases r
  case fill | pantryRead =>
    obtain rfl := Option.some.inj h
    rfl
  all_goals exact absurd h (by simp [loadsAt])

/-- Data that a fill brings lands in the Bench, where its units can be read. -/
theorem State.loadEffect_lands (hr : loadsAt e.req = some b) (hst : s.cellarStatus p n e.req = .done)
    (hsound : ∀ x ∈ s.ownPieces p n e.req, s.built (unitOf x.1.1).1 (unitOf x.1.1).2 = true ∧
      deadCodes (EccFound.piece ecc x.2) (codewordsOf (caOffset x.1.1 % 4096) x.1.2) = false)
    (hbs : s.Brings p n q e bs) (hw : SameWork s t) :
    ∃ u, t.loadEffect p n q e ecc false b = (u, .done, true) ∧ u.looms = (s.updLoom n (fun l => l.store b bs)).looms ∧
      u.cellar = s.cellar ∧ CellsBut [(0x6010, 1), (0x6010, 2)] s u ∧ Changes s u [.looms, .plots, .led, .fabric] := by
  have hw1 := State.checkPieces_sound hsound hw
  unfold State.loadEffect
  generalize t.checkPieces p n e.req ecc = s1 at hw1
  dsimp only
  rw [hw1.cellarStatus, hst, if_pos rfl, if_neg (by decide), if_neg (by decide), (hbs.of_sameWork hw1).takePieces hr]
  have htake := (s1.takePieces_inFabric p n q e.ticket e.attempt e.req).changes
  generalize (s1.takePieces p n q e.ticket e.attempt e.req).1 = v at htake
  have hring : Changes (v.updLoom n (fun l => l.store b bs))
      ((s1.cellarRanges p n e.req).foldl (fun s g => s.ringFilled p n g) (v.updLoom n (fun l => l.store b bs))) [.plots] :=
    Changes.foldl (fun u g => u.ringFilled_changes p n g) _ _
  generalize (s1.cellarRanges p n e.req).foldl (fun s g => s.ringFilled p n g) (v.updLoom n (fun l => l.store b bs)) = u at hring
  have hvlooms : v.looms = s.looms := (htake .looms (by decide)).trans (hw1.changes .looms (by decide))
  have hvled : v.led = s1.led := htake .led (by decide)
  have hvcellar : v.cellar = s.cellar := (htake .cellar (by decide)).trans hw1.cellar
  refine ⟨u, rfl, (hring .looms (by decide)).trans ?_, (hring .cellar (by decide)).trans hvcellar,
    hw1.cells.trans (.of_led ((hring .led (by decide)).trans hvled)), ?_⟩
  · rw [State.updLoom, hvlooms, State.updLoom]
  · exact (hw1.changes.mono (by decide)).trans ((htake.mono (by decide)).trans
      (((Changes.updLoom v n _).mono (by decide)).trans (hring.mono (by decide))))

/-- What is checked, taken and written for an entry of a discarded attempt reaches no loom (R197). -/
def Part.unseen : List Part := .cellar :: .led :: .meas :: .fabric :: Part.report

theorem State.loadEffect_stale_changes (s : State) (p n q : Nat) (e : QEntry) (ecc : EccFound) (b : Nat) :
    Changes s (s.loadEffect p n q e ecc true b).1 Part.unseen := by
  have hcheck := (s.checkPieces_changes p n e.req ecc).mono (qs := Part.unseen) (by decide)
  unfold State.loadEffect
  dsimp only
  split
  · exact hcheck.trans ((State.takePieces_inFabric _ p n q e.ticket e.attempt e.req).changes.mono (by decide))
  · exact hcheck

theorem State.entryEffect_drain {a : BitVec 40} {bench : BitVec 22} {len : Fin 4097} (he : e.req = .drain bench a len)
    (st : Status) (data : List Byte) (stale : Bool) : s.entryEffect p n q e st data ecc stale = if s.rangeOwned p a.toNat len.val then
      ((s.takePieces p n q e.ticket e.attempt e.req).1.longWrite a.toNat p 3 e.data, .done, false) else (s, .denied, false) := by
  obtain ⟨k, r, a, st0, d, o⟩ := e
  subst he
  rfl

theorem State.drained_changes (s : State) (p n q : Nat) (e : QEntry) (a : Nat) :
    Changes s ((s.takePieces p n q e.ticket e.attempt e.req).1.longWrite a p 3 e.data) [.cellar, .led, .meas, .fabric] :=
  ((s.takePieces_inFabric p n q e.ticket e.attempt e.req).changes.mono (by decide)).trans
    ((State.longWrite_changes _ _ _ _ _).mono (by decide))

theorem State.entryEffect_ether_stale_changes {i off len w a} (he : e.req = .ether i off len w a) (st : Status) (data : List Byte) :
    Changes s (s.entryEffect p n q e st data ecc true).1 Part.unseen := by
  obtain ⟨k, r, a', st0, d, o⟩ := e
  subst he
  unfold State.entryEffect
  dsimp only
  rw [if_neg (fun ⟨_, _, _, h⟩ => absurd h (by decide))]
  generalize State.etherStatus s _ _ _ _ _ = st1
  split
  · exact ((Changes.bump s _ _ _ _).mono (by decide)).trans ((Changes.raise _ _ _ _).mono (by decide))
  · exact Changes.refl s _

theorem State.entryEffect_host_down {x off bench len w} (he : e.req = .host x off bench len w) (hup : s.portUp x = false) (st : Status)
    (data : List Byte) (stale : Bool) : s.entryEffect p n q e st data ecc stale = (s, .linkDown, false) := by
  obtain ⟨k, r, a', st0, d, o⟩ := e
  subst he
  exact if_pos hup

theorem State.entryEffect_host_write {x off bench len} (he : e.req = .host x off bench len true) (hup : s.portUp x = true) (st : Status)
    (data : List Byte) (stale : Bool) : s.entryEffect p n q e st data ecc stale = (s, st, false) := by
  obtain ⟨k, r, a', st0, d, o⟩ := e
  subst he
  exact (if_neg (by rw [hup]; decide)).trans (if_neg (fun ⟨h, _⟩ => absurd h (by decide)))

theorem State.entryEffect_host_stale {x off bench len} (he : e.req = .host x off bench len false) (hup : s.portUp x = true)
    (data : List Byte) : s.entryEffect p n q e .done data ecc true = (s, .done, true) := by
  obtain ⟨k, r, a', st0, d, o⟩ := e
  subst he
  exact (if_neg (by rw [hup]; decide)).trans (if_pos ⟨rfl, rfl⟩)

theorem State.entryEffect_stale_changes (s : State) (p n q : Nat) (e : QEntry) (st : Status) (data : List Byte) (ecc : EccFound) :
    Changes s (s.entryEffect p n q e st data ecc true).1 Part.unseen := by
  cases he : e.req
  case fill a b k => exact (State.entryEffect_loads (by rw [he]; rfl) st data true) ▸ s.loadEffect_stale_changes p n q e ecc b.toNat
  case pantryRead r g b =>
    exact (State.entryEffect_loads (by rw [he]; rfl) st data true) ▸ s.loadEffect_stale_changes p n q e ecc b.toNat
  case drain b a k =>
    rw [State.entryEffect_drain he]
    split
    · exact (s.drained_changes p n q e a.toNat).mono (by decide)
    · exact Changes.refl s _
  case ether => exact State.entryEffect_ether_stale_changes he st data
  case host x off b k w =>
    unfold State.entryEffect
    rw [he]
    dsimp only
    split
    · exact Changes.refl s _
    · split <;> exact Changes.refl s _
  case expect | ferry =>
    unfold State.entryEffect
    rw [he]
    exact Changes.refl s _

end Pieces

/-! ### QUEUE_ENTRY_COMPLETE -/

/-- A queue without the first open entry of a ticket. -/
def withoutTicket (attempt t : Nat) (u : Queue) : Queue :=
  { u with entries := dropFirst (fun e => e.isTicket attempt t && e.status.isNone) u.entries }

/-- What ends an entry of a discarded attempt: it goes, and data that it returned is dropped and counted (R197). -/
def State.endStale (r : State × Status × Bool) (p n q t attempt : Nat) : State :=
  let s1 := r.1.updLoom n (fun z => z.updQueue q (withoutTicket attempt t))
  if r.2.2 then s1.interlock p n 7 1 else s1

/-- What ends an entry of the running attempt: its lines wait no more, and its ticket has a status (R192, R199). -/
def State.endLive (r : State × Status × Bool) (n q t attempt : Nat) : State :=
  r.1.updLoom n (fun z => (z.unmark q t).finish q t attempt r.2.1)

theorem State.endStale_spec (r : State × Status × Bool) (p n q t attempt : Nat) :
    ((State.endStale r p n q t attempt).loom n).bytes = (r.1.loom n).bytes ∧
      ((State.endStale r p n q t attempt).loom n).queue q = withoutTicket attempt t ((r.1.loom n).queue q) ∧
      WithinLoom [(0x3300 + p, 8)] n r.1 (State.endStale r p n q t attempt) := by
  have hq : ((r.1.loom n).updQueue q (withoutTicket attempt t)).queue q = withoutTicket attempt t ((r.1.loom n).queue q) := by simp
  have hupd := WithinLoom.updLoom [(0x3300 + p, 8)] r.1 n (fun z => z.updQueue q (withoutTicket attempt t))
  unfold State.endStale
  dsimp only
  split
  · obtain ⟨c, hc⟩ := State.loom_interlock (r.1.updLoom n (fun z => z.updQueue q (withoutTicket attempt t))) p n 7 1
    rw [hc, State.loom_updLoom, if_pos rfl]
    exact ⟨LoomSt.bytes_congr rfl rfl, hq, hupd.trans (.interlock _ p n 7 1 (by decide))⟩
  · rw [State.loom_updLoom, if_pos rfl]
    exact ⟨LoomSt.bytes_congr rfl rfl, hq, hupd⟩

/-- A ticket that got its status is found with it. -/
theorem LoomSt.find_finish {l : LoomSt} {q t attempt : Nat} {e : QEntry} (st : Status)
    (h : (l.queue q).entries.find? (fun e => e.isTicket attempt t && e.status.isNone) = some e) :
    ∃ e', ((l.finish q t attempt st).queue q).entries.find? (fun e => e.isTicket attempt t && e.status == some st) = some e' := by
  have he := List.find?_some h
  obtain ⟨htick, -⟩ := Bool.and_eq_true_iff.1 he
  rw [LoomSt.finish, LoomSt.queue_updQueue, if_pos rfl]
  refine Option.isSome_iff_exists.1 (List.find?_isSome.2 ⟨{ e with status := some st },
    List.mem_map.2 ⟨e, List.mem_of_find?_eq_some h, if_pos he⟩, ?_⟩)
  exact Bool.and_eq_true_iff.2 ⟨htick, by simp⟩

section Complete

variable {s : State} {l : Loom} {q : Fin 6} {k : Byte} {a : BitVec 4} {st : Status} {data : List Byte} {ecc : EccFound} {e : QEntry}
  {p : Nat} {stale : Bool}

/-- The entry `e` of plot `p` is the one that completes, and `stale` says whether its attempt is a discarded one. -/
def State.Completes (s : State) (l : Loom) (q : Fin 6) (k : Byte) (a : BitVec 4) (e : QEntry) (p : Nat) (stale : Bool) : Prop :=
  ((s.loom l.n).queue q.val).entries.find? (fun e => e.isTicket a.toNat k.toNat && e.status.isNone) = some e ∧
    s.ownerOf l.n = some p ∧ stale = ((s.loom l.n).step.isNone || a.toNat != (s.loom l.n).attempt)

theorem exec_queueEntryComplete (h : s.Completes l q k a e p stale) : exec (.queueEntryComplete l q k a st ⟨data, ecc⟩) s = .next (
    if s.entryWaits p l.n q.val e st ecc stale then s
    else if stale then State.endStale ((s.noteBusy p).entryEffect p l.n q.val e st data ecc true) p l.n q.val k.toNat a.toNat
    else State.endLive ((s.noteBusy p).entryEffect p l.n q.val e st data ecc false) l.n q.val k.toNat a.toNat) := by
  obtain ⟨hfind, hown, rfl⟩ := h
  change execQueueEntryComplete l q k a st ⟨data, ecc⟩ s = _
  unfold execQueueEntryComplete
  dsimp only
  rw [hfind, hown]
  rfl

section Stale

variable (h : s.Completes l q k a e p true) (hw : s.entryWaits p l.n q.val e st ecc true = false)
include h hw

theorem exec_complete_stale : exec (.queueEntryComplete l q k a st ⟨data, ecc⟩) s = .next (State.endStale
    ((s.noteBusy p).entryEffect p l.n q.val e st data ecc true) p l.n q.val k.toNat a.toNat) := by
  rw [exec_queueEntryComplete h, hw]
  rfl

/-- An entry of a discarded attempt goes, and no Bench changes (R197). -/
theorem complete_stale : ∃ t, exec (.queueEntryComplete l q k a st ⟨data, ecc⟩) s = .next t ∧
    (t.loom l.n).bytes = (s.loom l.n).bytes ∧ ((t.loom l.n).queue q.val).entries =
      dropFirst (fun e => e.isTicket a.toNat k.toNat && e.status.isNone) ((s.loom l.n).queue q.val).entries ∧
    SameBut [l.n] s.loom t.loom := by
  refine ⟨_, exec_complete_stale h hw, ?_⟩
  have heff := ((s.noteBusy_changes p).mono (qs := .plots :: Part.unseen) (by decide)).trans
    (((s.noteBusy p).entryEffect_stale_changes p l.n q.val e st data ecc).mono (by decide))
  generalize (s.noteBusy p).entryEffect p l.n q.val e st data ecc true = r at heff
  have hloom : r.1.loom = s.loom := funext fun n => by rw [State.loom, heff .looms (by decide), State.loom]
  obtain ⟨hbytes, hqueue, hsame, -⟩ := State.endStale_spec r p l.n q.val k.toNat a.toNat
  rw [hloom] at hbytes hqueue hsame
  exact ⟨hbytes, congrArg Queue.entries hqueue, hsame⟩

/-- What a host read returns for a discarded attempt is counted (R197). -/
theorem complete_staleHost {x off b len} (he : e.req = .host x off b len false) (hup : s.portUp x = true) (hst : st = .done) :
    ∃ t, exec (.queueEntryComplete l q k a st ⟨data, ecc⟩) s = .next t ∧
      t.cell (0x3300 + p) 8 = satAdd 64 (s.cell (0x3300 + p) 8) 1 ∧ CellsBut [(0x3300 + p, 8)] s t ∧
      Changes s t [.looms, .plots, .led] := by
  have hwork := SameWork.noteBusy s p
  refine ⟨_, exec_complete_stale h hw, ?_⟩
  subst hst
  rw [State.entryEffect_host_stale he ((hwork.portUp x).trans hup)]
  have hled : (s.noteBusy p).led = s.led := s.noteBusy_changes p .led (by decide)
  obtain ⟨-, -, -, hcells, hch⟩ := State.endStale_spec (s.noteBusy p, .done, true) p l.n q.val k.toNat a.toNat
  refine ⟨(State.cell_bump_self _ _ _ _ _).trans ?_, (CellsBut.of_led hled).trans hcells,
    ((s.noteBusy_changes p).mono (by decide)).trans (hch.mono (by decide))⟩
  exact congrArg (fun c => satAdd 64 c 1) (State.cell_of_led hled _ _)

end Stale

/-- A drain into the plot's extents is written, for whatever attempt (R192, R197). -/
theorem complete_drain (h : s.Completes l q k a e p stale) (hw : s.entryWaits p l.n q.val e st ecc stale = false)
    {b : BitVec 22} {addr : BitVec 40} {len : Fin 4097} (he : e.req = .drain b addr len)
    (hown : s.rangeOwned p addr.toNat len.val = true) :
    ∃ t, exec (.queueEntryComplete l q k a st ⟨data, ecc⟩) s = .next t ∧
      t.cellar = (((s.noteBusy p).takePieces p l.n q.val e.ticket e.attempt e.req).1.longWrite addr.toNat p 3 e.data).cellar ∧
      (t.loom l.n).bytes = (s.loom l.n).bytes ∧ SameBut [l.n] s.loom t.loom ∧
      Changes s t [.looms, .plots, .led, .cellar, .fabric, .meas] := by
  have heff : ∀ b, (s.noteBusy p).entryEffect p l.n q.val e st data ecc b =
      (((s.noteBusy p).takePieces p l.n q.val e.ticket e.attempt e.req).1.longWrite addr.toNat p 3 e.data, .done, false) := fun b =>
    (State.entryEffect_drain he st data b).trans (if_pos (((SameWork.noteBusy s p).rangeOwned _ _ _).trans hown))
  have hdrain := (s.noteBusy p).drained_changes p l.n q.val e addr.toNat
  rw [exec_queueEntryComplete h, hw, heff, heff]
  generalize (((s.noteBusy p).takePieces p l.n q.val e.ticket e.attempt e.req).1.longWrite addr.toNat p 3 e.data) = u at hdrain
  have hu := ((s.noteBusy_changes p).mono (qs := [.plots, .led, .cellar, .fabric, .meas]) (by decide)).trans (hdrain.mono (by decide))
  have hloom : u.loom = s.loom := funext fun n => by rw [State.loom, hu .looms (by decide), State.loom]
  have hends : ∀ f : LoomSt → LoomSt, (∀ z, (f z).bytes = z.bytes) → (u.updLoom l.n f).cellar = u.cellar ∧
      ((u.updLoom l.n f).loom l.n).bytes = (s.loom l.n).bytes ∧ SameBut [l.n] s.loom (u.updLoom l.n f).loom ∧
      Changes s (u.updLoom l.n f) [.looms, .plots, .led, .cellar, .fabric, .meas] := fun f hf => by
    obtain ⟨hsame, -⟩ := WithinLoom.updLoom [] u l.n f
    refine ⟨rfl, ?_, hloom ▸ hsame, (hu.mono (by decide)).trans ((Changes.updLoom u l.n f).mono (by decide))⟩
    rw [State.loom_updLoom, if_pos rfl, hf, hloom]
  cases stale
  · exact ⟨_, rfl, hends _ fun _ => LoomSt.bytes_congr rfl rfl⟩
  · exact ⟨_, rfl, hends _ fun _ => LoomSt.bytes_congr rfl rfl⟩

section Live

variable (h : s.Completes l q k a e p false) (hw : s.entryWaits p l.n q.val e st ecc false = false)
include h hw

theorem exec_complete_live : exec (.queueEntryComplete l q k a st ⟨data, ecc⟩) s = .next (State.endLive
    ((s.noteBusy p).entryEffect p l.n q.val e st data ecc false) l.n q.val k.toNat a.toNat) := by
  rw [exec_queueEntryComplete h, hw]
  rfl

/-- What a fill of the running attempt brings lands in the Bench (R192). -/
theorem complete_load {b n : Nat} (hfill : s.fillRange p l.n e.req = some (b, n)) (hhost : ∀ x off b len w, e.req ≠ .host x off b len w)
    (hst : s.cellarStatus p l.n e.req = .done)
    (hsound : ∀ x ∈ s.ownPieces p l.n e.req, s.built (unitOf x.1.1).1 (unitOf x.1.1).2 = true ∧
      deadCodes (EccFound.piece ecc x.2) (codewordsOf (caOffset x.1.1 % 4096) x.1.2) = false)
    {bs : List Byte} (hbs : s.Brings p l.n q.val e bs) :
    ∃ t, exec (.queueEntryComplete l q k a st ⟨data, ecc⟩) s = .next t ∧ (t.loom l.n).bytes = ((s.loom l.n).store b bs).bytes ∧
      (∃ e', ((t.loom l.n).queue q.val).entries.find? (fun e => e.isTicket a.toNat k.toNat && e.status == some .done) = some e') ∧
      t.cellar = s.cellar ∧ SameBut [l.n] s.loom t.loom ∧ CellsBut [(0x6010, 1), (0x6010, 2)] s t ∧
      Changes s t [.looms, .plots, .led, .fabric] := by
  have hr := loads_of_fillRange hfill hhost
  obtain ⟨u, hu, hlooms, hcellar, hcells, hch⟩ := State.loadEffect_lands hr hst hsound hbs (SameWork.noteBusy s p)
  have ⟨hfind, _, _⟩ := h
  refine ⟨u.updLoom l.n (fun z => (z.unmark q.val k.toNat).finish q.val k.toNat a.toNat .done), ?_, ?_⟩
  · rw [exec_complete_live h hw, State.entryEffect_loads hr, hu]
    rfl
  have hself : u.loom l.n = (s.loom l.n).store b bs := by
    rw [State.loom, hlooms, ← State.loom, State.loom_updLoom, if_pos rfl]
  have hsame : SameBut [l.n] s.loom u.loom := fun n hn => by
    rw [State.loom, hlooms, ← State.loom, State.loom_updLoom, if_neg (fun e => hn (by simp [e]))]
  obtain ⟨hrest, -⟩ := WithinLoom.updLoom [] u l.n (fun z => (z.unmark q.val k.toNat).finish q.val k.toNat a.toNat .done)
  rw [State.loom_updLoom, if_pos rfl, hself]
  exact ⟨LoomSt.bytes_congr rfl rfl, LoomSt.find_finish .done hfind, hcellar, hsame.trans hrest, hcells,
    hch.trans ((Changes.updLoom u l.n _).mono (by decide))⟩

/-- An entry that brings nothing into the Bench and writes nothing gets its status. -/
theorem complete_status {st' : Status} (hst : ((∃ r u, e.req = .expect r u) ∧ st' = .done) ∨
      ((∃ x b n, e.req = .ferry x b n) ∧ st' = st) ∨
      (∃ x off b n w, e.req = .host x off b n w ∧ s.portUp x = false ∧ st' = .linkDown) ∨
      (∃ x off b n, e.req = .host x off b n true ∧ s.portUp x = true ∧ st' = st)) :
    ∃ t, exec (.queueEntryComplete l q k a st ⟨data, ecc⟩) s = .next t ∧
      t.loom l.n = ((s.loom l.n).unmark q.val k.toNat).finish q.val k.toNat a.toNat st' ∧ SameBut [l.n] s.loom t.loom ∧
      Changes s t [.looms, .plots] := by
  have hup := (SameWork.noteBusy s p).portUp
  have heff : (s.noteBusy p).entryEffect p l.n q.val e st data ecc false = (s.noteBusy p, st', false) := by
    rcases hst with ⟨⟨r, u, he⟩, rfl⟩ | ⟨⟨x, b, n, he⟩, rfl⟩ | ⟨x, off, b, n, w, he, hx, rfl⟩ | ⟨x, off, b, n, he, hx, rfl⟩
    · unfold State.entryEffect
      rw [he]
    · unfold State.entryEffect
      rw [he]
    · exact State.entryEffect_host_down he ((hup x).trans hx) st data false
    · exact State.entryEffect_host_write he ((hup x).trans hx) _ data false
  have hloom : (s.noteBusy p).loom = s.loom := funext fun n => by rw [State.loom, s.noteBusy_changes p .looms (by decide), State.loom]
  refine ⟨(s.noteBusy p).updLoom l.n (fun z => (z.unmark q.val k.toNat).finish q.val k.toNat a.toNat st'), ?_, ?_, ?_,
    ((s.noteBusy_changes p).mono (by decide)).trans ((Changes.updLoom _ _ _).mono (by decide))⟩
  · rw [exec_complete_live h hw, heff]
    rfl
  · rw [State.loom_updLoom, if_pos rfl, hloom]
  · obtain ⟨hsame, -⟩ := WithinLoom.updLoom [] (s.noteBusy p) l.n (fun z => (z.unmark q.val k.toNat).finish q.val k.toNat a.toNat st')
    exact hloom ▸ hsame

end Live

end Complete

/-! ### UNFILLED_READ_RESUME and STREAM_PASS_END -/

/-- A stalled read goes on once its lines are filled (R199). -/
theorem unfilledReadResume_resumes {s : State} {l : Loom} {since lo hi p : Nat}
    (hstall : (s.loom l.n).stall = some (.unfilled since lo hi)) (hown : s.ownerOf l.n = some p)
    (hfull : (s.loom l.n).pendingIn lo hi = false) :
    ∃ t, exec (.unfilledReadResume l) s = .next t ∧ (t.loom l.n).stall = none ∧ (t.loom l.n).ip = (s.loom l.n).ip ∧
      (t.loom l.n).bytes = (s.loom l.n).bytes ∧ t.cell (0x3300 + p) 2 = satAdd 64 (s.cell (0x3300 + p) 2) (s.now - since) ∧
      SameBut [l.n] s.loom t.loom ∧ CellsBut [(0x3300 + p, 2)] s t ∧ Changes s t [.looms, .led] := by
  refine ⟨(s.interlock p l.n 1 (s.now - since)).updLoom l.n (fun y => { y with stall := none }), ?_, ?_⟩
  · change execUnfilledReadResume l s = _
    unfold execUnfilledReadResume
    dsimp only
    rw [hstall, hown]
    dsimp only
    rw [hfull]
    rfl
  obtain ⟨c, hc⟩ := s.loom_interlock p l.n 1 (s.now - since)
  obtain ⟨hsame, hcells, hch⟩ := (WithinLoom.interlock s p l.n 1 (s.now - since) (by decide)).trans
    (.updLoom _ _ l.n (fun y => { y with stall := none }))
  rw [State.loom_updLoom, if_pos rfl, hc]
  exact ⟨rfl, rfl, LoomSt.bytes_congr rfl rfl, State.cell_bump_self _ _ _ _ _, hsame, hcells, hch.mono (by decide)⟩

theorem exec_streamPassEnd {s : State} {p : PlotId} {layer load comp : Nat} {im : Image} (him : (s.plot p.val).image = some im)
    (hlayer : im.streams.any (fun x => x.layer == layer) = true) : exec (.streamPassEnd p layer load comp) s = .next (
      if comp < load then (s.bump 64 (0x3300 + p.val) 0xC 1).raiseLimited 0x3301 (p.val * 65536 + layer) second p.val
        [p.val, layer, load, comp] else s) := by
  change execStreamPassEnd p layer load comp s = _
  unfold execStreamPassEnd
  rw [him]
  simp only [hlayer, true_and]

/-- A pass that took longer to load than to compute is counted (R204). -/
theorem streamPassEnd_counts {s : State} {p : PlotId} {layer load comp : Nat} {im : Image} (him : (s.plot p.val).image = some im)
    (hlayer : im.streams.any (fun x => x.layer == layer) = true) (hlt : comp < load) :
    ∃ t, exec (.streamPassEnd p layer load comp) s = .next t ∧
      t.cell (0x3300 + p.val) 0xC = satAdd 64 (s.cell (0x3300 + p.val) 0xC) 1 ∧ CellsBut [(0x3300 + p.val, 0xC)] s t ∧
      Changes s t (.led :: Part.report) := by
  refine ⟨_, (exec_streamPassEnd him hlayer).trans (congrArg Host.Outcome.next (if_pos hlt)), ?_⟩
  have hraise := Changes.raiseLimited (s.bump 64 (0x3300 + p.val) 0xC 1) 0x3301 (p.val * 65536 + layer) second p.val
    [p.val, layer, load, comp]
  generalize (s.bump 64 (0x3300 + p.val) 0xC 1).raiseLimited 0x3301 (p.val * 65536 + layer) second p.val [p.val, layer, load, comp] = t
    at hraise
  have hled : t.led = (s.bump 64 (0x3300 + p.val) 0xC 1).led := hraise .led (by decide)
  refine ⟨(State.cell_of_led hled _ _).trans (State.cell_bump_self _ _ _ _ _),
    (CellsBut.bump s _ _ _ _ (by decide)).trans (.of_led hled),
    ((Changes.bump s _ _ _ _).mono (by decide)).trans (hraise.mono (by decide))⟩

end Sys2Proof.Machine

open Sys2Proof Sys2Proof.Machine

/-- Settles O30: the ends of queue entries, of stalled reads and of streamed passes. -/
theorem completionsReachTheLoom : Obligations.CompletionsReachTheLoom := by
  refine ⟨fun s l q k a st data ecc e p stale hfind hown hstale => ?_,
    fun s l since lo hi p hstall hown hfull => unfilledReadResume_resumes hstall hown hfull,
    fun s p layer load comp im him hlayer => ⟨streamPassEnd_counts him hlayer, fun hle => ⟨s, ?_, rfl⟩⟩⟩
  · have h : s.Completes l q k a e p stale := ⟨hfind, hown, hstale⟩
    clear hfind hown hstale
    refine ⟨fun hw => ⟨s, ?_, rfl⟩, fun hw => ⟨?_, fun b addr len he hrange => complete_drain h hw he hrange, ?_⟩⟩
    · rw [exec_queueEntryComplete h, hw]
      rfl
    · rintro rfl
      exact ⟨complete_stale h hw, fun x off b len he hup hst => complete_staleHost h hw he hup hst⟩
    · rintro rfl
      exact ⟨fun b n hfill hhost hst hsound bs hbs => complete_load h hw hfill hhost hst hsound hbs,
        fun st' hst => complete_status h hw hst⟩
  · rw [exec_streamPassEnd him hlayer, if_neg (Nat.not_lt.2 hle)]
end

section
/-! SUPPORT. Page words, pools and the transfers of pages (R173, R215, R217, R226); what the end of any request leaves of the Order
Book (R227, R251); which cells a write to the Cellar counts in (R152). -/

namespace Sys2Proof.Machine

/-! ### Page words (R215) -/

@[simp] theorem Ob.page_setPage (o : Ob) (d : Bool) (j w : Nat) : (o.setPage d j w).page d j = w := by
  cases d <;> simp [Ob.page, Ob.setPage]

@[simp] theorem Ob.st_setPage (o : Ob) (d : Bool) (j w : Nat) : (o.setPage d j w).st = o.st := by cases d <;> rfl

@[simp] theorem Ob.moving_setPage (o : Ob) (d : Bool) (j w : Nat) : (o.setPage d j w).moving = o.moving := by cases d <;> rfl

/-! ### Pools -/

theorem State.pool_updPool (s : State) (p q m n : Nat) (f : PoolSt → PoolSt) :
    (s.updPool p m f).pool q n = if p = q ∧ m = n then (s.pool q n).map f else s.pool q n := by
  simp only [State.pool, State.updPool, State.plot_updPlot]
  by_cases hp : p = q
  · simp only [hp, if_true, true_and]
    induction (s.plot q).pools with
    | nil => simp
    | cons e es ih =>
      by_cases he : e.1 = n <;> by_cases hm : m = n <;> grind
  · simp only [hp, if_false, false_and]

/-- Both states have the same frames allocated in every pool; remote slots may have been taken or released. -/
def SameFrames (s t : State) : Prop := ∀ p m, (t.pool p m).map PoolSt.used = (s.pool p m).map PoolSt.used

theorem SameFrames.of_plots {s t : State} (h : t.plots = s.plots) : SameFrames s t := fun p m => by
  rw [State.pool, State.plot, h, State.pool, State.plot]

theorem SameFrames.trans {s t u : State} (h : SameFrames s t) (h' : SameFrames t u) : SameFrames s u :=
  fun p m => (h' p m).trans (h p m)

theorem State.releaseRemote_sameFrames (s : State) (p m slot : Nat) : SameFrames s (s.releaseRemote p m slot) := fun q n => by
  rw [State.releaseRemote, State.pool_updPool]
  split
  · rw [Option.map_map]
    rfl
  · rfl

theorem State.updPool_changes (s : State) (p m : Nat) (f : PoolSt → PoolSt) : Changes s (s.updPool p m f) [.plots] :=
  Changes.updPlot s p _

theorem State.releaseRemote_changes (s : State) (p m slot : Nat) : Changes s (s.releaseRemote p m slot) [.plots] :=
  s.updPool_changes p m _

theorem State.returnFrame_changes (s : State) (p m f : Nat) : Changes s (s.returnFrame p m f) [.plots] := s.updPool_changes p m _

/-! ### A transfer starts -/

/-- A transfer on a page starts: its pool gives what it needs, its request's record says so, and its request leaves by a path. -/
def State.startTransfer (s : State) (p m i : Nat) (g : PoolSt → PoolSt) (f : Ob → Ob) (o : Out) : State :=
  ((s.updPool p m g).updOb i f).emit o

theorem State.startTransfer_spec {s t : State} {p m i : Nat} {g : PoolSt → PoolSt} {f : Ob → Ob} {o : Out}
    (h : s.startTransfer p m i g f o = t) :
    t.obAt i = f (s.obAt i) ∧ t.out = o :: s.out ∧ SameBut [i] s.obAt t.obAt ∧ Changes s t [.plots, .ob, .out] := by
  subst h
  refine ⟨(State.obAt_updOb (s.updPool p m g) i i f).trans (if_pos rfl), rfl, State.obAt_updOb_others (s.updPool p m g) i f, ?_⟩
  exact ((s.updPool_changes p m g).mono (by decide)).trans
    (((Changes.updOb _ i f).mono (by decide)).trans ((Changes.emit _ o).mono (by decide)))

/-! ### A transfer ends -/

/-- A request's record when no transfer is on the page any more. -/
def Ob.landed (o : Ob) (d : Bool) (j : Nat) : Ob :=
  { o with moving := o.moving.filter (fun x => x != pageKey d j), remoteOf := Tab.set 0 o.remoteOf (pageKey d j) 0 }

/-- The record is changed; a remote slot may be released (R226). -/
theorem State.transferEnd_cases (s : State) (i : Nat) (d : Bool) (j : Nat) :
    s.transferEnd i d j = s.updOb i (fun o => o.landed d j) ∨
      ∃ p m slot, s.transferEnd i d j = (s.updOb i (fun o => o.landed d j)).releaseRemote p m slot := by
  unfold State.transferEnd
  dsimp only
  split
  · exact .inl rfl
  · split
    · exact .inr ⟨_, _, _, rfl⟩
    · exact .inl rfl

theorem State.transferEnd_ob (s : State) (i : Nat) (d : Bool) (j : Nat) :
    (s.transferEnd i d j).ob = (s.updOb i (fun o => o.landed d j)).ob := by
  rcases s.transferEnd_cases i d j with h | ⟨p, m, slot, h⟩ <;> rw [h]
  exact State.releaseRemote_changes _ _ _ _ .ob (by decide)

theorem State.transferEnd_sameFrames (s : State) (i : Nat) (d : Bool) (j : Nat) : SameFrames s (s.transferEnd i d j) := by
  have hupd : SameFrames s (s.updOb i (fun o => o.landed d j)) := .of_plots rfl
  rcases s.transferEnd_cases i d j with h | ⟨p, m, slot, h⟩ <;> rw [h]
  · exact hupd
  · exact hupd.trans (State.releaseRemote_sameFrames _ _ _ _)

theorem State.transferEnd_changes (s : State) (i : Nat) (d : Bool) (j : Nat) : Changes s (s.transferEnd i d j) [.plots, .ob] := by
  have hupd : Changes s (s.updOb i (fun o => o.landed d j)) [.plots, .ob] := (Changes.updOb s i _).mono (by decide)
  rcases s.transferEnd_cases i d j with h | ⟨p, m, slot, h⟩ <;> rw [h]
  · exact hupd
  · exact hupd.trans ((State.releaseRemote_changes _ _ _ _).mono (by decide))

/-- A request's record after a transfer on the page, the page itself as it stood (R173, R231). -/
def Ob.afterMove (o : Ob) (d : Bool) (j : Nat) : Ob :=
  { o.landed d j with filling := o.filling && o.unfilled, spillBy := Tab.set 0 o.spillBy (pageKey d j) 0 }

/-- The transfer of a live request's page ends: its own record changes, and frames stay where they are (R226). -/
theorem State.movedPage_live {s : State} {i : Nat} (hlive : (s.obAt i).st.live = true) (hdrain : (s.obAt i).st ≠ .draining)
    (d : Bool) (j : Nat) : (s.movedPage i d j).obAt i = (s.obAt i).afterMove d j ∧ SameBut [i] s.obAt (s.movedPage i d j).obAt ∧
      SameFrames s (s.movedPage i d j) ∧ Changes s (s.movedPage i d j) [.plots, .ob] := by
  have hob := s.transferEnd_ob i d j
  have hframes := s.transferEnd_sameFrames i d j
  have hch := s.transferEnd_changes i d j
  unfold State.movedPage
  generalize s.transferEnd i d j = u at hob hframes hch
  have hi : u.obAt i = (s.obAt i).landed d j := by rw [State.obAt_of_ob hob, State.obAt_updOb, if_pos rfl]
  dsimp only
  rw [if_pos (by rw [State.obAt_updOb, if_pos rfl, hi]; exact ⟨hlive, hdrain⟩)]
  refine ⟨?_, fun n hn => ?_, hframes.trans (.of_plots rfl), hch.trans ((Changes.updOb u i _).mono (by decide))⟩
  · rw [State.obAt_updOb, if_pos rfl, hi]
    rfl
  · rw [State.obAt_updOb_others u i _ n hn, State.obAt_of_ob hob]
    exact s.obAt_updOb_others i _ n hn

/-! ### The end of a request -/

theorem KeepsFate.updOb {s : State} {i : Nat} {f : Ob → Ob} (hst : (f (s.obAt i)).st = (s.obAt i).st)
    (hfinal : (f (s.obAt i)).final = (s.obAt i).final) (hcons : (f (s.obAt i)).consumed = (s.obAt i).consumed) :
    KeepsFate i s (s.updOb i f) := by
  refine ⟨s.obAt_updOb_others i f, ?_⟩
  rw [State.obAt_updOb, if_pos rfl]
  exact ⟨hst, hfinal, hcons⟩

theorem State.transferEnd_keepsFate (s : State) (i : Nat) (d : Bool) (j : Nat) : KeepsFate i s (s.transferEnd i d j) :=
  (KeepsFate.updOb (f := fun o => o.landed d j) rfl rfl rfl).trans (.of_ob (s.transferEnd_ob i d j))

/-- However a request ends, its record is that of an ended one but for the pages that it gives up (R227, R251). -/
theorem State.endCore_keepsFate (s : State) (i : Nat) (st : ReqState) (final : Status) :
    KeepsFate i (s.updOb i (fun o => o.ended st final)) (s.endCore i st final) := by
  have hob : ((s.noteBusy (s.obAt i).plot).updOb i (fun o => o.ended st final)).ob = (s.updOb i (fun o => o.ended st final)).ob := by
    simp only [State.updOb, State.noteBusy_ob]
  have hrest : ∀ u : State, u.ob = (s.updOb i (fun o => o.ended st final)).ob →
      KeepsFate i (s.updOb i (fun o => o.ended st final)) ((u.cancelSamples i).releasePages i) := fun u hu =>
    (KeepsFate.of_ob ((u.cancelSamples_ob i).trans hu)).trans (State.releasePages_keepsFate _ i)
  unfold State.endCore
  refine hrest _ ?_
  split
  · exact hob
  · exact (Changes.raise _ _ _ _ .ob (by decide)).trans hob
  · exact hob

theorem State.endRequest_keepsFate (s : State) (i : Nat) (st : ReqState) (final : Status) (tag : Nat) :
    KeepsFate i (s.updOb i (fun o => o.ended st final)) (s.endRequest i st final tag) :=
  (s.endCore_keepsFate i st final).trans (.of_ob (State.post_changes _ _ _ .ob (by decide)))

/-- A request that goes FAULTED and whose FINAL entry the host has not consumed stays in the Order Book, and says so (R251). -/
theorem State.fault_stays {s : State} {i : Nat} (hc : (s.obAt i).consumed = false) (final : Status) (tag : Nat) :
    (((s.endRequest i .faulted final tag).settle i).obAt i).st = .faulted ∧
      (((s.endRequest i .faulted final tag).settle i).obAt i).final = some final ∧
      SameBut [i] s.obAt ((s.endRequest i .faulted final tag).settle i).obAt ∧
      Changes s ((s.endRequest i .faulted final tag).settle i) Part.work := by
  obtain ⟨hothers, hst, hfinal, hcons⟩ := s.endRequest_keepsFate i .faulted final tag
  have hch := Changes.of_fixed (s.endRequest_inner i .faulted final tag)
  generalize s.endRequest i .faulted final tag = v at *
  rw [State.obAt_updOb, if_pos rfl] at hst hfinal hcons
  have hst' : (v.obAt i).st = .faulted := hst
  rw [State.settle_of_unconsumed (by rw [hst']; decide) (hcons.trans hc)]
  exact ⟨hst', hfinal, (s.obAt_updOb_others i _).trans hothers, hch⟩

/-! ### Writes of any unit count poisoned units alone (R152) -/

theorem State.poison_cells (s : State) (lt r : Nat) : CellsBut [(0x6010, 4)] s (s.poison lt r) := by
  unfold State.poison
  split
  · exact .of_led rfl
  · exact (CellsBut.of_led (Changes.setCellar s _ .led (by decide))).trans (CellsBut.bump _ _ _ _ _ (by decide))

theorem State.unpoison_cells (s : State) (lt r : Nat) : CellsBut [(0x6010, 4)] s (s.unpoison lt r) := by
  unfold State.unpoison
  split
  · exact (CellsBut.of_led rfl).setCell _ _ _ (by decide) List.mem_cons_self
  · exact .of_led rfl

theorem State.cstore_cells (s : State) (a : Nat) (bs : List Byte) : CellsBut [(0x6010, 4)] s (s.cstore a bs) := .of_led rfl

theorem State.rebuildUnit_cells (s : State) (lt r : Nat) : CellsBut [(0x6010, 4)] s (s.rebuildUnit lt r) := by
  unfold State.rebuildUnit
  split
  · exact .of_led rfl
  · have h : CellsBut [(0x6010, 4)] s (if s.canSupply lt r then s.cstore (unitAddr lt r) (s.chainBytes lt r 0 4096)
        else if r % 12 = lt % 12 then s else s.poison lt r) := by
      split
      · exact s.cstore_cells _ _
      · split
        · exact .of_led rfl
        · exact s.poison_cells lt r
    exact h.trans (.of_led (State.measureRows_changes _ _ _ .led (by decide)))

/-- A store that fills its unit ends the unit's poison. -/
theorem State.filled_cells {s t : State} (h : CellsBut [(0x6010, 4)] s t) (c : Prop) [Decidable c] (lt r : Nat) :
    CellsBut [(0x6010, 4)] s (if c then t.unpoison lt r else t) := by
  split
  · exact h.trans (t.unpoison_cells lt r)
  · exact h

theorem State.unitWrite_cells (s : State) (lt r off plot : Nat) (data : List Byte) :
    CellsBut [(0x6010, 4)] s (s.unitWrite lt r off plot data) := by
  unfold State.unitWrite
  dsimp only
  split
  · split
    · exact .of_led rfl
    · exact State.filled_cells (s.cstore_cells _ _) _ _ _
  · have h0 : CellsBut [(0x6010, 4)] s (if s.built lt r then s else s.rebuildUnit lt r) := by
      split
      · exact .of_led rfl
      · exact s.rebuildUnit_cells lt r
    generalize (if s.built lt r then s else s.rebuildUnit lt r) = s0 at *
    exact State.filled_cells ((h0.trans (s0.cstore_cells _ _)).trans (.of_led (Changes.setCellar _ _ .led (by decide)))) _ _ _

theorem State.settledWrite_cells (s : State) (a plot : Nat) (data : List Byte) :
    CellsBut [(0x6010, 4)] s (s.settledWrite a plot data) := by
  have hw := s.unitWrite_cells (caTile a) (dataRow (caTile a % 12) (caOffset a)) (caOffset a % 4096) plot data
  have hd : ∀ (u : State) (w : CWrite), (u.applyDelta w).led = u.led := fun u w => by
    unfold State.applyDelta
    dsimp only
    split <;> rfl
  unfold State.settledWrite
  dsimp only
  split
  · split
    · exact hw.trans (.of_led (hd _ _))
    · exact hw
  · exact hw

theorem State.longWrite_cells (s : State) (a plot fuel : Nat) (data : List Byte) :
    CellsBut [(0x6010, 4)] s (s.longWrite a plot fuel data) := by
  induction fuel generalizing s a data with
  | zero => exact .of_led rfl
  | succ n ih =>
    unfold State.longWrite
    split
    · exact .of_led rfl
    · exact (s.settledWrite_cells a plot _).trans (ih _ _ _)

/-! ### A frame is written (R174, R175) -/

/-- One layer's portion of a frame, codes before scales. -/
def State.putPortion (s : State) (p : Nat) (im : Image) (x : Pool) (f : Nat) (data : List Byte) (l : Nat) : State :=
  let d := (data.drop (l * (codeSize x + scaleSize x))).take (codeSize x + scaleSize x)
  match imageExtent im (portionAt x l f).1 with
  | none => s
  | some e =>
    (s.longWrite (extentAddr e ((portionAt x l f).2 * codeSize x)) p (codeSize x / 4096 + 2) (d.take (codeSize x))).longWrite
      (extentAddr e (perExtent x * codeSize x + (portionAt x l f).2 * scaleSize x)) p (scaleSize x / 4096 + 2) (d.drop (codeSize x))

theorem State.putFrame_eq (s : State) (p : Nat) (im : Image) (x : Pool) (f : Nat) (data : List Byte) :
    s.putFrame p im x f data = (List.range x.layers.toNat).foldl (fun s l => s.putPortion p im x f data l) s := rfl

theorem State.putFrame_changes (s : State) (p : Nat) (im : Image) (x : Pool) (f : Nat) (data : List Byte) :
    Changes s (s.putFrame p im x f data) [.cellar, .led, .meas] := by
  rw [State.putFrame_eq]
  refine Changes.foldl (f := fun s l => s.putPortion p im x f data l) (fun u l => ?_) _ s
  unfold State.putPortion
  dsimp only
  split
  · exact Changes.refl u _
  · exact (u.longWrite_changes _ _ _ _).trans (State.longWrite_changes _ _ _ _ _)

theorem State.putFrame_cells (s : State) (p : Nat) (im : Image) (x : Pool) (f : Nat) (data : List Byte) :
    CellsBut [(0x6010, 4)] s (s.putFrame p im x f data) := by
  rw [State.putFrame_eq]
  refine CellsBut.foldl (f := fun s l => s.putPortion p im x f data l) (fun u l => ?_) _ s
  unfold State.putPortion
  dsimp only
  split
  · exact .of_led rfl
  · exact (u.longWrite_cells _ _ _ _).trans (State.longWrite_cells _ _ _ _ _)

end Sys2Proof.Machine
end

section
/-! PROOFS. SPILL_START, SPILL_ACK and SPILL_ACK_TIMEOUT (R173, R226, R230): the statement O24. -/

namespace Sys2Proof.Machine

/-! ### The page of a transfer -/

theorem State.pageCtx_pool {s : State} {p request i m : Nat} {d : Bool} {o : Ob} {x : PoolSt} {im : Image}
    (h : s.pageCtx p request d = some (i, o, m, x, im)) : s.pool p m = some x := by
  unfold State.pageCtx at h
  split at h
  · split at h
    · obtain ⟨y, hy, he⟩ := Option.map_eq_some_iff.1 h
      simp only [Prod.mk.injEq] at he
      obtain ⟨-, -, rfl, rfl, -⟩ := he
      exact hy
    · cases h
  · cases h

/-- A live request's page takes a word, and the transfer on it ends (R226). -/
theorem State.movedPage_sets {s u : State} {i w : Nat} {d : Bool} {j : Nat}
    (hob : u.ob = (s.updOb i (fun o => o.setPage d j w)).ob) (hlive : (s.obAt i).st.live = true)
    (hdrain : (s.obAt i).st ≠ .draining) :
    ((u.movedPage i d j).obAt i).page d j = w ∧
      ((u.movedPage i d j).obAt i).moving = (s.obAt i).moving.filter (fun k => k != pageKey d j) ∧
      ((u.movedPage i d j).obAt i).st = (s.obAt i).st ∧ SameBut [i] s.obAt (u.movedPage i d j).obAt ∧
      SameFrames u (u.movedPage i d j) ∧ Changes u (u.movedPage i d j) [.plots, .ob] := by
  have hi : u.obAt i = (s.obAt i).setPage d j w := by rw [State.obAt_of_ob hob, State.obAt_updOb, if_pos rfl]
  obtain ⟨hrec, hothers, hframes, hch⟩ := State.movedPage_live (s := u) (i := i) (by rw [hi, Ob.st_setPage]; exact hlive)
    (by rw [hi, Ob.st_setPage]; exact hdrain) d j
  refine ⟨?_, ?_, ?_, fun n hn => ?_, hframes, hch⟩
  · rw [hrec, hi]
    exact Ob.page_setPage _ d j w
  · rw [hrec, hi]
    exact congrArg (List.filter _) (Ob.moving_setPage _ d j w)
  · rw [hrec, hi]
    exact Ob.st_setPage _ d j w
  · rw [hothers n hn, State.obAt_of_ob hob]
    exact s.obAt_updOb_others i _ n hn

/-! ### Spills that end late (R173) -/

/-- A page keeps its frame, for its spill was not acknowledged in time. -/
def State.keepFrame (s : State) (p i : Nat) (d : Bool) (j f : Nat) : State :=
  ((s.updOb i (fun o => o.setPage d j (pgWord 2 f))).raise 0x6401 p [p, f]).movedPage i d j

theorem State.keepFrame_spec {s : State} {i : Nat} (hlive : (s.obAt i).st.live = true) (hdrain : (s.obAt i).st ≠ .draining) (p : Nat)
    (d : Bool) (j f : Nat) : ((s.keepFrame p i d j f).obAt i).page d j = pgWord 2 f ∧
      ((s.keepFrame p i d j f).obAt i).moving = (s.obAt i).moving.filter (fun k => k != pageKey d j) ∧
      Raises s (s.keepFrame p i d j f) [(0x6401, p, [p, f])] ∧ SameBut [i] s.obAt (s.keepFrame p i d j f).obAt ∧
      Changes s (s.keepFrame p i d j f) (.ob :: .plots :: Part.report) := by
  have hupd := Changes.updOb s i (fun o => o.setPage d j (pgWord 2 f))
  unfold State.keepFrame
  generalize hu : s.updOb i (fun o => o.setPage d j (pgWord 2 f)) = u at hupd
  have hraise := Changes.raise u 0x6401 p [p, f]
  have hev : Raises s (u.raise 0x6401 p [p, f]) [(0x6401, p, [p, f])] :=
    Raises.one (congrArg Events.seq (hupd .ev (by decide))) _ _ _
  generalize u.raise 0x6401 p [p, f] = v at hraise hev
  obtain ⟨hword, hmoved, -, hothers, -, hch⟩ := State.movedPage_sets ((hraise .ob (by decide)).trans (congrArg State.ob hu.symm))
    hlive hdrain
  exact ⟨hword, hmoved, hev.congr (hch .ev (by decide)) (hch .now (by decide)), hothers,
    (hupd.mono (by decide)).trans ((hraise.mono (by decide)).trans (hch.mono (by decide)))⟩

/-! ### SPILL_START -/

/-- A request's record when a page's spill to a remote slot has begun (R173, R215). -/
def Ob.spilling (o : Ob) (d : Bool) (j frame slot due : Nat) : Ob :=
  { o.setPage d j (pgWord 3 frame) with
    moving := o.moving ++ [pageKey d j], remoteOf := Tab.set 0 o.remoteOf (pageKey d j) (slot + 1),
    spillBy := Tab.set 0 o.spillBy (pageKey d j) due }

section Spill

variable {s : State} {p : PlotId} {request : U32} {i m : Nat} {x : PoolSt} {im : Image} {d : Bool} {j : Nat}
  (hctx : s.pageCtx p.val request.toNat d = some (i, s.obAt i, m, x, im))
include hctx

section Start

variable {path : Nat} (hreq : s.findReq p.val request.toNat = some i)
  (hfind : (s.obAt i).find (fun d j => (s.obAt i).spillable d j) = some (d, j)) (hpath : s.spillPath p.val = some path)
  (hst : (s.obAt i).st = .pausedCool) (hfill : (s.obAt i).filling = false) (hhint : s.hintHolds (s.obAt i) = false)
  (hheld : s.frameHeld im x.desc (pgFrame ((s.obAt i).page d j)) = false)
  (hlost : s.frameLost im x.desc (pgFrame ((s.obAt i).page d j)) = none)
include hreq hfind hpath hst hfill hhint hheld hlost

theorem exec_spillStart : exec (.spillStart p request) s = .next (s.startTransfer p.val m i
    (fun x' => { x' with remote := x'.remote ++ [x.pickRemote] })
    (fun o => o.spilling d j (pgFrame ((s.obAt i).page d j)) x.pickRemote (s.now + s.spillLimit p.val path + 1))
    (.rdma p.val path (x.pickRemote * remoteBytes x.desc) true (s.sealed p.val path (x.pickRemote * remoteBytes x.desc)
      (s.frameBytes im x.desc (pgFrame ((s.obAt i).page d j)))))) := by
  change execSpillStart p request s = _
  have hgo : ¬ ((s.obAt i).st ≠ .pausedCool ∨ (s.obAt i).filling = true ∨ s.hintHolds (s.obAt i) = true) := by
    simp [hst, hfill, hhint]
  simp only [execSpillStart, hreq, hfind, hpath, if_neg hgo, hctx, hheld, hlost, Bool.false_eq_true, if_false]
  rfl

theorem spillStart_spills : ∃ t, exec (.spillStart p request) s = .next t ∧
    (t.obAt i).page d j = pgWord 3 (pgFrame ((s.obAt i).page d j)) ∧
    (t.obAt i).moving = (s.obAt i).moving ++ [pageKey d j] ∧
    t.out = .rdma p.val path (x.pickRemote * remoteBytes x.desc) true (s.sealed p.val path (x.pickRemote * remoteBytes x.desc)
      (s.frameBytes im x.desc (pgFrame ((s.obAt i).page d j)))) :: s.out ∧
    Tab.get 0 (t.obAt i).spillBy (pageKey d j) = s.now + s.spillLimit p.val path + 1 ∧
    (t.obAt i).st = .pausedCool ∧ SameBut [i] s.obAt t.obAt ∧ Changes s t [.plots, .ob, .out] := by
  have hx := exec_spillStart hctx hreq hfind hpath hst hfill hhint hheld hlost
  generalize hstart : s.startTransfer _ _ _ _ _ _ = t at hx
  obtain ⟨hrec, hout, hothers, hch⟩ := State.startTransfer_spec hstart
  refine ⟨t, hx, ?_⟩
  rw [hrec]
  exact ⟨Ob.page_setPage _ _ _ _, rfl, hout, by simp only [Ob.spilling, Tab.get_set_self], (Ob.st_setPage _ _ _ _).trans hst,
    hothers, hch⟩

end Start

/-! ### SPILL_ACK and SPILL_ACK_TIMEOUT -/

variable (hmoving : (s.obAt i).moving.contains (pageKey d j) = true) (hpage : pgState ((s.obAt i).page d j) = 3)
include hmoving hpage

/-- The remote side has the frame of a session that is still paused (R226). -/
theorem exec_spillAck_inTime (hst : (s.obAt i).st = .pausedCool) (hlate : (s.obAt i).late s.now d j = false) :
    exec (.spillAck p request d j) s = .next ((((s.updOb i (fun o => o.setPage d j (pgWord 4
      (Tab.get 0 (s.obAt i).remoteOf (pageKey d j) - 1)))).returnFrame p.val m (pgFrame ((s.obAt i).page d j))).bump 64
        (0x6200 + p.val) 0x13 (frameSize x.desc)).movedPage i d j) := by
  change execSpillAck p request d j s = _
  simp only [execSpillAck, hctx, hmoving, hpage, hlate, hst, Bool.true_eq_false, Bool.false_eq_true, Nat.reduceEqDiff, or_self,
    and_false, and_self, if_false, if_true]
  rfl

theorem spillAck_spills (hst : (s.obAt i).st = .pausedCool) (hlate : (s.obAt i).late s.now d j = false) :
    ∃ t, exec (.spillAck p request d j) s = .next t ∧
      (t.obAt i).page d j = pgWord 4 (Tab.get 0 (s.obAt i).remoteOf (pageKey d j) - 1) ∧
      (t.obAt i).moving = (s.obAt i).moving.filter (fun k => k != pageKey d j) ∧
      (∃ y, t.pool p.val m = some y ∧ y.used = x.used.filter (fun f => f != pgFrame ((s.obAt i).page d j))) ∧
      t.cell (0x6200 + p.val) 0x13 = satAdd 64 (s.cell (0x6200 + p.val) 0x13) (frameSize x.desc) ∧
      SameBut [i] s.obAt t.obAt ∧ CellsBut [(0x6200 + p.val, 0x13)] s t ∧ Changes s t [.plots, .ob, .led] := by
  refine ⟨_, exec_spillAck_inTime hctx hmoving hpage hst hlate, ?_⟩
  set w := pgWord 4 (Tab.get 0 (s.obAt i).remoteOf (pageKey d j) - 1)
  set f := pgFrame ((s.obAt i).page d j)
  set u := (s.updOb i (fun o => o.setPage d j w)).returnFrame p.val m f with hu
  have hsu : Changes s u [.plots, .ob] :=
    ((Changes.updOb s i _).mono (by decide)).trans ((State.returnFrame_changes _ p.val m f).mono (by decide))
  have hled : u.led = s.led := hsu .led (by decide)
  have hpool : (u.pool p.val m).map PoolSt.used = some (x.used.filter (fun g => g != f)) := by
    rw [hu, State.returnFrame, State.pool_updPool, if_pos ⟨rfl, rfl⟩]
    change ((s.pool p.val m).map _).map _ = _
    rw [State.pageCtx_pool hctx]
    rfl
  obtain ⟨hword, hmoved, -, hothers, hframes, hch⟩ := State.movedPage_sets (s := s) (i := i) (w := w) (d := d) (j := j)
    (u := u.bump 64 (0x6200 + p.val) 0x13 (frameSize x.desc)) rfl (by rw [hst]; rfl) (by rw [hst]; decide)
  have hled' := hch .led (by decide)
  refine ⟨hword, hmoved, Option.map_eq_some_iff.1 ((hframes p.val m).trans hpool), ?_, hothers,
    (CellsBut.of_led hled).trans ((CellsBut.bump u _ _ _ _ (by decide)).trans (.of_led hled')),
    (hsu.mono (by decide)).trans (((Changes.bump u _ _ _ _).mono (by decide)).trans (hch.mono (by decide)))⟩
  rw [State.cell_of_led hled', State.cell_bump_self, State.cell_of_led hled]

variable (hlate : (s.obAt i).late s.now d j = true)
include hlate

theorem exec_spillAck_late : exec (.spillAck p request d j) s =
    .next (s.keepFrame p.val i d j (pgFrame ((s.obAt i).page d j))) := by
  change execSpillAck p request d j s = _
  simp only [execSpillAck, hctx, hmoving, hpage, hlate, Bool.true_eq_false, Nat.reduceEqDiff, or_self, and_self, if_false, if_true]
  rfl

theorem exec_spillAckTimeout_late : exec (.spillAckTimeout p request d j) s =
    .next (s.keepFrame p.val i d j (pgFrame ((s.obAt i).page d j))) := by
  change execSpillAckTimeout p request d j s = _
  simp only [execSpillAckTimeout, hctx, hmoving, hpage, hlate, Bool.true_eq_false, Nat.reduceEqDiff, or_self, if_false, if_true]
  rfl

end Spill

end Sys2Proof.Machine

open Sys2Proof Sys2Proof.Machine

/-- Settles O24: a spill starts, is acknowledged in time, or ends late. -/
theorem spillsMoveOnePage : Obligations.SpillsMoveOnePage := by
  intro s p request i m x im d j hctx
  refine ⟨fun path hreq hfind hpath hst hfill hhint hheld hlost =>
      spillStart_spills hctx hreq hfind hpath hst hfill hhint hheld hlost,
    fun hmoving hpage hst hlate => spillAck_spills hctx hmoving hpage hst hlate,
    fun hmoving hpage hlive hdrain hlate => ⟨_, exec_spillAckTimeout_late hctx hmoving hpage hlate,
      exec_spillAck_late hctx hmoving hpage hlate, State.keepFrame_spec hlive hdrain _ _ _ _⟩⟩
end

section
/-! PROOFS. FILL_START, FILL_COMPLETE and FILL_FAILED (R174, R175, R226, R231, R232): the statement O25. -/

namespace Sys2Proof.Machine

/-- A request's record when a page's way back from its remote slot has begun (R215, R231). -/
def Ob.fetching (o : Ob) (d : Bool) (j frame slot : Nat) : Ob :=
  { o.setPage d j (pgWord 5 frame) with
    moving := o.moving ++ [pageKey d j], remoteOf := Tab.set 0 o.remoteOf (pageKey d j) (slot + 1),
    tries := Tab.set 0 o.tries (pageKey d j) 0 }

/-- A request's record with the number of a fill's failed tries (R232). -/
def Ob.tried (o : Ob) (d : Bool) (j n : Nat) : Ob := { o with tries := Tab.set 0 o.tries (pageKey d j) n }

/-- The page of a fill that has failed for the third time is LOST: its frame returns to the pool, E-6402 says so (R226, R232). -/
def State.losePage (s : State) (p m i : Nat) (d : Bool) (j f request : Nat) : State :=
  (((((s.updOb i (fun o => o.tried d j (Tab.get 0 (s.obAt i).tries (pageKey d j) + 1))).updOb i
    (fun o => o.setPage d j (pgWord 6 f))).transferEnd i d j).returnFrame p m f).raise 0x6402 p [p, request, j])

theorem State.losePage_spec (s : State) (p m i : Nat) (d : Bool) (j f request : Nat) :
    KeepsFate i s (s.losePage p m i d j f request) ∧ Changes s (s.losePage p m i d j f request) Part.work := by
  unfold State.losePage
  have hfate : KeepsFate i s (s.updOb i (fun o => o.tried d j (Tab.get 0 (s.obAt i).tries (pageKey d j) + 1))) :=
    .updOb rfl rfl rfl
  have hupd := Changes.updOb s i (fun o => o.tried d j (Tab.get 0 (s.obAt i).tries (pageKey d j) + 1))
  generalize s.updOb i (fun o => o.tried d j (Tab.get 0 (s.obAt i).tries (pageKey d j) + 1)) = u at hfate hupd
  have hword := KeepsFate.setPage u i d j (pgWord 6 f)
  have hword' := Changes.updOb u i (fun o => o.setPage d j (pgWord 6 f))
  generalize u.updOb i (fun o => o.setPage d j (pgWord 6 f)) = v at hword hword'
  have hend := v.transferEnd_changes i d j
  have hreturn := (v.transferEnd i d j).returnFrame_changes p m f
  have hraise := Changes.raise ((v.transferEnd i d j).returnFrame p m f) 0x6402 p [p, request, j]
  refine ⟨hfate.trans (hword.trans ((v.transferEnd_keepsFate i d j).trans
    (.of_ob ((hraise .ob (by decide)).trans (hreturn .ob (by decide)))))), ?_⟩
  exact (hupd.mono (by decide)).trans ((hword'.mono (by decide)).trans ((hend.mono (by decide)).trans
    ((hreturn.mono (by decide)).trans (hraise.mono (by decide)))))

section Fill

variable {s : State} {p : PlotId} {request : U32} {i m : Nat} {x : PoolSt} {im : Image} {d : Bool} {j : Nat}
  (hctx : s.pageCtx p.val request.toNat d = some (i, s.obAt i, m, x, im))
include hctx

/-! ### FILL_START -/

section Start

variable {path f : Nat} (hreq : s.findReq p.val request.toNat = some i)
  (hfind : (s.obAt i).find (fun d j => pgState ((s.obAt i).page d j) == 4) = some (d, j)) (hpath : s.spillPath p.val = some path)
  (hruns : (s.obAt i).fillsRun = true)
  (hpick : x.pick (j % x.a) s.cellar.writes.length (fun f => s.frameBusy p.val x.desc f) = some f)
include hreq hfind hpath hruns hpick

theorem exec_fillStart : exec (.fillStart p request) s = .next (s.startTransfer p.val m i
    (fun x' => { x' with used := x'.used ++ [f] }) (fun o => o.fetching d j f (pgFrame ((s.obAt i).page d j)))
    (.rdma p.val path (pgFrame ((s.obAt i).page d j) * remoteBytes x.desc) false [])) := by
  change execFillStart p request s = _
  have halloc : s.allocFrame p.val m j = some (f, s.updPool p.val m (fun x' => { x' with used := x'.used ++ [f] })) := by
    simp only [State.allocFrame, State.pageCtx_pool hctx, hpick]
  simp only [execFillStart, hreq, hfind, hpath, hruns, hctx, halloc, Bool.true_eq_false, if_false]
  rfl

theorem fillStart_fetches : ∃ t, exec (.fillStart p request) s = .next t ∧ (t.obAt i).page d j = pgWord 5 f ∧
    (t.obAt i).moving = (s.obAt i).moving ++ [pageKey d j] ∧
    t.out = .rdma p.val path (pgFrame ((s.obAt i).page d j) * remoteBytes x.desc) false [] :: s.out ∧
    SameBut [i] s.obAt t.obAt ∧ Changes s t [.plots, .ob, .out] := by
  have hx := exec_fillStart hctx hreq hfind hpath hruns hpick
  generalize hstart : s.startTransfer _ _ _ _ _ _ = t at hx
  obtain ⟨hrec, hout, hothers, hch⟩ := State.startTransfer_spec hstart
  refine ⟨t, hx, ?_⟩
  rw [hrec]
  exact ⟨Ob.page_setPage _ _ _ _, rfl, hout, hothers, hch⟩

end Start

variable (hmoving : (s.obAt i).moving.contains (pageKey d j) = true) (hpage : pgState ((s.obAt i).page d j) = 5)
  (hlive : (s.obAt i).st.live = true) (hdrain : (s.obAt i).st ≠ .draining)

/-! ### FILL_COMPLETE -/

section Complete

variable (hheld : s.frameHeld im x.desc (pgFrame ((s.obAt i).page d j)) = false)
include hmoving hpage hheld

theorem exec_fillComplete (data : List Byte) : exec (.fillComplete p request d j data) s =
    .next (((((s.putFrame p.val im x.desc (pgFrame ((s.obAt i).page d j)) data).bump 64 (0x6200 + p.val) 0x14
      (frameSize x.desc)).updOb i (fun o => o.setPage d j (pgWord 2 (pgFrame ((s.obAt i).page d j)))))).movedPage i d j) := by
  change execFillComplete p request d j data s = _
  simp only [execFillComplete, hctx, hmoving, hpage, hheld, Bool.true_eq_false, Bool.false_eq_true, Nat.reduceEqDiff, and_false,
    or_self, ne_eq, not_true_eq_false, if_false]

include hlive hdrain in
theorem fillComplete_fills (data : List Byte) : ∃ t, exec (.fillComplete p request d j data) s = .next t ∧
    t.cellar = (s.putFrame p.val im x.desc (pgFrame ((s.obAt i).page d j)) data).cellar ∧
    (t.obAt i).page d j = pgWord 2 (pgFrame ((s.obAt i).page d j)) ∧ (t.obAt i).st = (s.obAt i).st ∧
    t.cell (0x6200 + p.val) 0x14 = satAdd 64 (s.cell (0x6200 + p.val) 0x14) (frameSize x.desc) ∧
    SameBut [i] s.obAt t.obAt ∧ Changes s t [.plots, .ob, .led, .cellar, .meas] := by
  refine ⟨_, exec_fillComplete hctx hmoving hpage hheld data, ?_⟩
  generalize pgFrame ((s.obAt i).page d j) = f
  have hput := s.putFrame_changes p.val im x.desc f data
  have hcells := s.putFrame_cells p.val im x.desc f data
  generalize s.putFrame p.val im x.desc f data = u at hput hcells
  have hbump := Changes.bump u 64 (0x6200 + p.val) 0x14 (frameSize x.desc)
  have hcell : (u.bump 64 (0x6200 + p.val) 0x14 (frameSize x.desc)).cell (0x6200 + p.val) 0x14 =
      satAdd 64 (s.cell (0x6200 + p.val) 0x14) (frameSize x.desc) := by
    rw [State.cell_bump_self, hcells _ _ (by decide) (by simp)]
  generalize u.bump 64 (0x6200 + p.val) 0x14 (frameSize x.desc) = v at hbump hcell
  have hob : v.ob = s.ob := (hbump .ob (by decide)).trans (hput .ob (by decide))
  have hupd := Changes.updOb v i (fun o => o.setPage d j (pgWord 2 f))
  have hob' : (v.updOb i (fun o => o.setPage d j (pgWord 2 f))).ob = (s.updOb i (fun o => o.setPage d j (pgWord 2 f))).ob := by
    simp only [State.updOb, hob]
  generalize v.updOb i (fun o => o.setPage d j (pgWord 2 f)) = w at hupd hob'
  obtain ⟨hword, -, hst, hothers, -, hch⟩ := State.movedPage_sets hob' hlive hdrain
  have hend : Changes v (w.movedPage i d j) [.plots, .ob] := (hupd.mono (by decide)).trans hch
  refine ⟨(hend .cellar (by decide)).trans (hbump .cellar (by decide)), hword, hst, ?_, hothers,
    (hput.mono (by decide)).trans ((hbump.mono (by decide)).trans (hend.mono (by decide)))⟩
  rw [State.cell_of_led (hend .led (by decide)), hcell]

end Complete

/-! ### FILL_FAILED -/

section Failed

variable {why : Status} {path : Nat} (hwhy : why = .linkDown ∨ why = .truncated ∨ why = .noSpace)
  (hpath : s.spillPath p.val = some path)
include hmoving hpage hlive hdrain hwhy hpath

/-- A fill of a live request fails before its data could be checked: it is tried again, or the page is lost (R226, R232). -/
theorem exec_fillFailed : exec (.fillFailed p request d j why) s = .next (
    if Tab.get 0 (s.obAt i).tries (pageKey d j) + 1 < 3 then
      ((s.updOb i (fun o => o.tried d j (Tab.get 0 (s.obAt i).tries (pageKey d j) + 1))).bump 32 (0x6200 + p.val) 0x15 1).emit
        (.rdma p.val path ((Tab.get 0 (s.obAt i).remoteOf (pageKey d j) - 1) * remoteBytes x.desc) false [])
    else
      ((s.losePage p.val m i d j (pgFrame ((s.obAt i).page d j)) request.toNat).endRequest i .faulted .faulted
        (s.obAt i).tag).settle i) := by
  change execFillFailed p request d j why s = _
  have hnotInteg : why ≠ .integrity := by rcases hwhy with h | h | h <;> simp [h]
  simp only [execFillFailed, State.fillFails, hctx, hpath, hmoving, hpage, hlive, hdrain, hnotInteg, hwhy, Bool.true_eq_false,
    Nat.reduceEqDiff, and_false, or_false, ne_eq, not_true_eq_false, if_false, Option.getD_some]
  rfl

/-- Below three failures the read leaves again (R232). -/
theorem fillFailed_retries (htries : Tab.get 0 (s.obAt i).tries (pageKey d j) < 2) :
    ∃ t, exec (.fillFailed p request d j why) s = .next t ∧
      Tab.get 0 (t.obAt i).tries (pageKey d j) = Tab.get 0 (s.obAt i).tries (pageKey d j) + 1 ∧
      (t.obAt i).page d j = (s.obAt i).page d j ∧
      t.cell (0x6200 + p.val) 0x15 = satAdd 32 (s.cell (0x6200 + p.val) 0x15) 1 ∧
      t.out = .rdma p.val path ((Tab.get 0 (s.obAt i).remoteOf (pageKey d j) - 1) * remoteBytes x.desc) false [] :: s.out ∧
      SameBut [i] s.obAt t.obAt ∧ CellsBut [(0x6200 + p.val, 0x15)] s t ∧ Changes s t [.ob, .led, .out] := by
  have hx := exec_fillFailed hctx hmoving hpage hlive hdrain hwhy hpath
  refine ⟨_, hx.trans (congrArg Host.Outcome.next (if_pos (by omega))), ?_⟩
  generalize Tab.get 0 (s.obAt i).tries (pageKey d j) + 1 = n
  generalize Out.rdma p.val path _ false [] = o
  have hrec : (s.updOb i (fun o => o.tried d j n)).obAt i = (s.obAt i).tried d j n := by rw [State.obAt_updOb, if_pos rfl]
  have hothers := s.obAt_updOb_others i (fun o => o.tried d j n)
  have hupd := Changes.updOb s i (fun o => o.tried d j n)
  have hout : (s.updOb i (fun o => o.tried d j n)).out = s.out := rfl
  generalize s.updOb i (fun o => o.tried d j n) = u at hrec hothers hupd hout
  have hled : u.led = s.led := hupd .led (by decide)
  change Tab.get 0 (u.obAt i).tries _ = n ∧ (u.obAt i).page d j = _ ∧ (u.bump 32 (0x6200 + p.val) 0x15 1).cell _ _ = _ ∧
    o :: u.out = _ ∧ SameBut [i] s.obAt u.obAt ∧ _
  rw [hrec, hout, State.cell_bump_self, State.cell_of_led hled]
  exact ⟨by simp only [Ob.tried, Tab.get_set_self], rfl, rfl, rfl, hothers,
    (CellsBut.of_led hled).trans (CellsBut.bump u _ _ _ _ (by decide)),
    (hupd.mono (by decide)).trans (((Changes.bump u _ _ _ _).mono (by decide)).trans ((Changes.emit _ o).mono (by decide)))⟩

/-- The third failure loses the page, and with it the request (R226, R232). -/
theorem fillFailed_faults (htries : 2 ≤ Tab.get 0 (s.obAt i).tries (pageKey d j)) (hc : (s.obAt i).consumed = false) :
    ∃ t, exec (.fillFailed p request d j why) s = .next t ∧ (t.obAt i).st = .faulted ∧ (t.obAt i).final = some .faulted ∧
      SameBut [i] s.obAt t.obAt ∧ Changes s t Part.work := by
  have hx := exec_fillFailed hctx hmoving hpage hlive hdrain hwhy hpath
  refine ⟨_, hx.trans (congrArg Host.Outcome.next (if_neg (by omega))), ?_⟩
  obtain ⟨hfate, hlost⟩ := s.losePage_spec p.val m i d j (pgFrame ((s.obAt i).page d j)) request.toNat
  generalize s.losePage p.val m i d j (pgFrame ((s.obAt i).page d j)) request.toNat = u at hfate hlost
  obtain ⟨hothers, -, -, hcons⟩ := hfate
  obtain ⟨hst, hfinal, hothers', hch⟩ := State.fault_stays (hcons.trans hc) .faulted (s.obAt i).tag
  exact ⟨hst, hfinal, hothers.trans hothers', hlost.trans hch⟩

end Failed

end Fill

end Sys2Proof.Machine

open Sys2Proof Sys2Proof.Machine

/-- Settles O25: a fill starts, brings its page back, is tried again, or fails for the third time. -/
theorem fillsBringThePageBack : Obligations.FillsBringThePageBack := by
  intro s p request i m x im d j hctx
  refine ⟨fun path f hreq hfind hpath hruns hpick => fillStart_fetches hctx hreq hfind hpath hruns hpick,
    fun data hmoving hpage hlive hdrain hheld => fillComplete_fills hctx hmoving hpage hlive hdrain hheld data,
    fun why path hwhy hpath hmoving hpage hlive hdrain => ⟨fun htries => ?_, fun htries hc => ?_⟩⟩
  · exact fillFailed_retries hctx hmoving hpage hlive hdrain hwhy hpath htries
  · exact fillFailed_faults hctx hmoving hpage hlive hdrain hwhy hpath htries hc
end

section
/-! SUPPORT. Rings after a batch of entries (R260, R263), and submissions up to the checks of their opcode (R247 to R249). -/

namespace Sys2Proof.Machine

/-! ### Rings -/

/-- A queue pair to which an entry has been posted: written, or waiting behind those that wait (R260). -/
def Qp.posted (q : Qp) (r : Result) : Qp :=
  if q.canWrite ∧ q.waiting = [] then q.written r else { q with waiting := q.waiting ++ [r] }

theorem State.qp_of_qps {s t : State} (h : t.qps = s.qps) (n : Nat) : t.qp n = s.qp n := by rw [State.qp, h, State.qp]

theorem State.qp_postOne (s : State) (n : Nat) (r : Result) (k : Nat) :
    (s.postOne n r).qp k = if n = k then (s.qp k).posted r else s.qp k := by
  have hwrite : (s.ringWrite n r).qp k = if n = k then (s.qp k).written r else s.qp k := by
    have h : (s.ringWrite n r).qps = Tab.set {} s.qps n ((s.qp n).written r) := rfl
    rw [State.qp, h, Tab.get_set]
    split
    next e => rw [e]
    next => rfl
  unfold State.postOne Qp.posted
  dsimp only
  by_cases hk : n = k
  · subst hk
    simp only [if_true] at hwrite ⊢
    split
    · exact hwrite
    · exact (s.qp_updQp n n _).trans (if_pos rfl)
  · rw [if_neg hk] at hwrite ⊢
    split
    · exact hwrite
    · exact (s.qp_updQp n k _).trans (if_neg hk)

/-- A batch is posted entry by entry, in its own ring (R263). -/
theorem State.qp_post (s : State) (n : Nat) (rs : List Result) (k : Nat) :
    (s.post n rs).qp k = if n = k then rs.foldl Qp.posted (s.qp k) else s.qp k := by
  have hirq : (s.post n rs).qp k = (rs.foldl (fun s r => s.postOne n r) s).qp k := by
    unfold State.post
    dsimp only
    split
    · rfl
    · exact State.qp_of_qps (State.ringIrq_changes _ n .qps (by decide)) k
  rw [hirq]
  clear hirq
  induction rs generalizing s with
  | nil => simp
  | cons r rs ih =>
    rw [List.foldl_cons, ih, State.qp_postOne]
    split <;> rfl

theorem Qp.sqHead_posted (q : Qp) (r : Result) : (q.posted r).sqHead = q.sqHead := by
  unfold Qp.posted
  split <;> rfl

/-- Posting leaves the submission ring alone. -/
theorem State.sqHead_post (s : State) (n : Nat) (rs : List Result) (k : Nat) : ((s.post n rs).qp k).sqHead = (s.qp k).sqHead := by
  rw [State.qp_post]
  split
  · exact foldl_keeps Qp.sqHead rs (fun r _ q => q.sqHead_posted r) _
  · rfl

/-- A ring with room for an entry has another place behind RQ_TAIL (R277). -/
theorem Qp.next_ne_of_canWrite {q : Qp} (h : q.canWrite = true) : (q.rqTail + 1) % q.rqSize ≠ q.rqTail := by
  have hroom : 0 < q.rqSize - 1 - q.rqUsed := by
    simp only [Qp.canWrite, Bool.and_eq_true, decide_eq_true_eq] at h
    exact h.2
  intro he
  rcases Nat.lt_or_ge (q.rqTail + 1) q.rqSize with hlt | hge
  · rw [Nat.mod_eq_of_lt hlt] at he
    omega
  · have hmod := Nat.mod_lt (q.rqTail + 1) (show 0 < q.rqSize by omega)
    have hsub : (q.rqTail + 1) % q.rqSize = (q.rqTail + 1 - q.rqSize) % q.rqSize := Nat.mod_eq_sub_mod hge
    have hle := Nat.mod_le (q.rqTail + 1 - q.rqSize) q.rqSize
    omega

/-- An entry that was posted first stays posted when another one follows it (R260). -/
theorem Posts.then_posted {s t u : State} {n : Nat} {r r' : Result} (ht : t.qp n = (s.qp n).posted r)
    (hu : u.qp n = (t.qp n).posted r') : Posts s u n r := by
  unfold Posts
  rw [hu, ht]
  by_cases h : (s.qp n).canWrite = true ∧ (s.qp n).waiting = []
  · have hw : (s.qp n).posted r = (s.qp n).written r := if_pos h
    rw [if_pos h, hw]
    have hself : Tab.get none ((s.qp n).written r).ring (s.qp n).rqTail = some (r, (s.qp n).phase) :=
      Tab.get_set_self none (s.qp n).ring (s.qp n).rqTail (some (r, (s.qp n).phase))
    unfold Qp.posted
    split
    · exact (Tab.get_set_ne none _ (some (r', ((s.qp n).written r).phase)) (Qp.next_ne_of_canWrite h.1)).trans hself
    · exact hself
  · have hw : (s.qp n).posted r = { s.qp n with waiting := (s.qp n).waiting ++ [r] } := if_neg h
    rw [if_neg h, hw]
    refine ⟨[r'], ?_⟩
    unfold Qp.posted
    rw [if_neg (fun h' => by simp at h')]
    simp

/-- What a ring shows of an entry does not depend on another ring. -/
theorem Posts.of_qp {s t u : State} {n : Nat} {r : Result} (h : Posts s t n r) (hu : u.qp n = t.qp n) : Posts s u n r := by
  simp only [Posts, hu]
  exact h

/-! ### A submission is fetched -/

/-- The entry at SQ_HEAD is taken from its ring (R247). -/
def State.fetched (s : State) (n : Nat) : State :=
  (s.ringFetched n).updQp n (fun q => { q with sqHead := (q.sqHead + 1) % q.sqSize })

theorem State.ringFetched_changes (s : State) (n : Nat) : Changes s (s.ringFetched n) [.procs] := by
  unfold State.ringFetched
  split
  · exact Changes.refl s _
  · exact Changes.setProcs s _

theorem State.fetched_changes (s : State) (n : Nat) : Changes s (s.fetched n) [.qps, .procs] :=
  ((s.ringFetched_changes n).mono (by decide)).trans ((Changes.updQp _ n _).mono (by decide))

theorem State.qp_fetched (s : State) (n : Nat) : (s.fetched n).qp n =
    { s.qp n with sqHead := ((s.qp n).sqHead + 1) % (s.qp n).sqSize } := by
  rw [State.fetched, State.qp_updQp, if_pos rfl, State.qp_of_qps (s.ringFetched_changes n .qps (by decide))]

/-- An entry posted after the fetch is posted in the ring as it stood before. -/
theorem Posts.of_fetched {s t : State} {n k : Nat} {r : Result} (h : Posts (s.fetched n) t k r) : Posts s t k r := by
  by_cases hk : n = k
  · subst hk
    simp only [Posts, State.qp_fetched] at h
    exact h
  · have hq : (s.fetched n).qp k = s.qp k := by
      rw [State.fetched, State.qp_updQp, if_neg hk, State.qp_of_qps (s.ringFetched_changes n .qps (by decide))]
    simp only [Posts, hq] at h
    exact h

/-! ### What a submission asks of the state -/

theorem State.plotsNow_of_led {s t : State} (h : t.led = s.led) : t.plotsNow = s.plotsNow := by
  have hcell : t.cell = s.cell := funext fun i => funext fun j => State.cell_of_led h i j
  unfold State.plotsNow State.plotExists State.plotState
  rw [hcell]

theorem State.plotOfQp_of_led {s t : State} (h : t.led = s.led) (n : Nat) : t.plotOfQp n = s.plotOfQp n := by
  have hcell : t.cell = s.cell := funext fun i => funext fun j => State.cell_of_led h i j
  unfold State.plotOfQp
  rw [State.plotsNow_of_led h, hcell]

theorem State.plot_of_plots {s t : State} (h : t.plots = s.plots) (p : Nat) : t.plot p = s.plot p := by rw [State.plot, h, State.plot]

theorem State.plotAnswers_of_parts {s t : State} (hled : t.led = s.led) (hplots : t.plots = s.plots) (p op : Nat) :
    t.plotAnswers p op = s.plotAnswers p op := by
  unfold State.plotAnswers State.plotState
  rw [State.cell_of_led hled, State.plot_of_plots hplots]

theorem State.named_of_ob {s t : State} (h : t.ob = s.ob) (p : Nat) (e : Sub) : t.named p e = s.named p e := by
  unfold State.named State.findReq
  rw [h]

/-! ### Which way a submission goes -/

section Submission

variable {s : State} {n p op : Nat} {e : Sub} {act : State → Nat → State × Option Status}

/-- Where the ring's turn has not come nothing is fetched (R247). -/
theorem State.submission_waits (h : s.ringNext n = false) : s.submission n e op act = s := if_pos (by simp [h])

/-- The entry at SQ_HEAD of an ACTIVE pair of a plot, whose ring is next and whose opcode is the command's (R247). -/
def State.Fetches (s : State) (n : Nat) (e : Sub) (op p : Nat) : Prop :=
  (s.qp n).st = .active ∧ (s.qp n).sqHead ≠ (s.qp n).sqTail ∧ s.ringNext n = true ∧ Sub_op e = op ∧ s.plotOfQp n = some p

theorem Submits.fetches (h : Submits s n e op p) : s.Fetches n e op p :=
  ⟨h.1, h.2.1, h.2.2.1, h.2.2.2.1, h.2.2.2.2.1⟩

theorem State.submission_fetched (h : s.Fetches n e op p) : s.submission n e op act =
    match s.plotAnswers p op with
    | some st => (s.fetched n).refuseSub n e st
    | none =>
      if Sub_bad e then (s.fetched n).refuseSub n e .badValue
      else match (act (s.fetched n) p).2 with
        | some st => (act (s.fetched n) p).1.refuseSub n e st
        | none => (act (s.fetched n) p).1 := by
  obtain ⟨hst, hne, hnext, hop, hp⟩ := h
  have hch := s.fetched_changes n
  have hled : (s.fetched n).led = s.led := hch .led (by decide)
  have hpq : (s.fetched n).plotOfQp n = some p := (State.plotOfQp_of_led hled n).trans hp
  have hans : (s.fetched n).plotAnswers p op = s.plotAnswers p op := State.plotAnswers_of_parts hled (hch .plots (by decide)) p op
  rw [← hans]
  unfold State.submission
  dsimp only
  rw [if_neg (by simp [hst, hne, hnext, hop])]
  change (match (s.fetched n).plotOfQp n with | none => _ | some p => _) = _
  rw [hpq, hop]
  rfl

/-- A plot's own answer comes before everything else (R206, R244, R245). -/
theorem State.submission_answered {st : Status} (h : s.Fetches n e op p) (ha : s.plotAnswers p op = some st) :
    s.submission n e op act = (s.fetched n).refuseSub n e st := by rw [State.submission_fetched h, ha]

/-- A reserved field comes next (R248, R249). -/
theorem State.submission_bad (h : s.Fetches n e op p) (ha : s.plotAnswers p op = none) (hb : Sub_bad e = true) :
    s.submission n e op act = (s.fetched n).refuseSub n e .badValue := by
  rw [State.submission_fetched h, ha]
  exact if_pos hb

/-- Then the checks of the opcode refuse it … -/
theorem State.submission_refused {u : State} {st : Status} (h : Submits s n e op p) (hact : act (s.fetched n) p = (u, some st)) :
    s.submission n e op act = u.refuseSub n e st := by
  obtain ⟨-, -, -, -, -, ha, hb⟩ := id h
  rw [State.submission_fetched h.fetches, ha]
  dsimp only
  rw [if_neg (by simp [hb]), hact]

/-- … or let it take its effect. -/
theorem State.submission_accepted {u : State} (h : Submits s n e op p) (hact : act (s.fetched n) p = (u, none)) :
    s.submission n e op act = u := by
  obtain ⟨-, -, -, -, -, ha, hb⟩ := id h
  rw [State.submission_fetched h.fetches, ha]
  dsimp only
  rw [if_neg (by simp [hb]), hact]

end Submission

/-! ### Answers in the submitting ring -/

theorem State.refuseSub_changes (s : State) (n : Nat) (e : Sub) (st : Status) : Changes s (s.refuseSub n e st) [.qps, .out] :=
  s.post_changes n _

/-- A refusal leaves SQ_HEAD where the fetch has moved it, and no request changes (R247, R249). -/
theorem State.refuseSub_fetched (s : State) (n : Nat) (e : Sub) (st : Status) :
    ((s.fetched n).refuseSub n e st).ob = s.ob ∧
      (((s.fetched n).refuseSub n e st).qp n).sqHead = ((s.qp n).sqHead + 1) % (s.qp n).sqSize ∧
      Changes s ((s.fetched n).refuseSub n e st) [.qps, .procs, .out] := by
  have hch : Changes s ((s.fetched n).refuseSub n e st) [.qps, .procs, .out] :=
    ((s.fetched_changes n).mono (by decide)).trans ((State.refuseSub_changes _ n e st).mono (by decide))
  exact ⟨hch .ob (by decide), (State.sqHead_post _ _ _ _).trans (congrArg Qp.sqHead (s.qp_fetched n)), hch⟩

/-- An OPEN that is refused names no request (R249). -/
theorem State.refuseSub_posts_open {s : State} {n : Nat} {e : Sub} (st : Status) (hop : Sub_op e = 1) :
    Posts s ((s.fetched n).refuseSub n e st) n (completion 0xFFFFFFFF st (Sub_tag e) 0 []) := by
  unfold State.refuseSub
  dsimp only
  rw [if_pos hop]
  exact (State.post_posts _ _ _).of_fetched

/-- Any other that is refused carries the committed length of the request that it names (R262). -/
theorem State.refuseSub_posts {s : State} {n p i : Nat} {e : Sub} (st : Status) (hop : Sub_op e ≠ 1) (hp : s.plotOfQp n = some p)
    (hi : s.named p e = some i) : Posts s ((s.fetched n).refuseSub n e st) n
      (completion (Sub_request e) st (Sub_tag e) (s.obAt i).committed []) := by
  have hch := s.fetched_changes n
  have hob : (s.fetched n).ob = s.ob := hch .ob (by decide)
  unfold State.refuseSub
  simp only [State.plotOfQp_of_led (hch .led (by decide)), hp, State.named_of_ob hob, hi, State.obAt_of_ob hob, if_neg hop]
  exact (State.post_posts _ _ _).of_fetched

/-- An acknowledgement is posted, or nothing happens (R251). -/
theorem State.ack_changes (s : State) (i : Nat) (e : Sub) : Changes s (s.ack i e) [.qps, .out] := by
  unfold State.ack
  split
  · exact s.post_changes _ _
  · exact Changes.refl s _

theorem State.sqHead_ack (s : State) (i : Nat) (e : Sub) (k : Nat) : ((s.ack i e).qp k).sqHead = (s.qp k).sqHead := by
  unfold State.ack
  split
  · exact s.sqHead_post _ _ k
  · rfl

/-- A trigger wakes the engine and its plot, and changes nothing else (R347, R348). -/
theorem State.trigger_changes (s : State) (p : Nat) : Changes s (s.trigger p) [.plots, .power] := by
  have hwake : Changes s s.wakeP4 [.plots, .power] := s.wakeP4_changes.mono (by decide)
  unfold State.trigger
  dsimp only
  split
  · exact hwake
  · exact hwake.trans ((Changes.updPlot _ p _).mono (by decide))

end Sys2Proof.Machine
end

section
/-! PROOFS. OPEN, and what every submission meets before its own checks (R245, R247 to R251): the statement O36. -/

namespace Sys2Proof.Machine

/-! ### What OPEN asks of the state -/

@[simp] theorem State.cell_fetched (s : State) (n i j : Nat) : (s.fetched n).cell i j = s.cell i j :=
  State.cell_of_led (s.fetched_changes n .led (by decide)) i j

@[simp] theorem State.named_fetched (s : State) (n p : Nat) (e : Sub) : (s.fetched n).named p e = s.named p e :=
  State.named_of_ob (s.fetched_changes n .ob (by decide)) p e

@[simp] theorem State.obAt_fetched (s : State) (n i : Nat) : (s.fetched n).obAt i = s.obAt i :=
  State.obAt_of_ob (s.fetched_changes n .ob (by decide)) i

@[simp] theorem State.now_fetched (s : State) (n : Nat) : (s.fetched n).now = s.now := s.fetched_changes n .now (by decide)

@[simp] theorem State.plot_fetched (s : State) (n p : Nat) : (s.fetched n).plot p = s.plot p :=
  State.plot_of_plots (s.fetched_changes n .plots (by decide)) p

@[simp] theorem State.model_fetched (s : State) (n p m : Nat) : (s.fetched n).model p m = s.model p m := by
  rw [State.model, State.plot_fetched, State.model]

@[simp] theorem State.obUsed_fetched (s : State) (n p : Nat) : (s.fetched n).obUsed p = s.obUsed p := by
  have hob : (s.fetched n).ob = s.ob := s.fetched_changes n .ob (by decide)
  unfold State.obUsed State.obOf
  rw [hob]

@[simp] theorem State.freeOb_fetched (s : State) (n : Nat) : (s.fetched n).freeOb = s.freeOb := by
  have hob : (s.fetched n).ob = s.ob := s.fetched_changes n .ob (by decide)
  unfold State.freeOb
  simp only [hob, State.obAt_fetched]

@[simp] theorem openOb_fetched (s : State) (n k p : Nat) (e : Sub) : openOb (s.fetched k) n p e = openOb s n p e := by
  have hadmit : (s.fetched k).nextAdmit = s.nextAdmit := s.fetched_changes k .nextAdmit (by decide)
  unfold openOb
  rw [hadmit, State.now_fetched]

/-! ### OPEN -/

/-- The Order Book takes a new request in, and it is counted (R251, R268). -/
def State.takeOpen (s : State) (n p : Nat) (e : Sub) : State :=
  ({ s with ob := Tab.set {} s.ob s.freeOb (openOb s n p e), nextAdmit := s.nextAdmit + 1 } : State).bump 64 0xA000 3 1

theorem State.takeOpen_spec (s : State) (n p : Nat) (e : Sub) :
    (s.takeOpen n p e).obAt s.freeOb = openOb s n p e ∧ (s.takeOpen n p e).nextAdmit = s.nextAdmit + 1 ∧
      (s.takeOpen n p e).cell 0xA000 3 = satAdd 64 (s.cell 0xA000 3) 1 ∧ SameBut [s.freeOb] s.obAt (s.takeOpen n p e).obAt ∧
      CellsBut [(0xA000, 3)] s (s.takeOpen n p e) ∧ Changes s (s.takeOpen n p e) [.ob, .nextAdmit, .led] := by
  have hbook : Changes s ({ s with ob := Tab.set {} s.ob s.freeOb (openOb s n p e), nextAdmit := s.nextAdmit + 1 } : State)
      [.ob, .nextAdmit, .led] := by
    intro q hq
    cases q
    case ob | nextAdmit => exact absurd (by decide) hq
    all_goals rfl
  have hob : (s.takeOpen n p e).ob = Tab.set {} s.ob s.freeOb (openOb s n p e) := rfl
  refine ⟨by rw [State.obAt, hob, Tab.get_set_self], rfl, State.cell_bump_self _ _ _ _ _, fun k hk => ?_,
    (CellsBut.of_led rfl).setCell _ _ _ (by decide) List.mem_cons_self, hbook.trans ((Changes.bump _ _ _ _ _).mono (by decide))⟩
  rw [State.obAt, hob, Tab.get_set_ne _ _ _ (fun he => hk (by simp [he])), State.obAt]

/-- A request that has been opened waits for its first step (R251). -/
theorem openOb_st (s : State) (n p : Nat) (e : Sub) : (openOb s n p e).st = .queued := rfl

section Open

variable {s : State} {n : QpId} {e : Sub} {p : Nat} (h : Submits s n.val e 1 p)
include h

theorem exec_openReq_accepted {mdl : Model} (hnamed : s.named p e = none) (hquota : s.obUsed p < s.cell (0x3000 + p) 5)
    (hmdl : s.model p (bits e.q1.toNat 3 0) = some mdl) (hready : s.cell (0x3100 + p) 3 = 5) (hcount : Sub_count e ≤ mdl.contextLimit) :
    exec (.openReq n e) s = .next ((((s.fetched n.val).takeOpen n.val p e).trigger p).ack s.freeOb e) := by
  change execOpenReq n e s = _
  refine congrArg Host.Outcome.next (State.submission_accepted h ?_)
  simp only [State.named_fetched, hnamed, State.obUsed_fetched, State.cell_fetched, State.model_fetched, hmdl, hready,
    State.freeOb_fetched]
  rw [if_neg (by decide), if_neg (by omega), if_neg (by decide), if_neg (by omega), State.takeOpen, State.freeOb_fetched]

/-- The table of R249 accepts it: a new request, counted. -/
theorem openReq_opens {mdl : Model} (hnamed : s.named p e = none) (hquota : s.obUsed p < s.cell (0x3000 + p) 5)
    (hmdl : s.model p (bits e.q1.toNat 3 0) = some mdl) (hready : s.cell (0x3100 + p) 3 = 5) (hcount : Sub_count e ≤ mdl.contextLimit) :
    ∃ t, exec (.openReq n e) s = .next t ∧ t.obAt s.freeOb = openOb s n.val p e ∧ (t.obAt s.freeOb).st = .queued ∧
      t.nextAdmit = s.nextAdmit + 1 ∧ t.cell 0xA000 3 = satAdd 64 (s.cell 0xA000 3) 1 ∧
      (t.qp n.val).sqHead = ((s.qp n.val).sqHead + 1) % (s.qp n.val).sqSize ∧ SameBut [s.freeOb] s.obAt t.obAt ∧
      CellsBut [(0xA000, 3)] s t ∧ Changes s t [.qps, .ob, .nextAdmit, .led, .power, .plots, .procs, .out] := by
  refine ⟨_, exec_openReq_accepted h hnamed hquota hmdl hready hcount, ?_⟩
  have hfetch := s.fetched_changes n.val
  have hhead := congrArg Qp.sqHead (s.qp_fetched n.val)
  obtain ⟨hob, hadmit, hcount, hothers, hcells, hch⟩ := (s.fetched n.val).takeOpen_spec n.val p e
  simp only [State.freeOb_fetched, openOb_fetched, State.cell_fetched] at hob hcount hothers
  rw [show (s.fetched n.val).nextAdmit = s.nextAdmit from hfetch .nextAdmit (by decide)] at hadmit
  rw [funext (s.obAt_fetched n.val)] at hothers
  have hcells' : CellsBut [(0xA000, 3)] s (s.fetched n.val) := .of_led (hfetch .led (by decide))
  have hlast := (((s.fetched n.val).takeOpen n.val p e).trigger_changes p).mono (qs := [.plots, .power, .qps, .out]) (by decide) |>.trans
    ((State.ack_changes _ s.freeOb e).mono (by decide))
  have hring : ((((s.fetched n.val).takeOpen n.val p e).trigger p).qp n.val) = (s.fetched n.val).qp n.val :=
    State.qp_of_qps ((State.trigger_changes _ p .qps (by decide)).trans (hch .qps (by decide))) _
  have hq : (((((s.fetched n.val).takeOpen n.val p e).trigger p).ack s.freeOb e).qp n.val).sqHead = _ :=
    (State.sqHead_ack _ _ _ _).trans ((congrArg Qp.sqHead hring).trans hhead)
  generalize (((s.fetched n.val).takeOpen n.val p e).trigger p).ack s.freeOb e = t at hlast hq
  have hobt : t.obAt = ((s.fetched n.val).takeOpen n.val p e).obAt := funext (State.obAt_of_ob (hlast .ob (by decide)))
  have hled : t.led = _ := hlast .led (by decide)
  rw [hobt, hob, State.cell_of_led hled]
  exact ⟨rfl, openOb_st s _ _ _, (hlast .nextAdmit (by decide)).trans hadmit, hcount, hq, hothers,
    (hcells'.trans hcells).trans (.of_led hled),
    ((hfetch.mono (by decide)).trans (hch.mono (by decide))).trans (hlast.mono (by decide))⟩

/-- What the table of R249 refuses. -/
theorem openReq_refused {st : Status} (hwhy : (s.named p e ≠ none ∧ st = .busy) ∨
      (s.named p e = none ∧ s.cell (0x3000 + p) 5 ≤ s.obUsed p ∧ st = .noSpace) ∨
      (s.named p e = none ∧ s.obUsed p < s.cell (0x3000 + p) 5 ∧ s.model p (bits e.q1.toNat 3 0) = none ∧ st = .badIndex) ∨
      (∃ mdl, s.named p e = none ∧ s.obUsed p < s.cell (0x3000 + p) 5 ∧ s.model p (bits e.q1.toNat 3 0) = some mdl ∧
        s.cell (0x3100 + p) 3 = 5 ∧ mdl.contextLimit < Sub_count e ∧ st = .badValue)) :
    ∃ t, exec (.openReq n e) s = .next t ∧ t.ob = s.ob ∧ Posts s t n.val (completion 0xFFFFFFFF st (Sub_tag e) 0 []) ∧
      Changes s t [.qps, .procs, .out] := by
  obtain ⟨hob, -, hch⟩ := s.refuseSub_fetched n.val e st
  refine ⟨_, ?_, hob, State.refuseSub_posts_open st h.2.2.2.1, hch⟩
  change execOpenReq n e s = _
  refine congrArg Host.Outcome.next (State.submission_refused h ?_)
  simp only [State.named_fetched, State.obUsed_fetched, State.cell_fetched, State.model_fetched]
  rcases hwhy with ⟨hn, rfl⟩ | ⟨hn, hq, rfl⟩ | ⟨hn, hq, hm, rfl⟩ | ⟨mdl, hn, hq, hm, hr, hc, rfl⟩
  · rw [if_pos (Option.isSome_iff_ne_none.2 hn)]
  · rw [hn, if_neg (by decide), if_pos hq]
  · rw [hn, if_neg (by decide), if_neg (by omega), hm]
  · rw [hn, if_neg (by decide), if_neg (by omega), hm]
    dsimp only
    rw [if_neg (by simp [hr]), if_pos hc]

end Open

/-! ### Before the checks of an opcode -/

section Before

variable {s : State} {n : QpId} {e : Sub} {c : Instr}

/-- The command that carries an opcode is `State.submission` with that opcode; all but OPEN refuse a request that is not there with
BAD_INDEX (R249). -/
theorem exec_submission (hc : (Sub_op e = 1 ∧ c = .openReq n e) ∨ (Sub_op e = 2 ∧ c = .append n e) ∨
      (Sub_op e = 3 ∧ c = .hintSubmission n e) ∨ (Sub_op e = 4 ∧ c = .cancel n e) ∨ (Sub_op e = 5 ∧ c = .close n e) ∨
      (Sub_op e = 6 ∧ c = .status n e)) (s : State) :
    ∃ act, exec c s = .next (s.submission n.val e (Sub_op e) act) ∧
      (Sub_op e ≠ 1 → ∀ u p, u.named p e = none → act u p = (u, some .badIndex)) := by
  rcases hc with ⟨ho, rfl⟩ | ⟨ho, rfl⟩ | ⟨ho, rfl⟩ | ⟨ho, rfl⟩ | ⟨ho, rfl⟩ | ⟨ho, rfl⟩ <;> rw [ho]
  · exact ⟨_, rfl, fun h => absurd rfl h⟩
  all_goals exact ⟨_, rfl, fun _ u p hn => by simp only [hn]⟩

/-- The plot's own answers, a reserved field and a request that is not there refuse every submission alike (R245, R249). -/
theorem submission_refused_first {p : Nat} {st : Status} (hf : s.Fetches n.val e (Sub_op e) p)
    (hc : (Sub_op e = 1 ∧ c = .openReq n e) ∨ (Sub_op e = 2 ∧ c = .append n e) ∨ (Sub_op e = 3 ∧ c = .hintSubmission n e) ∨
      (Sub_op e = 4 ∧ c = .cancel n e) ∨ (Sub_op e = 5 ∧ c = .close n e) ∨ (Sub_op e = 6 ∧ c = .status n e))
    (hwhy : ((s.plotState p = 4 ∨ (s.plot p).drain = some .teardown) ∧ st = .denied) ∨
      (s.plotState p = 5 ∧ (s.plot p).drain = none ∧ Sub_op e ≠ 6 ∧ st = .faulted) ∨
      (s.plotAnswers p (Sub_op e) = none ∧ Sub_bad e = true ∧ st = .badValue) ∨
      (s.plotAnswers p (Sub_op e) = none ∧ Sub_bad e = false ∧ Sub_op e ≠ 1 ∧ s.named p e = none ∧ st = .badIndex)) :
    exec c s = .next ((s.fetched n.val).refuseSub n.val e st) := by
  obtain ⟨act, hx, hact⟩ := exec_submission hc s
  refine hx.trans (congrArg Host.Outcome.next ?_)
  rcases hwhy with ⟨hst, rfl⟩ | ⟨hst, hdrain, hop, rfl⟩ | ⟨ha, hb, rfl⟩ | ⟨ha, hb, hop, hn, rfl⟩
  · exact State.submission_answered hf (if_pos hst)
  · exact State.submission_answered hf (by simp [State.plotAnswers, hst, hdrain, hop])
  · exact State.submission_bad hf ha hb
  · obtain ⟨hact', hne, hnext, -, hp⟩ := hf
    exact State.submission_refused ⟨hact', hne, hnext, rfl, hp, ha, hb⟩ (hact hop _ _ ((s.named_fetched _ _ _).trans hn))

/-- No entry is taken from a ring whose turn has not come (R247). -/
theorem exec_submission_waits
    (hc : c ∈ [.openReq n e, .append n e, .hintSubmission n e, .cancel n e, .close n e, .status n e])
    (h : s.ringNext n.val = false) : exec c s = .next s := by
  simp only [List.mem_cons, List.not_mem_nil, or_false] at hc
  rcases hc with rfl | rfl | rfl | rfl | rfl | rfl
  all_goals exact congrArg Host.Outcome.next (State.submission_waits h)

end Before

end Sys2Proof.Machine

open Sys2Proof Sys2Proof.Machine

/-- Settles O36: OPEN by its own checks, after those that every submission meets. -/
theorem openQueuesARequest : Obligations.OpenQueuesARequest := by
  refine ⟨fun s n e p h => ⟨fun mdl => openReq_opens h, fun st => openReq_refused h⟩,
    fun s n e p st c hst hne hnext hp hc hwhy => ?_, fun s n e c hc h => ⟨s, exec_submission_waits hc h, rfl⟩⟩
  exact ⟨_, submission_refused_first ⟨hst, hne, hnext, rfl, hp⟩ hc hwhy, rfl, s.refuseSub_fetched n.val e st⟩
end

section
/-! SUPPORT. What giving up pages and ending a request leave of its record, of the steps, the plots and the counters (R124, R227, R251,
R254). -/

namespace Sys2Proof.Machine

/-! ### A record without its pages -/

/-- A request's record without the entries of its pages. -/
def Ob.offPages (o : Ob) : Ob := { o with main := [], draftList := [] }

/-- Two states have the same requests, but for the pages of request `i`. -/
def KeepsRecord (i : Nat) (s t : State) : Prop := SameBut [i] s.obAt t.obAt ∧ (t.obAt i).offPages = (s.obAt i).offPages

theorem KeepsRecord.of_ob {i : Nat} {s t : State} (h : t.ob = s.ob) : KeepsRecord i s t :=
  ⟨fun n _ => State.obAt_of_ob h n, congrArg Ob.offPages (State.obAt_of_ob h i)⟩

theorem KeepsRecord.trans {i : Nat} {s t u : State} (h : KeepsRecord i s t) (h' : KeepsRecord i t u) : KeepsRecord i s u :=
  ⟨h.1.trans h'.1, h'.2.trans h.2⟩

theorem KeepsRecord.foldl {α : Type} {i : Nat} {f : State → α → State} (h : ∀ s x, KeepsRecord i s (f s x)) (l : List α) (s : State) :
    KeepsRecord i s (l.foldl f s) := by
  induction l generalizing s with
  | nil => exact .of_ob rfl
  | cons x l ih => exact (h s x).trans (ih _)

theorem KeepsRecord.setPage (s : State) (i : Nat) (d : Bool) (j w : Nat) : KeepsRecord i s (s.updOb i (fun o => o.setPage d j w)) := by
  refine ⟨s.obAt_updOb_others i _, ?_⟩
  rw [State.obAt_updOb, if_pos rfl]
  cases d <;> rfl

/-- What the record says beside its pages (R250). -/
theorem KeepsRecord.fields {i : Nat} {s t : State} (h : KeepsRecord i s t) :
    (t.obAt i).st = (s.obAt i).st ∧ (t.obAt i).final = (s.obAt i).final ∧ (t.obAt i).consumed = (s.obAt i).consumed ∧
      (t.obAt i).inputs = (s.obAt i).inputs ∧ (t.obAt i).step = (s.obAt i).step ∧ (t.obAt i).committed = (s.obAt i).committed ∧
      (t.obAt i).provisional = (s.obAt i).provisional ∧ (t.obAt i).budget = (s.obAt i).budget := by
  obtain ⟨-, h⟩ := h
  simp only [Ob.offPages, Ob.mk.injEq] at h
  tauto

/-! ### Pages are given up (R226 to R228) -/

/-- At most the page's entry changes in the Order Book. -/
theorem State.releasePage_ob (s : State) (i : Nat) (d : Bool) (j : Nat) : (s.releasePage i d j).ob = s.ob ∨
    (s.releasePage i d j).ob = (s.updOb i (fun o => o.setPage d j 0)).ob := by
  unfold State.releasePage
  dsimp only
  split
  · exact .inr rfl
  · split
    · exact .inr rfl
    · split
      · exact .inl rfl
      · split
        · split
          · exact .inr rfl
          · exact .inl rfl
        · exact .inr rfl

theorem State.releasePage_keepsRecord (s : State) (i : Nat) (d : Bool) (j : Nat) : KeepsRecord i s (s.releasePage i d j) := by
  rcases s.releasePage_ob i d j with h | h
  · exact .of_ob h
  · exact (KeepsRecord.setPage s i d j 0).trans (.of_ob h)

theorem State.releasePages_keepsRecord (s : State) (i : Nat) : KeepsRecord i s (s.releasePages i) :=
  KeepsRecord.foldl (f := fun s (e : Bool × Nat) => s.releasePage i e.1 e.2) (fun s e => s.releasePage_keepsRecord i e.1 e.2) _ s

theorem State.releasePage_changes (s : State) (i : Nat) (d : Bool) (j : Nat) : Changes s (s.releasePage i d j) [.plots, .ob] := by
  have hset : ∀ u : State, Changes s u [.plots, .ob] → Changes s (u.updOb i (fun o => o.setPage d j 0)) [.plots, .ob] := fun u h =>
    h.trans ((Changes.updOb u i _).mono (by decide))
  unfold State.releasePage
  dsimp only
  split
  · exact hset s (.refl s _)
  · split
    · exact hset _ ((s.releaseRemote_changes _ _ _).mono (by decide))
    · split
      · exact .refl s _
      · split
        · split
          · exact hset s (.refl s _)
          · exact .refl s _
        · exact hset _ ((s.returnFrame_changes _ _ _).mono (by decide))

theorem State.releasePages_changes (s : State) (i : Nat) : Changes s (s.releasePages i) [.plots, .ob] :=
  Changes.foldl (f := fun s (e : Bool × Nat) => s.releasePage i e.1 e.2) (fun s e => s.releasePage_changes i e.1 e.2) _ s

/-! ### The samples of a step whose requests have all ended (R124) -/

/-- Every step in flight goes on as it is; only whether it is sampled may have changed. -/
def KeepsSteps (s t : State) : Prop := ∀ id x, s.stepAt id = some x → ∃ b, t.stepAt id = some { x with sampled := b }

theorem KeepsSteps.of_steps {s t : State} (h : t.steps = s.steps) : KeepsSteps s t := fun id x hx =>
  ⟨x.sampled, by rw [State.stepAt, h]; exact hx⟩

theorem KeepsSteps.trans {s t u : State} (h : KeepsSteps s t) (h' : KeepsSteps t u) : KeepsSteps s u := fun id x hx => by
  obtain ⟨b, hb⟩ := h id x hx
  obtain ⟨c, hc⟩ := h' id _ hb
  exact ⟨c, hc⟩

theorem State.dropSamples_changes (s : State) (id p : Nat) : Changes s (s.dropSamples id p) [.samples, .plots] := by
  intro q hq
  cases q
  case samples | plots => exact absurd (by decide) hq
  all_goals rfl

theorem State.cancelSamples_changes (s : State) (i : Nat) : Changes s (s.cancelSamples i) [.samples, .plots, .steps] := by
  unfold State.cancelSamples
  split
  · exact .refl s _
  · split
    · exact .refl s _
    · split
      · exact ((s.dropSamples_changes _ _).mono (by decide)).trans ((Changes.updStep _ _ _).mono (by decide))
      · exact .refl s _

theorem State.cancelSamples_keepsSteps (s : State) (i : Nat) : KeepsSteps s (s.cancelSamples i) := by
  unfold State.cancelSamples
  split
  · exact .of_steps rfl
  next id _ =>
    split
    · exact .of_steps rfl
    next y _ =>
      split
      · have hdrop : KeepsSteps s (s.dropSamples id y.plot) := .of_steps (s.dropSamples_changes id y.plot .steps (by decide))
        refine hdrop.trans fun k x hx => ?_
        rw [State.stepAt_updStep, hx]
        split
        · exact ⟨false, rfl⟩
        · exact ⟨x.sampled, rfl⟩
      · exact .of_steps rfl

/-- Of a request in no step there is nothing to discard. -/
theorem State.cancelSamples_of_no_step {s : State} {i : Nat} (h : (s.obAt i).step = none) : s.cancelSamples i = s := by
  unfold State.cancelSamples
  rw [h]

/-! ### One field of every plot -/

/-- Every plot's record says the same by `g`. -/
def SamePlots {α : Type} (g : Plot → α) (s t : State) : Prop := ∀ q, g (t.plot q) = g (s.plot q)

section SamePlots

variable {α : Type} {g : Plot → α} {s t u : State}

theorem SamePlots.of_plots (h : t.plots = s.plots) : SamePlots g s t := fun q => congrArg g (State.plot_of_plots h q)

theorem SamePlots.trans (h : SamePlots g s t) (h' : SamePlots g t u) : SamePlots g s u := fun q => (h' q).trans (h q)

theorem SamePlots.updPlot {f : Plot → Plot} (h : ∀ x, g (f x) = g x) (s : State) (p : Nat) : SamePlots g s (s.updPlot p f) := fun q => by
  rw [State.plot_updPlot]
  split
  · exact h _
  · rfl

theorem SamePlots.foldl {β : Type} {f : State → β → State} (h : ∀ s x, SamePlots g s (f s x)) (l : List β) (s : State) :
    SamePlots g s (l.foldl f s) := by
  induction l generalizing s with
  | nil => exact .of_plots rfl
  | cons x l ih => exact (h s x).trans (ih _)

theorem SamePlots.noteBusy (h : ∀ x b, g { x with busyAt := b } = g x) (s : State) (p : Nat) : SamePlots g s (s.noteBusy p) := fun q => by
  obtain ⟨b, hb⟩ := s.plot_noteBusy p q
  rw [hb, h]

theorem SamePlots.updPool (h : ∀ x ps, g { x with pools := ps } = g x) (s : State) (p m : Nat) (f : PoolSt → PoolSt) :
    SamePlots g s (s.updPool p m f) := SamePlots.updPlot (fun x => h x _) s p

theorem SamePlots.releasePages (h : ∀ x ps, g { x with pools := ps } = g x) (s : State) (i : Nat) : SamePlots g s (s.releasePages i) := by
  refine SamePlots.foldl (f := fun s (e : Bool × Nat) => s.releasePage i e.1 e.2) (fun u e => ?_) _ s
  have hset : ∀ (v : State) f, SamePlots g u v → SamePlots g u (v.updOb i f) := fun v f hv => hv.trans (.of_plots rfl)
  unfold State.releasePage
  dsimp only
  split
  · exact .of_plots rfl
  · split
    · exact hset _ _ (SamePlots.updPool h u _ _ _)
    · split
      · exact .of_plots rfl
      · split
        · split <;> exact .of_plots rfl
        · exact hset _ _ (SamePlots.updPool h u _ _ _)

theorem SamePlots.cancelSamples (h : ∀ x ys, g { x with quality := ys } = g x) (s : State) (i : Nat) :
    SamePlots g s (s.cancelSamples i) := by
  unfold State.cancelSamples
  split
  · exact .of_plots rfl
  · split
    · exact .of_plots rfl
    · split
      · exact (SamePlots.updPlot (fun x => h x _) _ _ : SamePlots g _ (s.dropSamples _ _)).trans (.of_plots rfl)
      · exact .of_plots rfl

end SamePlots

/-! ### A request is cancelled -/

/-- Whatever the end, the record is that of an ended request but for the pages that it gives up (R227, R251). -/
theorem State.endCore_keepsRecord (s : State) (i : Nat) (st : ReqState) (final : Status) :
    KeepsRecord i (s.updOb i (fun o => o.ended st final)) (s.endCore i st final) := by
  have hob : ((s.noteBusy (s.obAt i).plot).updOb i (fun o => o.ended st final)).ob = (s.updOb i (fun o => o.ended st final)).ob := by
    simp only [State.updOb, State.noteBusy_ob]
  have hrest : ∀ u : State, u.ob = (s.updOb i (fun o => o.ended st final)).ob →
      KeepsRecord i (s.updOb i (fun o => o.ended st final)) ((u.cancelSamples i).releasePages i) := fun u hu =>
    (KeepsRecord.of_ob ((u.cancelSamples_ob i).trans hu)).trans (State.releasePages_keepsRecord _ i)
  unfold State.endCore
  refine hrest _ ?_
  split
  · exact hob
  · exact (Changes.raise _ _ _ _ .ob (by decide)).trans hob
  · exact hob

/-- The end of a cancelled request is counted, and reaches its own record, its step's samples and its plot (R254, R268). -/
theorem State.endCore_cancelled_spec (s : State) (i : Nat) (final : Status) :
    (s.endCore i .cancelled final).cell (0xA100 + (s.obAt i).plot) 5 = satAdd 64 (s.cell (0xA100 + (s.obAt i).plot) 5) 1 ∧
      CellsBut [(0xA100 + (s.obAt i).plot, 5)] s (s.endCore i .cancelled final) ∧ KeepsSteps s (s.endCore i .cancelled final) ∧
      SamePlots Plot.drain s (s.endCore i .cancelled final) ∧
      Changes s (s.endCore i .cancelled final) [.ob, .plots, .led, .steps, .samples] := by
  have hcore : s.endCore i .cancelled final = ((((s.noteBusy (s.obAt i).plot).updOb i (fun o => o.ended .cancelled final)).bump 64
      (0xA100 + (s.obAt i).plot) 5 1).cancelSamples i).releasePages i := rfl
  have h1 : Changes s ((s.noteBusy (s.obAt i).plot).updOb i (fun o => o.ended .cancelled final)) [.ob, .plots] :=
    ((s.noteBusy_changes _).mono (by decide)).trans ((Changes.updOb _ i _).mono (by decide))
  have hd1 : SamePlots Plot.drain s ((s.noteBusy (s.obAt i).plot).updOb i (fun o => o.ended .cancelled final)) :=
    (SamePlots.noteBusy (fun _ _ => rfl) s _).trans (.of_plots rfl)
  rw [hcore]
  generalize (s.noteBusy (s.obAt i).plot).updOb i (fun o => o.ended .cancelled final) = u at h1 hd1
  have hcount := State.cell_bump_self u 64 (0xA100 + (s.obAt i).plot) 5 1
  rw [State.cell_of_led (h1 .led (by decide))] at hcount
  have hcells : CellsBut [(0xA100 + (s.obAt i).plot, 5)] s (u.bump 64 (0xA100 + (s.obAt i).plot) 5 1) :=
    (CellsBut.of_led (h1 .led (by decide))).trans (CellsBut.bump u _ _ _ _ (by decide))
  have h2 : Changes s (u.bump 64 (0xA100 + (s.obAt i).plot) 5 1) [.ob, .plots, .led] :=
    (h1.mono (by decide)).trans ((Changes.bump u _ _ _ _).mono (by decide))
  have hd2 : SamePlots Plot.drain s (u.bump 64 (0xA100 + (s.obAt i).plot) 5 1) := hd1.trans (.of_plots rfl)
  generalize u.bump 64 (0xA100 + (s.obAt i).plot) 5 1 = v at hcount hcells h2 hd2
  have h3 : Changes v ((v.cancelSamples i).releasePages i) [.samples, .plots, .steps, .ob] :=
    ((v.cancelSamples_changes i).mono (by decide)).trans ((State.releasePages_changes _ i).mono (by decide))
  refine ⟨(State.cell_of_led (h3 .led (by decide)) _ _).trans hcount, hcells.trans (.of_led (h3 .led (by decide))), ?_,
    hd2.trans ((SamePlots.cancelSamples (fun _ _ => rfl) v i).trans (SamePlots.releasePages (fun _ _ => rfl) _ i)),
    (h2.mono (by decide)).trans (h3.mono (by decide))⟩
  exact (KeepsSteps.of_steps (h2 .steps (by decide))).trans ((v.cancelSamples_keepsSteps i).trans
    (.of_steps (State.releasePages_changes _ i .steps (by decide))))

/-! ### A request that drains -/

theorem State.maybeFree_of_unconsumed {s : State} {i : Nat} (h : (s.obAt i).consumed = false) : s.maybeFree i = s :=
  if_neg (fun h' => by simp [h] at h')

/-- A request that can end no more than its DRAINING does, or stays as it is (R251). -/
theorem State.settle_cases {s : State} {i : Nat} (hc : (s.obAt i).consumed = false) : s.settle i = s ∨
    (s.obAt i).st = .draining ∧ (s.obAt i).drained = true ∧
      s.settle i = (s.endCore i .done .done).post (s.obAt i).qp [s.finalEntry i .done (s.obAt i).tag] := by
  by_cases h : (s.obAt i).st = .draining ∧ (s.obAt i).drained = true
  · refine .inr ⟨h.1, h.2, ?_⟩
    have hcore : s.settleCore i = (s.endCore i .done .done, [((s.obAt i).qp, s.finalEntry i .done (s.obAt i).tag)]) := by
      unfold State.settleCore
      exact if_pos h
    have hpost : ((s.endCore i .done .done).postAll [((s.obAt i).qp, s.finalEntry i .done (s.obAt i).tag)]) =
        (s.endCore i .done .done).post (s.obAt i).qp [s.finalEntry i .done (s.obAt i).tag] := by simp [State.postAll]
    rw [State.settle, hcore]
    dsimp only
    rw [hpost, State.maybeFree_of_unconsumed]
    rw [State.obAt_post, (s.endCore_keepsRecord i .done .done).fields.2.2.1, State.obAt_updOb, if_pos rfl]
    exact hc
  · refine .inl ?_
    have hcore : s.settleCore i = (s, []) := by
      unfold State.settleCore
      exact if_neg h
    rw [State.settle, hcore]
    exact State.maybeFree_of_unconsumed hc

/-- The end of a request in no step reaches its record and its plot (R251). -/
theorem State.endCore_done_changes {s : State} {i : Nat} (h : (s.obAt i).step = none) :
    Changes s (s.endCore i .done .done) [.ob, .plots] := by
  have hcore : s.endCore i .done .done =
      (((s.noteBusy (s.obAt i).plot).updOb i (fun o => o.ended .done .done)).cancelSamples i).releasePages i := rfl
  have hstep : (((s.noteBusy (s.obAt i).plot).updOb i (fun o => o.ended .done .done)).obAt i).step = none := by
    rw [State.obAt_updOb, if_pos rfl, State.obAt_of_ob (s.noteBusy_ob _)]
    exact h
  rw [hcore, State.cancelSamples_of_no_step hstep]
  exact ((s.noteBusy_changes _).mono (by decide)).trans (((Changes.updOb _ i _).mono (by decide)).trans
    ((State.releasePages_changes _ i).mono (by decide)))

end Sys2Proof.Machine
end

section
/-! PROOFS. APPEND, HINT and STATUS of a live request (R249, R251, R253): the statement O37. -/

namespace Sys2Proof.Machine

/-! ### The input that an APPEND brings -/

/-- A turn starts with the first input there is (R250, R257). -/
theorem Ob.startTurn_of_inputs {o : Ob} (h : o.inputs ≠ []) : o.startTurn.st = o.st ∧ o.startTurn.turnOpen = true := by
  unfold Ob.startTurn
  split
  next h' => exact absurd h' h
  next => exact ⟨rfl, rfl⟩

/-- A request that waits starts its next turn (R251). -/
theorem Ob.takeAppend_waiting {o : Ob} (h : o.st = .waitInput ∨ o.st = .pausedCool) (x : Input) (irq : Bool) :
    (o.takeAppend x irq).st = .prefill ∧ (o.takeAppend x irq).turnOpen = true := by
  unfold Ob.takeAppend
  rcases h with h | h <;> rw [h] <;> exact Ob.startTurn_of_inputs (by simp)

/-- In DECODE the input waits for the turn's end (R253). -/
theorem Ob.takeAppend_decode {o : Ob} (h : o.st = .decode) (x : Input) (irq : Bool) : (o.takeAppend x irq).st = .decode := by
  unfold Ob.takeAppend
  rw [h]

/-- INTERRUPT is pending until the turn in progress ends (R253). -/
theorem Ob.takeAppend_interrupt {o : Ob} (h : o.st = .queued ∨ o.st = .prefill ∨ o.st = .decode) (x : Input) :
    (o.takeAppend x true).interrupt = true := by
  unfold Ob.takeAppend
  rcases h with h | h | h <;> rw [h] <;> exact Bool.or_true _

section Live

variable {s : State} {n : QpId} {e : Sub} {p i : Nat} (hi : s.named p e = some i) (hlive : (s.obAt i).st.live = true)
include hi hlive

/-! ### APPEND -/

theorem exec_append_taken (h : Submits s n.val e 2 p) (hdrain : (s.obAt i).st ≠ .draining)
    (hroom : ((s.obAt i).inputs.filter Input.append).length < 4) :
    exec (.append n e) s = .next ((((s.fetched n.val).updOb i (fun o => o.takeAppend
      ⟨e.q3.toNat, Sub_count e, Sub_deadline e, Sub_tag e, s.now, false, true⟩ (bit e.q0.toNat 9))).trigger p).ack i e) := by
  change execAppend n e s = _
  refine congrArg Host.Outcome.next (State.submission_accepted h ?_)
  simp only [State.named_fetched, hi, State.obAt_fetched, State.now_fetched]
  rw [if_neg (by simp [hlive, hdrain]), if_neg (by omega)]

theorem append_takes (h : Submits s n.val e 2 p) (hdrain : (s.obAt i).st ≠ .draining)
    (hroom : ((s.obAt i).inputs.filter Input.append).length < 4) :
    ∃ t, exec (.append n e) s = .next t ∧
      t.obAt i = (s.obAt i).takeAppend ⟨e.q3.toNat, Sub_count e, Sub_deadline e, Sub_tag e, s.now, false, true⟩ (bit e.q0.toNat 9) ∧
      SameBut [i] s.obAt t.obAt ∧ Changes s t [.qps, .ob, .power, .plots, .procs, .out] := by
  refine ⟨_, exec_append_taken hi hlive h hdrain hroom, ?_⟩
  generalize Input.mk e.q3.toNat (Sub_count e) (Sub_deadline e) (Sub_tag e) s.now false true = x
  have hupd := Changes.updOb (s.fetched n.val) i (fun o => o.takeAppend x (bit e.q0.toNat 9))
  have hself := (s.fetched n.val).obAt_updOb i i (fun o => o.takeAppend x (bit e.q0.toNat 9))
  have hothers := (s.fetched n.val).obAt_updOb_others i (fun o => o.takeAppend x (bit e.q0.toNat 9))
  rw [if_pos rfl, State.obAt_fetched] at hself
  rw [funext (s.obAt_fetched n.val)] at hothers
  generalize (s.fetched n.val).updOb i _ = u at hupd hself hothers
  have hlast : Changes u ((u.trigger p).ack i e) [.plots, .power, .qps, .out] :=
    ((u.trigger_changes p).mono (by decide)).trans ((State.ack_changes _ i e).mono (by decide))
  rw [funext (State.obAt_of_ob (hlast .ob (by decide)))]
  exact ⟨hself, hothers, (((s.fetched_changes n.val).mono (by decide)).trans (hupd.mono (by decide))).trans (hlast.mono (by decide))⟩

/-! ### HINT -/

/-- A paused request whose fill starts now, and that is protected from now (R230, R231). -/
def Ob.hinted (o : Ob) (now : Nat) : Ob :=
  if o.st = .pausedCool then { o with filling := o.unfilled, hintAt := some now } else o

theorem exec_hintSubmission_taken (h : Submits s n.val e 3 p) : exec (.hintSubmission n e) s = .next
    ((if (s.obAt i).st = .pausedCool then (s.fetched n.val).updOb i (fun o => { o with filling := o.unfilled, hintAt := some s.now })
      else s.fetched n.val).wakeP4.ack i e) := by
  change execHintSubmission n e s = _
  refine congrArg Host.Outcome.next (State.submission_accepted h ?_)
  simp only [State.named_fetched, hi, State.obAt_fetched, State.now_fetched]
  rw [if_neg (by simp [hlive])]

theorem hintSubmission_hints (h : Submits s n.val e 3 p) :
    ∃ t, exec (.hintSubmission n e) s = .next t ∧ t.obAt i = (s.obAt i).hinted s.now ∧ SameBut [i] s.obAt t.obAt ∧
      Changes s t [.qps, .ob, .power, .procs, .out] := by
  refine ⟨_, exec_hintSubmission_taken hi hlive h, ?_⟩
  have hfetch := (s.fetched_changes n.val).mono (qs := [.qps, .ob, .power, .procs, .out]) (by decide)
  have hlast : ∀ u : State, Changes u (u.wakeP4.ack i e) [.power, .qps, .out] := fun u =>
    (u.wakeP4_changes.mono (by decide)).trans ((State.ack_changes _ i e).mono (by decide))
  unfold Ob.hinted
  split
  · have hself := (s.fetched n.val).obAt_updOb i i (fun o => { o with filling := o.unfilled, hintAt := some s.now })
    have hothers := (s.fetched n.val).obAt_updOb_others i (fun o => { o with filling := o.unfilled, hintAt := some s.now })
    rw [if_pos rfl, State.obAt_fetched] at hself
    rw [funext (s.obAt_fetched n.val)] at hothers
    have hupd := Changes.updOb (s.fetched n.val) i (fun o => { o with filling := o.unfilled, hintAt := some s.now })
    rw [funext (State.obAt_of_ob (hlast _ .ob (by decide)))]
    exact ⟨hself, hothers, (hfetch.trans (hupd.mono (by decide))).trans ((hlast _).mono (by decide))⟩
  · rw [funext (State.obAt_of_ob (hlast _ .ob (by decide))), funext (s.obAt_fetched n.val)]
    exact ⟨rfl, fun _ _ => rfl, hfetch.trans ((hlast _).mono (by decide))⟩

/-! ### STATUS -/

/-- What STATUS answers (R262). -/
def State.statusEntry (s : State) (e : Sub) (i : Nat) : Result :=
  completion (s.obAt i).request .done (Sub_tag e) (s.obAt i).committed
    [(s.obAt i).st.code, (s.obAt i).committed, (s.obAt i).provisional, ((s.dueOf (s.obAt i)).getD 0) % 2 ^ 32]

theorem exec_status_answered (h : Submits s n.val e 6 p) :
    exec (.status n e) s = .next ((s.fetched n.val).post n.val [s.statusEntry e i]) := by
  have hdue : (s.fetched n.val).dueOf (s.obAt i) = s.dueOf (s.obAt i) := by
    unfold State.dueOf State.servingOf
    rw [State.plot_fetched]
  change execStatus n e s = _
  refine congrArg Host.Outcome.next (State.submission_accepted h ?_)
  simp only [State.named_fetched, hi, State.obAt_fetched, hdue]
  rw [if_neg (by simp [hlive])]
  rfl

theorem status_answers (h : Submits s n.val e 6 p) :
    ∃ t, exec (.status n e) s = .next t ∧ Posts s t n.val (s.statusEntry e i) ∧ t.ob = s.ob ∧ Changes s t [.qps, .procs, .out] := by
  have hch : Changes s ((s.fetched n.val).post n.val [s.statusEntry e i]) [.qps, .procs, .out] :=
    ((s.fetched_changes n.val).mono (by decide)).trans ((State.post_changes _ _ _).mono (by decide))
  exact ⟨_, exec_status_answered hi hlive h, (State.post_posts _ _ _).of_fetched, hch .ob (by decide), hch⟩

end Live

end Sys2Proof.Machine

open Sys2Proof Sys2Proof.Machine

/-- Settles O37: an APPEND is `Ob.takeAppend`, a HINT `Ob.hinted`, and STATUS posts one entry. -/
theorem appendHintStatus : Obligations.AppendHintStatus := by
  intro s n e p i hi hlive
  refine ⟨fun h hdrain hroom => ?_, fun h => hintSubmission_hints hi hlive h, fun h => status_answers hi hlive h⟩
  obtain ⟨t, hx, hob, hothers, hch⟩ := append_takes hi hlive h hdrain hroom
  refine ⟨t, hx, hob, fun hst => ?_, fun hst => ?_, fun _ hst hirq => ?_, hothers, hch⟩
  · rw [hob]
    exact Ob.takeAppend_waiting hst _ _
  · rw [hob]
    exact Ob.takeAppend_decode hst _ _
  · rw [hob, hirq]
    exact Ob.takeAppend_interrupt hst _
end

section
/-! PROOFS. CANCEL and CLOSE (R249, R251, R254): the statement O38. -/

namespace Sys2Proof.Machine

/-! ### What the two leave of the request and of its ring -/

/-- The COMPLETION of a CANCEL that came through another pair than the request's (R254). -/
def State.ackCancel (s : State) (n k : Nat) (r : Result) : State := if k = n then s else s.post n [r]

theorem State.ackCancel_changes (s : State) (n k : Nat) (r : Result) : Changes s (s.ackCancel n k r) [.qps, .out] := by
  unfold State.ackCancel
  split
  · exact .refl s _
  · exact s.post_changes n _

theorem State.qp_ackCancel (s : State) (n k : Nat) (r : Result) : (s.ackCancel n k r).qp k = s.qp k := by
  unfold State.ackCancel
  split
  · rfl
  next h => rw [State.qp_post, if_neg (Ne.symm h)]

/-- A cancelled request, counted, whose FINAL entry is posted in its ring (R251, R254). -/
theorem State.endRequest_cancelled_spec (s : State) (i tag : Nat) :
    (((s.endRequest i .cancelled .cancelled tag).obAt i).st = .cancelled ∧
      ((s.endRequest i .cancelled .cancelled tag).obAt i).final = some .cancelled ∧
      ((s.endRequest i .cancelled .cancelled tag).obAt i).consumed = (s.obAt i).consumed ∧
      ((s.endRequest i .cancelled .cancelled tag).obAt i).inputs = []) ∧
    (s.endRequest i .cancelled .cancelled tag).cell (0xA100 + (s.obAt i).plot) 5 =
      satAdd 64 (s.cell (0xA100 + (s.obAt i).plot) 5) 1 ∧
    Posts s (s.endRequest i .cancelled .cancelled tag) (s.obAt i).qp (s.finalEntry i .cancelled tag) ∧
    SameBut [i] s.obAt (s.endRequest i .cancelled .cancelled tag).obAt ∧
    CellsBut [(0xA100 + (s.obAt i).plot, 5)] s (s.endRequest i .cancelled .cancelled tag) ∧
    Changes s (s.endRequest i .cancelled .cancelled tag) [.ob, .plots, .led, .steps, .samples, .qps, .out] := by
  have hrec := s.endCore_keepsRecord i .cancelled .cancelled
  obtain ⟨hst, hfinal, hcons, hinputs, -⟩ := hrec.fields
  rw [State.obAt_updOb, if_pos rfl] at hst hfinal hcons hinputs
  obtain ⟨hcount, hcells, -, -, hcore⟩ := s.endCore_cancelled_spec i .cancelled
  have hothers := (s.obAt_updOb_others i (fun o => o.ended .cancelled .cancelled)).trans hrec.1
  unfold State.endRequest
  generalize s.finalEntry i .cancelled tag = r
  generalize s.endCore i .cancelled .cancelled = u at hst hfinal hcons hinputs hcount hcells hcore hothers
  have hpost := u.post_changes (s.obAt i).qp [r]
  have hposts := (u.post_posts (s.obAt i).qp r).congr (s' := s) (hcore .qps (by decide)).symm rfl
  generalize u.post (s.obAt i).qp [r] = v at hpost hposts
  rw [funext (State.obAt_of_ob (hpost .ob (by decide))), State.cell_of_led (hpost .led (by decide))]
  exact ⟨⟨hst, hfinal, hcons, hinputs⟩, hcount, hposts, hothers, hcells.trans (.of_led (hpost .led (by decide))),
    (hcore.mono (by decide)).trans (hpost.mono (by decide))⟩

/-- A request's record when it begins to drain (R228, R251). -/
def Ob.toDrain (o : Ob) : Ob := { o with st := .draining, turnOpen := false, inputs := [], pendingTok := none }

/-- A request that begins to drain is DRAINING, or, with every frame back, DONE, its FINAL entry posted (R228, R251). -/
theorem State.startDrain_spec {s : State} {i : Nat} (hc : (s.obAt i).consumed = false) :
    (((s.startDrain i).obAt i).st = .draining ∨ ((s.startDrain i).obAt i).st = .done) ∧
      (∀ k, (s.startDrain i).qp k = s.qp k ∨ ∃ r, (s.startDrain i).qp k = (s.qp k).posted r) ∧
      SameBut [i] s.obAt (s.startDrain i).obAt ∧ Changes s (s.startDrain i) [.ob, .plots, .qps, .out] := by
  have hdrain : Changes s (s.drainCore i) [.ob, .plots] := ((s.noteBusy_changes _).mono (by decide)).trans
    (((Changes.updOb _ i _).mono (by decide)).trans ((State.releasePages_changes _ i).mono (by decide)))
  have hrec : KeepsRecord i (s.updOb i Ob.toDrain) (s.drainCore i) := by
    refine KeepsRecord.trans (.of_ob ?_) (State.releasePages_keepsRecord _ i)
    change Tab.upd {} (s.noteBusy _).ob i Ob.toDrain = Tab.upd {} s.ob i Ob.toDrain
    rw [State.noteBusy_ob]
  obtain ⟨hst, -, hcons, -⟩ := hrec.fields
  rw [State.obAt_updOb, if_pos rfl] at hst hcons
  have hothers := (s.obAt_updOb_others i Ob.toDrain).trans hrec.1
  unfold State.startDrain
  generalize s.drainCore i = u at hdrain hst hcons hothers
  have hqp : ∀ k, u.qp k = s.qp k := State.qp_of_qps (hdrain .qps (by decide))
  rcases State.settle_cases (hcons.trans hc) with hstay | ⟨-, hdone, hend⟩
  · rw [hstay]
    exact ⟨.inl hst, fun k => .inl (hqp k), hothers, hdrain.mono (by decide)⟩
  · have hstep : (u.obAt i).step = none := by
      simp only [Ob.drained, Bool.and_eq_true, Option.isNone_iff_eq_none] at hdone
      exact hdone.1.1
    have hcore := State.endCore_done_changes hstep
    have hdrec := u.endCore_keepsRecord i .done .done
    have hdst := hdrec.fields.1
    rw [State.obAt_updOb, if_pos rfl] at hdst
    have hdothers := (u.obAt_updOb_others i (fun o => o.ended .done .done)).trans hdrec.1
    rw [hend]
    generalize u.endCore i .done .done = v at hcore hdst hdothers
    refine ⟨.inr ?_, fun k => ?_, ?_, (hdrain.mono (by decide)).trans ((hcore.mono (by decide)).trans
      ((State.post_changes _ _ _).mono (by decide)))⟩
    · rw [State.obAt_post, hdst]
      rfl
    · rw [State.qp_post, State.qp_of_qps (hcore .qps (by decide)), hqp]
      split
      · exact .inr ⟨_, rfl⟩
      · exact .inl rfl
    · rw [funext (State.obAt_post v _ _)]
      exact hothers.trans hdothers

/-- The COMPLETION of a CLOSE (R251). -/
def Ob.closing (o : Ob) (e : Sub) : Result := completion o.request .done (Sub_tag e) o.committed []

section Named

variable {s : State} {n : QpId} {e : Sub} {p i : Nat} (hi : s.named p e = some i)
include hi

/-! ### CANCEL -/

theorem exec_cancel_live (h : Submits s n.val e 4 p) (hlive : (s.obAt i).st.live = true) :
    exec (.cancel n e) s = .next ((((s.fetched n.val).endRequest i .cancelled .cancelled (Sub_tag e)).ackCancel n.val (s.obAt i).qp
      (completion (s.obAt i).request .done (Sub_tag e) (s.obAt i).committed [])).settle i) := by
  have hne : (s.obAt i).st ≠ .cancelled := fun hst => by rw [hst] at hlive; cases hlive
  change execCancel n e s = _
  refine congrArg Host.Outcome.next (State.submission_accepted h ?_)
  simp only [State.named_fetched, hi, State.obAt_fetched]
  rw [if_neg hne, if_neg (by simp [hlive])]
  rfl

theorem cancel_ends (h : Submits s n.val e 4 p) (hlive : (s.obAt i).st.live = true) (hc : (s.obAt i).consumed = false) :
    ∃ t, exec (.cancel n e) s = .next t ∧ (t.obAt i).st = .cancelled ∧ (t.obAt i).final = some .cancelled ∧
      (t.obAt i).inputs = [] ∧ t.cell (0xA100 + (s.obAt i).plot) 5 = satAdd 64 (s.cell (0xA100 + (s.obAt i).plot) 5) 1 ∧
      Posts s t (s.obAt i).qp { (s.obAt i).entry .cancelled kFinal (Sub_tag e) [] with ob := i + 1 } ∧
      SameBut [i] s.obAt t.obAt ∧ CellsBut [(0xA100 + (s.obAt i).plot, 5)] s t ∧
      Changes s t [.qps, .ob, .plots, .led, .steps, .samples, .procs, .out] := by
  have hx := exec_cancel_live hi h hlive
  have hfetch := s.fetched_changes n.val
  have hcellsF : CellsBut [(0xA100 + (s.obAt i).plot, 5)] s (s.fetched n.val) := .of_led (hfetch .led (by decide))
  have hend := (s.fetched n.val).endRequest_cancelled_spec i (Sub_tag e)
  rw [State.finalEntry, funext (s.obAt_fetched n.val), State.cell_fetched] at hend
  generalize (s.fetched n.val).endRequest i .cancelled .cancelled (Sub_tag e) = u at hx hend
  generalize completion (s.obAt i).request .done (Sub_tag e) (s.obAt i).committed [] = r at hx
  obtain ⟨⟨hst, hfinal, hcons, hinputs⟩, hcount, hposts, hothers, hcells, hch⟩ := hend
  have hack := u.ackCancel_changes n.val (s.obAt i).qp r
  have hring := u.qp_ackCancel n.val (s.obAt i).qp r
  generalize u.ackCancel n.val (s.obAt i).qp r = v at hx hack hring
  have hobv : v.obAt = u.obAt := funext (State.obAt_of_ob (hack .ob (by decide)))
  rw [State.settle_of_unconsumed (by rw [hobv, hst]; decide) (by rw [hobv, hcons]; exact hc)] at hx
  refine ⟨v, hx, ?_⟩
  rw [hobv, State.cell_of_led (hack .led (by decide))]
  exact ⟨hst, hfinal, hinputs, hcount, (hposts.of_qp hring).of_fetched, hothers,
    (hcellsF.trans hcells).trans (.of_led (hack .led (by decide))),
    ((hfetch.mono (by decide)).trans (hch.mono (by decide))).trans (hack.mono (by decide))⟩

/-- A request that has ended answers with how it ended (R254). -/
theorem cancel_ended {st : Status} (h : Submits s n.val e 4 p) (hlive : (s.obAt i).st.live = false)
    (hst : st = if (s.obAt i).st = .cancelled then .cancelled else (s.obAt i).final.getD .done) :
    exec (.cancel n e) s = .next ((s.fetched n.val).refuseSub n.val e st) := by
  change execCancel n e s = _
  refine congrArg Host.Outcome.next (State.submission_refused h ?_)
  simp only [State.named_fetched, hi, State.obAt_fetched]
  subst hst
  rw [if_pos hlive]
  split <;> rfl

/-! ### CLOSE -/

theorem exec_close_live (h : Submits s n.val e 5 p) (hlive : (s.obAt i).st.live = true) :
    exec (.close n e) s = .next (if (s.obAt i).st = .draining then (s.fetched n.val).post (s.obAt i).qp [(s.obAt i).closing e]
      else (((s.fetched n.val).post (s.obAt i).qp [(s.obAt i).closing e]).updOb i (fun o => { o with tag := Sub_tag e })).startDrain i) := by
  change execClose n e s = _
  refine congrArg Host.Outcome.next (State.submission_accepted h ?_)
  simp only [State.named_fetched, hi, State.obAt_fetched]
  rw [if_neg (by simp [hlive])]
  rfl

theorem close_ended (h : Submits s n.val e 5 p) (hlive : (s.obAt i).st.live = false) :
    exec (.close n e) s = .next ((s.fetched n.val).refuseSub n.val e .badIndex) := by
  change execClose n e s = _
  refine congrArg Host.Outcome.next (State.submission_refused h ?_)
  simp only [State.named_fetched, hi, State.obAt_fetched]
  rw [if_pos hlive]

theorem close_drains (h : Submits s n.val e 5 p) (hlive : (s.obAt i).st.live = true) (hdrain : (s.obAt i).st ≠ .draining)
    (hc : (s.obAt i).consumed = false) :
    ∃ t, exec (.close n e) s = .next t ∧ ((t.obAt i).st = .draining ∨ (t.obAt i).st = .done) ∧
      Posts s t (s.obAt i).qp ((s.obAt i).closing e) ∧ SameBut [i] s.obAt t.obAt ∧
      Changes s t [.qps, .ob, .plots, .led, .procs, .out] := by
  have hx := (exec_close_live hi h hlive).trans (congrArg Host.Outcome.next (if_neg hdrain))
  have hfetch := s.fetched_changes n.val
  have hpost := (s.fetched n.val).post_changes (s.obAt i).qp [(s.obAt i).closing e]
  have hposted := (s.fetched n.val).qp_post (s.obAt i).qp [(s.obAt i).closing e] (s.obAt i).qp
  have hposts := (s.fetched n.val).post_posts (s.obAt i).qp ((s.obAt i).closing e)
  have hobF : (s.fetched n.val).obAt = s.obAt := funext (s.obAt_fetched n.val)
  rw [if_pos rfl] at hposted
  generalize (s.fetched n.val).post (s.obAt i).qp [(s.obAt i).closing e] = u at hx hpost hposted hposts
  have hobu : u.obAt = s.obAt := (funext (State.obAt_of_ob (hpost .ob (by decide)))).trans hobF
  have hupd := Changes.updOb u i (fun o => { o with tag := Sub_tag e })
  have hself := u.obAt_updOb i i (fun o => { o with tag := Sub_tag e })
  have hothers := u.obAt_updOb_others i (fun o => { o with tag := Sub_tag e })
  have hqp := State.qp_of_qps (hupd .qps (by decide)) (s.obAt i).qp
  rw [if_pos rfl, hobu] at hself
  rw [hobu] at hothers
  generalize u.updOb i (fun o => { o with tag := Sub_tag e }) = v at hx hupd hself hothers hqp
  obtain ⟨hst, hring, hothers', hch⟩ := State.startDrain_spec (s := v) (i := i) (by rw [hself]; exact hc)
  refine ⟨_, hx, hst, ?_, hothers.trans hothers', ((hfetch.mono (by decide)).trans ((hpost.mono (by decide)).trans
    (hupd.mono (by decide)))).trans (hch.mono (by decide))⟩
  rcases hring (s.obAt i).qp with hr | ⟨r, hr⟩
  · exact (hposts.of_qp (hr.trans hqp)).of_fetched
  · exact (Posts.then_posted hposted (hr.trans (congrArg (Qp.posted · r) hqp))).of_fetched

theorem close_draining (h : Submits s n.val e 5 p) (hdrain : (s.obAt i).st = .draining) :
    ∃ t, exec (.close n e) s = .next t ∧ t.ob = s.ob ∧ Posts s t (s.obAt i).qp ((s.obAt i).closing e) ∧
      Changes s t [.qps, .procs, .out] := by
  have hch : Changes s ((s.fetched n.val).post (s.obAt i).qp [(s.obAt i).closing e]) [.qps, .procs, .out] :=
    ((s.fetched_changes n.val).mono (by decide)).trans ((State.post_changes _ _ _).mono (by decide))
  exact ⟨_, (exec_close_live hi h (by rw [hdrain]; rfl)).trans (congrArg Host.Outcome.next (if_pos hdrain)), hch .ob (by decide),
    (State.post_posts _ _ _).of_fetched, hch⟩

end Named

end Sys2Proof.Machine

open Sys2Proof Sys2Proof.Machine

/-- Settles O38: CANCEL ends a request at once, CLOSE lets it drain; both answer for one that has ended. -/
theorem cancelAndClose : Obligations.CancelAndClose := by
  intro s n e p i hi
  refine ⟨fun h hlive hc => cancel_ends hi h hlive hc, fun st h hlive hst => ?_,
    fun h hlive hdrain hc => close_drains hi h hlive hdrain hc, fun h hdrain => close_draining hi h hdrain, fun h hlive => ?_⟩
  · obtain ⟨hob, -, hch⟩ := s.refuseSub_fetched n.val e st
    obtain ⟨-, -, -, hop, hp, -, -⟩ := id h
    exact ⟨_, cancel_ended hi h hlive hst, hob, State.refuseSub_posts st (by omega) hp hi, hch⟩
  · obtain ⟨hob, -, hch⟩ := s.refuseSub_fetched n.val e .badIndex
    obtain ⟨-, -, -, hop, hp, -, -⟩ := id h
    exact ⟨_, close_ended hi h hlive, hob, State.refuseSub_posts .badIndex (by omega) hp hi, hch⟩
end

section
/-! PROOFS. PLOT_CREATE and PLOT_RESIZE (R240, R241, R243): the statement O33. -/

namespace Sys2Proof.Machine

/-! ### The conditions are no part of a session -/

theorem State.createRefused_heard (s : State) (f : Sender) (p : Nat) (body : List Byte) :
    (s.heard f).createRefused p body = s.createRefused p body := by
  unfold State.heard
  split <;> rfl

theorem State.resizeRefused_heard (s : State) (f : Sender) (p sub v : Nat) :
    (s.heard f).resizeRefused p sub v = s.resizeRefused p sub v := by
  unfold State.heard
  split <;> rfl

/-! ### The looms' epochs -/

theorem loomEndpoint_lt {n : Nat} (h : n < 2160) : loomEndpoint n 0 < 32768 := by
  unfold loomEndpoint
  omega

/-- Endpoint codes tell looms apart (R45). -/
theorem loomEndpoint_injective {n m : Nat} (h : loomEndpoint n 0 = loomEndpoint m 0) : n = m := by
  unfold loomEndpoint at h
  omega

/-- The first stream of a loom names the loom's epoch (R49). -/
theorem epochKey_loomEndpoint {n : Nat} (h : n < 2160) : epochKey (loomEndpoint n 0) = loomEndpoint n 0 := by
  have hlt := loomEndpoint_lt h
  have hbit : bit (loomEndpoint n 0) 15 = false := by
    rw [bit, Nat.div_eq_of_lt (by omega)]
    rfl
  rw [epochKey, hbit, if_neg (by simp), loomEndpoint]
  omega

theorem State.epochRec_newEpoch (s : State) {m n : Nat} (hm : m < 2160) (hn : n < 2160) :
    (s.newEpoch (loomEndpoint m 0)).epochRec (loomEndpoint n 0) =
      if m = n then (s.epochRec (loomEndpoint n 0)).change s.now else s.epochRec (loomEndpoint n 0) := by
  simp only [State.epochRec, State.newEpoch, Tab.get_upd, epochKey_loomEndpoint hm, epochKey_loomEndpoint hn]
  exact if_congr ⟨loomEndpoint_injective, fun h => h ▸ rfl⟩ rfl rfl

/-- Of a list of looms, each named once, every one's epoch changes once (R49). -/
theorem State.epochRec_newEpochs {ls : List Nat} (hlt : ∀ n ∈ ls, n < 2160) (hnodup : ls.Nodup) (s : State) {n : Nat} (hn : n < 2160) :
    (s.newEpochs ls).epochRec (loomEndpoint n 0) =
      if n ∈ ls then (s.epochRec (loomEndpoint n 0)).change s.now else s.epochRec (loomEndpoint n 0) := by
  unfold State.newEpochs
  induction ls generalizing s with
  | nil => simp
  | cons m ls ih =>
    obtain ⟨hm, hnodup⟩ := List.nodup_cons.1 hnodup
    rw [List.foldl_cons, ih (fun k hk => hlt k (List.mem_cons_of_mem m hk)) hnodup,
      s.epochRec_newEpoch (hlt m List.mem_cons_self) hn]
    by_cases h : m = n
    · subst h
      simp [hm]
    · simp [h, Ne.symm h]

/-- A change that is not put off reads as the next epoch at once (R49). -/
theorem EpochRec.at_change {r : EpochRec} {now : Nat} (h : r.last = 0 ∨ r.last + milli ≤ now + 1) :
    (r.change now).at now = nextEpoch (r.at now) := by
  have hlast : (r.change now).last ≤ now + 1 := by
    unfold EpochRec.change
    dsimp only
    split <;> omega
  rw [EpochRec.at_of_past hlast, EpochRec.at_of_past (by omega)]
  rfl

theorem mem_loomMap_lt {body : List Byte} {n : Nat} (h : n ∈ loomMap body) : n < 2160 :=
  List.mem_range.1 (List.mem_filter.1 h).1

theorem loomMap_nodup (body : List Byte) : (loomMap body).Nodup := List.Nodup.filter _ List.nodup_range

/-! ### A descriptor applied whole -/

/-- The record of a plot that a descriptor creates (R240). -/
def Plot.described (body : List Byte) (now : Nat) : Plot :=
  { looms := loomMap body, rightsA := bit (field body 290 1 % 8) 0, rightsB := bit (field body 290 1 % 8) 1
    rightsM := bit (field body 290 1 % 8) 2, busyAt := now }

/-- A plot's record is put in place of the one it had. -/
def State.putPlot (s : State) (p : Nat) (y : Plot) : State := { s with plots := Tab.set {} s.plots p y }

theorem State.putPlot_changes (s : State) (p : Nat) (y : Plot) : Changes s (s.putPlot p y) [.plots] := by
  intro q hq
  cases q
  case plots => exact absurd (by decide) hq
  all_goals rfl

theorem State.putPlot_plot (s : State) (p : Nat) (y : Plot) :
    (s.putPlot p y).plot p = y ∧ SameBut [p] s.plot (s.putPlot p y).plot := by
  refine ⟨Tab.get_set_self _ _ _ _, fun q hq => Tab.get_set_ne _ _ _ ?_⟩
  simpa [eq_comm] using hq

/-- The entries of a plot that a descriptor gives it, and its Drover's (R240, R241). -/
def descriptorCells (body : List Byte) (drover : Nat) : List (Nat × Nat) :=
  [(1, 1), (2, field body 290 1 % 8), (3, (loomMap body).length), (4, field body 272 4), (5, field body 276 4), (6, field body 280 2),
    (7, field body 282 2), (8, field body 284 4), (9, field body 288 1), (0xA, field body 289 1), (0xB, drover)]

/-- Entries of one index are written one after another. -/
def State.setCells (s : State) (i : Nat) (vs : List (Nat × Nat)) : State := vs.foldl (fun s e => s.setCell i e.1 e.2) s

theorem State.setCells_changes (s : State) (i : Nat) (vs : List (Nat × Nat)) : Changes s (s.setCells i vs) [.led] :=
  Changes.foldl (fun u _ => Changes.setCell u _ _ _) vs s

/-- A new plot as its descriptor has it (R240, R241). -/
def State.describe (s : State) (p : Nat) (body : List Byte) : State :=
  (s.putPlot p (Plot.described body s.now)).setCells (0x3000 + p) (descriptorCells body (s.droverFor p))

theorem State.describe_cells (s : State) (p : Nat) (body : List Byte) :
    (s.describe p body).cell (0x3000 + p) 1 = 1 ∧ (s.describe p body).cell (0x3000 + p) 2 = field body 290 1 % 8 ∧
    (s.describe p body).cell (0x3000 + p) 3 = (loomMap body).length ∧ (s.describe p body).cell (0x3000 + p) 4 = field body 272 4 ∧
    (s.describe p body).cell (0x3000 + p) 5 = field body 276 4 ∧ (s.describe p body).cell (0x3000 + p) 6 = field body 280 2 ∧
    (s.describe p body).cell (0x3000 + p) 7 = field body 282 2 ∧ (s.describe p body).cell (0x3000 + p) 8 = field body 284 4 ∧
    (s.describe p body).cell (0x3000 + p) 9 = field body 288 1 ∧ (s.describe p body).cell (0x3000 + p) 0xA = field body 289 1 := by
  simp [State.describe, State.setCells, descriptorCells, State.cell_setCell]

theorem State.describe_cell_ne (s : State) (p : Nat) (body : List Byte) {i j : Nat} (hj : j < 256) (hi : i ≠ 0x3000 + p) :
    (s.describe p body).cell i j = s.cell i j := by
  have hput : (s.putPlot p (Plot.described body s.now)).cell i j = s.cell i j :=
    State.cell_of_led (s.putPlot_changes _ _ .led (by decide)) i j
  simp [State.describe, State.setCells, descriptorCells, State.cell_setCell, hj, Ne.symm hi, hput]

theorem State.describe_plot (s : State) (p : Nat) (body : List Byte) :
    (s.describe p body).plot p = Plot.described body s.now ∧ SameBut [p] s.plot (s.describe p body).plot := by
  have h : (s.describe p body).plot = (s.putPlot p (Plot.described body s.now)).plot :=
    funext (State.plot_of_plots (State.setCells_changes _ _ _ .plots (by decide)))
  rw [h]
  exact s.putPlot_plot p _

theorem State.describe_changes (s : State) (p : Nat) (body : List Byte) : Changes s (s.describe p body) [.plots, .led] :=
  ((s.putPlot_changes p _).mono (by decide)).trans ((State.setCells_changes _ _ _).mono (by decide))

/-- The class of the requester that E-3401 names (R241, R395). -/
def senderClass (f : Sender) : Nat :=
  match f.who with
  | .host { port := .a, .. } => 0
  | .host { port := .b, .. } => 1
  | .mgmt _ => 2

/-- What an accepted descriptor does: the plot's entries, its looms' epochs, E-3401 (R241). -/
def State.createPlot (s : State) (f : Sender) (p : Nat) (body : List Byte) : State :=
  ((s.describe p body).newEpochs (loomMap body)).raise 0x3401 p [p, senderClass f]

theorem State.createPlot_changes (s : State) (f : Sender) (p : Nat) (body : List Byte) :
    Changes s (s.createPlot f p body) [.plots, .led, .epochs, .ev, .sessions, .out] :=
  (((s.describe_changes p body).mono (by decide)).trans ((State.newEpochs_changes _ _).mono (by decide))).trans
    ((Changes.raise _ _ _ _).mono (by decide))

/-- The parts of a created plot's state that `describe` decides. -/
theorem State.createPlot_described (s : State) (f : Sender) (p : Nat) (body : List Byte) :
    (s.createPlot f p body).led = (s.describe p body).led ∧ (s.createPlot f p body).plots = (s.describe p body).plots := by
  have h : Changes (s.describe p body) (s.createPlot f p body) (.epochs :: Part.report) :=
    ((State.newEpochs_changes _ _).mono (by decide)).trans ((Changes.raise _ _ _ _).mono (by decide))
  exact ⟨h .led (by decide), h .plots (by decide)⟩

theorem State.createPlot_raises (s : State) (f : Sender) (p : Nat) (body : List Byte) :
    Raises s (s.createPlot f p body) [(0x3401, p, [p, senderClass f])] := by
  refine Raises.one ?_ _ _ _
  exact congrArg Events.seq ((State.newEpochs_changes _ _ .ev (by decide)).trans (s.describe_changes p body .ev (by decide)))

theorem State.createPlot_epochs (s : State) (f : Sender) (p : Nat) (body : List Byte) {n : Nat} (h : n ∈ loomMap body) :
    (s.createPlot f p body).epochRec (loomEndpoint n 0) = (s.epochRec (loomEndpoint n 0)).change s.now := by
  have hraise : (s.createPlot f p body).epochs = ((s.describe p body).newEpochs (loomMap body)).epochs :=
    Changes.raise _ _ _ _ .epochs (by decide)
  have hall := State.epochRec_newEpochs (fun _ => mem_loomMap_lt) (loomMap_nodup body) (s.describe p body) (mem_loomMap_lt h)
  rw [if_pos h] at hall
  have hdesc := s.describe_changes p body
  rw [State.epochRec, hraise, ← State.epochRec, hall, hdesc .now (by decide), State.epochRec, hdesc .epochs (by decide), State.epochRec]

/-- A state whose record of an epoch is one change on reads the next epoch where the change is not put off (R49). -/
theorem State.epoch_of_change {s t : State} {e : Nat} (hrec : t.epochRec e = (s.epochRec e).change s.now) (hnow : t.now = s.now)
    (h : s.epochFree e = true) : t.epoch e = nextEpoch (s.epoch e) := by
  rw [State.epoch, hrec, hnow]
  exact EpochRec.at_change (by simpa [State.epochFree] using h)

section Requests

variable {s : State} {f : Sender} {p : PlotId} {body : List Byte}

/-- Neither a plot's record nor its entries say which Drovers are lost (R403). -/
theorem State.droverFor_describing (s : State) (p i q : Nat) (y : Plot) (vs : List (Nat × Nat)) :
    ((s.putPlot p y).setCells i vs).droverFor q = s.droverFor q := by
  rw [State.droverFor, State.setCells_changes _ i vs .procs (by decide), s.putPlot_changes p y .procs (by decide), State.droverFor]

/-- PLOT_CREATE is a write with its conditions and its effect (R241, R371). -/
theorem exec_plotCreate (f : Sender) (p : PlotId) (body : List Byte) (s : State) : exec (.plotCreate f p body) s =
    .next (s.serveWrite f (0x3000 + p.val) 0x10 body (fun s => s.createRefused p.val body) (fun s => s.createPlot f p.val body)) := by
  change execPlotCreate f p body s = _
  have hact : ∀ u : State, u.describe p.val body =
      (u.putPlot p.val (Plot.described body u.now)).setCells (0x3000 + p.val) (descriptorCells body
        (((u.putPlot p.val (Plot.described body u.now)).setCells (0x3000 + p.val) ((descriptorCells body 0).take 8)).droverFor
          p.val)) := fun u => by
    rw [State.droverFor_describing, State.describe]
  unfold execPlotCreate State.createPlot
  simp only [hact, State.setCells, descriptorCells, List.take, List.foldl]
  rfl

theorem exec_plotCreate_accepted (h : WriteArrives s f (0x3000 + p.val) 0x10 body) (hc : s.createRefused p.val body = none) :
    exec (.plotCreate f p body) s =
      .next (((s.heard f).createPlot f p.val body).answer f (writeReq (0x3000 + p.val) 0x10 body) { status := .done }) :=
  (exec_plotCreate f p body s).trans (congrArg Host.Outcome.next (State.serveWrite_arrives h (fun s => s.createRefused p.val body)
    (fun s => s.createPlot f p.val body) ((s.createRefused_heard f _ _).trans hc)))

theorem exec_plotResize_accepted {sub : Fin 6} (h : WriteArrives s f (0x3000 + p.val) (5 + sub.val) body)
    (hc : s.resizeRefused p.val (5 + sub.val) (ofLe body) = none) :
    exec (.plotResize f p sub body) s =
      .next (((s.heard f).setCell (0x3000 + p.val) (5 + sub.val) (ofLe body)).answer f
        (writeReq (0x3000 + p.val) (5 + sub.val) body) { status := .done }) :=
  congrArg Host.Outcome.next (State.serveWrite_arrives h _ _ ((s.resizeRefused_heard f _ _ _).trans hc))

theorem plotCreate_refused (h : WriteArrives s f (0x3000 + p.val) 0x10 body) {st : Status} (hc : s.createRefused p.val body = some st) :
    ∃ t, exec (.plotCreate f p body) s = .next t ∧ Answers t f st ∧ Changes s t Part.reply :=
  ⟨_, congrArg Host.Outcome.next (State.serveWrite_refused h _ _ st ((s.createRefused_heard f _ _).trans hc)),
    State.answer_answers _ _ _ _, writeArrives_changes (act := id) (ps := []) (Changes.refl _ _)⟩

theorem plotResize_refused {sub : Fin 6} (h : WriteArrives s f (0x3000 + p.val) (5 + sub.val) body) {st : Status}
    (hc : s.resizeRefused p.val (5 + sub.val) (ofLe body) = some st) :
    ∃ t, exec (.plotResize f p sub body) s = .next t ∧ Answers t f st ∧ Changes s t Part.reply :=
  ⟨_, congrArg Host.Outcome.next (State.serveWrite_refused h _ _ st ((s.resizeRefused_heard f _ _ _).trans hc)),
    State.answer_answers _ _ _ _, writeArrives_changes (act := id) (ps := []) (Changes.refl _ _)⟩

theorem plotResize_applies {sub : Fin 6} (h : WriteArrives s f (0x3000 + p.val) (5 + sub.val) body)
    (hc : s.resizeRefused p.val (5 + sub.val) (ofLe body) = none) :
    ∃ t, exec (.plotResize f p sub body) s = .next t ∧ Answers t f .done ∧
      t.cell (0x3000 + p.val) (5 + sub.val) = ofLe body ∧ CellsBut [(0x3000 + p.val, 5 + sub.val)] s t ∧
      Changes s t (.led :: Part.reply) := by
  refine ⟨_, exec_plotResize_accepted h hc, State.answer_answers _ _ _ _, by simp, ?_,
    writeArrives_changes (act := fun s => s.setCell _ _ _) (Changes.setCell _ _ _ _)⟩
  have hheard : CellsBut [(0x3000 + p.val, 5 + sub.val)] s (s.heard f) := CellsBut.of_led (by simp)
  exact (hheard.setCell _ _ (ofLe body) (by omega) List.mem_cons_self).trans (CellsBut.of_led (by simp))

end Requests

end Sys2Proof.Machine

open Sys2Proof Sys2Proof.Machine

/-- Settles O33: an accepted descriptor or resize is applied whole, a refused one is only answered. -/
theorem plotsAreCreatedWhole : Obligations.PlotsAreCreatedWhole := by
  intro s f p body
  refine ⟨fun h hc => ?_, fun st h hc => plotCreate_refused h hc,
    fun sub h => ⟨fun hc => plotResize_applies h hc, fun st hc => plotResize_refused h hc⟩⟩
  have hx := exec_plotCreate_accepted h hc
  have hch : Changes s _ _ := writeArrives_changes (act := fun s => s.createPlot f p.val body) (idx := 0x3000 + p.val) (sub := 0x10)
    (body := body) (r := { status := .done }) ((s.heard f).createPlot_changes f p.val body)
  have hans := ((s.heard f).createPlot f p.val body).answer_answers f (writeReq (0x3000 + p.val) 0x10 body) { status := .done }
  have hreply := ((s.heard f).createPlot f p.val body).answer_changes f (writeReq (0x3000 + p.val) 0x10 body) { status := .done }
  obtain ⟨hled, hplots⟩ := (s.heard f).createPlot_described f p.val body
  have hraises := (s.heard f).createPlot_raises f p.val body
  have hepochs := fun n hn => (s.heard f).createPlot_epochs f p.val body (n := n) hn
  generalize (s.heard f).createPlot f p.val body = u at *
  generalize u.answer f _ _ = t at *
  have hcell : ∀ i j, t.cell i j = ((s.heard f).describe p.val body).cell i j :=
    State.cell_of_led ((hreply .led (by decide)).trans hled)
  have hplot : t.plot = ((s.heard f).describe p.val body).plot :=
    funext (State.plot_of_plots ((hreply .plots (by decide)).trans hplots))
  have hheard := s.heard_changes f
  have hepoch : ∀ n ∈ loomMap body, t.epochRec (loomEndpoint n 0) = (s.epochRec (loomEndpoint n 0)).change s.now := fun n hn => by
    have e := hepochs n hn
    rw [State.epochRec, ← hreply .epochs (by decide), ← State.epochRec] at e
    rw [e, State.epochRec, hheard .epochs (by decide), ← State.epochRec, hheard .now (by decide)]
  obtain ⟨c1, c2, c3, c4, c5, c6, c7, c8, c9, c10⟩ := (s.heard f).describe_cells p.val body
  obtain ⟨hdesc, hothers⟩ := (s.heard f).describe_plot p.val body
  have hnow : t.now = u.now := hreply .now (by decide)
  refine ⟨t, senderClass f, hx, hans, (hcell _ _).trans c1, ?_, fun n hn => ⟨hepoch n hn, fun hfree =>
    State.epoch_of_change (hepoch n hn) (hch .now (by decide)) hfree⟩, (hcell _ _).trans c2, (hcell _ _).trans c3,
    (hcell _ _).trans c4, (hcell _ _).trans c5, (hcell _ _).trans c6, (hcell _ _).trans c7, (hcell _ _).trans c8,
    (hcell _ _).trans c9, (hcell _ _).trans c10, ?_, ?_, ?_, ?_, ?_, ?_, ?_, hch.mono (by decide)⟩
  iterate 5 rw [hplot, hdesc, Plot.described]
  · exact (hraises.congr (hreply .ev (by decide)) hnow).after (congrArg Events.seq (hheard .ev (by decide)))
  · rw [hplot]
    exact fun q hq => (hothers q hq).trans (State.plot_of_plots (hheard .plots (by decide)) q)
  · exact fun i j hj hi => (hcell i j).trans (((s.heard f).describe_cell_ne p.val body hj hi).trans (s.cell_heard f i j))
end

section
/-! PROOFS. STEP_FORM (R258 to R261, R267, R342): the statement O31. -/

namespace Sys2Proof.Machine

/-! ### What the loop of R258 leaves of requests, plots and settings -/

/-- On the way to a new step of a plot: no step and no position moves, every plot's next tag stands (R197), and so do the arithmetic
settings of the plot (R114). -/
structure Forming (p : Nat) (s t : State) : Prop where
  parts : Changes s t [.ob, .plots, .led, .qps, .ev, .sessions, .out]
  committed : ∀ i, (t.obAt i).committed = (s.obAt i).committed
  tags : SamePlots Plot.nextTag s t
  cells : ∀ k, k < 256 → t.cell (0x3200 + p) k = s.cell (0x3200 + p) k

section Forming

variable {p : Nat} {s t u : State}

theorem Forming.refl (p : Nat) (s : State) : Forming p s s := ⟨.refl _ _, fun _ => rfl, .of_plots rfl, fun _ _ => rfl⟩

theorem Forming.trans (h : Forming p s t) (h' : Forming p t u) : Forming p s u :=
  ⟨h.parts.trans h'.parts, fun i => (h'.committed i).trans (h.committed i), h.tags.trans h'.tags,
    fun k hk => (h'.cells k hk).trans (h.cells k hk)⟩

theorem Forming.foldl {α : Type} {f : State → α → State} (h : ∀ s x, Forming p s (f s x)) (l : List α) (s : State) :
    Forming p s (l.foldl f s) := by
  induction l generalizing s with
  | nil => exact .refl p s
  | cons x l ih => exact (h s x).trans (ih _)

theorem Forming.updOb {f : Ob → Ob} (h : ∀ o, (f o).committed = o.committed) (s : State) (i : Nat) : Forming p s (s.updOb i f) := by
  refine ⟨(Changes.updOb s i f).mono (by decide), fun j => ?_, .of_plots rfl, fun _ _ => rfl⟩
  rw [State.obAt_updOb]
  split
  · exact h _
  · rfl

theorem Forming.updPlot {f : Plot → Plot} (h : ∀ x, (f x).nextTag = x.nextTag) (s : State) (q : Nat) : Forming p s (s.updPlot q f) :=
  ⟨(Changes.updPlot s q f).mono (by decide), fun _ => rfl, .updPlot h s q, fun _ _ => rfl⟩

theorem Forming.updPool (f : PoolSt → PoolSt) (s : State) (q m : Nat) : Forming p s (s.updPool q m f) :=
  ⟨(s.updPool_changes q m f).mono (by decide), fun _ => rfl, .updPool (fun _ _ => rfl) s q m f, fun _ _ => rfl⟩

theorem Forming.bump {i j : Nat} (s : State) (w n : Nat) (hj : j < 256) (hi : i ≠ 0x3200 + p) : Forming p s (s.bump w i j n) :=
  ⟨(Changes.bump s w i j n).mono (by decide), fun _ => rfl, .of_plots rfl,
    fun k hk => CellsBut.bump s w i j n hj _ k hk (by simp [Ne.symm hi])⟩

theorem Forming.raiseLimited (s : State) (ev scope period q : Nat) (ps : List Nat) :
    Forming p s (s.raiseLimited ev scope period q ps) := by
  have h := Changes.raiseLimited s ev scope period q ps
  exact ⟨h.mono (by decide), fun i => congrArg _ (State.obAt_of_ob (h .ob (by decide)) i), .of_plots (h .plots (by decide)),
    fun _ _ => State.cell_of_led (h .led (by decide)) _ _⟩

theorem Forming.post (s : State) (n : Nat) (rs : List Result) : Forming p s (s.post n rs) := by
  have h := s.post_changes n rs
  exact ⟨h.mono (by decide), fun i => congrArg _ (State.obAt_of_ob (h .ob (by decide)) i), .of_plots (h .plots (by decide)),
    fun _ _ => State.cell_of_led (h .led (by decide)) _ _⟩

end Forming

/-! ### Frames for a step (R214, R217, R224) -/

section Frames

variable {p : Nat} {s t : State}

theorem State.giveBlock_forming {i : Nat} {f : Nat → Ob → Ob} (hf : ∀ b o, (f b o).committed = o.committed)
    (h : s.giveBlock i f = some t) : Forming p s t := by
  simp only [State.giveBlock, Option.bind_eq_some_iff, Option.map_eq_some_iff] at h
  obtain ⟨x, -, b, -, rfl⟩ := h
  exact .updOb (hf b) s i

theorem Ob.committed_addBlock (d : Bool) (b : Nat) (o : Ob) : (o.addBlock d b).committed = o.committed := by
  unfold Ob.addBlock
  split <;> rfl

theorem State.holdPage_forming {i j : Nat} {d : Bool} (h : s.holdPage i d j = some t) : Forming p s t := by
  unfold State.holdPage at h
  dsimp only at h
  split at h
  · cases h
    exact .refl p s
  · revert h t
    refine List.foldlRecOn (motive := fun v : Option State => ∀ {t}, v = some t → Forming p s t) _ _ (fun {u} hu => ?_)
      fun v hv _ _ t ht => ?_
    · split at hu
      · exact State.giveBlock_forming (f := fun b o => { o with pageHead := b }) (fun _ _ => rfl) hu
      · cases hu
        exact .refl p s
    · obtain ⟨u, hu, ht⟩ := Option.bind_eq_some_iff.1 ht
      exact (hv hu).trans (State.giveBlock_forming (Ob.committed_addBlock d) ht)

theorem State.allocFrame_forming {q m j : Nat} {r : Nat × State} (h : s.allocFrame q m j = some r) : Forming p s r.2 := by
  unfold State.allocFrame at h
  split at h
  · cases h
  · split at h
    · cases h
    · cases h
      dsimp only
      exact Forming.updPool _ s q m

theorem Ob.committed_setPage (d : Bool) (j w : Nat) (o : Ob) : (o.setPage d j w).committed = o.committed := by
  unfold Ob.setPage
  split <;> rfl

theorem State.allocPages_forming {q i m hi : Nat} {d : Bool} (h : (s.allocPages q i m d hi).1 = some t) : Forming p s t := by
  unfold State.allocPages at h
  revert h t
  refine List.foldlRecOn (motive := fun v : Option State × Nat => ∀ {t}, v.1 = some t → Forming p s t) _ _ (fun {u} hu => ?_)
    fun v hv j _ t ht => ?_
  · cases hu
    exact .refl p s
  · obtain ⟨v, k⟩ := v
    cases v with
    | none => cases ht
    | some v =>
      have hsv : Forming p s v := hv rfl
      dsimp only at ht
      split at ht
      · cases ht
        exact hsv
      · split at ht
        next hpage =>
          obtain ⟨w, hw, hframe⟩ := Option.bind_eq_some_iff.1 hpage
          cases ht
          exact ((hsv.trans (State.holdPage_forming hw)).trans (State.allocFrame_forming hframe)).trans
            (.updOb (Ob.committed_setPage d j _) _ i)
        next => cases ht
        next =>
          cases ht
          exact hsv

theorem State.allocFor_forming {q i hi : Nat} {o : Ob} (h : (s.allocFor q i o hi).1 = some t) : Forming p s t := by
  have hmain : ∀ u, (match s.pool q o.mslot with
      | some _ => s.allocPages q i o.mslot false hi
      | none => (some s, 0)).1 = some u → Forming p s u := fun u hu => by
    split at hu
    · exact State.allocPages_forming hu
    · cases hu
      exact .refl p s
  unfold State.allocFor at h
  dsimp only at h
  split at h
  next => cases h
  next h1 _ =>
    cases h
    exact hmain _ h1
  next h1 _ =>
    split at h
    · cases h
      exact hmain _ h1
    · exact (hmain _ h1).trans (State.allocPages_forming h)

end Frames

/-! ### The loop, within the limits of the image (R258) -/

/-- The loop of R258 so far: what it leaves as it is, and its count of streams and positions, each within its limit. -/
structure Considered (p : Nat) (mdl : Model) (s : State) (t : State × List StepReq × Nat × Nat) : Prop where
  forming : Forming p s t.1
  streams : t.2.1.length = t.2.2.1
  positions : (t.2.1.map StepReq.need).sum = t.2.2.2
  streamLimit : t.2.2.1 ≤ mdl.stepStreams
  positionLimit : t.2.2.2 ≤ mdl.stepPositions

theorem Considered.start (p : Nat) (mdl : Model) (s : State) : Considered p mdl s (s, [], 0, 0) :=
  ⟨.refl p s, rfl, rfl, Nat.zero_le _, Nat.zero_le _⟩

theorem Considered.consider {p : Nat} {mdl : Model} {s : State} {t : State × List StepReq × Nat × Nat}
    (h : Considered p mdl s t) (c : Nat × Ob × Option Nat) : Considered p mdl s (State.consider p mdl t c) := by
  obtain ⟨hform, hstreams, hpositions, hslimit, hplimit⟩ := h
  unfold State.consider
  dsimp only
  split
  · exact ⟨(hform.trans (.bump _ _ _ (by decide) (by omega))).trans (.raiseLimited _ _ _ _ _ _), hstreams, hpositions, hslimit, hplimit⟩
  · split
    · exact ⟨hform, hstreams, hpositions, hslimit, hplimit⟩
    next hroom =>
      split
      · exact ⟨(hform.trans (.bump _ _ _ (by decide) (by omega))).trans (.raiseLimited _ _ _ _ _ _), hstreams, hpositions, hslimit,
          hplimit⟩
      next halloc =>
        refine ⟨hform.trans (State.allocFor_forming halloc), by simp [hstreams], by simp [hpositions], ?_, ?_⟩
        · dsimp only
          omega
        · dsimp only
          omega

theorem Considered.foldl (p : Nat) (mdl : Model) (cs : List (Nat × Ob × Option Nat)) (s : State) :
    Considered p mdl s (cs.foldl (State.consider p mdl) (s, [], 0, 0)) :=
  List.foldlRecOn (motive := Considered p mdl s) cs _ (.start p mdl s) fun _ h c _ => h.consider c

/-! ### COOL_LOWWATER_MOVE and the serving settings (R261, R267) -/

theorem State.toCool_forming {p : Nat} (s : State) (i : Nat) : Forming p s (s.toCool i) := by
  rw [State.toCool_eq]
  exact (Forming.updOb (f := Ob.cooled) (fun _ => rfl) s i).trans (.post _ _ _)

theorem State.coolClass_forming {p : Nat} (mark m c : Nat) (x : PoolSt) (os : List (Nat × Ob)) (s : State) (free : Nat) :
    Forming p s (State.coolClass mark m c x s free os) := by
  induction os generalizing s free with
  | nil => exact .refl p s
  | cons e os ih =>
    rw [State.coolClass]
    split
    · exact .refl p s
    · exact (s.toCool_forming e.1).trans (ih _ _)

theorem State.coolPool_forming {p : Nat} (s : State) (q m : Nat) : Forming p s (s.coolPool q m) := by
  unfold State.coolPool
  split
  · exact .refl p s
  · exact Forming.foldl (fun u _ => State.coolClass_forming _ _ _ _ _ u _) _ s

theorem State.coolLow_forming {p : Nat} (s : State) (q m : Nat) : Forming p s (s.coolLow q m) := by
  unfold State.coolLow
  dsimp only
  split
  · split
    · exact s.coolPool_forming q m
    · exact (s.coolPool_forming q m).trans (State.coolPool_forming _ _ _)
  · exact s.coolPool_forming q m

/-! ### The new step -/

/-- Values written at the numbers below `n`, each against its own default, read back. -/
theorem Tab.get_foldl_range {α : Type} [DecidableEq α] (d v : Nat → α) (t : Tab α) {n k : Nat} (hk : k < n) :
    Tab.get (d k) ((List.range n).foldl (fun t j => Tab.set (d j) t j (v j)) t) k = v k := by
  induction n with
  | zero => omega
  | succ n ih =>
    rw [List.range_succ, List.foldl_append, List.foldl_cons, List.foldl_nil]
    by_cases h : n = k
    · rw [h, Tab.get_set_self]
    · rw [Tab.get_set_ne' _ _ _ h, ih (by omega)]

/-- A step keeps the arithmetic settings that the Ledger has at its formation (R114, R130). -/
theorem State.get_arithNow (s : State) (p : Nat) {k : Nat} (hk : k < 9) :
    Tab.get (entryDefault (0x3200 + p) k) (s.arithNow p) k = s.cell (0x3200 + p) k :=
  Tab.get_foldl_range (fun k => entryDefault (0x3200 + p) k) (fun k => s.cell (0x3200 + p) k) [] hk

/-- A request joins a step: what the step feeds is provisional beyond its committed length (R234, R259). -/
def Ob.joins (id need : Nat) (o : Ob) : Ob :=
  { o with step := some id, provisional := o.committed + need, st := if o.st = .queued then .prefill else o.st }

/-- The requests of a new step join it (R258). -/
def State.joinAll (s : State) (id : Nat) (reqs : List StepReq) : State :=
  reqs.foldl (fun s q => s.updOb q.ob (Ob.joins id q.need)) s

theorem State.obAt_joinAll_ne {id : Nat} {reqs : List StepReq} (s : State) {i : Nat} (h : ∀ q ∈ reqs, q.ob ≠ i) :
    (s.joinAll id reqs).obAt i = s.obAt i :=
  foldl_keeps (fun u : State => u.obAt i) reqs (fun q hq u => by rw [State.obAt_updOb, if_neg (h q hq)]) s

/-- Every request that joins is in the step, and its provisional length is of the last time it is named. -/
theorem State.obAt_joinAll {id : Nat} (reqs : List StepReq) (s : State) {q : StepReq} (h : q ∈ reqs) :
    ((s.joinAll id reqs).obAt q.ob).step = some id ∧ ((s.joinAll id reqs).obAt q.ob).committed = (s.obAt q.ob).committed ∧
      ∃ q' ∈ reqs, q'.ob = q.ob ∧ ((s.joinAll id reqs).obAt q.ob).provisional = (s.obAt q.ob).committed + q'.need := by
  induction reqs generalizing s q with
  | nil => cases h
  | cons r rs ih =>
    have hcons : s.joinAll id (r :: rs) = (s.updOb r.ob (Ob.joins id r.need)).joinAll id rs := rfl
    have hcommitted : ((s.updOb r.ob (Ob.joins id r.need)).obAt q.ob).committed = (s.obAt q.ob).committed := by
      rw [State.obAt_updOb]
      split <;> rfl
    by_cases hlater : ∃ q' ∈ rs, q'.ob = q.ob
    · obtain ⟨q', hq', hob⟩ := hlater
      have hih := ih (s.updOb r.ob (Ob.joins id r.need)) hq'
      rw [hob, ← hcons, hcommitted] at hih
      obtain ⟨hstep, hcom, q2, hq2, hob2, hprov⟩ := hih
      exact ⟨hstep, hcom, q2, List.mem_cons_of_mem r hq2, hob2, hprov⟩
    · have hlast : q = r := (List.mem_cons.1 h).resolve_right fun hq => hlater ⟨q, hq, rfl⟩
      subst hlast
      rw [hcons, State.obAt_joinAll_ne _ fun q' hq' he => hlater ⟨q', hq', he⟩, State.obAt_updOb, if_pos rfl]
      exact ⟨rfl, rfl, q, List.mem_cons_self, rfl, rfl⟩

theorem State.joinAll_changes (s : State) (id : Nat) (reqs : List StepReq) : Changes s (s.joinAll id reqs) [.ob] :=
  Changes.foldl (f := fun s (q : StepReq) => s.updOb q.ob (Ob.joins id q.need)) (fun u q => Changes.updOb u q.ob _) reqs s

/-- The step that a model slot forms of the requests taken (R258): the next tag, the settings and the number as the plot has them. -/
def State.newStep (s : State) (p m : Nat) (reqs : List StepReq) : Step :=
  { plot := p, mslot := m, attempt := (s.plot p).nextTag, reqs := reqs, tick := s.nearInstant / s.bell.period
    sampled := sampledStep p (s.cell (0x3200 + p) 2) (s.plot p).formed, arith := s.arithNow p, number := (s.plot p).formed }

/-- A new step stands in the table with the next number (R258). -/
def State.addStep (s : State) (x : Step) : State :=
  { s with steps := Tab.set none s.steps s.nextStep (some x), nextStep := s.nextStep + 1 }

/-- The requests taken form a step (R258). -/
def State.formStep (s : State) (p m : Nat) (reqs : List StepReq) : State :=
  (((s.newTag p).2.updPlot p (fun y => { y with
      formed := (s.plot p).formed + 1, gapEnd := Tab.set 0 y.gapEnd m 0, tickUsed := Tab.set 0 y.tickUsed m s.bell.tickNo })).addStep
    (s.newStep p m reqs)).joinAll s.nextStep reqs

theorem State.addStep_spec (s : State) (x : Step) : (s.addStep x).stepAt s.nextStep = some x ∧
    SameBut [s.nextStep] s.stepAt (s.addStep x).stepAt ∧ Changes s (s.addStep x) [.steps, .nextStep] := by
  refine ⟨Tab.get_set_self none s.steps s.nextStep (some x),
    fun id hid => Tab.get_set_ne none s.steps (some x) (by simpa [eq_comm] using hid), fun q hq => ?_⟩
  cases q
  case steps | nextStep => exact absurd (by decide) hq
  all_goals rfl

theorem State.formStep_spec (s : State) (p m : Nat) (reqs : List StepReq) :
    (s.formStep p m reqs).nextStep = s.nextStep + 1 ∧ (s.formStep p m reqs).stepAt s.nextStep = some (s.newStep p m reqs) ∧
      SameBut [s.nextStep] s.stepAt (s.formStep p m reqs).stepAt ∧
      (∀ q ∈ reqs, ((s.formStep p m reqs).obAt q.ob).step = some s.nextStep ∧
        ((s.formStep p m reqs).obAt q.ob).committed = (s.obAt q.ob).committed ∧
        ∃ q' ∈ reqs, q'.ob = q.ob ∧ ((s.formStep p m reqs).obAt q.ob).provisional = (s.obAt q.ob).committed + q'.need) ∧
      Changes s (s.formStep p m reqs) [.plots, .steps, .nextStep, .ob] := by
  unfold State.formStep
  generalize hu : (s.newTag p).2.updPlot p _ = u
  have hsu : Changes s u [.plots] := hu ▸ (Changes.updPlot s p _).trans (Changes.updPlot _ p _)
  have hob := State.obAt_of_ob (hsu .ob (by decide))
  have hnext : u.nextStep = s.nextStep := hsu .nextStep (by decide)
  have hsteps : u.stepAt = s.stepAt := funext fun id => by rw [State.stepAt, hsu .steps (by decide), State.stepAt]
  obtain ⟨hnew, hothers, hadd⟩ := u.addStep_spec (s.newStep p m reqs)
  rw [hnext] at hnew hothers
  rw [hsteps] at hothers
  have hjoin := (u.addStep (s.newStep p m reqs)).joinAll_changes s.nextStep reqs
  have hstepAt : ∀ id, ((u.addStep (s.newStep p m reqs)).joinAll s.nextStep reqs).stepAt id =
      (u.addStep (s.newStep p m reqs)).stepAt id := fun id => by rw [State.stepAt, hjoin .steps (by decide), State.stepAt]
  have hobAdd : ∀ i, (u.addStep (s.newStep p m reqs)).obAt i = s.obAt i := fun i =>
    (State.obAt_of_ob (hadd .ob (by decide)) i).trans (hob i)
  refine ⟨(hjoin .nextStep (by decide)).trans (congrArg (· + 1) hnext), (hstepAt _).trans hnew,
    fun id hid => (hstepAt id).trans (hothers id hid), fun q hq => ?_,
    ((hsu.mono (by decide)).trans (hadd.mono (by decide))).trans (hjoin.mono (by decide))⟩
  obtain ⟨hstep, hcom, q', hq', he, hprov⟩ := State.obAt_joinAll reqs (u.addStep (s.newStep p m reqs)) hq (id := s.nextStep)
  rw [hobAdd] at hcom hprov
  exact ⟨hstep, hcom, q', hq', he, hprov⟩

/-! ### STEP_FORM -/

/-- The state and the requests with which the loop of R258 ends, the serving settings in effect (R267). -/
def State.loop (s : State) (p m : Nat) (mdl : Model) : State × List StepReq × Nat × Nat :=
  ((s.takeServing p).candidates p m).foldl (State.consider p mdl) (s.takeServing p, [], 0, 0)

section Form

variable {s : State} {p : PlotId} {m : MSlot} {im : Image} {mdl : Model} (him : (s.plot p.val).image = some im)
  (hmdl : s.model p.val m.val = some mdl) (hmay : s.mayForm p.val m.val im mdl = true)
include him hmdl hmay

theorem exec_stepForm_gap (hc : s.candidates p.val m.val ≠ []) (hg : s.inGap p.val m.val = true) :
    exec (.stepForm p m) s = .next (s.startGap p.val m.val) := by
  change execStepForm p m s = _
  rw [execStepForm, him, hmdl]
  dsimp only
  rw [if_neg (by simp [hmay]), if_pos ⟨hc, hg⟩]

theorem exec_stepForm_formed (hc : s.candidates p.val m.val = [] ∨ s.inGap p.val m.val = false)
    (hr : (s.loop p.val m.val mdl).2.1 ≠ []) :
    ∃ ls : List Nat, exec (.stepForm p m) s = .next (ls.foldl (fun s k => s.pickStep k)
      (((s.loop p.val m.val mdl).1.coolLow p.val m.val).formStep p.val m.val (s.loop p.val m.val mdl).2.1)) := by
  refine ⟨(((s.loop p.val m.val mdl).1.coolLow p.val m.val).formStep p.val m.val (s.loop p.val m.val mdl).2.1).footprint p.val, ?_⟩
  change execStepForm p m s = _
  rw [execStepForm, him, hmdl]
  dsimp only
  rw [if_neg (by simp [hmay]), if_neg (by simpa [or_iff_not_imp_left] using hc)]
  unfold State.loop at hr ⊢
  generalize ((s.takeServing p.val).candidates p.val m.val).foldl (State.consider p.val mdl) (s.takeServing p.val, [], 0, 0) = r at *
  rw [if_neg hr]
  generalize r.1.coolLow p.val m.val = u
  rfl

end Form

theorem State.startGap_changes (s : State) (p m : Nat) : Changes s (s.startGap p m) [.led, .plots] := by
  unfold State.startGap
  split
  · exact .refl s _
  · exact (((Changes.bump s _ _ _ _).trans (Changes.bump _ _ _ _ _)).mono (by decide)).trans
      ((Changes.updPlot _ p _).mono (by decide))

theorem State.takeServing_forming (s : State) (p : Nat) : Forming p s (s.takeServing p) := Forming.updPlot (fun _ => by rfl) s p

end Sys2Proof.Machine

open Sys2Proof Sys2Proof.Machine

/-- Settles O31: the loop keeps within the image's limits and moves no position; the new step is `State.newStep`. -/
theorem stepTakesWhatTheLimitsAllow : Obligations.StepTakesWhatTheLimitsAllow := by
  intro s p m im mdl him hmdl hmay
  refine ⟨fun z reqs hc hz hreqs hne => ?_, fun hc hg => ?_⟩
  · subst hz
    change reqs = (s.loop p.val m.val mdl).2.1 at hreqs
    subst hreqs
    obtain ⟨ls, hx⟩ := exec_stepForm_formed him hmdl hmay hc hne
    have hloop : Considered p.val mdl (s.takeServing p.val) (s.loop p.val m.val mdl) := Considered.foldl _ _ _ _
    have hform := ((s.takeServing_forming p.val).trans hloop.forming).trans (State.coolLow_forming _ p.val m.val)
    have hlen := hloop.streams ▸ hloop.streamLimit
    have hsum := hloop.positions ▸ hloop.positionLimit
    generalize (s.loop p.val m.val mdl).2.1 = reqs at *
    generalize (s.loop p.val m.val mdl).1.coolLow p.val m.val = u at *
    obtain ⟨hnext, hat, hothers, hjoined, hch⟩ := u.formStep_spec p.val m.val reqs
    have hpick : (ls.foldl (fun s k => s.pickStep k) (u.formStep p.val m.val reqs)).offLooms = (u.formStep p.val m.val reqs).offLooms :=
      foldl_keeps State.offLooms ls (fun n _ v => State.pickStep_offLooms v n) _
    have hpicked := Changes.of_offLooms hpick
    have hu : u.nextStep = s.nextStep := hform.parts .nextStep (by decide)
    have hsteps : u.stepAt = s.stepAt := funext fun id => by rw [State.stepAt, hform.parts .steps (by decide), State.stepAt]
    rw [hu] at hnext hat hothers hjoined
    rw [hsteps] at hothers
    refine ⟨_, _, hx, (hpicked .nextStep (by decide)).trans hnext, (State.stepAt_of_offLooms hpick _).trans hat, rfl, rfl, rfl,
      hform.tags p.val, rfl, rfl, fun k hk => (u.get_arithNow p.val hk).trans (hform.cells k (by omega)), hlen, hsum,
      fun q hq => ?_, fun id hid => (State.stepAt_of_offLooms hpick id).trans (hothers id hid),
      ((hform.parts.mono (by decide)).trans (hch.mono (by decide))).trans (hpicked.mono (by decide))⟩
    rw [State.obAt_of_ob (hpicked .ob (by decide)), ← hform.committed q.ob]
    exact hjoined q hq
  · have hch := s.startGap_changes p.val m.val
    exact ⟨_, exec_stepForm_gap him hmdl hmay hc hg, hch .steps (by decide), hch .nextStep (by decide), hch⟩
end

section
/-! PROOFS. STEP_COMMIT (R224, R234, R253, R258, R259): the statement O32. -/

namespace Sys2Proof.Machine

theorem State.postAll_changes (s : State) (es : List (Nat × Result)) : Changes s (s.postAll es) [.qps, .out] :=
  Changes.foldl (fun u _ => u.post_changes _ _) _ s

/-! ### What a step's end leaves of a request's lengths, and of the count of steps -/

/-- Two states have the same requests but request `i`, and that one in the same step, with the same lengths and budget; the count of
steps (A000:01) stands. -/
structure KeepsLengths (i : Nat) (s t : State) : Prop where
  others : SameBut [i] s.obAt t.obAt
  step : (t.obAt i).step = (s.obAt i).step
  committed : (t.obAt i).committed = (s.obAt i).committed
  provisional : (t.obAt i).provisional = (s.obAt i).provisional
  budget : (t.obAt i).budget = (s.obAt i).budget
  counted : t.cell 0xA000 1 = s.cell 0xA000 1
  parts : Changes s t [.ob, .plots, .led]

section KeepsLengths

variable {i : Nat} {s t u : State}

theorem KeepsLengths.trans (h : KeepsLengths i s t) (h' : KeepsLengths i t u) : KeepsLengths i s u :=
  ⟨h.others.trans h'.others, h'.step.trans h.step, h'.committed.trans h.committed, h'.provisional.trans h.provisional,
    h'.budget.trans h.budget, h'.counted.trans h.counted, h.parts.trans h'.parts⟩

theorem KeepsLengths.of_record (h : KeepsRecord i s t) (hc : t.cell 0xA000 1 = s.cell 0xA000 1)
    (hp : Changes s t [.ob, .plots, .led]) : KeepsLengths i s t := by
  obtain ⟨-, -, -, -, hstep, hcommitted, hprovisional, hbudget⟩ := h.fields
  exact ⟨h.1, hstep, hcommitted, hprovisional, hbudget, hc, hp⟩

theorem KeepsLengths.of_ob (h : t.ob = s.ob) (hc : t.cell 0xA000 1 = s.cell 0xA000 1) (hp : Changes s t [.ob, .plots, .led]) :
    KeepsLengths i s t := .of_record (.of_ob h) hc hp

theorem KeepsLengths.refl (i : Nat) (s : State) : KeepsLengths i s s := .of_ob rfl rfl (.refl s _)

theorem KeepsLengths.foldl {α : Type} {f : State → α → State} (h : ∀ s x, KeepsLengths i s (f s x)) (l : List α) (s : State) :
    KeepsLengths i s (l.foldl f s) := by
  induction l generalizing s with
  | nil => exact .refl i s
  | cons x l ih => exact (h s x).trans (ih _)

/-- A change of the request beside its step, its lengths and its budget. -/
theorem KeepsLengths.updOb {f : Ob → Ob} (s : State) (h : ∀ o, (f o).step = o.step ∧ (f o).committed = o.committed ∧
    (f o).provisional = o.provisional ∧ (f o).budget = o.budget) : KeepsLengths i s (s.updOb i f) := by
  have hself : (s.updOb i f).obAt i = f (s.obAt i) := by rw [State.obAt_updOb, if_pos rfl]
  obtain ⟨hstep, hcommitted, hprovisional, hbudget⟩ := h (s.obAt i)
  exact ⟨s.obAt_updOb_others i f, hself ▸ hstep, hself ▸ hcommitted, hself ▸ hprovisional, hself ▸ hbudget, rfl,
    (Changes.updOb s i f).mono (by decide)⟩

/-- Another count goes up. -/
theorem KeepsLengths.bump {a b : Nat} (s : State) (w n : Nat) (hb : b < 256) (h1 : b ≠ 1) : KeepsLengths i s (s.bump w a b n) :=
  .of_ob rfl (CellsBut.bump s w a b n hb 0xA000 1 (by decide) (by simp [Ne.symm h1])) ((Changes.bump s w a b n).mono (by decide))

theorem KeepsLengths.updPlot (s : State) (p : Nat) (f : Plot → Plot) : KeepsLengths i s (s.updPlot p f) :=
  .of_ob rfl rfl ((Changes.updPlot s p f).mono (by decide))

end KeepsLengths

theorem State.settlePages_keepsLengths (s : State) (i c : Nat) : KeepsLengths i s (s.settlePages i c) := by
  have hset : ∀ (u : State) (e : Bool × Nat) w, KeepsLengths i u (u.updOb i (fun o => o.setPage e.1 e.2 w)) := fun u e w =>
    .of_record (.setPage u i e.1 e.2 w) rfl ((Changes.updOb u i _).mono (by decide))
  refine KeepsLengths.foldl (fun u e => ?_) _ s
  dsimp only
  split
  · exact .refl i u
  · split
    · exact hset u e _
    · split
      · exact .refl i u
      · exact ((KeepsLengths.updPlot u _ _ : KeepsLengths i u (u.returnFrame _ _ _)).trans (hset _ e 0)).trans
          (.bump _ _ _ (by decide) (by decide))

theorem State.countCommit_keepsLengths (s : State) (i : Nat) (r : StepReq) (c tokens k : Nat) (smp : Bool) :
    KeepsLengths i s (s.countCommit i r c tokens k smp) :=
  ((((KeepsLengths.bump s _ _ (by decide) (by decide)).trans (.bump _ _ _ (by decide) (by decide))).trans
    (.bump _ _ _ (by decide) (by decide))).trans (.bump _ _ _ (by decide) (by decide))).trans (.updPlot _ _ _)

theorem Ob.startTurn_keeps (o : Ob) : o.startTurn.step = o.step ∧ o.startTurn.committed = o.committed ∧
    o.startTurn.provisional = o.provisional ∧ o.startTurn.budget = o.budget := by
  unfold Ob.startTurn
  split <;> exact ⟨rfl, rfl, rfl, rfl⟩

theorem State.turnAfter_keepsLengths (s : State) (i : Nat) (more smp spent turnEnd : Bool) :
    KeepsLengths i s (s.turnAfter i more smp spent turnEnd) := by
  unfold State.turnAfter
  split
  · split
    · exact .updOb s fun _ => ⟨rfl, rfl, rfl, rfl⟩
    · exact .updOb s fun o => Ob.startTurn_keeps { o with st := .prefill }
  · split
    · exact .updOb s fun _ => ⟨rfl, rfl, rfl, rfl⟩
    · exact .refl i s

theorem State.releasePages_keepsLengths (s : State) (i : Nat) : KeepsLengths i s (s.releasePages i) :=
  have h := s.releasePages_changes i
  .of_record (s.releasePages_keepsRecord i) (State.cell_of_led (h .led (by decide)) _ _) (h.mono (by decide))

/-! ### The commit of a request whose budget is not spent (R224, R251) -/

/-- What a step brought is in the request's lengths and budget, and it is in the step in which it was. -/
theorem State.commitWith_spec (s : State) (r : StepReq) {e : StepEnd} (h : e.spent = false) (trained : Bool) :
    ((s.commitWith r e trained).1.obAt r.ob).step = (s.obAt r.ob).step ∧
      ((s.commitWith r e trained).1.obAt r.ob).committed = e.length ∧
      ((s.commitWith r e trained).1.obAt r.ob).provisional = e.length ∧
      ((s.commitWith r e trained).1.obAt r.ob).budget = e.budget ∧
      (s.commitWith r e trained).1.cell 0xA000 1 = s.cell 0xA000 1 ∧
      SameBut [r.ob] s.obAt (s.commitWith r e trained).1.obAt ∧ Changes s (s.commitWith r e trained).1 [.ob, .plots, .led] := by
  have hcount := (s.settlePages_keepsLengths r.ob e.length).trans
    (State.countCommit_keepsLengths _ r.ob r e.length e.tokens.length e.accepted e.samples)
  have hturn : ∀ u : State, KeepsLengths r.ob u (if trained then
      (u.turnAfter r.ob (e.inputs != []) e.samples e.spent e.turnEnd).releasePages r.ob
    else u.turnAfter r.ob (e.inputs != []) e.samples e.spent e.turnEnd) := fun u => by
    split
    · exact (u.turnAfter_keepsLengths r.ob _ _ _ _).trans (State.releasePages_keepsLengths _ r.ob)
    · exact u.turnAfter_keepsLengths r.ob _ _ _ _
  unfold State.commitWith
  dsimp only
  rw [if_neg (by simp [h])]
  dsimp only
  generalize (s.settlePages r.ob e.length).countCommit r.ob r e.length e.tokens.length e.accepted e.samples = v at *
  have hself : (v.updOb r.ob (fun o => o.afterStep e s.usNow)).obAt r.ob = (v.obAt r.ob).afterStep e s.usNow := by
    rw [State.obAt_updOb, if_pos rfl]
  have hothers := v.obAt_updOb_others r.ob (fun o => o.afterStep e s.usNow)
  have hupd := Changes.updOb v r.ob (fun o => o.afterStep e s.usNow)
  have hled : (v.updOb r.ob (fun o => o.afterStep e s.usNow)).led = v.led := rfl
  generalize v.updOb r.ob (fun o => o.afterStep e s.usNow) = w at *
  have hend := hturn w
  refine ⟨hend.step.trans ?_, hend.committed.trans ?_, hend.provisional.trans ?_, hend.budget.trans ?_, hend.counted.trans
    ((State.cell_of_led hled _ _).trans hcount.counted), (hcount.others.trans hothers).trans hend.others,
    (hcount.parts.trans (hupd.mono (by decide))).trans hend.parts⟩
  · rw [hself]
    exact hcount.step
  all_goals
    rw [hself]
    rfl

/-! ### The step is taken out -/

/-- A request that is in no step any more. -/
def Ob.leaves (o : Ob) (id : Nat) : Ob := if o.step = some id then { o with step := none, provisional := o.committed } else o

/-- A step of one request is taken out of the table, and its request is in no step (R234). -/
theorem State.dropStep_single {s : State} {id : Nat} {x : Step} {r : StepReq} (h : s.stepAt id = some x) (hr : x.reqs = [r]) :
    (s.dropStep id).stepAt id = none ∧ SameBut [id] s.stepAt (s.dropStep id).stepAt ∧
      (s.dropStep id).obAt r.ob = (s.obAt r.ob).leaves id ∧ SameBut [r.ob] s.obAt (s.dropStep id).obAt ∧
      (s.dropStep id).led = s.led := by
  have hdrop : s.dropStep id = { ((s.leaveStep id x).haltOn id ((s.leaveStep id x).footprint x.plot)) with
      steps := Tab.set none ((s.leaveStep id x).haltOn id ((s.leaveStep id x).footprint x.plot)).steps id none } := by
    unfold State.dropStep
    rw [h]
    rfl
  have hleave : s.leaveStep id x = (s.noteBusy x.plot).updOb r.ob (Ob.leaves · id) := by
    unfold State.leaveStep
    rw [hr]
    rfl
  have hnote := s.noteBusy_changes x.plot
  have hself := (s.noteBusy x.plot).obAt_updOb r.ob r.ob (Ob.leaves · id)
  have hothers := (s.noteBusy x.plot).obAt_updOb_others r.ob (Ob.leaves · id)
  have hupd := Changes.updOb (s.noteBusy x.plot) r.ob (Ob.leaves · id)
  have hob : (s.noteBusy x.plot).obAt = s.obAt := funext (State.obAt_of_ob (s.noteBusy_ob x.plot))
  rw [hdrop, hleave]
  rw [if_pos rfl, hob] at hself
  rw [hob] at hothers
  have hleft := (hnote.mono (qs := [.plots, .ob]) (by decide)).trans (hupd.mono (by decide))
  generalize (s.noteBusy x.plot).updOb r.ob (Ob.leaves · id) = u at *
  have hhalt := Changes.of_offLooms (u.haltOn_offLooms id (u.footprint x.plot))
  generalize u.haltOn id (u.footprint x.plot) = v at *
  have hsteps : v.steps = s.steps := (hhalt .steps (by decide)).trans (hleft .steps (by decide))
  have hobv := State.obAt_of_ob (hhalt .ob (by decide))
  refine ⟨Tab.get_set_self none v.steps id none, fun k hk => ?_, (hobv r.ob).trans hself, fun k hk => (hobv k).trans (hothers k hk),
    (hhalt .led (by decide)).trans (hleft .led (by decide))⟩
  refine (Tab.get_set_ne none v.steps none (by simpa [eq_comm] using hk)).trans ?_
  rw [hsteps, State.stepAt]

/-- A step whose samples that hold nothing go, before it is taken out. -/
def State.dropFreeSamples (s : State) (id : Nat) : State :=
  { s with samples := s.samples.filter (fun y => y.step != id || y.forInt || y.forQual) }

/-! ### STEP_COMMIT -/

/-- What a step brings to its request does not depend on the step's end being noted in its record. -/
theorem Ob.samples_leaves (o : Ob) (id : Nat) (r : StepReq) : (o.leaves id).samples r = o.samples r := by
  unfold Ob.leaves
  split <;> rfl

theorem Ob.advance_leaves (o : Ob) (id : Nat) (r : StepReq) (k : Nat) : (o.leaves id).advance r k = o.advance r k := by
  unfold Ob.leaves
  split <;> rfl

theorem Ob.left_leaves (o : Ob) (id : Nat) : (o.leaves id).left = o.left := by
  unfold Ob.leaves
  split <;> rfl

theorem Ob.budget_leaves (o : Ob) (id : Nat) : (o.leaves id).budget = o.budget := by
  unfold Ob.leaves
  split <;> rfl

theorem Ob.step_leaves {o : Ob} {id : Nat} (h : o.step = some id) : (o.leaves id).step = none := by
  unfold Ob.leaves
  rw [if_pos h]

/-- The end of a step that samples: the accepted drafts and one more token (R224, R253). -/
theorem stepEnd_samples {o : Ob} {driven : Bool} {r : StepReq} {y : StreamOut} (h : o.samples r = true)
    (hfit : y.tokens.length = y.accepted + 1) (hb : o.budget - y.tokens.length ≠ 0) :
    (stepEnd o driven r (some y)).spent = false ∧ (stepEnd o driven r (some y)).length = o.advance r y.accepted ∧
      (stepEnd o driven r (some y)).budget = o.budget - (y.accepted + 1) := by
  simp [stepEnd, h, hfit] at hb ⊢
  omega

/-- The end of a step that only feeds input (R253, R258). -/
theorem stepEnd_feeds {o : Ob} {driven : Bool} {r : StepReq} (h : o.samples r = false) (out : Option StreamOut) :
    (stepEnd o driven r out).spent = false ∧ (stepEnd o driven r out).length = o.advance r 0 ∧
      (stepEnd o driven r out).budget = o.budget := by
  simp [stepEnd, h]

section Commit

variable {s : State} {id : Nat} {x : Step} (hx : s.stepAt id = some x) (outs : List StreamOut)
include hx

theorem exec_stepCommit_waits (h : s.checkDue id = true ∨ (∃ n ∈ s.footprint x.plot, n ∉ x.ended) ∨
    ∃ w ∈ s.cellar.writes, w.plot = x.plot ∧ w.parcel = 0) : exec (.stepCommit id outs) s = .next s := by
  change execStepCommit id outs s = _
  rw [execStepCommit, hx]
  dsimp only
  refine congrArg Host.Outcome.next (if_pos ?_)
  simp only [List.any_eq_true, Bool.and_eq_true, beq_iff_eq, Bool.not_eq_true', List.contains_eq_mem, decide_eq_false_iff_not]
  rcases h with hdue | hended | hwrite
  · exact .inr (.inl hdue)
  · exact .inr (.inr (.inr (.inl hended)))
  · exact .inr (.inr (.inl hwrite))

variable {r : StepReq} (hst : x.st = .running) (hr : x.reqs = [r]) (hdue : s.checkDue id = false)
  (hended : ∀ n ∈ s.footprint x.plot, n ∈ x.ended) (hwrites : ∀ w ∈ s.cellar.writes, w.plot = x.plot → w.parcel ≠ 0)
  (hfit : outFits (s.obAt r.ob) r (s.outOf outs r) = true)
include hst hr hdue hended hwrites hfit

theorem exec_stepCommit_single : ∃ driven, exec (.stepCommit id outs) s = .next
    (((((((s.dropFreeSamples id).dropStep id).commitReq driven r (s.outOf outs r)).1).postAll
      ((((s.dropFreeSamples id).dropStep id).commitReq driven r (s.outOf outs r)).2)).bump 64 0xA000 1 1).bump 64 (0xA100 + x.plot) 1 1) := by
  refine ⟨match s.model x.plot x.mslot with | some m => m.inputDriven | none => false, ?_⟩
  change execStepCommit id outs s = _
  rw [execStepCommit, hx]
  dsimp only
  rw [if_neg, hr]
  · rfl
  · simp only [List.any_eq_true, Bool.and_eq_true, beq_iff_eq, Bool.not_eq_true', List.contains_eq_mem, decide_eq_false_iff_not]
    rintro (h | h | ⟨w, hw, hp, h0⟩ | ⟨n, hn, he⟩ | ⟨q, hq, hno⟩)
    · exact h hst
    · simp [hdue] at h
    · exact hwrites w hw hp h0
    · exact he (hended n hn)
    · rw [hr, List.mem_singleton] at hq
      subst hq
      simp [hfit] at hno

/-- A step of one request commits what it brought, where that leaves some of the budget (R224, R234, R253). -/
theorem stepCommit_single (hin : (s.obAt r.ob).step = some id) (hleft : (s.obAt r.ob).left = false) {len bud : Nat}
    (hend : ∀ driven, (stepEnd ((s.obAt r.ob).leaves id) driven r (s.outOf outs r)).spent = false ∧
      (stepEnd ((s.obAt r.ob).leaves id) driven r (s.outOf outs r)).length = len ∧
      (stepEnd ((s.obAt r.ob).leaves id) driven r (s.outOf outs r)).budget = bud) :
    ∃ t, exec (.stepCommit id outs) s = .next t ∧ t.stepAt id = none ∧ (t.obAt r.ob).step = none ∧
      (t.obAt r.ob).committed = len ∧ (t.obAt r.ob).provisional = len ∧ (t.obAt r.ob).budget = bud ∧
      t.cell 0xA000 1 = satAdd 64 (s.cell 0xA000 1) 1 ∧ SameBut [r.ob] s.obAt t.obAt ∧ SameBut [id] s.stepAt t.stepAt ∧
      Changes s t Part.work := by
  obtain ⟨driven, hexec⟩ := exec_stepCommit_single hx outs hst hr hdue hended hwrites hfit
  obtain ⟨hspent, hlen, hbud⟩ := hend driven
  obtain ⟨hgone, hsteps, hself, hothers, hled⟩ := State.dropStep_single (s := s.dropFreeSamples id) hx hr
  have hdrop : Changes s ((s.dropFreeSamples id).dropStep id) Part.work :=
    Changes.of_fixed ((State.dropStep_inner (s.dropFreeSamples id) id).trans rfl)
  have hself' : ((s.dropFreeSamples id).dropStep id).obAt r.ob = (s.obAt r.ob).leaves id := hself
  generalize (s.dropFreeSamples id).dropStep id = u at *
  have hcommit : ∀ out, u.commitReq driven r out =
      u.commitWith r (stepEnd ((s.obAt r.ob).leaves id) driven r out) ((out.map StreamOut.trained).getD false) := fun out => by
    unfold State.commitReq
    dsimp only
    rw [hself', if_neg (by simp [Ob.left_leaves, hleft])]
  rw [hcommit] at hexec
  obtain ⟨hstep, hcommitted, hprovisional, hbudget, hcount, hobs, hparts⟩ :=
    u.commitWith_spec r hspent (((s.outOf outs r).map StreamOut.trained).getD false)
  generalize u.commitWith r _ _ = v at *
  have hpost := v.1.postAll_changes v.2
  generalize v.1.postAll v.2 = w at *
  have hlast : Changes w ((w.bump 64 0xA000 1 1).bump 64 (0xA100 + x.plot) 1 1) [.led] :=
    (Changes.bump w _ _ _ _).trans (Changes.bump _ _ _ _ _)
  have hcell : ((w.bump 64 0xA000 1 1).bump 64 (0xA100 + x.plot) 1 1).cell 0xA000 1 = satAdd 64 (w.cell 0xA000 1) 1 :=
    (CellsBut.bump (w.bump 64 0xA000 1 1) 64 (0xA100 + x.plot) 1 1 (by decide) 0xA000 1 (by decide) (by simp; omega)).trans
      (State.cell_bump_self w 64 0xA000 1 1)
  generalize (w.bump 64 0xA000 1 1).bump 64 (0xA100 + x.plot) 1 1 = t at *
  have hvt : Changes v.1 t [.qps, .out, .led] := (hpost.mono (by decide)).trans (hlast.mono (by decide))
  have hob : t.obAt = v.1.obAt := funext (State.obAt_of_ob (hvt .ob (by decide)))
  have hut : t.stepAt = u.stepAt := funext fun k => by
    rw [State.stepAt, hvt .steps (by decide), hparts .steps (by decide), State.stepAt]
  refine ⟨t, hexec, (congrFun hut id).trans hgone, ?_, ?_, ?_, ?_, ?_, ?_, ?_,
    ((hdrop.trans (hparts.mono (by decide))).trans (hvt.mono (by decide)))⟩
  · rw [hob, hstep, hself', Ob.step_leaves hin]
  · rw [hob, hcommitted, hlen]
  · rw [hob, hprovisional, hlen]
  · rw [hob, hbudget, hbud]
  · rw [hcell, State.cell_of_led (hpost .led (by decide)), hcount, State.cell_of_led hled]
    rfl
  · rw [hob]
    exact fun k hk => (hobs k hk).trans (hothers k hk)
  · rw [hut]
    exact hsteps

end Commit

end Sys2Proof.Machine

open Sys2Proof Sys2Proof.Machine

/-- Settles O32: `stepCommit_single` for a step that samples and for one that feeds; any of the waits leaves the step as it is. -/
theorem stepCommitsItsTokens : Obligations.StepCommitsItsTokens := by
  intro s id x outs hx hst
  refine ⟨fun h => ⟨s, exec_stepCommit_waits hx outs h, rfl⟩, fun r hr hdue hended hwrites hfit hin hleft =>
    ⟨fun y hsmp hy hb => ?_, fun hsmp => ?_⟩⟩
  · have hlen : y.tokens.length = y.accepted + 1 := by
      simp only [outFits, hsmp, hy, Bool.not_true, Bool.false_or, Bool.and_eq_true, beq_iff_eq] at hfit
      exact hfit.2
    obtain ⟨t, ht, hgone, hstep, hcommitted, hprovisional, hbudget, hrest⟩ :=
      stepCommit_single hx outs hst hr hdue hended hwrites hfit hin hleft (len := (s.obAt r.ob).advance r y.accepted)
        (bud := (s.obAt r.ob).budget - (y.accepted + 1)) fun driven => by
          have h := stepEnd_samples (driven := driven) (((s.obAt r.ob).samples_leaves id r).trans hsmp) hlen
            (by rwa [Ob.budget_leaves])
          rwa [Ob.advance_leaves, Ob.budget_leaves, ← hy] at h
    exact ⟨t, ht, hgone, hstep, hcommitted, hprovisional.trans hcommitted.symm, hbudget, hrest⟩
  · obtain ⟨t, ht, hgone, hstep, hcommitted, -, hbudget, hcount, hobs, -, hch⟩ :=
      stepCommit_single hx outs hst hr hdue hended hwrites hfit hin hleft (len := (s.obAt r.ob).advance r 0)
        (bud := (s.obAt r.ob).budget) fun driven => by
          have h := stepEnd_feeds (driven := driven) (((s.obAt r.ob).samples_leaves id r).trans hsmp) (s.outOf outs r)
          rwa [Ob.advance_leaves, Ob.budget_leaves] at h
    exact ⟨t, ht, hgone, hstep, hcommitted, hbudget, hcount, hobs, hch⟩
end

section
/-! PROOFS. TEARDOWN and PLOT_RESET stop a plot (R244, R419, R433): the first part of the statement O34. -/

namespace Sys2Proof.Machine

/-! ### Every live request of a plot is cancelled (R206, R244) -/

theorem State.maybeFree_others (s : State) (i : Nat) : SameBut [i] s.obAt (s.maybeFree i).obAt := fun n hn => by
  unfold State.maybeFree
  dsimp only
  split
  · exact Tab.get_erase_ne {} s.ob (by simpa [eq_comm] using hn)
  · rfl

/-- An entry that becomes FREE is not live, and else it is as it was (R251). -/
theorem State.maybeFree_dead {s : State} {i : Nat} (h : (s.obAt i).st.live = false) : ((s.maybeFree i).obAt i).st.live = false := by
  unfold State.maybeFree
  dsimp only
  split
  · rw [State.obAt, Tab.get_erase_self]
    rfl
  · exact h

/-- A request that does not drain can at most become FREE (R251). -/
theorem State.settle_of_not_draining {s : State} {i : Nat} (h : (s.obAt i).st ≠ .draining) : s.settle i = s.maybeFree i := by
  have hcore : s.settleCore i = (s, []) := by
    unfold State.settleCore
    exact if_neg fun hd => h hd.1
  rw [State.settle, hcore]
  rfl

/-- While requests are cancelled: none comes to life, no step ends, no plot's drain changes, and of the Ledger only the counts of
cancelled requests (A100+p:05) do. -/
structure Cancels (s t : State) : Prop where
  dead : ∀ i, (s.obAt i).st.live = false → (t.obAt i).st.live = false
  steps : KeepsSteps s t
  drains : SamePlots Plot.drain s t
  cells : ∀ i j, j < 256 → j ≠ 5 → t.cell i j = s.cell i j
  parts : Changes s t [.ob, .plots, .led, .steps, .samples, .qps, .out]

theorem Cancels.refl (s : State) : Cancels s s := ⟨fun _ h => h, .of_steps rfl, .of_plots rfl, fun _ _ _ _ => rfl, .refl s _⟩

theorem Cancels.trans {s t u : State} (h : Cancels s t) (h' : Cancels t u) : Cancels s u :=
  ⟨fun i hi => h'.dead i (h.dead i hi), h.steps.trans h'.steps, h.drains.trans h'.drains,
    fun i j hj h5 => (h'.cells i j hj h5).trans (h.cells i j hj h5), h.parts.trans h'.parts⟩

/-- A request is cancelled, and becomes FREE if it can (R251, R254). -/
def State.cancelOne (s : State) (i : Nat) : State := (s.endRequest i .cancelled .cancelled (s.obAt i).tag).settle i

theorem State.cancelOne_spec (s : State) (i : Nat) : Cancels s (s.cancelOne i) ∧ ((s.cancelOne i).obAt i).st.live = false := by
  obtain ⟨⟨hst, -⟩, -, -, hothers, hcells, hch⟩ := s.endRequest_cancelled_spec i (s.obAt i).tag
  obtain ⟨-, -, hsteps, hdrains, hcore⟩ := s.endCore_cancelled_spec i .cancelled
  have hpost : Changes (s.endCore i .cancelled .cancelled) (s.endRequest i .cancelled .cancelled (s.obAt i).tag) [.qps, .out] :=
    State.post_changes _ _ _
  have hsteps' := hsteps.trans (.of_steps (hpost .steps (by decide)))
  have hdrains' := hdrains.trans (.of_plots (hpost .plots (by decide)))
  unfold State.cancelOne
  generalize s.endRequest i .cancelled .cancelled (s.obAt i).tag = u at *
  have hdead : (u.obAt i).st.live = false := by
    rw [hst]
    rfl
  rw [State.settle_of_not_draining (by rw [hst]; decide)]
  have hfree := u.maybeFree_changes i
  refine ⟨⟨fun k hk => ?_, hsteps'.trans (.of_steps (hfree .steps (by decide))), hdrains'.trans (.of_plots (hfree .plots (by decide))),
    fun k j hj h5 => ?_, (hch.mono (by decide)).trans (hfree.mono (by decide))⟩, State.maybeFree_dead hdead⟩
  · by_cases h : k = i
    · subst h
      exact State.maybeFree_dead hdead
    · rw [u.maybeFree_others i k (by simpa using h), hothers k (by simpa using h)]
      exact hk
  · rw [State.cell_of_led (hfree .led (by decide))]
    exact hcells k j hj (by simp [h5])

theorem State.cancelEach_spec (is : List Nat) (s : State) :
    Cancels s (is.foldl State.cancelOne s) ∧ ∀ i ∈ is, ((is.foldl State.cancelOne s).obAt i).st.live = false := by
  induction is generalizing s with
  | nil => exact ⟨.refl s, fun _ h => nomatch h⟩
  | cons i is ih =>
    obtain ⟨hone, hdead⟩ := s.cancelOne_spec i
    obtain ⟨hrest, hall⟩ := ih (s.cancelOne i)
    rw [List.foldl_cons]
    refine ⟨hone.trans hrest, fun k hk => ?_⟩
    rcases List.mem_cons.1 hk with rfl | hk
    · exact hrest.dead k hdead
    · exact hall k hk

/-- No request of the plot is live once every live one is cancelled (R244). -/
theorem State.cancelAll_spec (s : State) (p : Nat) :
    Cancels s (s.cancelAll p) ∧ ∀ i ∈ s.obOf p, ((s.cancelAll p).obAt i).st.live = false := by
  obtain ⟨hcancels, hall⟩ := s.cancelEach_spec ((s.obOf p).filter (fun i => (s.obAt i).st.live))
  have heach : s.cancelAll p = ((s.obOf p).filter (fun i => (s.obAt i).st.live)).foldl State.cancelOne s := rfl
  rw [← heach] at hcancels hall
  refine ⟨hcancels, fun i hi => ?_⟩
  cases hlive : (s.obAt i).st.live with
  | false => exact hcancels.dead i hlive
  | true => exact hall i (List.mem_filter.2 ⟨hi, hlive⟩)

/-! ### TEARDOWN and PLOT_RESET -/

theorem State.windingDown_heard (s : State) (f : Sender) (p : Nat) : (s.heard f).windingDown p = s.windingDown p := by
  unfold State.heard
  split <;> rfl

theorem State.plot_heard (s : State) (f : Sender) (p : Nat) : (s.heard f).plot p = s.plot p :=
  State.plot_of_plots (s.heard_changes f .plots (by decide)) p

/-- TEARDOWN's stop: the plot drains for it, and reads DRAINING (R244). -/
def State.stopForTeardown (s : State) (p : Nat) : State :=
  (((s.trigger p).updPlot p (fun x => { x with drain := some .teardown, abandon := x.loading.isSome })).setCell (0x3000 + p) 1 3).cancelAll p

/-- PLOT_RESET's stop: the plot drains for it, and its state is kept in mind (R433). -/
def State.stopForReset (s : State) (p : Nat) : State :=
  ((s.trigger p).updPlot p (fun x => { x with drain := some .reset, wasCreated := s.plotState p == 1 })).cancelAll p

/-- A plot that has been told to drain, and whose requests are cancelled then. -/
theorem State.cancelAll_stops {s u : State} {p : Nat} {why : Drain} (hdrain : (u.plot p).drain = some why)
    (hu : Changes s u [.plots, .power, .led]) : ((u.cancelAll p).plot p).drain = some why ∧
      (u.cancelAll p).plotState p = u.plotState p ∧ (∀ i ∈ s.obOf p, ((u.cancelAll p).obAt i).st.live = false) ∧
      KeepsSteps s (u.cancelAll p) ∧ (u.cancelAll p).cellar = s.cellar ∧ Changes s (u.cancelAll p) (.power :: Part.work) := by
  obtain ⟨hcancels, hall⟩ := u.cancelAll_spec p
  have hof : u.obOf p = s.obOf p := by rw [State.obOf, hu .ob (by decide), State.obOf]
  rw [hof] at hall
  exact ⟨(hcancels.drains p).trans hdrain, hcancels.cells _ _ (by decide) (by decide), hall,
    (KeepsSteps.of_steps (hu .steps (by decide))).trans hcancels.steps,
    (hcancels.parts .cellar (by decide)).trans (hu .cellar (by decide)),
    (hu.mono (by decide)).trans (hcancels.parts.mono (by decide))⟩

/-- TEARDOWN's stop reads DRAINING, and PLOT_RESET's reads as before. -/
theorem State.stopForTeardown_spec (s : State) (p : Nat) : (s.stopForTeardown p).plotState p = 3 ∧
    ((s.stopForTeardown p).plot p).drain = some .teardown ∧ (∀ i ∈ s.obOf p, ((s.stopForTeardown p).obAt i).st.live = false) ∧
    KeepsSteps s (s.stopForTeardown p) ∧ (s.stopForTeardown p).cellar = s.cellar ∧
    Changes s (s.stopForTeardown p) (.power :: Part.work) := by
  have htrig := s.trigger_changes p
  unfold State.stopForTeardown
  generalize s.trigger p = v at htrig
  have hplot := v.plot_updPlot p p (fun x => { x with drain := some .teardown, abandon := x.loading.isSome })
  have hupd := Changes.updPlot v p (fun x => { x with drain := some .teardown, abandon := x.loading.isSome })
  rw [if_pos rfl] at hplot
  generalize v.updPlot p (fun x => { x with drain := some .teardown, abandon := x.loading.isSome }) = w at hplot hupd
  have hset := Changes.setCell w (0x3000 + p) 1 3
  obtain ⟨hdrain, hst, hrest⟩ := State.cancelAll_stops (s := s) (why := .teardown)
    ((congrArg Plot.drain (State.plot_of_plots (hset .plots (by decide)) p)).trans (congrArg Plot.drain hplot))
    ((htrig.mono (by decide)).trans ((hupd.mono (by decide)).trans (hset.mono (by decide))))
  exact ⟨hst.trans (State.cell_setCell_self w _ _ _), hdrain, hrest⟩

theorem State.stopForReset_spec (s : State) (p : Nat) : (s.stopForReset p).plotState p = s.plotState p ∧
    ((s.stopForReset p).plot p).drain = some .reset ∧ (∀ i ∈ s.obOf p, ((s.stopForReset p).obAt i).st.live = false) ∧
    KeepsSteps s (s.stopForReset p) ∧ (s.stopForReset p).cellar = s.cellar ∧
    Changes s (s.stopForReset p) (.power :: Part.work) := by
  have htrig := s.trigger_changes p
  unfold State.stopForReset
  generalize s.trigger p = v at htrig
  have hplot := v.plot_updPlot p p (fun x => { x with drain := some .reset, wasCreated := s.plotState p == 1 })
  have hupd := Changes.updPlot v p (fun x => { x with drain := some .reset, wasCreated := s.plotState p == 1 })
  rw [if_pos rfl] at hplot
  generalize v.updPlot p (fun x => { x with drain := some .reset, wasCreated := s.plotState p == 1 }) = w at hplot hupd
  have hsw : Changes s w [.plots, .power] := htrig.trans (hupd.mono (by decide))
  obtain ⟨hdrain, hst, hrest⟩ := State.cancelAll_stops (s := s) (why := .reset) (congrArg Plot.drain hplot) (hsw.mono (by decide))
  exact ⟨hst.trans (State.cell_of_led (hsw .led (by decide)) _ _), hdrain, hrest⟩

section Requests

variable {s : State} {f : Sender} {p : PlotId}

/-- What a stop that is answered leaves of the state in which its request came. -/
theorem stop_answered {act : State → State} {why : Drain} {n : Nat} {body : List Byte} (hact : (act (s.heard f)).plotState p.val = n ∧
      ((act (s.heard f)).plot p.val).drain = some why ∧ (∀ i ∈ (s.heard f).obOf p.val, ((act (s.heard f)).obAt i).st.live = false) ∧
      KeepsSteps (s.heard f) (act (s.heard f)) ∧ (act (s.heard f)).cellar = (s.heard f).cellar ∧
      Changes (s.heard f) (act (s.heard f)) (.power :: Part.work)) {t : State}
    (ht : t = (act (s.heard f)).answer f (writeReq (0x3000 + p.val) 0x11 body) { status := .done }) :
    Answers t f .done ∧ t.plotState p.val = n ∧ (t.plot p.val).drain = some why ∧
      (∀ i ∈ s.obOf p.val, (t.obAt i).st.live = false) ∧
      (∀ id x, s.stepAt id = some x → ∃ b, t.stepAt id = some { x with sampled := b }) ∧ t.cellar = s.cellar ∧
      Changes s t (.power :: .mailbox :: Part.work) := by
  obtain ⟨hst, hdrain, hdead, hsteps, hcellar, hch⟩ := hact
  have hheard := s.heard_changes f
  have hof : (s.heard f).obOf p.val = s.obOf p.val := by rw [State.obOf, hheard .ob (by decide), State.obOf]
  have hall := (writeArrives_changes (idx := 0x3000 + p.val) (sub := 0x11) (body := body) (r := { status := .done }) hch).mono
    (qs := .power :: .mailbox :: Part.work) (by decide)
  have hans := (act (s.heard f)).answer_answers f (writeReq (0x3000 + p.val) 0x11 body) { status := .done }
  have hreply := (act (s.heard f)).answer_changes f (writeReq (0x3000 + p.val) 0x11 body) { status := .done }
  rw [← ht] at hall hans hreply
  rw [hof] at hdead
  have hkeeps : KeepsSteps s t := (KeepsSteps.of_steps (hheard .steps (by decide))).trans
    (hsteps.trans (.of_steps (hreply .steps (by decide))))
  refine ⟨hans, (State.cell_of_led (hreply .led (by decide)) _ _).trans hst,
    (congrArg Plot.drain (State.plot_of_plots (hreply .plots (by decide)) _)).trans hdrain, fun i hi => ?_, hkeeps,
    (hreply .cellar (by decide)).trans (hcellar.trans (hheard .cellar (by decide))), hall⟩
  rw [State.obAt_of_ob (hreply .ob (by decide))]
  exact hdead i hi

theorem exec_teardown_stops (h : WriteArrives s f (0x3000 + p.val) 0x11 [1]) (hw : s.windingDown p.val = false) :
    exec (.teardown f p) s =
      .next (((s.heard f).stopForTeardown p.val).answer f (writeReq (0x3000 + p.val) 0x11 [1]) { status := .done }) :=
  congrArg Host.Outcome.next (State.serveWrite_arrives h (fun s => if s.windingDown p.val then some .busy else none)
    (fun s => s.stopForTeardown p.val) (if_neg (by rw [State.windingDown_heard, hw]; decide)))

theorem exec_plotReset_stops (h : WriteArrives s f (0x3000 + p.val) 0x11 [2]) (hw : s.windingDown p.val = false)
    (hl : (s.plot p.val).loading = none) : exec (.plotReset f p) s =
      .next (((s.heard f).stopForReset p.val).answer f (writeReq (0x3000 + p.val) 0x11 [2]) { status := .done }) :=
  congrArg Host.Outcome.next (State.serveWrite_arrives h
    (fun s => if s.windingDown p.val ∨ (s.plot p.val).loading.isSome then some .busy else none)
    (fun s => s.stopForReset p.val) (if_neg (by rw [State.windingDown_heard, State.plot_heard, hw, hl]; decide)))

/-- A plot that is winding down takes no teardown (R244). -/
theorem teardown_busy (h : WriteArrives s f (0x3000 + p.val) 0x11 [1]) (hw : s.windingDown p.val = true) :
    ∃ t, exec (.teardown f p) s = .next t ∧ Answers t f .busy ∧ Changes s t Part.reply :=
  ⟨_, congrArg Host.Outcome.next (State.serveWrite_refused h _ _ .busy (if_pos (by rw [State.windingDown_heard, hw]))),
    State.answer_answers _ _ _ _, writeArrives_changes (act := id) (ps := []) (Changes.refl _ _)⟩

/-- A plot that is winding down, or loads, takes no reset (R433). -/
theorem plotReset_busy (h : WriteArrives s f (0x3000 + p.val) 0x11 [2])
    (hw : s.windingDown p.val = true ∨ (s.plot p.val).loading ≠ none) :
    ∃ t, exec (.plotReset f p) s = .next t ∧ Answers t f .busy ∧ Changes s t Part.reply := by
  refine ⟨_, congrArg Host.Outcome.next (State.serveWrite_refused h _ _ .busy (if_pos ?_)),
    State.answer_answers _ _ _ _, writeArrives_changes (act := id) (ps := []) (Changes.refl _ _)⟩
  rw [State.windingDown_heard, State.plot_heard]
  exact hw.imp_right Option.isSome_iff_ne_none.2

end Requests

end Sys2Proof.Machine
end

section
/-! PROOFS. TEARDOWN_DRAIN_END releases what a plot holds (R244, R419, R421): the second part of the statement O34. -/

namespace Sys2Proof.Machine

/-! ### Tables -/

/-- What a table reads is an entry of it, or the default. -/
theorem Tab.get_mem_or_default {α : Type} (d : α) (t : Tab α) (k : Nat) : (k, Tab.get d t k) ∈ t ∨ Tab.get d t k = d := by
  induction t with
  | nil => exact .inr rfl
  | cons e t ih =>
    obtain ⟨j, v⟩ := e
    rw [Tab.get]
    split
    next h => exact .inl (h ▸ List.mem_cons_self)
    next => exact ih.imp_left (List.mem_cons_of_mem _)

/-- An entry that is not kept reads as the default. -/
theorem Tab.get_keep_dropped {α : Type} (d : α) (p : Nat → Bool) (t : Tab α) {k : Nat} (h : p k = false) :
    Tab.get d (Tab.keep p t) k = d := by
  rw [Tab.keep_eq_filter]
  refine Tab.get_of_not_mem d _ k fun e he hk => ?_
  have hkept := (List.mem_filter.1 he).2
  rw [hk, h] at hkept
  exact Bool.false_ne_true hkept

/-! ### The queue pairs are unbound (R244) -/

/-- A queue pair that no plot holds: DISABLED, its waiting entries discarded. -/
def Qp.unbound (q : Qp) : Qp :=
  { q with st := .disabled, c2 := BitVec.ofNat 64 (setBit (setBit q.c2.toNat 16 false) 20 false), sqTail := 0, sqHead := 0,
           rqTail := 0, rqHead := 0, phase := true, ring := [], waiting := [], rewrite := none }

/-- A queue pair that is DISABLED, and in which nothing waits. -/
def Qp.Idle (q : Qp) : Prop := q.st = .disabled ∧ q.waiting = []

theorem State.unbind_changes (s : State) (p : Nat) : Changes s (s.unbind p) [.qps] :=
  Changes.foldl (f := fun s n => s.updQp n Qp.unbound) (fun u n => Changes.updQp u n Qp.unbound) _ s

theorem State.idle_of_unbound (ns : List Nat) (s : State) {n : Nat} (h : (s.qp n).Idle ∨ n ∈ ns) :
    ((ns.foldl (fun s n => s.updQp n Qp.unbound) s).qp n).Idle := by
  induction ns generalizing s with
  | nil => exact h.resolve_right List.not_mem_nil
  | cons k ks ih =>
    rw [List.foldl_cons]
    refine ih (s.updQp k Qp.unbound) ?_
    rw [State.qp_updQp]
    by_cases hk : k = n
    · rw [if_pos hk]
      exact .inl ⟨rfl, rfl⟩
    · rw [if_neg hk]
      exact h.imp_right fun hn => (List.mem_cons.1 hn).resolve_left (Ne.symm hk)

/-- Every queue pair of a plot is idle once they are unbound; one that is not listed was so before (R244). -/
theorem State.unbind_idle {s : State} {p n : Nat} (h : s.plotOfQp n = some p) : ((s.unbind p).qp n).Idle := by
  refine State.idle_of_unbound _ s ?_
  by_cases hn : n ∈ s.qps.map Prod.fst
  · exact .inr (List.mem_filter.2 ⟨hn, by simp [h]⟩)
  · refine .inl ?_
    have hdef : s.qp n = {} := Tab.get_of_not_mem {} s.qps n fun e he hk => hn (hk ▸ List.mem_map_of_mem he)
    rw [hdef]
    exact ⟨rfl, rfl⟩

/-- Which plot holds a queue pair is said by entries with a subindex (R237). -/
theorem State.plotOfQp_of_cells {s t : State} (h : ∀ i j, j < 256 → j ≠ 0 → t.cell i j = s.cell i j) (n : Nat) :
    t.plotOfQp n = s.plotOfQp n := by
  simp only [State.plotOfQp, State.plotsNow, State.plotExists, State.plotState, h _ 1 (by decide) (by decide),
    h _ 6 (by decide) (by decide), h _ 7 (by decide) (by decide)]

/-! ### The extents lose their owner (R421) -/

theorem State.releaseExtents_owner (s : State) (p : Nat) {e : Nat} (he : e ∈ s.plotExtents p) :
    Tab.get 0 (s.releaseExtents p).cellar.owner e = 0 := by
  have hmark : Tab.get 0 (s.markErased p).cellar.owner e = 0 :=
    Tab.get_keep_dropped 0 _ s.cellar.owner (by simp [List.mem_append_left _ he])
  rw [State.releaseExtents_eq]
  split
  · exact hmark
  · have hcellar : ((s.markErased p).raise 0x8040 p [p, (s.plotExtents p ++ s.engineExtents p).length]).cellar =
        (s.markErased p).cellar := Changes.raise _ _ _ _ .cellar (by decide)
    rw [hcellar]
    exact hmark

/-! ### What is released before the plot's entries are cleared -/

/-- The looms hold nothing, and the image and its routes are gone (R419). -/
def State.emptied (s : State) (p : Nat) : State := ((s.clearLooms p).unloadImage p).releaseRoutes p

theorem State.emptied_spec (s : State) (p : Nat) :
    (∀ n ∈ (s.plot p).looms, (s.emptied p).loom n = { (s.loom n).cleared with program := [] }) ∧
      SameBut [p] s.plot (s.emptied p).plot ∧ CellsBut [(0x9300 + p, 0)] s (s.emptied p) ∧
      Changes s (s.emptied p) [.epochs, .samples, .plots, .led, .ob, .looms, .fabric] := by
  obtain ⟨hclear, hcleared⟩ := s.clearLooms_spec p
  unfold State.emptied
  generalize s.clearLooms p = u at *
  obtain ⟨hprog, hplot, hcells, hun⟩ := u.unloadImage_spec p
  generalize u.unloadImage p = v at *
  have hroutes := (v.releaseRoutes_inFabric p).changes
  generalize v.releaseRoutes p = w at *
  have hu : u.plot = s.plot := funext (State.plot_of_plots (hclear .plots (by decide)))
  refine ⟨fun n hn => ?_, fun q hq => ?_, ((CellsBut.of_led (hclear .led (by decide))).trans hcells).trans
    (.of_led (hroutes .led (by decide))), ((hclear.mono (by decide)).trans (hun.mono (by decide))).trans (hroutes.mono (by decide))⟩
  · rw [State.loom, hroutes .looms (by decide), ← State.loom, hprog, hu, if_pos hn, hcleared n hn]
  · rw [State.plot_of_plots (hroutes .plots (by decide)), hplot, if_neg (by simpa [eq_comm] using hq), hu]

/-- What a plot that is torn down held is released: looms, image, routes, queue pairs, extents, Order Book entries (R244). -/
def State.released (s : State) (p : Nat) : State :=
  { ((s.emptied p).unbind p).releaseExtents p with ob := (s.emptied p).ob.filter (fun e => e.2.plot != p) }

theorem State.released_spec (s : State) (p : Nat) :
    (∀ n ∈ (s.plot p).looms, (s.released p).loom n = { (s.loom n).cleared with program := [] }) ∧
      (∀ n, s.plotOfQp n = some p → ((s.released p).qp n).Idle) ∧
      (∀ e ∈ s.plotExtents p, Tab.get 0 (s.released p).cellar.erase e = 1 + p ∧ Tab.get 0 (s.released p).cellar.owner e = 0) ∧
      (∀ i, ((s.released p).obAt i).plot = p → ((s.released p).obAt i).st = .free) ∧
      (s.released p).cellar.mem = s.cellar.mem ∧ SameBut [p] s.plot (s.released p).plot ∧
      Changes s (s.released p) (.epochs :: Part.work) := by
  obtain ⟨hlooms, hplots, hcells, hempty⟩ := s.emptied_spec p
  have hqp : ∀ n, (s.emptied p).plotOfQp n = s.plotOfQp n := State.plotOfQp_of_cells fun i j hj h0 => hcells i j hj (by simp [h0])
  unfold State.released
  generalize s.emptied p = u at *
  have hidle : ∀ n, s.plotOfQp n = some p → ((u.unbind p).qp n).Idle := fun n hn => State.unbind_idle ((hqp n).trans hn)
  have hunbind := u.unbind_changes p
  generalize u.unbind p = v at *
  have hcellar : v.cellar = s.cellar := (hunbind .cellar (by decide)).trans (hempty .cellar (by decide))
  have hext : v.plotExtents p = s.plotExtents p := by rw [State.plotExtents, hcellar, State.plotExtents]
  obtain ⟨herase, hmem, hrel⟩ := v.releaseExtents_spec p
  have howner := fun e => v.releaseExtents_owner p (e := e)
  rw [hext] at herase howner
  generalize v.releaseExtents p = w at *
  have hob : Changes w { w with ob := u.ob.filter (fun e => e.2.plot != p) } [.ob] := by
    intro q hq
    cases q
    case ob => exact absurd (by decide) hq
    all_goals rfl
  have hchUW : Changes u w (.cellar :: .qps :: Part.report) := (hunbind.mono (by decide)).trans (hrel.mono (by decide))
  refine ⟨fun n hn => ?_, fun n hn => ?_, fun e he => ⟨herase e he, howner e he⟩, fun i hi => ?_, hmem.trans (by rw [hcellar]), ?_,
    ((hempty.mono (by decide)).trans (hchUW.mono (by decide))).trans (hob.mono (by decide))⟩
  · rw [State.loom, hob .looms (by decide), hchUW .looms (by decide), ← State.loom, hlooms n hn]
  · have hw : ({ w with ob := u.ob.filter (fun e => e.2.plot != p) } : State).qp n = v.qp n :=
      State.qp_of_qps ((hob .qps (by decide)).trans (hrel .qps (by decide))) n
    rw [hw]
    exact hidle n hn
  · rcases Tab.get_mem_or_default {} (u.ob.filter (fun e => e.2.plot != p)) i with hin | hdef
    · have hne : (Tab.get {} (u.ob.filter (fun e => e.2.plot != p)) i).plot ≠ p := by simpa using (List.mem_filter.1 hin).2
      exact absurd hi hne
    · exact congrArg Ob.st hdef
  · refine hplots.trans fun q _ => ?_
    rw [State.plot_of_plots (hob .plots (by decide)), State.plot_of_plots (hchUW .plots (by decide))]

/-! ### The plot's entries, and its Ferry ports -/

/-- A torn-down plot's entries return to none; it reads ERASING (R244). -/
def State.cleared (s : State) (p : Nat) : State :=
  ((([2, 3, 4, 5, 6, 7, 8].foldl (fun s k => s.setCell (0x3000 + p) k 0) s).setCell (0x3000 + p) 9 0xFF).setCell (0x3000 + p) 0xA
    0xFF).setCell (0x3000 + p) 1 4

theorem State.cleared_spec (s : State) (p : Nat) : (s.cleared p).plotState p = 4 ∧ Changes s (s.cleared p) [.led] :=
  ⟨State.cell_setCell_self _ _ _ _, (((Changes.foldl (fun u k => Changes.setCell u (0x3000 + p) k 0) _ s).trans
    (Changes.setCell _ _ _ _)).trans (Changes.setCell _ _ _ _)).trans (Changes.setCell _ _ _ _)⟩

/-- A Ferry port that a plot owns is nobody's (R324). -/
def State.freePort (s : State) (p k : Nat) : State := if s.cell 0x5430 (k + 1) = p then s.setCell 0x5430 (k + 1) 0xFF else s

/-- No Ferry port is the plot's own (R244). -/
def State.freePorts (s : State) (p : Nat) : State := (List.range 36).foldl (fun s k => s.freePort p k) s

theorem State.freePort_changes (s : State) (p k : Nat) : Changes s (s.freePort p k) [.led] := by
  unfold State.freePort
  split
  · exact Changes.setCell s _ _ _
  · exact .refl s _

/-- A port that is freed is not the plot's, and no other becomes so; other indexes stand. -/
theorem State.freePort_spec (s : State) {p k : Nat} (hp : p < 16) (hk : k < 36) :
    (s.freePort p k).cell 0x5430 (k + 1) ≠ p ∧
      (∀ j, j < 36 → s.cell 0x5430 (j + 1) ≠ p → (s.freePort p k).cell 0x5430 (j + 1) ≠ p) ∧
      ∀ i j, i ≠ 0x5430 → j < 256 → (s.freePort p k).cell i j = s.cell i j := by
  unfold State.freePort
  split
  next =>
    refine ⟨by rw [State.cell_setCell_self]; omega, fun j hj h => ?_, fun i j hi hj => ?_⟩
    · rw [State.cell_setCell _ _ _ _ _ _ (by omega) (by omega)]
      split
      · omega
      · exact h
    · rw [State.cell_setCell _ _ _ _ _ _ (by omega) hj, if_neg fun h => hi h.1.symm]
  next h => exact ⟨h, fun _ _ h => h, fun _ _ _ _ => rfl⟩

theorem State.freePorts_spec (s : State) {p : Nat} (hp : p < 16) :
    (∀ k, k < 36 → (s.freePorts p).cell 0x5430 (k + 1) ≠ p) ∧ (s.freePorts p).plotState p = s.plotState p ∧
      Changes s (s.freePorts p) [.led] := by
  suffices h : ∀ (ks : List Nat), (∀ k ∈ ks, k < 36) → ∀ u : State,
      (∀ k, k < 36 → k ∈ ks ∨ u.cell 0x5430 (k + 1) ≠ p → (ks.foldl (fun s k => s.freePort p k) u).cell 0x5430 (k + 1) ≠ p) ∧
        (ks.foldl (fun s k => s.freePort p k) u).plotState p = u.plotState p from
    have h36 := h (List.range 36) (fun _ => List.mem_range.1) s
    ⟨fun k hk => h36.1 k hk (.inl (List.mem_range.2 hk)), h36.2, Changes.foldl (fun u k => u.freePort_changes p k) _ s⟩
  intro ks
  induction ks with
  | nil => exact fun _ u => ⟨fun _ _ h => h.resolve_left List.not_mem_nil, rfl⟩
  | cons j js ih =>
    intro hlt u
    obtain ⟨hfreed, hkept, hcells⟩ := u.freePort_spec hp (hlt j List.mem_cons_self)
    obtain ⟨hall, hstate⟩ := ih (fun k hk => hlt k (List.mem_cons_of_mem j hk)) (u.freePort p j)
    rw [List.foldl_cons]
    refine ⟨fun k hk h => hall k hk ?_, hstate.trans (hcells _ _ (by omega) (by decide))⟩
    rcases h with h | h
    · rcases List.mem_cons.1 h with rfl | h
      · exact .inr hfreed
      · exact .inl h
    · exact .inr (hkept k hk h)

theorem State.failoverEnd_changes (s : State) (x : Port) : Changes s (s.failoverEnd x) (.moved :: Part.report) := by
  have hmoved : Changes s { s with moved := Tab.set 0 s.moved x.n 0 } [.moved] := by
    intro q hq
    cases q
    case moved => exact absurd (by decide) hq
    all_goals rfl
  unfold State.failoverEnd
  split
  · exact .refl s _
  · dsimp only
    split
    · exact hmoved.mono (by decide)
    · exact (hmoved.mono (by decide)).trans ((Changes.raise _ _ _ _).mono (by decide))

theorem State.failoverEnds_changes (s : State) : Changes s s.failoverEnds (.moved :: Part.report) :=
  (s.failoverEnd_changes .a).trans (State.failoverEnd_changes _ .b)

/-! ### TEARDOWN_DRAIN_END -/

theorem teardownDrainEnd_waits {s : State} {p : PlotId} (hd : s.plotDrained p.val = false) : exec (.teardownDrainEnd p) s = .next s :=
  congrArg Host.Outcome.next (if_pos (.inr (.inr (.inl hd))))

section Release

variable {s : State} {p : PlotId} (hdrain : (s.plot p.val).drain = some .teardown) (hst : s.plotState p.val = 3)
  (hload : (s.plot p.val).loading = none)
include hdrain hst hload

theorem exec_teardownDrainEnd (hd : s.plotDrained p.val = true) : exec (.teardownDrainEnd p) s =
    .next ((((s.released p.val).cleared p.val).freePorts p.val).putPlot p.val
      { drain := some .teardown, discarded := s.waitingOf p.val }).failoverEnds := by
  change execTeardownDrainEnd p s = _
  unfold execTeardownDrainEnd
  refine congrArg Host.Outcome.next ((if_neg ?_).trans rfl)
  rw [hdrain, hst, hload, hd]
  decide

theorem teardownDrainEnd_releases (hd : s.plotDrained p.val = true) :
    ∃ t, exec (.teardownDrainEnd p) s = .next t ∧ t.plotState p.val = 4 ∧
      (∀ n ∈ (s.plot p.val).looms, (t.loom n).bench = [] ∧ (t.loom n).void = [] ∧ (t.loom n).program = [] ∧ (t.loom n).step = none) ∧
      (∀ n, s.plotOfQp n = some p.val → (t.qp n).st = .disabled ∧ (t.qp n).waiting = []) ∧
      (∀ e ∈ s.plotExtents p.val, Tab.get 0 t.cellar.erase e = 1 + p.val ∧ Tab.get 0 t.cellar.owner e = 0) ∧
      (∀ i, (t.obAt i).plot = p.val → (t.obAt i).st = .free) ∧ (∀ k, k < 36 → t.cell 0x5430 (k + 1) ≠ p.val) ∧
      t.cellar.mem = s.cellar.mem ∧ SameBut [p.val] s.plot t.plot ∧ Changes s t (.epochs :: .moved :: Part.work) := by
  refine ⟨_, exec_teardownDrainEnd hdrain hst hload hd, ?_⟩
  obtain ⟨hlooms, hqps, hextents, hobs, hmem, hplots, hrel⟩ := s.released_spec p.val
  generalize s.released p.val = u at *
  obtain ⟨hst4, hclear⟩ := u.cleared_spec p.val
  generalize u.cleared p.val = v at *
  obtain ⟨hports, hstate, hfree⟩ := v.freePorts_spec p.isLt
  generalize v.freePorts p.val = w at *
  obtain ⟨-, hothers⟩ := w.putPlot_plot p.val { drain := some .teardown, discarded := s.waitingOf p.val }
  have hput := w.putPlot_changes p.val { drain := some .teardown, discarded := s.waitingOf p.val }
  generalize w.putPlot p.val { drain := some .teardown, discarded := s.waitingOf p.val } = x at *
  have hends := x.failoverEnds_changes
  generalize x.failoverEnds = t at *
  have hxt : Changes w t (.plots :: .moved :: Part.report) := (hput.mono (by decide)).trans (hends.mono (by decide))
  have huw : Changes u w [.led] := hclear.trans hfree
  have hut : Changes u t (.led :: .plots :: .moved :: Part.report) := (huw.mono (by decide)).trans (hxt.mono (by decide))
  have hcell : ∀ i j, t.cell i j = w.cell i j := State.cell_of_led (hxt .led (by decide))
  have hcellar : t.cellar = u.cellar := hut .cellar (by decide)
  refine ⟨(hcell _ _).trans (hstate.trans hst4), fun n hn => ?_, fun n hn => ?_, fun e he => ?_, fun i hi => ?_,
    fun k hk => ?_, by rw [hcellar, hmem], fun q hq => ?_, (hrel.mono (by decide)).trans (hut.mono (by decide))⟩
  · rw [State.loom, hut .looms (by decide), ← State.loom, hlooms n hn]
    exact ⟨rfl, rfl, rfl, rfl⟩
  · rw [State.qp_of_qps (hut .qps (by decide))]
    exact hqps n hn
  · rw [hcellar]
    exact hextents e he
  · rw [State.obAt_of_ob (hut .ob (by decide))] at hi ⊢
    exact hobs i hi
  · rw [hcell]
    exact hports k hk
  · rw [State.plot_of_plots (hends .plots (by decide)), hothers q hq, State.plot_of_plots (huw .plots (by decide)), hplots q hq]

end Release

end Sys2Proof.Machine
end

section
/-! PROOFS. PLOT_RESET_CLEAR and ERASE_END (R152, R366, R421, R433): the rest of the statement O34. -/

namespace Sys2Proof.Machine

/-! ### PLOT_RESET_CLEAR -/

/-- A plot whose reset is over: its frames are all free (R433). -/
def Plot.reset (x : Plot) : Plot :=
  { x with drain := none, pools := x.pools.map (fun e => (e.1, { e.2 with used := [], remote := [] })) }

/-- What a reset takes from a plot's looms, requests and pools; its poisoned Pantry units are written with zeros (R152, R433). -/
def State.resetWork (s : State) (p : Nat) : State :=
  let s1 := s.clearLooms p
  let s2 := (s1.obOf p).foldl (fun s i =>
    (s.updOb i (fun o => { o with main := [], draftList := [], mainBlocks := [], draftBlocks := [], pageHead := 0xFFFFFFFF })).maybeFree i) s1
  let s3 := s2.updPlot p Plot.reset
  (s3.poisonedUnits p 1).foldl (fun s u =>
    s.settledWrite (extentAddr (u.1 * 176 + rowUnit (u.1 % 12) u.2 / 4096) (rowUnit (u.1 % 12) u.2 % 4096 * 4096)) p
      (List.replicate 4096 0)) s3

theorem State.resetWork_spec (s : State) (p : Nat) :
    (∀ n ∈ (s.plot p).looms, (s.resetWork p).loom n = (s.loom n).cleared) ∧ (s.resetWork p).plot p = (s.plot p).reset ∧
      Changes s (s.resetWork p) [.epochs, .looms, .ob, .plots, .cellar, .led, .meas] := by
  obtain ⟨hclear, hcleared⟩ := s.clearLooms_spec p
  unfold State.resetWork
  extract_lets s1 s2 s3
  have h12 : Changes s1 s2 [.ob] := Changes.foldl (fun u i => (Changes.updOb u i _).trans (State.maybeFree_changes _ i)) _ s1
  have h23 : Changes s2 s3 [.plots] := Changes.updPlot s2 p _
  have h3 := Changes.foldl (f := fun s (u : Nat × Nat) => s.settledWrite
      (extentAddr (u.1 * 176 + rowUnit (u.1 % 12) u.2 / 4096) (rowUnit (u.1 % 12) u.2 % 4096 * 4096)) p (List.replicate 4096 0))
    (fun u _ => u.settledWrite_changes _ _ _) (s3.poisonedUnits p 1) s3
  have hplot : s3.plot p = (s2.plot p).reset := by
    rw [State.plot_updPlot, if_pos rfl]
  refine ⟨fun n hn => ?_, ?_, (((hclear.mono (by decide)).trans (h12.mono (by decide))).trans (h23.mono (by decide))).trans
    (h3.mono (by decide))⟩
  · rw [State.loom, h3 .looms (by decide), h23 .looms (by decide), h12 .looms (by decide), ← State.loom, hcleared n hn]
  · rw [State.plot_of_plots (h3 .plots (by decide)), hplot, State.plot_of_plots (h12 .plots (by decide)),
      State.plot_of_plots (hclear .plots (by decide))]

/-- The counters of a plot's interlocks and of its looms start anew (R433). -/
def State.dropCounters (s : State) (p : Nat) (ls : List Nat) : State :=
  ls.foldl (fun s n => s.updLoom n (fun l => { l with ctr := [] })) { s with led := Tab.keep (fun k => k / 256 != 0x3300 + p) s.led }

theorem State.dropCounters_spec (s : State) (p : Nat) (ls : List Nat) :
    (∀ n ∈ ls, (s.dropCounters p ls).loom n = { s.loom n with ctr := [] }) ∧ Changes s (s.dropCounters p ls) [.led, .looms] := by
  have hled : Changes s { s with led := Tab.keep (fun k => k / 256 != 0x3300 + p) s.led } [.led] := by
    intro q hq
    cases q
    case led => exact absurd (by decide) hq
    all_goals rfl
  refine ⟨fun n hn => ?_, (hled.mono (by decide)).trans
    ((Changes.foldl (f := fun s n => s.updLoom n (fun l => { l with ctr := [] })) (fun u n => Changes.updLoom u n _) ls _).mono
      (by decide))⟩
  exact (State.loom_foldl_updLoom (f := fun l => { l with ctr := [] }) (fun _ => rfl) ls _ n).trans (if_pos hn)

/-- The state that a plot reads after its reset (R433). -/
def State.stateAfterReset (s : State) (p : Nat) (wasCreated : Bool) : Nat :=
  if wasCreated then 1 else if s.poisonedUnits p 0 = [] then 2 else 5

/-- What a plot reads after its reset is said by the Cellar (R433). -/
theorem State.stateAfterReset_of_cellar {s t : State} (h : t.cellar = s.cellar) (p : Nat) (wasCreated : Bool) :
    t.stateAfterReset p wasCreated = s.stateAfterReset p wasCreated := by
  have hpoison : t.poisonedUnits p 0 = s.poisonedUnits p 0 := by simp only [State.poisonedUnits, h]
  rw [State.stateAfterReset, hpoison, State.stateAfterReset]

section Reset

variable {s : State} {p : PlotId}

theorem plotResetClear_waits (hd : s.plotDrained p.val = false) : exec (.plotResetClear p) s = .next s :=
  congrArg Host.Outcome.next (if_pos (.inr hd))

theorem exec_plotResetClear (hdrain : (s.plot p.val).drain = some .reset) (hd : s.plotDrained p.val = true) {u : State}
    (hu : u = (s.resetWork p.val).dropCounters p.val (s.plot p.val).looms) : exec (.plotResetClear p) s =
      .next (u.setCell (0x3000 + p.val) 1 (u.stateAfterReset p.val (s.plot p.val).wasCreated)) := by
  have hstate : u.setCell (0x3000 + p.val) 1 (u.stateAfterReset p.val (s.plot p.val).wasCreated) =
      if (s.plot p.val).wasCreated then u.setCell (0x3000 + p.val) 1 1
      else u.setCell (0x3000 + p.val) 1 (if u.poisonedUnits p.val 0 = [] then 2 else 5) := by
    unfold State.stateAfterReset
    split <;> rfl
  rw [hstate, hu]
  exact congrArg Host.Outcome.next ((if_neg (by simp [hdrain, hd])).trans rfl)

theorem plotResetClear_clears (hdrain : (s.plot p.val).drain = some .reset) (hd : s.plotDrained p.val = true) :
    ∃ t, exec (.plotResetClear p) s = .next t ∧ (t.plot p.val).drain = none ∧
      (t.plotState p.val = if (s.plot p.val).wasCreated then 1 else if t.poisonedUnits p.val 0 = [] then 2 else 5) ∧
      (∀ n ∈ (s.plot p.val).looms, (t.loom n).bench = [] ∧ (t.loom n).void = [] ∧ (t.loom n).ctr = []) ∧
      (∀ e ∈ (t.plot p.val).pools, e.2.used = [] ∧ e.2.remote = []) ∧ Changes s t (.epochs :: .meas :: Part.work) := by
  refine ⟨_, exec_plotResetClear hdrain hd rfl, ?_⟩
  obtain ⟨hlooms, hplot, hwork⟩ := s.resetWork_spec p.val
  generalize s.resetWork p.val = v at *
  obtain ⟨hctr, hdrop⟩ := v.dropCounters_spec p.val (s.plot p.val).looms
  generalize v.dropCounters p.val (s.plot p.val).looms = u at *
  have hcell := u.cell_setCell_self (0x3000 + p.val) 1 (u.stateAfterReset p.val (s.plot p.val).wasCreated)
  have hset := Changes.setCell u (0x3000 + p.val) 1 (u.stateAfterReset p.val (s.plot p.val).wasCreated)
  generalize u.setCell (0x3000 + p.val) 1 (u.stateAfterReset p.val (s.plot p.val).wasCreated) = t at *
  have hvt : Changes v t [.led, .looms] := hdrop.trans (hset.mono (by decide))
  have hreset : t.plot p.val = (s.plot p.val).reset := (State.plot_of_plots (hvt .plots (by decide)) _).trans hplot
  refine ⟨congrArg Plot.drain hreset, hcell.trans (State.stateAfterReset_of_cellar (hset .cellar (by decide)) _ _).symm,
    fun n hn => ?_, fun e he => ?_,
    (hwork.mono (by decide)).trans (hvt.mono (by decide))⟩
  · rw [State.loom, hset .looms (by decide), ← State.loom, hctr n hn, hlooms n hn]
    exact ⟨rfl, rfl, rfl⟩
  · rw [hreset, Plot.reset, List.mem_map] at he
    obtain ⟨y, -, rfl⟩ := he
    exact ⟨rfl, rfl⟩

end Reset

/-! ### What zeroing an extent leaves (R158, R421) -/

theorem State.erase_rebuildUnit (s : State) (lt r : Nat) : (s.rebuildUnit lt r).cellar.erase = s.cellar.erase := by
  unfold State.rebuildUnit
  split
  · rfl
  · rw [State.measureRows_changes _ _ _ .cellar (by decide)]
    dsimp only
    split
    · rfl
    · split
      · rfl
      · unfold State.poison
        split <;> rfl

theorem State.erase_unpoison (s : State) (lt r : Nat) : (s.unpoison lt r).cellar.erase = s.cellar.erase := by
  unfold State.unpoison
  split <;> rfl

theorem State.erase_unitWrite (s : State) (lt r off plot : Nat) (data : List Byte) :
    (s.unitWrite lt r off plot data).cellar.erase = s.cellar.erase := by
  have hfilled : ∀ (u : State) (c : Prop) [Decidable c], (if c then u.unpoison lt r else u).cellar.erase = u.cellar.erase :=
    fun u c _ => by
      split
      · exact u.erase_unpoison lt r
      · rfl
  unfold State.unitWrite
  dsimp only
  split
  · split
    · rfl
    · exact (hfilled _ _).trans rfl
  · have h0 : (if s.built lt r then s else s.rebuildUnit lt r).cellar.erase = s.cellar.erase := by
      split
      · rfl
      · exact s.erase_rebuildUnit lt r
    exact (hfilled _ _).trans h0

/-- A write to the Cellar decides nothing about a pending erasure (R421). -/
theorem State.erase_settledWrite (s : State) (a plot : Nat) (data : List Byte) :
    (s.settledWrite a plot data).cellar.erase = s.cellar.erase := by
  have hw := s.erase_unitWrite (caTile a) (dataRow (caTile a % 12) (caOffset a)) (caOffset a % 4096) plot data
  have hd : ∀ (u : State) (w : CWrite), (u.applyDelta w).cellar.erase = u.cellar.erase := fun u w => by
    unfold State.applyDelta
    dsimp only
    split <;> rfl
  unfold State.settledWrite
  dsimp only
  split
  · split
    · exact (hd _ _).trans hw
    · exact hw
  · exact hw

theorem State.zeroUnits_spec (s : State) (x : Nat) (us : List Nat) : (s.zeroUnits x us).cellar.erase = s.cellar.erase ∧
    CellsBut [(0x6010, 4)] s (s.zeroUnits x us) ∧ Changes s (s.zeroUnits x us) [.cellar, .led, .meas] :=
  ⟨foldl_keeps (fun u : State => u.cellar.erase) us (fun _ _ u => u.erase_settledWrite _ _ _) s,
    CellsBut.foldl (fun u _ => u.settledWrite_cells _ _ _) us s, Changes.foldl (fun u _ => u.settledWrite_changes _ _ _) us s⟩

/-- Units of an extent are written with zeros, and its bit is cleared (R421). -/
def State.zeroed (s : State) (x : Nat) (us : List Nat) : State :=
  { s.zeroUnits x us with cellar := { (s.zeroUnits x us).cellar with erase := Tab.set 0 (s.zeroUnits x us).cellar.erase x 0 } }

theorem State.zeroed_spec (s : State) (x : Nat) (us : List Nat) : (s.zeroed x us).cellar.erase = Tab.set 0 s.cellar.erase x 0 ∧
    CellsBut [(0x6010, 4)] s (s.zeroed x us) ∧ Changes s (s.zeroed x us) [.cellar, .led, .meas] := by
  obtain ⟨herase, hcells, hch⟩ := s.zeroUnits_spec x us
  unfold State.zeroed
  generalize s.zeroUnits x us = u at *
  exact ⟨congrArg (fun t => Tab.set 0 t x 0) herase, hcells.trans (.of_led rfl), hch.trans ((Changes.setCellar u _).mono (by decide))⟩

/-- Of the pending erasures only this extent's ends (R421). -/
theorem State.eraseExtent_spec (s : State) (x : Nat) :
    (s.eraseExtent x).cellar.erase = Tab.set 0 s.cellar.erase x 0 ∧ CellsBut [(0x6010, 4)] s (s.eraseExtent x) ∧
      Changes s (s.eraseExtent x) [.cellar, .led, .meas] := by
  have heq : s.eraseExtent x = s.zeroed x (List.range 4096) := rfl
  rw [heq]
  exact s.zeroed_spec x _

/-- Extents are erased one after another (R421). -/
def State.eraseEach (s : State) (xs : List Nat) : State := xs.foldl (fun s x => s.eraseExtent x) s

theorem State.eraseEach_spec (s : State) (xs : List Nat) : (∀ x ∈ xs, Tab.get 0 (s.eraseEach xs).cellar.erase x = 0) ∧
    CellsBut [(0x6010, 4)] s (s.eraseEach xs) ∧ Changes s (s.eraseEach xs) [.cellar, .led, .meas] := by
  suffices h : ∀ u : State, ∀ x, x ∈ xs ∨ Tab.get 0 u.cellar.erase x = 0 → Tab.get 0 (u.eraseEach xs).cellar.erase x = 0 from
    ⟨fun x hx => h s x (.inl hx), CellsBut.foldl (fun u x => (u.eraseExtent_spec x).2.1) xs s,
      Changes.foldl (fun u x => (u.eraseExtent_spec x).2.2) xs s⟩
  unfold State.eraseEach
  induction xs with
  | nil => exact fun _ _ h => h.resolve_left List.not_mem_nil
  | cons y ys ih =>
    intro u x h
    rw [List.foldl_cons]
    refine ih (u.eraseExtent y) x ?_
    rw [(u.eraseExtent_spec y).1, Tab.get_set]
    split
    · exact .inr rfl
    next hy => exact h.imp_left fun hx => (List.mem_cons.1 hx).resolve_left (Ne.symm hy)

/-! ### The plot exists no more (R366) -/

/-- A plot that exists no more reads NONE (R366). -/
theorem State.plotState_forgetPlot (s : State) (p : PlotId) : (s.forgetPlot p.val).plotState p.val = 0 := by
  have hentry : ∀ q : PlotId, entryDefault (0x3000 + q.val) 1 = 0 ∧
      (entry (ek (0x3000 + q.val) 1 / 256) (ek (0x3000 + q.val) 1 % 256)).any (fun r => r.span == 16 && ek (0x3000 + q.val) 1 / 256 == r.base + q.val) = true := by decide
  obtain ⟨hzero, hmine⟩ := hentry p
  refine (Tab.get_keep_dropped _ _ s.led ?_).trans hzero
  exact congrArg Bool.not hmine

theorem State.forgetPlot_spec (s : State) (p : Nat) : (s.forgetPlot p).plot p = {} ∧ SameBut [p] s.plot (s.forgetPlot p).plot ∧
    Changes s (s.forgetPlot p) [.led, .blob, .meas, .plots, .paths] := by
  refine ⟨Tab.get_set_self ({} : Plot) s.plots p {},
    fun q hq => Tab.get_set_ne ({} : Plot) s.plots {} (by simpa [eq_comm] using hq), fun q hq => ?_⟩
  cases q
  case led | blob | meas | plots | paths => exact absurd (by decide) hq
  all_goals rfl

/-! ### ERASE_END -/

section Erase

variable {s : State} {p : PlotId}

theorem eraseEnd_held {x : Nat} (hx : x ∈ s.pendingErase p.val) (hheld : s.eraseHeld x = true) : exec (.eraseEnd p) s = .next s :=
  congrArg Host.Outcome.next (if_pos (List.any_eq_true.2 ⟨x, hx, hheld⟩))

variable (hfree : ∀ x ∈ s.pendingErase p.val, s.eraseHeld x = false) (hsome : s.pendingErase p.val ≠ []) (hst : s.plotState p.val = 4)
include hfree hsome hst

theorem exec_eraseEnd {v : State} (hv : v = (s.eraseEach (s.pendingErase p.val)).raise 0x8041 p.val [p.val]) :
    exec (.eraseEnd p) s = .next ((v.forgetPlot p.val).raise 0x3402 p.val [p.val, (v.plot p.val).discarded]) := by
  obtain ⟨-, hcells, -⟩ := s.eraseEach_spec (s.pendingErase p.val)
  have hst4 : v.plotState p.val = 4 := by
    rw [hv, State.plotState, State.cell_of_led (Changes.raise _ _ _ _ .led (by decide)), hcells _ _ (by decide) (by simp)]
    exact hst
  have hnone : ¬(s.pendingErase p.val).any (fun x => s.eraseHeld x) = true := fun h => by
    obtain ⟨x, hx, hheld⟩ := List.any_eq_true.1 h
    rw [hfree x hx] at hheld
    cases hheld
  change execEraseEnd p s = _
  unfold execEraseEnd
  dsimp only
  rw [if_neg hnone, if_neg hsome]
  change Host.Outcome.next (if ((s.eraseEach (s.pendingErase p.val)).raise 0x8041 p.val [p.val]).plotState p.val = 4 then _ else _) = _
  rw [← hv, if_pos hst4]
  subst hv
  rfl

theorem eraseEnd_ends : ∃ t, exec (.eraseEnd p) s = .next t ∧ t.plotState p.val = 0 ∧ t.plot p.val = {} ∧
    t.cellar = (s.eraseEach (s.pendingErase p.val)).cellar ∧
    (∀ x ∈ s.pendingErase p.val, Tab.get 0 t.cellar.erase x = 0) ∧
    Raises s t [(0x8041, p.val, [p.val]), (0x3402, p.val, [p.val, (s.plot p.val).discarded])] ∧
    SameBut [p.val] s.plot t.plot ∧ Changes s t (.cellar :: .led :: .blob :: .meas :: .plots :: .paths :: Part.report) := by
  refine ⟨_, exec_eraseEnd hfree hsome hst rfl, ?_⟩
  obtain ⟨herased, -, hsu⟩ := s.eraseEach_spec (s.pendingErase p.val)
  generalize s.eraseEach (s.pendingErase p.val) = u at *
  have hraised := Raises.one (s := s) (congrArg Events.seq (hsu .ev (by decide))) 0x8041 p.val [p.val]
  have huv := Changes.raise u 0x8041 p.val [p.val]
  generalize u.raise 0x8041 p.val [p.val] = v at *
  have hvplot : v.plot = s.plot :=
    funext fun q => (State.plot_of_plots (huv .plots (by decide)) q).trans (State.plot_of_plots (hsu .plots (by decide)) q)
  have hzero := v.plotState_forgetPlot p
  obtain ⟨hplot, hothers, hvw⟩ := v.forgetPlot_spec p.val
  rw [hvplot] at hothers ⊢
  have hboth := (hraised.congr (hvw .ev (by decide)) (hvw .now (by decide))).raise (by simp) 0x3402 p.val
    [p.val, (s.plot p.val).discarded]
  generalize v.forgetPlot p.val = w at *
  have hwt := Changes.raise w 0x3402 p.val [p.val, (s.plot p.val).discarded]
  generalize w.raise 0x3402 p.val [p.val, (s.plot p.val).discarded] = t at *
  have hcellar : t.cellar = u.cellar := (hwt .cellar (by decide)).trans ((hvw .cellar (by decide)).trans (huv .cellar (by decide)))
  have htw : t.plot = w.plot := funext (State.plot_of_plots (hwt .plots (by decide)))
  refine ⟨(State.cell_of_led (hwt .led (by decide)) _ _).trans hzero, by rw [htw, hplot], hcellar, fun x hx => ?_, hboth, ?_,
    (((hsu.mono (by decide)).trans (huv.mono (by decide))).trans (hvw.mono (by decide))).trans (hwt.mono (by decide))⟩
  · rw [hcellar]
    exact herased x hx
  · rw [htw]
    exact hothers

end Erase

end Sys2Proof.Machine

open Sys2Proof Sys2Proof.Machine

/-- Settles O34: a plot stops (`cancelAll_spec`), is released or cleared once drained, and ends with the erasure of its extents. -/
theorem plotsStopDrainAndAreErased : Obligations.PlotsStopDrainAndAreErased := by
  refine ⟨fun s f p => ⟨fun h hw => ?_, fun h hw => teardown_busy h hw, fun h hw hl => ?_, fun h hw => plotReset_busy h hw⟩,
    fun s p => ⟨fun hdrain hst hload => ⟨fun hd => ⟨s, teardownDrainEnd_waits hd, rfl⟩,
      fun hd => teardownDrainEnd_releases hdrain hst hload hd⟩,
    fun hdrain => ⟨fun hd => ⟨s, plotResetClear_waits hd, rfl⟩, fun hd => plotResetClear_clears hdrain hd⟩⟩,
    fun s p => ⟨fun x hx hheld => ⟨s, eraseEnd_held hx hheld, rfl⟩, fun hfree hsome hst => eraseEnd_ends hfree hsome hst⟩⟩
  · exact ⟨_, exec_teardown_stops h hw, stop_answered (act := fun s => s.stopForTeardown p.val)
      ((s.heard f).stopForTeardown_spec p.val) rfl⟩
  · have hstop := (s.heard f).stopForReset_spec p.val
    rw [show (s.heard f).plotState p.val = s.plotState p.val from s.cell_heard f _ _] at hstop
    exact ⟨_, exec_plotReset_stops h hw hl, stop_answered (act := fun s => s.stopForReset p.val) hstop rfl⟩
end

section
/-! SUPPORT. Keys and mailboxes after a change (R276, R280, R282 to R287): which holder or mailbox changes, and which stays. -/

namespace Sys2Proof.Machine

/-! ### The numbers of functions -/

theorem portN_inj {x y : Port} (h : x.n = y.n) : x = y := by
  revert h
  cases x <;> cases y <;> decide

/-- A port's functions have the numbers from 32 times the port's on. -/
theorem funcN_div (fn : Func) : fn.n / 32 = fn.port.n := by
  obtain ⟨x, vf⟩ := fn
  cases vf with
  | none => simp [Func.n]
  | some v => simp only [Func.n]; omega

theorem funcN_inj {f g : Func} (h : f.n = g.n) : f = g := by
  have hport : f.port = g.port := portN_inj (by rw [← funcN_div, h, funcN_div])
  obtain ⟨x, v⟩ := f
  obtain ⟨y, w⟩ := g
  cases hport
  cases v <;> cases w <;> grind [Func.n]

/-- Each quantity of each function has a latched word of its own (R276). -/
theorem latchKey_inj {f g : Func} {r q : Identity} (h : latchKey f r = latchKey g q) : (f, r) = (g, q) := by
  have hn : f.n = g.n := by cases r <;> cases q <;> simp only [latchKey] at h <;> omega
  rw [funcN_inj hn]
  cases r <;> cases q <;> simp [latchKey, hn] at h ⊢

/-! ### Mailboxes -/

theorem State.box_updBox (s : State) (fn g : Func) (f : Mailbox → Mailbox) :
    (s.updBox fn f).box g = if fn = g then f (s.box g) else s.box g := by
  simp only [State.box, State.updBox, Tab.get_upd]
  by_cases h : fn = g
  · simp [h]
  · rw [if_neg h, if_neg fun e => h (funcN_inj e)]

theorem State.box_of_mailbox {s t : State} (h : t.mailbox = s.mailbox) (fn : Func) : t.box fn = s.box fn := by
  simp only [State.box, h]

theorem Changes.updBox (s : State) (fn : Func) (f : Mailbox → Mailbox) : Changes s (s.updBox fn f) [.mailbox] := by
  intro p hp
  cases p
  case mailbox => exact absurd (by decide) hp
  all_goals rfl

theorem Changes.setLatch (s : State) (x : Tab (Option Nat)) : Changes s { s with latch := x } [.latch] := by
  intro p hp
  cases p
  case latch => exact absurd (by decide) hp
  all_goals rfl

/-! ### Holders of keys -/

theorem State.holder_of_keys {s t : State} (h : t.keys = s.keys) (k : Nat) : t.holder k = s.holder k := by
  simp only [State.holder, h]

/-- No requester is the engine, which holds keys 3 to 15 (R283, R286). -/
theorem holderId_lt (w : Requester) : holderId w < 0x4000 := by
  cases w with
  | host fn => simp only [holderId]; split <;> decide
  | mgmt n => simp only [holderId]; omega

/-- A key that the engine does not hold is not one of keys 3 to 15 (R286). -/
theorem State.notEngineKey {s : State} {k : Nat} (h : s.holder k < 0x4000) : ¬(3 ≤ k ∧ k ≤ 15) := fun hk => by
  rw [State.holder, if_pos hk] at h
  omega

theorem State.holder_setHolder (s : State) (k h n : Nat) :
    (s.setHolder k h).holder n = if k = n ∧ ¬(3 ≤ k ∧ k ≤ 15) then h else s.holder n := by
  unfold State.setHolder
  by_cases hk : 3 ≤ k ∧ k ≤ 15
  · simp [hk]
  · by_cases hn : k = n
    · subst hn
      simp [State.holder, hk]
    · simp [State.holder, hk, hn, Tab.get_set]

theorem State.setHolder_others (s : State) (k h : Nat) : SameBut [k] s.holder (s.setHolder k h).holder := fun n hn => by
  rw [State.holder_setHolder, if_neg fun e => hn (by simp [e.1])]

theorem Changes.setHolder (s : State) (k h : Nat) : Changes s (s.setHolder k h) [.keys] := by
  unfold State.setHolder
  split
  · exact Changes.refl _ _
  · intro p hp
    cases p
    case keys => exact absurd (by decide) hp
    all_goals rfl

/-! ### Keys that are released (R287, R292) -/

theorem State.releaseKey_free {s : State} {k : Nat} (h : s.holder k = 0) (cause : Nat) : s.releaseKey k cause = s :=
  if_pos (.inl h)

theorem State.releaseKey_held {s : State} {k : Nat} (h : s.holder k ≠ 0) (hk : ¬(3 ≤ k ∧ k ≤ 15)) (cause : Nat) :
    s.releaseKey k cause = ((s.setHolder k 0).bump 32 0x2100 4 1).raise 0x2101 0xFF [k, s.holder k, cause] :=
  if_neg (not_or.2 ⟨h, hk⟩)

theorem State.releaseKey_changes (s : State) (k cause : Nat) : Changes s (s.releaseKey k cause) (.keys :: .led :: Part.report) := by
  unfold State.releaseKey
  dsimp only
  split
  · exact Changes.refl _ _
  · exact (((Changes.setHolder s k 0).mono (by decide)).trans ((Changes.bump _ _ _ _ _).mono (by decide))).trans
      ((Changes.raise _ _ _ _).mono (by decide))

theorem State.holder_releaseKey (s : State) (k cause n : Nat) :
    (s.releaseKey k cause).holder n = if k = n ∧ ¬(3 ≤ k ∧ k ≤ 15) then 0 else s.holder n := by
  by_cases h : s.holder k = 0 ∨ (3 ≤ k ∧ k ≤ 15)
  · have hsame : s.releaseKey k cause = s := if_pos h
    rw [hsame]
    split
    next hn =>
      rw [← hn.1]
      exact h.resolve_right hn.2
    next => rfl
  · obtain ⟨hheld, hk⟩ := not_or.1 h
    rw [State.releaseKey_held hheld hk, State.holder_of_keys (Changes.raise _ _ _ _ .keys (by decide)),
      State.holder_of_keys (Changes.bump _ _ _ _ _ .keys (by decide)), State.holder_setHolder]

theorem State.releaseKey_cells (s : State) (k cause : Nat) : CellsBut [(0x2100, 4)] s (s.releaseKey k cause) := by
  unfold State.releaseKey
  dsimp only
  split
  · exact CellsBut.of_led rfl
  · exact ((CellsBut.of_led (Changes.setHolder s k 0 .led (by decide))).trans (CellsBut.bump _ _ _ _ _ (by decide))).trans
      (CellsBut.of_led (Changes.raise _ _ _ _ .led (by decide)))

/-! ### Keys that are taken and given (R282, R284) -/

theorem State.takeKey_granted {s : State} {w : Requester} {k : Nat} (h : s.holder k = 0 ∨ s.holder k = holderId w) :
    s.takeKey w k = (0, s.setHolder k (holderId w)) := if_pos (h.imp_right beq_iff_eq.2)

theorem State.takeKey_refused {s : State} {w : Requester} {k : Nat} (h : s.holder k ≠ 0) (hw : s.holder k ≠ holderId w) :
    s.takeKey w k = (s.holder k, s) := if_neg (not_or.2 ⟨h, fun e => hw (beq_iff_eq.1 e)⟩)

theorem State.giveKey_held {s : State} {w : Requester} {k : Nat} (h : s.holder k = holderId w) :
    s.giveKey w k = (true, s.setHolder k 0) := if_pos (beq_iff_eq.2 h)

theorem State.giveKey_notHeld {s : State} {w : Requester} {k : Nat} (h : s.holder k ≠ holderId w) :
    s.giveKey w k = (false, s.bump 32 0x2100 3 1) := if_neg fun e => h (beq_iff_eq.1 e)

/-- A key that its requester may take is none of the engine's, so that its holder becomes the requester. -/
theorem State.holder_granted {s : State} {w : Requester} {k : Nat} (h : s.holder k = 0 ∨ s.holder k = holderId w) (v : Nat) :
    (s.setHolder k v).holder k = v := by
  have hlt : s.holder k < 0x4000 := by
    have := holderId_lt w
    omega
  rw [State.holder_setHolder, if_pos ⟨rfl, State.notEngineKey hlt⟩]

end Sys2Proof.Machine
end

section
/-! PROOFS. Named keys, identity, heartbeat and mailboxes (R276, R280 to R287, R292): the statement O42. -/

namespace Sys2Proof.Machine

/-! ### TAKE and GIVE -/

section Rack

variable {s : State} {fn : Func} {k : Fin 64}

theorem exec_take_closed (hup : s.portUp fn.port = false) : exec (.take fn k) s = .next s := congrArg Host.Outcome.next (if_pos hup)

theorem exec_give_ignored (h : s.portUp fn.port = false ∨ fn.vf.isSome = true) : exec (.give fn k) s = .next s :=
  congrArg Host.Outcome.next (if_pos h)

theorem exec_take_virtual {v : Fin 16} (hup : s.portUp fn.port = true) (hvf : fn.vf = some v) :
    exec (.take fn k) s = .next (s.emit (.busRead (if (s.vfPlot fn.port v.val).isSome then 0xFFFF else 0xFFFFFFFF))) := by
  change execTake fn k s = _
  rw [execTake, if_neg (by simp [hup]), hvf]

variable (hup : s.portUp fn.port = true) (hvf : fn.vf = none)
include hup hvf

theorem exec_take : exec (.take fn k) s = .next ((s.takeKey (.host fn) k.val).2.emit (.busRead (s.takeKey (.host fn) k.val).1)) := by
  change execTake fn k s = _
  rw [execTake, if_neg (by simp [hup]), hvf]

theorem exec_give : exec (.give fn k) s = .next (s.giveKey (.host fn) k.val).2 :=
  congrArg Host.Outcome.next (if_neg (by simp [hup, hvf]))

theorem take_grants (h : s.holder k.val = 0 ∨ s.holder k.val = holderId (.host fn)) :
    ∃ t, exec (.take fn k) s = .next t ∧ t.holder k.val = holderId (.host fn) ∧ t.out = .busRead 0 :: s.out ∧
      SameBut [k.val] s.holder t.holder ∧ Changes s t [.keys, .out] := by
  have hch := Changes.setHolder s k.val (holderId (.host fn))
  refine ⟨_, exec_take hup hvf, ?_⟩
  rw [State.takeKey_granted h]
  exact ⟨State.holder_granted h _, congrArg (Out.busRead 0 :: ·) (hch .out (by decide)), s.setHolder_others _ _,
    (hch.mono (by decide)).trans ((Changes.emit _ _).mono (by decide))⟩

theorem take_refuses (h : s.holder k.val ≠ 0) (hw : s.holder k.val ≠ holderId (.host fn)) :
    ∃ t, exec (.take fn k) s = .next t ∧ t.out = .busRead (s.holder k.val) :: s.out ∧ Changes s t [.out] := by
  refine ⟨_, exec_take hup hvf, ?_⟩
  rw [State.takeKey_refused h hw]
  exact ⟨rfl, Changes.emit _ _⟩

theorem give_frees (h : s.holder k.val = holderId (.host fn)) :
    ∃ t, exec (.give fn k) s = .next t ∧ t.holder k.val = 0 ∧ SameBut [k.val] s.holder t.holder ∧ Changes s t [.keys] := by
  refine ⟨_, exec_give hup hvf, ?_⟩
  rw [State.giveKey_held h]
  exact ⟨State.holder_granted (.inr h) 0, s.setHolder_others _ _, Changes.setHolder _ _ _⟩

theorem give_counts (h : s.holder k.val ≠ holderId (.host fn)) :
    ∃ t, exec (.give fn k) s = .next t ∧ t.cell 0x2100 3 = satAdd 32 (s.cell 0x2100 3) 1 ∧ CellsBut [(0x2100, 3)] s t ∧
      Changes s t [.led] := by
  refine ⟨_, exec_give hup hvf, ?_⟩
  rw [State.giveKey_notHeld h]
  exact ⟨s.cell_bump_self _ _ _ _, CellsBut.bump _ _ _ _ _ (by decide), Changes.bump _ _ _ _ _⟩

end Rack

/-! ### KEY_TAKE and KEY_GIVE -/

section Requests

variable {s : State} {f : Sender} {k : Fin 64}

/-- What a request that arrives is carried out to, within a frame, and answered (R371, R384). -/
theorem arrives_changes {q : Req} {r : Reply} {u : State} {ps : List Part} (h : Changes (s.heard f) u ps) :
    Changes s (u.answer f q r) (ps ++ Part.reply) :=
  ((s.heard_changes f).mono (by simp [Part.reply])).trans
    ((h.mono (by simp +contextual)).trans ((State.answer_changes _ _ _ _).mono (by simp +contextual)))

theorem State.holder_heard (s : State) (f : Sender) (n : Nat) : (s.heard f).holder n = s.holder n :=
  State.holder_of_keys (s.heard_changes f .keys (by decide)) n

theorem State.holder_answer (s : State) (f : Sender) (q : Req) (r : Reply) (n : Nat) : (s.answer f q r).holder n = s.holder n :=
  State.holder_of_keys (s.answer_changes f q r .keys (by decide)) n

/-- A key whose holder a request changes, told from the state in which it came. -/
theorem sameHolders_answered (s : State) (f : Sender) (n h : Nat) (q : Req) (r : Reply) :
    SameBut [n] s.holder (((s.heard f).setHolder n h).answer f q r).holder := fun m hm => by
  rw [State.holder_answer, State.setHolder_others _ _ _ m hm, State.holder_heard]

theorem State.answer_out (s : State) (f : Sender) (q : Req) (r : Reply) : (s.answer f q r).out = .reply f.who f.tag.toNat r :: s.out := by
  unfold State.answer
  cases f.who <;> rfl

theorem keyTake_denied (hp : plainRequester f.who = false) (h : Arrives s f { cmd := .keyTake, arg := k.val }) :
    ∃ t, exec (.keyTake f k) s = .next t ∧ Answers t f .denied ∧ Changes s t Part.reply := by
  refine ⟨_, congrArg Host.Outcome.next (State.serve_arrives h _), ?_⟩
  rw [if_pos hp]
  exact ⟨State.answer_answers _ _ _ _, arrives_changes (ps := []) (Changes.refl _ _)⟩

theorem keyGive_denied (hp : plainRequester f.who = false) (h : Arrives s f { cmd := .keyGive, arg := k.val }) :
    ∃ t, exec (.keyGive f k) s = .next t ∧ Answers t f .denied ∧ Changes s t Part.reply := by
  refine ⟨_, congrArg Host.Outcome.next (State.serve_arrives h _), ?_⟩
  rw [if_pos hp]
  exact ⟨State.answer_answers _ _ _ _, arrives_changes (ps := []) (Changes.refl _ _)⟩

variable (hp : plainRequester f.who = true)
include hp

theorem exec_keyTake (h : Arrives s f { cmd := .keyTake, arg := k.val }) : exec (.keyTake f k) s =
    .next (((s.heard f).takeKey f.who k.val).2.answer f { cmd := .keyTake, arg := k.val }
      { status := if ((s.heard f).takeKey f.who k.val).1 = 0 then .done else .busy, type := Ty.u16.code,
        body := toLe 2 ((s.heard f).takeKey f.who k.val).1 }) := by
  refine congrArg Host.Outcome.next ((State.serve_arrives h _).trans ?_)
  rw [if_neg (by simp [hp])]

theorem exec_keyGive (h : Arrives s f { cmd := .keyGive, arg := k.val }) : exec (.keyGive f k) s =
    .next (((s.heard f).giveKey f.who k.val).2.answer f { cmd := .keyGive, arg := k.val }
      { status := if ((s.heard f).giveKey f.who k.val).1 then .done else .denied }) := by
  refine congrArg Host.Outcome.next ((State.serve_arrives h _).trans ?_)
  rw [if_neg (by simp [hp])]

theorem keyTake_grants (h : Arrives s f { cmd := .keyTake, arg := k.val })
    (hk : s.holder k.val = 0 ∨ s.holder k.val = holderId f.who) :
    ∃ t, exec (.keyTake f k) s = .next t ∧ Answers t f .done ∧ t.holder k.val = holderId f.who ∧
      SameBut [k.val] s.holder t.holder ∧ Changes s t (.keys :: Part.reply) := by
  have hk' := hk
  rw [← s.holder_heard f] at hk'
  refine ⟨_, exec_keyTake hp h, ?_⟩
  rw [State.takeKey_granted hk']
  refine ⟨State.answer_answers _ _ _ _, ?_, sameHolders_answered _ _ _ _ _ _, arrives_changes (Changes.setHolder _ _ _)⟩
  rw [State.holder_answer, State.holder_granted hk']

theorem keyTake_refuses (h : Arrives s f { cmd := .keyTake, arg := k.val }) (hk : s.holder k.val ≠ 0)
    (hw : s.holder k.val ≠ holderId f.who) :
    ∃ t, exec (.keyTake f k) s = .next t ∧ Answers t f .busy ∧
      (∃ r rest, t.out = .reply f.who f.tag.toNat r :: rest ∧ r.body = toLe 2 (s.holder k.val)) ∧ Changes s t Part.reply := by
  refine ⟨_, exec_keyTake hp h, ?_⟩
  rw [State.takeKey_refused (by rwa [State.holder_heard]) (by rwa [State.holder_heard]), State.holder_heard, if_neg hk]
  exact ⟨State.answer_answers _ _ _ _, ⟨_, _, State.answer_out _ _ _ _, rfl⟩, arrives_changes (ps := []) (Changes.refl _ _)⟩

theorem keyGive_frees (h : Arrives s f { cmd := .keyGive, arg := k.val }) (hk : s.holder k.val = holderId f.who) :
    ∃ t, exec (.keyGive f k) s = .next t ∧ Answers t f .done ∧ t.holder k.val = 0 ∧ SameBut [k.val] s.holder t.holder ∧
      Changes s t (.keys :: Part.reply) := by
  have hk' := hk
  rw [← s.holder_heard f] at hk'
  refine ⟨_, exec_keyGive hp h, ?_⟩
  rw [State.giveKey_held hk']
  refine ⟨State.answer_answers _ _ _ _, ?_, sameHolders_answered _ _ _ _ _ _, arrives_changes (Changes.setHolder _ _ _)⟩
  rw [State.holder_answer, State.holder_granted (.inr hk')]

theorem keyGive_counts (h : Arrives s f { cmd := .keyGive, arg := k.val }) (hk : s.holder k.val ≠ holderId f.who) :
    ∃ t, exec (.keyGive f k) s = .next t ∧ Answers t f .denied ∧ t.cell 0x2100 3 = satAdd 32 (s.cell 0x2100 3) 1 ∧
      CellsBut [(0x2100, 3)] s t ∧ Changes s t (.led :: Part.reply) := by
  refine ⟨_, exec_keyGive hp h, ?_⟩
  rw [State.giveKey_notHeld (by rwa [State.holder_heard])]
  refine ⟨State.answer_answers _ _ _ _, ?_, ?_, arrives_changes (Changes.bump _ _ _ _ _)⟩
  · rw [State.cell_answer, State.cell_bump_self, State.cell_heard]
  · exact ((CellsBut.of_led (by simp)).trans (CellsBut.bump (s.heard f) 32 0x2100 3 1 (by decide))).trans (CellsBut.of_led (by simp))

end Requests

/-! ### FORCE_RELEASE -/

section Release

variable {s : State} {f : Sender} {body : List Byte}

/-- FORCE_RELEASE takes the numbers of keys 0 to 2 and 16 to 63 (R292). -/
theorem State.released_notEngineKey (h : s.writeCheck f.who .write 0x2100 2 body = none) : ¬(3 ≤ ofLe body ∧ ofLe body ≤ 15) := by
  have hentry : entry 0x2100 2 = some { base := 0x2100, span := 1, lo := 2, hi := 2, ty := .u8, host := .no, mgmt := .wo } := by
    decide
  rw [State.writeCheck, if_neg (by decide), hentry] at h
  dsimp only at h
  split at h
  · cases h
  split at h
  · cases h
  split at h
  · cases h
  split at h
  · cases h
  next hbody =>
    have hrange : ofLe body ≤ 2 ∨ 16 ≤ ofLe body ∧ ofLe body ≤ 63 := by
      rw [Bool.not_eq_false, bodyOk, Bool.and_eq_true] at hbody
      simpa [rangeOk] using hbody.2
    omega

theorem forceRelease_checked (h : Arrives s f (writeReq 0x2100 2 body)) {st : Status}
    (hc : s.writeCheck f.who .write 0x2100 2 body = some st) :
    ∃ t, exec (.forceRelease f body) s = .next t ∧ Answers t f st ∧ Changes s t Part.reply :=
  ⟨_, congrArg Host.Outcome.next (State.serveWrite_checked h _ _ st hc), State.answer_answers _ _ _ _,
    arrives_changes (ps := []) (Changes.refl _ _)⟩

theorem exec_forceRelease (h : WriteArrives s f 0x2100 2 body) : exec (.forceRelease f body) s =
    .next (((s.heard f).releaseKey (ofLe body) 5).answer f (writeReq 0x2100 2 body) { status := .done }) :=
  congrArg Host.Outcome.next (State.serveWrite_arrives h _ (fun s => s.releaseKey (ofLe body) 5) rfl)

theorem forceRelease_free (h : WriteArrives s f 0x2100 2 body) (hk : s.holder (ofLe body) = 0) :
    ∃ t, exec (.forceRelease f body) s = .next t ∧ Answers t f .done ∧ Changes s t Part.reply := by
  refine ⟨_, exec_forceRelease h, State.answer_answers _ _ _ _, ?_⟩
  rw [State.releaseKey_free (by rwa [State.holder_heard])]
  exact arrives_changes (ps := []) (Changes.refl _ _)

theorem forceRelease_releases (h : WriteArrives s f 0x2100 2 body) (hk : s.holder (ofLe body) ≠ 0) :
    ∃ t, exec (.forceRelease f body) s = .next t ∧ Answers t f .done ∧ t.holder (ofLe body) = 0 ∧
      t.cell 0x2100 4 = satAdd 32 (s.cell 0x2100 4) 1 ∧ Raises s t [(0x2101, 0xFF, [ofLe body, s.holder (ofLe body), 5])] ∧
      SameBut [ofLe body] s.holder t.holder ∧ CellsBut [(0x2100, 4)] s t ∧
      Changes s t [.keys, .led, .ev, .sessions, .out, .mailbox] := by
  have hnot := State.released_notEngineKey h.2
  have hheld := State.releaseKey_held (s := s.heard f) (by rwa [State.holder_heard]) hnot 5
  have hcells := (s.heard f).releaseKey_cells (ofLe body) 5
  have hchange := (s.heard f).releaseKey_changes (ofLe body) 5
  have hholder := (s.heard f).holder_releaseKey (ofLe body) 5
  rw [State.holder_heard] at hheld
  refine ⟨_, exec_forceRelease h, State.answer_answers _ _ _ _, ?_, ?_, ?_, fun n hn => ?_, ?_,
    (arrives_changes hchange).mono (by decide)⟩
  · rw [State.holder_answer, hholder, if_pos ⟨rfl, hnot⟩]
  · rw [State.cell_answer, hheld, State.cell_raise, State.cell_bump_self,
      State.cell_of_led (Changes.setHolder _ _ _ .led (by decide)), State.cell_heard]
  · rw [hheld]
    have hseq : (((s.heard f).setHolder (ofLe body) 0).bump 32 0x2100 4 1).ev.seq = s.ev.seq := by
      rw [Changes.bump _ _ _ _ _ .ev (by decide), Changes.setHolder _ _ _ .ev (by decide), s.heard_changes f .ev (by decide)]
    exact (Raises.one hseq 0x2101 0xFF _).congr (State.answer_changes _ _ _ _ .ev (by decide))
      (State.answer_changes _ _ _ _ .now (by decide))
  · rw [State.holder_answer, hholder, if_neg fun e => hn (by simp [e.1]), State.holder_heard]
  · exact ((CellsBut.of_led (by simp)).trans hcells).trans (CellsBut.of_led (by simp))

end Release

/-! ### IDENTITY_LOW_READ -/

section Identity

variable {s : State} {fn : Func} {r : Identity}

/-- The high word of a quantity is latched for its function (R276). -/
def State.latchHigh (s : State) (fn : Func) (r : Identity) : State :=
  { s with latch := Tab.set none s.latch (latchKey fn r) (some (s.identity r / 2 ^ 32)) }

theorem identityLowRead_latches (h : s.barOpen fn = true) :
    ∃ t, exec (.identityLowRead fn r) s = .next t ∧ t.out = .busRead (s.identity r % 2 ^ 32) :: s.out ∧
      t.identityHigh fn r = s.identity r / 2 ^ 32 ∧
      (∀ g q, (g, q) ≠ (fn, r) → Tab.get none t.latch (latchKey g q) = Tab.get none s.latch (latchKey g q)) ∧
      Changes s t [.latch, .out] := by
  have hup : s.portUp fn.port = true := (Bool.and_eq_true_iff.1 h).1
  have hlatch : ((s.latchHigh fn r).emit (.busRead (s.identity r % 2 ^ 32))).latch =
      Tab.set none s.latch (latchKey fn r) (some (s.identity r / 2 ^ 32)) := rfl
  refine ⟨(s.latchHigh fn r).emit (.busRead (s.identity r % 2 ^ 32)), ?_, rfl, ?_, fun g q hne => ?_,
    ((Changes.setLatch _ _).mono (by decide)).trans ((Changes.emit _ _).mono (by decide))⟩
  · change execIdentityLowRead fn r s = _
    rw [execIdentityLowRead, if_neg (by simp [hup]), if_neg (by simp [h])]
    rfl
  · rw [State.identityHigh, hlatch, Tab.get_set_self]
    rfl
  · rw [hlatch]
    exact Tab.get_set_ne none s.latch _ fun e => hne (latchKey_inj e).symm

theorem identityLowRead_noPlot (hup : s.portUp fn.port = true) (h : s.barOpen fn = false) :
    ∃ t, exec (.identityLowRead fn r) s = .next t ∧ t.out = .busRead allOnes :: s.out ∧ Changes s t [.out] := by
  refine ⟨s.emit (.busRead allOnes), ?_, rfl, Changes.emit _ _⟩
  change execIdentityLowRead fn r s = _
  rw [execIdentityLowRead, if_neg (by simp [hup]), if_pos h]
  rfl

theorem exec_identityLowRead_closed (hup : s.portUp fn.port = false) : exec (.identityLowRead fn r) s = .next s :=
  congrArg Host.Outcome.next (if_pos hup)

end Identity

/-! ### HEARTBEAT_TICK -/

theorem heartbeatTick_rises {s : State} (hb : s.booted = true) (hr : s.procs.reeveLost = false) :
    ∃ t, exec .heartbeatTick s = .next t ∧ t.procs = { s.procs with heartbeat := (s.procs.heartbeat + 1) % 2 ^ 32 } ∧
      Changes s t [.procs] :=
  ⟨_, congrArg Host.Outcome.next (if_neg (by simp [hb, hr])), rfl, Changes.setProcs s _⟩

theorem exec_heartbeatTick_stands {s : State} (h : s.booted = false ∨ s.procs.reeveLost = true) : exec .heartbeatTick s = .next s :=
  congrArg Host.Outcome.next (if_pos h)

/-! ### MB_GO -/

section Mailbox

variable {s : State} {fn : Func} {ctrl : U32} {frame : List Byte}

/-- A mailbox that has taken a frame (R280). -/
def Mailbox.submit (m : Mailbox) (b : List Byte) (arrived seq : Nat) : Mailbox :=
  { m with request := b, busy := true, arrived := arrived, newSeq := seq, status := 1, ready := false }

/-- The answer to a malformed frame (R371). -/
def Mailbox.malformed (m : Mailbox) (b : List Byte) : Mailbox :=
  m.respond (field b 3 1) (field b 6 2) (field b 10 2) (field b 12 1) { status := .badValue }

/-- The state in which a mailbox has taken a frame (R280). -/
def State.mbSubmit (s : State) (fn : Func) (b : List Byte) (seq : Nat) : State :=
  s.updBox fn (fun m => m.submit b s.arrival seq)

variable (hlen : frame.length ≤ 4096)
include hlen

theorem exec_mbGo_ignored (h : s.barOpen fn = false ∨ s.serving = false ∨ bit ctrl.toNat 31 = false ∨ (s.box fn).busy = true) :
    exec (.mbGo fn ctrl frame) s = .next s := by
  change execMbGo fn ctrl frame s = _
  rw [execMbGo, if_neg (by simp [Instr.wf, hlen])]
  exact congrArg Host.Outcome.next (if_pos h)

variable (hopen : s.barOpen fn = true) (hserving : s.serving = true) (hgo : bit ctrl.toNat 31 = true) (hfree : (s.box fn).busy = false)
include hopen hserving hgo hfree

theorem exec_mbGo {b : List Byte} (hb : b = frame.take (bits ctrl.toNat 12 0)) : exec (.mbGo fn ctrl frame) s =
    .next (if frameBad (bits ctrl.toNat 12 0) b then
      ((s.mbSubmit fn b (bits ctrl.toNat 23 16)).emit (.reply (.host fn) (field b 6 2) { status := .badValue })).updBox fn
        (fun m => m.malformed b)
      else s.mbSubmit fn b (bits ctrl.toNat 23 16)) := by
  change execMbGo fn ctrl frame s = _
  rw [execMbGo, if_neg (by simp [Instr.wf, hlen])]
  dsimp only
  rw [if_neg (by simp [hopen, hserving, hgo, hfree]), ← hb]
  rfl

theorem mbGo_submits {b : List Byte} (hb : b = frame.take (bits ctrl.toNat 12 0)) (hgood : frameBad (bits ctrl.toNat 12 0) b = false) :
    ∃ t, exec (.mbGo fn ctrl frame) s = .next t ∧ (t.box fn).request = b ∧ (t.box fn).newSeq = bits ctrl.toNat 23 16 ∧
      (t.box fn).busy = true ∧ (t.box fn).statusWord = Status.code .notReady + (s.box fn).lastSeq * 2 ^ 16 ∧
      (t.box fn).response = (s.box fn).response ∧ (∀ g : Func, g ≠ fn → t.box g = s.box g) ∧ Changes s t [.mailbox] := by
  refine ⟨_, exec_mbGo hlen hopen hserving hgo hfree hb, ?_⟩
  rw [if_neg (by simp [hgood])]
  have hbox : (s.mbSubmit fn b (bits ctrl.toNat 23 16)).box fn = (s.box fn).submit b s.arrival (bits ctrl.toNat 23 16) :=
    (s.box_updBox fn fn _).trans (if_pos rfl)
  rw [hbox]
  exact ⟨rfl, rfl, rfl, rfl, rfl, fun g hg => (s.box_updBox fn g _).trans (if_neg (Ne.symm hg)), Changes.updBox _ _ _⟩

theorem mbGo_malformed {b : List Byte} (hb : b = frame.take (bits ctrl.toNat 12 0)) (hbad : frameBad (bits ctrl.toNat 12 0) b = true) :
    ∃ t, exec (.mbGo fn ctrl frame) s = .next t ∧ (t.box fn).busy = false ∧
      (t.box fn).statusWord = Status.code .badValue + bits ctrl.toNat 23 16 * 2 ^ 16 + 2 ^ 24 ∧
      (∀ g : Func, g ≠ fn → t.box g = s.box g) ∧ Changes s t [.mailbox, .out] := by
  refine ⟨_, exec_mbGo hlen hopen hserving hgo hfree hb, ?_⟩
  rw [if_pos hbad]
  generalize hu : (s.mbSubmit fn b (bits ctrl.toNat 23 16)).emit (.reply (.host fn) (field b 6 2) { status := .badValue }) = u
  have hub : ∀ g, u.box g = if fn = g then (s.box g).submit b s.arrival (bits ctrl.toNat 23 16) else s.box g := fun g => by
    rw [← hu, State.box_of_mailbox (Changes.emit _ _ .mailbox (by decide))]
    exact s.box_updBox fn g _
  have hch : Changes s u [.mailbox, .out] := by
    rw [← hu]
    exact ((Changes.updBox _ _ _).mono (by decide)).trans ((Changes.emit _ _).mono (by decide))
  refine ⟨?_, ?_, fun g hg => ?_, hch.trans ((Changes.updBox _ _ _).mono (by decide))⟩
  · rw [State.box_updBox, if_pos rfl]
    rfl
  · rw [State.box_updBox, if_pos rfl, hub, if_pos rfl]
    rfl
  · rw [State.box_updBox, if_neg (Ne.symm hg), hub, if_neg (Ne.symm hg)]

end Mailbox

end Sys2Proof.Machine

open Sys2Proof Sys2Proof.Machine

/-- Settles O42: TAKE and KEY_TAKE are `State.takeKey`, GIVE and KEY_GIVE `State.giveKey`, FORCE_RELEASE is `State.releaseKey`; a
mailbox takes a frame by `Mailbox.submit`. -/
theorem keysIdentityMailbox : Obligations.KeysIdentityMailbox := by
  refine ⟨fun s fn k => ⟨fun hup hvf => ⟨take_grants hup hvf, take_refuses hup hvf, give_frees hup hvf, give_counts hup hvf⟩,
      fun v hup hvf => ⟨⟨_, exec_take_virtual hup hvf, Changes.emit _ _, rfl⟩, s, exec_give_ignored (.inr (by rw [hvf]; rfl)), rfl⟩,
      fun hup => ⟨⟨s, exec_take_closed hup, rfl⟩, s, exec_give_ignored (.inl hup), rfl⟩⟩,
    fun s f k hp => ⟨keyTake_denied hp, keyGive_denied hp⟩,
    fun s f k hp => ⟨keyTake_grants hp, keyTake_refuses hp, keyGive_frees hp, keyGive_counts hp⟩,
    fun s f body h => ⟨fun st hc => forceRelease_checked h hc, fun hc => forceRelease_free ⟨h, hc⟩,
      fun hc => forceRelease_releases ⟨h, hc⟩⟩,
    fun s fn r => ⟨identityLowRead_latches, identityLowRead_noPlot, fun hup => ⟨s, exec_identityLowRead_closed hup, rfl⟩⟩,
    fun s => ⟨heartbeatTick_rises, fun h => ⟨s, exec_heartbeatTick_stands h, rfl⟩⟩,
    fun s fn ctrl frame hlen => ⟨fun h => ⟨s, exec_mbGo_ignored hlen h, rfl⟩, fun b hopen hserving hgo hfree hb =>
      ⟨mbGo_submits hlen hopen hserving hgo hfree hb, mbGo_malformed hlen hopen hserving hgo hfree hb⟩⟩⟩
end

section
/-! SUPPORT. What a queue pair's place depends on (R246, R274, R279, R288), results that are written again (R288, R290), and rings that
go away (R251, R279). -/

namespace Sys2Proof.Machine

/-! ### A queue pair's plot, function and other port -/

/-- Two states agree on the entries of 3000+p that say which queue pairs and functions a plot has, and that it exists (R237, R266). -/
def SameBinding (s t : State) : Prop := ∀ p, ∀ j ∈ [1, 6, 7, 9, 0xA], t.cell (0x3000 + p) j = s.cell (0x3000 + p) j

theorem CellsBut.binding {ks : List (Nat × Nat)} {s t : State} (h : CellsBut ks s t)
    (hks : ∀ e ∈ ks, 0x3000 ≤ e.1 → e.2 ∉ [1, 6, 7, 9, 0xA]) : SameBinding s t := fun p j hj =>
  h _ _ (by simp at hj; omega) fun hm => hks _ hm (by simp) hj

section Bound

variable {s t : State} (h : SameBinding s t)
include h

theorem State.plotOfQp_of_binding (n : Nat) : t.plotOfQp n = s.plotOfQp n := by
  have hcell : ∀ j ∈ [1, 6, 7, 9, 0xA], ∀ p, t.cell (0x3000 + p) j = s.cell (0x3000 + p) j := fun j hj p => h p j hj
  simp only [State.plotOfQp, State.plotsNow, State.plotExists, State.plotState, hcell 1 (by decide), hcell 6 (by decide),
    hcell 7 (by decide)]

variable {n : Nat} (hq : t.qp n = s.qp n)
include hq

theorem State.qpFunc_of_binding (x : Port) : t.qpFunc n x = s.qpFunc n x := by
  have hcell : ∀ p, t.cell (0x3000 + p) (if x = .a then 9 else 0xA) = s.cell (0x3000 + p) (if x = .a then 9 else 0xA) :=
    fun p => h p _ (by split <;> decide)
  simp only [State.qpFunc, hq, State.plotOfQp_of_binding h, hcell]

theorem State.moveOrStop_of_binding {x : Port} (hup : t.portUp x.other = s.portUp x.other) : t.moveOrStop n x = s.moveOrStop n x := by
  simp only [State.moveOrStop, hq, hup, State.qpFunc_of_binding h hq]

theorem State.resumePort_of_binding (hup : ∀ x, t.portUp x = s.portUp x) : t.resumePort n = s.resumePort n := by
  simp only [State.resumePort, hq, hup, State.moveOrStop_of_binding h hq (hup _)]

end Bound

/-! ### Other queue pairs stay -/

theorem State.updQp_others (s : State) (k : Nat) (f : Qp → Qp) : SameBut [k] s.qp (s.updQp k f).qp := fun n hn => by
  rw [State.qp_updQp, if_neg fun e => hn (by simp [e])]

theorem SameBut.of_qps {s t : State} (h : t.qps = s.qps) (ks : List Nat) : SameBut ks s.qp t.qp := fun n _ => State.qp_of_qps h n

/-! ### Ignored writes are counted (R278) -/

theorem State.countContext_changes (s : State) (n : Nat) : Changes s (s.countContext n) [.led] := by
  unfold State.countContext
  split
  · exact Changes.bump _ _ _ _ _
  · exact Changes.refl _ _

theorem State.countFields_changes (s : State) (k : Nat) (v : U64) : Changes s (s.countFields k v) [.led] := by
  unfold State.countFields
  split
  · exact Changes.refl _ _
  · exact s.countContext_changes k

/-- The count of ignored writes says nothing of ports and bindings. -/
theorem State.countFields_cells (s : State) (k : Nat) (v : U64) : ∃ p, CellsBut [(0x3000 + p, 0xC)] s (s.countFields k v) := by
  unfold State.countFields State.countContext
  split
  · exact ⟨0, CellsBut.of_led rfl⟩
  · split
    next p _ => exact ⟨p, CellsBut.bump _ _ _ _ _ (by decide)⟩
    next => exact ⟨0, CellsBut.of_led rfl⟩

theorem State.resumePort_countFields (s : State) (k : Nat) (v : U64) : (s.countFields k v).resumePort k = s.resumePort k := by
  obtain ⟨p, hcells⟩ := s.countFields_cells k v
  refine State.resumePort_of_binding (hcells.binding (by simp)) (State.qp_of_qps (s.countFields_changes k v .qps (by decide)) k)
    fun x => ?_
  rw [State.portUp, hcells _ _ (by split <;> decide) (by cases x <;> simp), State.portUp]

/-! ### Results that are written again (R288, R290) -/

/-- The entry `k` places behind RQ_HEAD is written again, where there is one. -/
def State.rewriteEntry (s : State) (n : Nat) (q : Qp) (k : Nat) : State :=
  match Tab.get none q.ring ((q.rqHead + k) % q.rqSize) with
  | some (r, ph) => s.emitResult n q.active ((q.rqHead + k) % q.rqSize) (r.words ph)
  | none => s

theorem State.rewriteRing_eq (s : State) (n : Nat) :
    s.rewriteRing n = (List.range (s.qp n).rqUsed).foldl (fun u k => u.rewriteEntry n (s.qp n) k) s := rfl

theorem State.emitResult_changes (s : State) (n : Nat) (x : Port) (i : Nat) (d : List Nat) : Changes s (s.emitResult n x i d) [.out] :=
  (Changes.emit _ _).trans (Changes.emit _ _)

theorem State.rewriteEntry_changes (s : State) (n : Nat) (q : Qp) (k : Nat) : Changes s (s.rewriteEntry n q k) [.out] := by
  unfold State.rewriteEntry
  split
  · exact s.emitResult_changes _ _ _ _
  · exact Changes.refl _ _

theorem State.rewriteRing_changes (s : State) (n : Nat) : Changes s (s.rewriteRing n) [.out] := by
  rw [State.rewriteRing_eq]
  exact Changes.foldl (fun u k => u.rewriteEntry_changes n (s.qp n) k) _ s

/-- What has left the engine stays gone. -/
def Keeps (o : Out) (s t : State) : Prop := o ∈ s.out → o ∈ t.out

theorem Keeps.foldl {α : Type} {o : Out} {f : State → α → State} (h : ∀ s x, Keeps o s (f s x)) (l : List α) (s : State) :
    Keeps o s (l.foldl f s) := by
  induction l generalizing s with
  | nil => exact id
  | cons x l ih => exact fun ho => ih _ (h s x ho)

theorem State.rewriteEntry_keeps (s : State) (n : Nat) (q : Qp) (k : Nat) (o : Out) : Keeps o s (s.rewriteEntry n q k) := by
  unfold State.rewriteEntry
  split
  · exact fun ho => List.mem_cons_of_mem _ (List.mem_cons_of_mem _ ho)
  · exact id

/-- What one step of a fold sends is among what the fold sends. -/
theorem mem_out_foldl {α : Type} {o : Out} {f : State → α → State} (hkeep : ∀ s x, Keeps o s (f s x)) {x : α}
    (hx : ∀ s, o ∈ (f s x).out) {l : List α} (hl : x ∈ l) (s : State) : o ∈ (l.foldl f s).out := by
  obtain ⟨before, rest, rfl⟩ := List.append_of_mem hl
  rw [List.foldl_append, List.foldl_cons]
  exact Keeps.foldl hkeep rest _ (hx _)

theorem State.raise_keeps (s : State) (ev p : Nat) (ps : List Nat) (o : Out) : Keeps o s (s.raise ev p ps) := by
  have hport : ∀ x r (u : State), Keeps o u (raisePort x r u) := fun x r u => by
    unfold raisePort
    dsimp only
    split
    · exact fun ho => List.mem_cons_of_mem _ ho
    · exact id
  exact fun ho => hport .b _ _ (hport .a _ _ ho)

/-- The two writes of an entry that stands in the ring `q` of a queue pair `n` (R264). -/
def Rewritten (n : Nat) (q : Qp) (t : State) : Prop := ∀ k r ph, k < q.rqUsed →
  Tab.get none q.ring ((q.rqHead + k) % q.rqSize) = some (r, ph) →
  .result n q.active ((q.rqHead + k) % q.rqSize) 0 ((r.words ph).take 7) false ∈ t.out ∧
  .result n q.active ((q.rqHead + k) % q.rqSize) 7 ((r.words ph).drop 7) false ∈ t.out

/-- Every entry from RQ_HEAD to RQ_TAIL is written again, as it was (R288). -/
theorem State.rewriteRing_rewrites (s : State) (n : Nat) : Rewritten n (s.qp n) (s.rewriteRing n) := by
  intro k r ph hk hr
  have hstep : ∀ u : State, u.rewriteEntry n (s.qp n) k =
      u.emitResult n (s.qp n).active (((s.qp n).rqHead + k) % (s.qp n).rqSize) (r.words ph) := fun u => by
    rw [State.rewriteEntry, hr]
  have hsent {o : Out} (ho : ∀ u : State, o ∈ (u.rewriteEntry n (s.qp n) k).out) : o ∈ (s.rewriteRing n).out :=
    mem_out_foldl (f := fun u k => u.rewriteEntry n (s.qp n) k) (fun u j => u.rewriteEntry_keeps n (s.qp n) j o) ho
      (List.mem_range.2 hk) s
  exact ⟨hsent fun u => by rw [hstep]; exact List.mem_cons_of_mem _ List.mem_cons_self,
    hsent fun u => by rw [hstep]; exact List.mem_cons_self⟩

/-! ### A ring goes away -/

theorem State.dropRing_changes (s : State) (n : Nat) : Changes s (s.dropRing n) [.ob] := by
  unfold State.dropRing
  refine Changes.foldl (fun u e => ?_) _ s
  split
  · split
    · exact Changes.refl _ _
    · exact (Changes.updOb _ _ _).trans (State.maybeFree_changes _ _)
  · exact Changes.refl _ _

/-- A queue pair that becomes DISABLED: what waits in it stays waiting (R260, R279). -/
def Qp.disable (q : Qp) : Qp :=
  { q with st := .disabled, c2 := BitVec.ofNat 64 (c2Plain q.c2.toNat), sqTail := 0, sqHead := 0, rqTail := 0, rqHead := 0,
           phase := true, ring := [], rewrite := none }

theorem State.disableQp_changes (s : State) (n : Nat) : Changes s (s.disableQp n) [.ob, .qps] :=
  ((s.dropRing_changes n).mono (by decide)).trans ((Changes.updQp _ n Qp.disable).mono (by decide))

theorem State.qp_disableQp (s : State) (n k : Nat) : (s.disableQp n).qp k = if n = k then (s.qp k).disable else s.qp k := by
  have h : (s.disableQp n).qp k = if n = k then ((s.dropRing n).qp k).disable else (s.dropRing n).qp k :=
    State.qp_updQp _ n k Qp.disable
  rw [h, State.qp_of_qps (s.dropRing_changes n .qps (by decide))]

theorem bit_c2Plain_enable (v : Nat) : bit (BitVec.ofNat 64 (c2Plain v)).toNat 16 = false := by
  rw [BitVec.toNat_ofNat]
  simp only [c2Plain, setBit, bit, Bool.false_eq_true, if_false, beq_iff_eq, beq_eq_false_iff_ne]
  split_ifs <;> omega

end Sys2Proof.Machine
end

section
/-! PROOFS. QUEUE_CONTEXT_WRITE, QP_ENABLE, QP_DISABLE and QP_RESUME (R275, R278, R279, R288, R290): the statement O41. -/

namespace Sys2Proof.Machine

/-- Word `w` of a context takes a value (R278); ENABLE and USE_VF apart. -/
def Qp.writeWord (q : Qp) (w : Nat) (v : U64) : Qp :=
  match w with
  | 0 => { q with c0 := v }
  | 1 => { q with c1 := v }
  | 2 => { q with c2 := BitVec.ofNat 64 (c2Plain v.toNat) }
  | 3 => { q with c3 := v }
  | _ => q

theorem Qp.writeWord_eq (q : Qp) {w : Nat} (h : w < 4) (v : U64) : q.writeWord w v =
    if w = 0 then { q with c0 := v } else if w = 1 then { q with c1 := v }
    else if w = 2 then { q with c2 := BitVec.ofNat 64 (c2Plain v.toNat) } else { q with c3 := v } := by
  match w, h with
  | 0, _ | 1, _ | 2, _ | 3, _ => rfl

/-- A queue pair that is enabled: ACTIVE on its home port, indices zero, PHASE 1 (R279). -/
def Qp.enable (q : Qp) (c2 : Nat) (home : Port) : Qp :=
  { q with c2 := BitVec.ofNat 64 c2, st := .active, active := home, sqTail := 0, sqHead := 0, rqTail := 0, rqHead := 0, phase := true,
           ring := [], rewrite := none }

/-- A queue pair whose context is found unsound at enable (R279). -/
def Qp.err (q : Qp) (c2 : Nat) : Qp := { q with c2 := BitVec.ofNat 64 c2, st := .error }

/-- A STOPPED queue pair that resumes on a port (R290). -/
def Qp.resume (q : Qp) (x : Port) : Qp := { q with st := .active, active := x }

section Contexts

variable {s : State} {fn : Func} {n : QpId} {k : Nat} (hk : s.qpIndex fn n.val = some k) (hopen : s.barOpen fn = true)
include hk hopen

/-! ### QUEUE_CONTEXT_WRITE -/

theorem exec_queueContextWrite (word : Fin 8) (v : U64) : exec (.queueContextWrite fn n word v) s = .next (
    if word.val = 2 ∧ (bit v.toNat 16 ≠ bit (s.qp k).c2.toNat 16 ∨ (bit v.toNat 16 = true ∧ (s.qp k).st = .stopped)) then s
    else if 5 ≤ word.val then s
    else if (s.qp k).st ≠ .disabled then s.countContext k
    else s.updQp k (fun q => q.writeWord word.val v)) := by
  change execQueueContextWrite fn n word v s = _
  rw [execQueueContextWrite, hk]
  exact congrArg Host.Outcome.next (if_neg (by simp [hopen]))

theorem queueContextWrite_stores {word : Fin 8} {v : U64} (hst : (s.qp k).st = .disabled) (hword : word.val < 4)
    (henable : word.val = 2 → bit v.toNat 16 = bit (s.qp k).c2.toNat 16) :
    ∃ t, exec (.queueContextWrite fn n word v) s = .next t ∧
      t.qp k = (if word.val = 0 then { s.qp k with c0 := v } else if word.val = 1 then { s.qp k with c1 := v }
        else if word.val = 2 then { s.qp k with c2 := BitVec.ofNat 64 (c2Plain v.toNat) } else { s.qp k with c3 := v }) ∧
      SameBut [k] s.qp t.qp ∧ Changes s t [.qps] := by
  refine ⟨s.updQp k (fun q => q.writeWord word.val v), ?_, ?_, s.updQp_others _ _, Changes.updQp _ _ _⟩
  · rw [exec_queueContextWrite hk hopen, if_neg fun h => h.2.elim (· (henable h.1)) fun h => by simp [hst] at h,
      if_neg (by omega), if_neg (not_not.2 hst)]
  · rw [State.qp_updQp, if_pos rfl, Qp.writeWord_eq _ hword]

theorem queueContextWrite_counts {word : Fin 8} {v : U64} (hst : (s.qp k).st ≠ .disabled) (hword : word.val < 5)
    (hplain : word.val = 2 → bit v.toNat 16 = bit (s.qp k).c2.toNat 16 ∧ ¬(bit v.toNat 16 = true ∧ (s.qp k).st = .stopped)) :
    ∃ t, exec (.queueContextWrite fn n word v) s = .next t ∧ t = s.countContext k ∧ Changes s t [.led] := by
  refine ⟨_, ?_, rfl, s.countContext_changes k⟩
  rw [exec_queueContextWrite hk hopen, if_neg fun h => h.2.elim (· (hplain h.1).1) (hplain h.1).2, if_neg (by omega), if_pos hst]

theorem queueContextWrite_reserved {word : Fin 8} {v : U64} (hword : 5 ≤ word.val) :
    exec (.queueContextWrite fn n word v) s = .next s := by
  rw [exec_queueContextWrite hk hopen, if_neg (by omega), if_pos hword]

/-! ### QP_ENABLE -/

theorem exec_qpEnable {v : U64} (hv : bit v.toNat 16 = true) (hst : (s.qp k).st = .disabled) : exec (.qpEnable fn n v) s = .next (
    if (s.qp k).contextBad (setBit v.toNat 20 false) = true ∨ (s.plotOfQp k).isNone = true then
      s.updQp k (fun q => q.err (setBit v.toNat 20 fn.vf.isSome))
    else s.updQp k (fun q => q.enable (setBit v.toNat 20 fn.vf.isSome) (if bit v.toNat 19 = true then .b else .a))) := by
  change execQpEnable fn n v s = _
  rw [execQpEnable, hk]
  exact congrArg Host.Outcome.next (if_neg (by simp [hopen, hv, hst]))

theorem qpEnable_enables {v : U64} (hv : bit v.toNat 16 = true) (hst : (s.qp k).st = .disabled) :
    ∃ t, exec (.qpEnable fn n v) s = .next t ∧
      (((s.qp k).contextBad (setBit v.toNat 20 false) = true ∨ s.plotOfQp k = none) →
        t.qp k = { s.qp k with c2 := BitVec.ofNat 64 (setBit v.toNat 20 fn.vf.isSome), st := .error }) ∧
      ((s.qp k).contextBad (setBit v.toNat 20 false) = false → s.plotOfQp k ≠ none →
        (t.qp k).st = .active ∧ (t.qp k).active = (if bit v.toNat 19 = true then .b else .a) ∧
        (t.qp k).c2 = BitVec.ofNat 64 (setBit v.toNat 20 fn.vf.isSome) ∧
        (t.qp k).sqTail = 0 ∧ (t.qp k).sqHead = 0 ∧ (t.qp k).rqTail = 0 ∧ (t.qp k).rqHead = 0 ∧ (t.qp k).phase = true ∧
        (t.qp k).ring = [] ∧ (t.qp k).waiting = (s.qp k).waiting) ∧
      SameBut [k] s.qp t.qp ∧ Changes s t [.qps] := by
  refine ⟨_, exec_qpEnable hk hopen hv hst, ?_⟩
  split
  next hbad =>
    rw [Option.isNone_iff_eq_none] at hbad
    refine ⟨fun _ => (s.qp_updQp k k _).trans (if_pos rfl), fun hgood hplot => ?_, s.updQp_others _ _, Changes.updQp _ _ _⟩
    exact absurd hbad (by simp [hgood, hplot])
  next hgood =>
    rw [Option.isNone_iff_eq_none] at hgood
    refine ⟨fun hbad => absurd hbad hgood, fun _ _ => ?_, s.updQp_others _ _, Changes.updQp _ _ _⟩
    rw [State.qp_updQp, if_pos rfl]
    exact ⟨rfl, rfl, rfl, rfl, rfl, rfl, rfl, rfl, rfl, rfl⟩

/-! ### QP_DISABLE -/

theorem qpDisable_disables {v : U64} (hv : bit v.toNat 16 = false) (hst : (s.qp k).st ≠ .disabled) :
    ∃ t, exec (.qpDisable fn n v) s = .next t ∧ (t.qp k).st = .disabled ∧ bit (t.qp k).c2.toNat 16 = false ∧
      (t.qp k).sqTail = 0 ∧ (t.qp k).sqHead = 0 ∧ (t.qp k).rqTail = 0 ∧ (t.qp k).rqHead = 0 ∧ (t.qp k).ring = [] ∧
      (t.qp k).waiting = (s.qp k).waiting ∧ SameBut [k] s.qp t.qp ∧ Changes s t (.led :: .qps :: .ob :: .moved :: Part.report) := by
  refine ⟨((s.countFields k v).disableQp k).failoverEnds, ?_, ?_⟩
  · change execQpDisable fn n v s = _
    rw [execQpDisable, hk]
    exact congrArg Host.Outcome.next (if_neg (by simp [hopen, hv, hst]))
  · have hcount := s.countFields_changes k v
    have hqp : ∀ j, (((s.countFields k v).disableQp k).failoverEnds).qp j = if k = j then (s.qp j).disable else s.qp j :=
      fun j => by
        rw [State.qp_of_qps (State.failoverEnds_changes _ .qps (by decide)), State.qp_disableQp,
          State.qp_of_qps (hcount .qps (by decide))]
    rw [hqp k, if_pos rfl]
    refine ⟨rfl, bit_c2Plain_enable _, rfl, rfl, rfl, rfl, rfl, rfl, fun j hj => ?_,
      ((hcount.mono (by decide)).trans ((State.disableQp_changes _ k).mono (by decide))).trans
        ((State.failoverEnds_changes _).mono (by decide))⟩
    rw [hqp j, if_neg fun e => hj (by simp [e])]

/-! ### QP_RESUME -/

theorem exec_qpResume {v : U64} (hv : bit v.toNat 16 = true) (hst : (s.qp k).st = .stopped) {x : Port}
    (hx : s.resumePort k = some x) : exec (.qpResume fn n v) s =
      .next (((s.countFields k v).updQp k (fun q => q.resume x)).rewriteRing k) := by
  change execQpResume fn n v s = _
  rw [execQpResume, hk]
  refine congrArg Host.Outcome.next ((if_neg (by simp [hopen, hv, hst])).trans ?_)
  dsimp only
  rw [State.resumePort_countFields, hx]
  rfl

theorem qpResume_resumes {v : U64} (hv : bit v.toNat 16 = true) (hst : (s.qp k).st = .stopped) {x : Port}
    (hx : s.resumePort k = some x) :
    ∃ t, exec (.qpResume fn n v) s = .next t ∧ t.qp k = (s.qp k).resume x ∧ Rewritten k ((s.qp k).resume x) t ∧
      SameBut [k] s.qp t.qp ∧ Changes s t [.led, .qps, .out] := by
  refine ⟨_, exec_qpResume hk hopen hv hst hx, ?_⟩
  have hcount := s.countFields_changes k v
  generalize s.countFields k v = u at hcount
  have hu : u.qps = s.qps := hcount .qps (by decide)
  have hqp : (u.updQp k (fun q => q.resume x)).qp k = (s.qp k).resume x := by rw [State.qp_updQp, if_pos rfl, State.qp_of_qps hu]
  have hothers := (SameBut.of_qps hu [k]).trans (u.updQp_others k (fun q => q.resume x))
  have hupd := Changes.updQp u k (fun q => q.resume x)
  generalize u.updQp k (fun q => q.resume x) = w at *
  have hring := w.rewriteRing_changes k
  have hwrite := w.rewriteRing_rewrites k
  rw [hqp] at hwrite
  exact ⟨(State.qp_of_qps (hring .qps (by decide)) k).trans hqp, hwrite,
    hothers.trans (SameBut.of_qps (hring .qps (by decide)) _),
    ((hcount.mono (by decide)).trans (hupd.mono (by decide))).trans (hring.mono (by decide))⟩

theorem qpResume_waits {v : U64} (hv : bit v.toNat 16 = true) (hst : (s.qp k).st = .stopped) (hx : s.resumePort k = none) :
    ∃ t, exec (.qpResume fn n v) s = .next t ∧ t.qps = s.qps ∧ Changes s t [.led] := by
  refine ⟨s.countFields k v, ?_, s.countFields_changes k v .qps (by decide), s.countFields_changes k v⟩
  change execQpResume fn n v s = _
  rw [execQpResume, hk]
  refine congrArg Host.Outcome.next ((if_neg (by simp [hopen, hv, hst])).trans ?_)
  dsimp only
  rw [State.resumePort_countFields, hx]

end Contexts

end Sys2Proof.Machine

open Sys2Proof Sys2Proof.Machine

/-- Settles O41: a write of a context by its word and the state of the queue pair; ENABLE by `Qp.enable`, `Qp.disable` and, for a
STOPPED queue pair, `State.rewriteRing`. -/
theorem queueContextsAreWritten : Obligations.QueueContextsAreWritten := fun s fn n k hk hopen =>
  ⟨fun word v => ⟨queueContextWrite_stores hk hopen,
      fun hst hne hword => queueContextWrite_counts hk hopen hst hword fun h => absurd h hne,
      fun hst hword hsame hrun => queueContextWrite_counts hk hopen hst (by omega) fun _ => ⟨hsame, hrun⟩,
      fun hword => ⟨s, queueContextWrite_reserved hk hopen hword, rfl⟩⟩,
    fun v hv hst => qpEnable_enables hk hopen hv hst, fun v hv hst => qpDisable_disables hk hopen hv hst,
    fun v hv hst => ⟨fun x hx => qpResume_resumes hk hopen hv hst hx, fun hx => qpResume_waits hk hopen hv hst hx⟩⟩
end

section
/-! SUPPORT. Tables in canonical form, keys and sessions that end with a port (R287, R387, R417), and queue pairs that move or stop
(R288, R293). -/

namespace Sys2Proof.Machine

/-! ### Entries of a table in canonical form -/

/-- An entry of a canonical table is what its number reads as. -/
theorem Tab.get_of_mem {α : Type} [DecidableEq α] {d : α} {t : Tab α} (h : Tab.wf d t = true) {k : Nat} {v : α} (hm : (k, v) ∈ t) :
    Tab.get d t k = v := by
  have hrise := ((Tab.wf_iff d t).1 h).1
  clear h
  induction t with
  | nil => cases hm
  | cons e t ih =>
    obtain ⟨j, w⟩ := e
    obtain ⟨hfirst, hrest⟩ := List.pairwise_cons.1 hrise
    rw [Tab.get]
    rcases List.mem_cons.1 hm with heq | hm
    · cases heq
      exact if_pos rfl
    · rw [if_neg (Nat.ne_of_lt (hfirst _ hm)), ih hm hrest]

/-- The numbers listed that satisfy a test, which the default does not: those whose value satisfies it. -/
theorem Tab.mem_keys_filter {α : Type} [DecidableEq α] {d : α} {t : Tab α} (h : Tab.wf d t = true) {p : Nat × α → Bool} {k : Nat}
    (hd : p (k, d) = false) : k ∈ (t.filter p).map Prod.fst ↔ p (k, Tab.get d t k) = true := by
  constructor
  · intro hk
    obtain ⟨e, he, rfl⟩ := List.mem_map.1 hk
    obtain ⟨hm, hp⟩ := List.mem_filter.1 he
    rwa [Tab.get_of_mem h hm]
  · intro hp
    refine List.mem_map.2 ⟨_, List.mem_filter.2 ⟨(Tab.get_mem_or_default d t k).resolve_right fun he => ?_, hp⟩, rfl⟩
    rw [he, hd] at hp
    cases hp

theorem Tab.get_map {α β : Type} (f : α → β) (d : α) (t : Tab α) (k : Nat) :
    Tab.get (f d) (t.map (fun e => (e.1, f e.2))) k = f (Tab.get d t k) := by
  induction t with
  | nil => rfl
  | cons e t ih =>
    simp only [List.map_cons, Tab.get, ih]
    split <;> rfl

/-! ### Keys that are released together (R287) -/

theorem State.releaseKeysOf_changes (s : State) (h cause : Nat) :
    Changes s (s.releaseKeysOf h cause) (.keys :: .led :: Part.report) :=
  Changes.foldl (f := fun s k => s.releaseKey k cause) (fun u k => u.releaseKey_changes k cause) _ s

theorem State.releaseKeysOf_cells (s : State) (h cause : Nat) : CellsBut [(0x2100, 4)] s (s.releaseKeysOf h cause) :=
  CellsBut.foldl (f := fun s k => s.releaseKey k cause) (fun u k => u.releaseKey_cells k cause) _ s

theorem State.holder_foldl_releaseKey (ks : List Nat) (s : State) (cause n : Nat) :
    (ks.foldl (fun s k => s.releaseKey k cause) s).holder n = if n ∈ ks ∧ ¬(3 ≤ n ∧ n ≤ 15) then 0 else s.holder n := by
  induction ks generalizing s with
  | nil => simp
  | cons k ks ih =>
    rw [List.foldl_cons, ih, State.holder_releaseKey]
    by_cases hk : k = n
    · subst hk
      by_cases h : 3 ≤ k ∧ k ≤ 15 <;> simp [h]
    · simp [hk, Ne.symm hk]

/-- The keys of one holder are free, and the others stay (R287). -/
theorem State.holder_releaseKeysOf {s : State} (hkeys : Tab.wf 0 s.keys = true) {h : Nat} (hpos : 0 < h) (hlt : h < 0x4000)
    (cause n : Nat) : (s.releaseKeysOf h cause).holder n = if s.holder n = h then 0 else s.holder n := by
  have hmem : n ∈ (s.keys.filter (fun e => e.2 == h)).map Prod.fst ↔ Tab.get 0 s.keys n = h :=
    (Tab.mem_keys_filter hkeys (by simp; omega)).trans beq_iff_eq
  have hfold := State.holder_foldl_releaseKey ((s.keys.filter (fun e => e.2 == h)).map Prod.fst) s cause n
  simp only [hmem] at hfold
  refine hfold.trans ?_
  by_cases hn : 3 ≤ n ∧ n ≤ 15
  · rw [if_neg fun e => e.2 hn, if_neg]
    rw [State.holder, if_pos hn]
    omega
  · simp [State.holder, hn]

/-- Releasing one holder's keys takes nothing from another. -/
theorem State.holder_releaseKeysOf_ne {s : State} (hkeys : Tab.wf 0 s.keys = true) {h n : Nat} (hpos : 0 < h) (hne : s.holder n ≠ h)
    (cause : Nat) : (s.releaseKeysOf h cause).holder n = s.holder n := by
  refine (State.holder_foldl_releaseKey _ s cause n).trans (if_neg fun ⟨hlisted, hn⟩ => hne ?_)
  rw [State.holder, if_neg hn]
  exact beq_iff_eq.1 ((Tab.mem_keys_filter hkeys (by simp; omega)).1 hlisted)

/-! ### Which mailbox a session was opened through (R417) -/

/-- Every session was there before, opened through the same mailbox or network. -/
def KeepsVia (s t : State) : Prop := ∀ n y, t.session n = some y → ∃ z, s.session n = some z ∧ z.via = y.via

/-- No session was opened through a port's mailbox. -/
def NoneVia (x : Port) (s : State) : Prop := ∀ n y, s.session n = some y → y.via ≠ some x

theorem KeepsVia.of_sessions {s t : State} (h : t.sessions = s.sessions) : KeepsVia s t := fun n y hy =>
  ⟨y, by rwa [State.session, ← h], rfl⟩

theorem KeepsVia.trans {s t u : State} (h : KeepsVia s t) (h' : KeepsVia t u) : KeepsVia s u := fun n y hy => by
  obtain ⟨z, hz, hzy⟩ := h' n y hy
  obtain ⟨w, hw, hwz⟩ := h n z hz
  exact ⟨w, hw, hwz.trans hzy⟩

theorem KeepsVia.foldl {α : Type} {f : State → α → State} (h : ∀ s x, KeepsVia s (f s x)) (l : List α) (s : State) :
    KeepsVia s (l.foldl f s) := by
  induction l generalizing s with
  | nil => exact KeepsVia.of_sessions rfl
  | cons x l ih => exact (h s x).trans (ih _)

theorem NoneVia.keeps {x : Port} {s t : State} (h : NoneVia x s) (hk : KeepsVia s t) : NoneVia x t := fun n y hy => by
  obtain ⟨z, hz, hzy⟩ := hk n y hy
  rw [← hzy]
  exact h n z hz

/-- A session that is sent an event was opened as before (R392). -/
theorem Session.note_via (x : Session) (r : EventRec) : (x.note r).via = x.via := by
  unfold Session.note
  split <;> rfl

theorem State.raise_keepsVia (s : State) (ev p : Nat) (ps : List Nat) : KeepsVia s (s.raise ev p ps) := by
  intro n y hy
  have hport : ∀ x r (u : State), (raisePort x r u).sessions = u.sessions := fun x r u => by simp
  have hsessions : (s.raise ev p ps).session n =
      (s.session n).map (fun x => x.note { seq := s.ev.seq + 1, ev, plot := p, time := s.now, params := ps }) := by
    simp only [State.raise, State.session, hport]
    exact Tab.get_map (Option.map _) none s.sessions n
  rw [hsessions, Option.map_eq_some_iff] at hy
  obtain ⟨z, hz, rfl⟩ := hy
  exact ⟨z, hz, (Session.note_via _ _).symm⟩

theorem State.releaseKey_keepsVia (s : State) (k cause : Nat) : KeepsVia s (s.releaseKey k cause) := by
  unfold State.releaseKey
  dsimp only
  split
  · exact KeepsVia.of_sessions rfl
  · exact (KeepsVia.of_sessions ((Changes.bump _ _ _ _ _ .sessions (by decide)).trans
      (Changes.setHolder s k 0 .sessions (by decide)))).trans (State.raise_keepsVia _ _ _ _)

theorem State.releaseKeysOf_keepsVia (s : State) (h cause : Nat) : KeepsVia s (s.releaseKeysOf h cause) :=
  KeepsVia.foldl (f := fun s k => s.releaseKey k cause) (fun u k => u.releaseKey_keepsVia k cause) _ s

/-! ### Sessions that end with a link (R387, R417) -/

/-- The session `n` is gone. -/
def State.dropSession (s : State) (n : Nat) : State := { s with sessions := Tab.set none s.sessions n none }

theorem Changes.dropSession (s : State) (n : Nat) : Changes s (s.dropSession n) [.sessions] := by
  intro p hp
  cases p
  case sessions => exact absurd (by decide) hp
  all_goals rfl

theorem State.endSession_of_none {s : State} {n : Nat} (h : s.session n = none) (cause keyCause : Nat) :
    s.endSession n cause keyCause = s := by rw [State.endSession, h]

theorem State.endSession_of_some {s : State} {n : Nat} {y : Session} (h : s.session n = some y) (cause keyCause : Nat) :
    s.endSession n cause keyCause = ((s.releaseKeysOf (0x3000 + n) keyCause).dropSession n).raise 0x2302 0xFF [n, cause] := by
  rw [State.endSession, h]
  rfl

/-- A session that ends is gone, no other begins, and only keys of sessions lose their holder. -/
theorem State.endSession_spec {s : State} (hcanon : tablesCanonical s) (n cause keyCause : Nat) :
    (∀ m y, (s.endSession n cause keyCause).session m = some y → m ≠ n ∧ ∃ z, s.session m = some z ∧ z.via = y.via) ∧
      (∀ k, s.holder k < 0x3000 → (s.endSession n cause keyCause).holder k = s.holder k) ∧
      CellsBut [(0x2100, 4)] s (s.endSession n cause keyCause) ∧
      Changes s (s.endSession n cause keyCause) (.keys :: .led :: Part.report) := by
  cases hs : s.session n with
  | none =>
    rw [State.endSession_of_none hs]
    refine ⟨fun m y hy => ⟨?_, y, hy, rfl⟩, fun _ _ => rfl, CellsBut.of_led rfl, Changes.refl _ _⟩
    rintro rfl
    rw [hs] at hy
    cases hy
  | some x =>
    obtain ⟨-, -, hkeys, -⟩ := hcanon
    rw [State.endSession_of_some hs]
    have hfree := fun k (hk : s.holder k < 0x3000) =>
      State.holder_releaseKeysOf_ne hkeys (h := 0x3000 + n) (n := k) (by omega) (by omega) keyCause
    have hvia := s.releaseKeysOf_keepsVia (0x3000 + n) keyCause
    have hcells := s.releaseKeysOf_cells (0x3000 + n) keyCause
    have hch := s.releaseKeysOf_changes (0x3000 + n) keyCause
    generalize s.releaseKeysOf (0x3000 + n) keyCause = u at *
    have hdrop := Changes.dropSession u n
    have hraise := Changes.raise (u.dropSession n) 0x2302 0xFF [n, cause]
    have hraiseVia := (u.dropSession n).raise_keepsVia 0x2302 0xFF [n, cause]
    refine ⟨fun m y hy => ?_, fun k hk => ?_, (hcells.trans (CellsBut.of_led (hdrop .led (by decide)))).trans
      (CellsBut.of_led (hraise .led (by decide))), (hch.trans (hdrop.mono (by decide))).trans (hraise.mono (by decide))⟩
    · obtain ⟨z, hz, hzy⟩ := hraiseVia m y hy
      have hread : (u.dropSession n).session m = if n = m then none else u.session m := Tab.get_set none u.sessions n m none
      rw [hread] at hz
      split at hz
      · cases hz
      next hne =>
        obtain ⟨w, hw, hwz⟩ := hvia m z hz
        exact ⟨Ne.symm hne, w, hw, hwz.trans hzy⟩
    · rw [State.holder_of_keys (hraise .keys (by decide)), State.holder_of_keys (hdrop .keys (by decide)), hfree k hk]

theorem State.foldl_endSession_spec (l : List (Nat × Session)) {s : State} (hcanon : tablesCanonical s) {t : State}
    (ht : t = l.foldl (fun s e => s.endSession e.1 2 4) s) :
    (∀ m y, t.session m = some y → m ∉ l.map Prod.fst ∧ ∃ z, s.session m = some z ∧ z.via = y.via) ∧
      (∀ k, s.holder k < 0x3000 → t.holder k = s.holder k) ∧ CellsBut [(0x2100, 4)] s t ∧
      Changes s t (.keys :: .led :: Part.report) := by
  induction l generalizing s with
  | nil =>
    rw [ht]
    exact ⟨fun m y hy => ⟨List.not_mem_nil, y, hy, rfl⟩, fun _ _ => rfl, CellsBut.of_led rfl, Changes.refl _ _⟩
  | cons e l ih =>
    rw [List.foldl_cons] at ht
    obtain ⟨hgone, hheld, hcells, hch⟩ := State.endSession_spec hcanon e.1 2 4
    obtain ⟨hgone', hheld', hcells', hch'⟩ := ih (State.endSession_canonical hcanon e.1 2 4) ht
    refine ⟨fun m y hy => ?_, fun k hk => (hheld' k (by rwa [hheld k hk])).trans (hheld k hk), hcells.trans hcells', hch.trans hch'⟩
    obtain ⟨hm, z, hz, hzy⟩ := hgone' m y hy
    obtain ⟨hne, w, hw, hwz⟩ := hgone m z hz
    exact ⟨fun h => (List.mem_cons.1 h).elim hne hm, w, hw, hwz.trans hzy⟩

/-- The sessions opened through a port's mailbox are ended; holders that are no session keep their keys (R417). -/
theorem State.endVia_spec {s : State} (hcanon : tablesCanonical s) (x : Port) :
    NoneVia x (s.endVia x) ∧ (∀ k, s.holder k < 0x3000 → (s.endVia x).holder k = s.holder k) ∧
      CellsBut [(0x2100, 4)] s (s.endVia x) ∧ Changes s (s.endVia x) (.keys :: .led :: Part.report) := by
  obtain ⟨hgone, hrest⟩ := State.foldl_endSession_spec (s.openSessions.filter (fun e => e.2.via == some x)) hcanon rfl
  refine ⟨fun m y hy hx => ?_, hrest⟩
  obtain ⟨hm, z, hz, hzy⟩ := hgone m y hy
  have hlisted : (m, some z) ∈ s.sessions := by
    have h := Tab.get_mem_or_default none s.sessions m
    rw [← State.session, hz] at h
    exact h.resolve_right (by simp)
  refine hm (List.mem_map.2 ⟨(m, z), List.mem_filter.2 ⟨List.mem_filterMap.2 ⟨_, hlisted, rfl⟩, ?_⟩, rfl⟩)
  simp [hzy, hx]

/-! ### Queue pairs that move or stop (R288, R293) -/

/-- A queue pair that moves off a lost port; its entries are still to be rewritten (R288). -/
def Qp.move (q : Qp) (x : Port) : Qp := { q with active := x.other, rewrite := some x }

/-- A queue pair that stops (R288). -/
def Qp.stop (q : Qp) : Qp := { q with st := .stopped, rewrite := none }

/-- Queue pairs that are each changed in the same, idempotent way. -/
theorem State.qp_foldl_updQp {f : Qp → Qp} (hf : ∀ q, f (f q) = f q) (ns : List Nat) (s : State) (n : Nat) :
    (ns.foldl (fun s n => s.updQp n f) s).qp n = if n ∈ ns then f (s.qp n) else s.qp n := by
  induction ns generalizing s with
  | nil => simp
  | cons k ns ih =>
    rw [List.foldl_cons, ih, State.qp_updQp]
    by_cases hk : k = n
    · simp [hk, hf]
    · simp [hk, Ne.symm hk]

theorem State.stopQps_eq (s : State) {ns : List Nat} (h : ns ≠ []) (reason : Nat) :
    s.stopQps ns reason = (ns.foldl (fun s n => s.updQp n Qp.stop) s).raise 0x2202 0xFF [ns.length, reason] := if_neg h

theorem State.stopQps_changes (s : State) (ns : List Nat) (reason : Nat) : Changes s (s.stopQps ns reason) (.qps :: Part.report) := by
  by_cases h : ns = []
  · rw [show s.stopQps ns reason = s from if_pos h]
    exact Changes.refl _ _
  · rw [s.stopQps_eq h]
    exact ((Changes.foldl (f := fun s n => s.updQp n Qp.stop) (fun u n => Changes.updQp u n Qp.stop) _ _).mono (by decide)).trans
      ((Changes.raise _ _ _ _).mono (by decide))

theorem State.qp_stopQps (s : State) (ns : List Nat) (reason n : Nat) :
    (s.stopQps ns reason).qp n = if n ∈ ns then (s.qp n).stop else s.qp n := by
  by_cases h : ns = []
  · rw [show s.stopQps ns reason = s from if_pos h]
    simp [h]
  · rw [s.stopQps_eq h, State.qp_of_qps (Changes.raise _ _ _ _ .qps (by decide))]
    exact State.qp_foldl_updQp (f := Qp.stop) (fun _ => rfl) ns s n

theorem State.stopQps_keepsVia (s : State) (ns : List Nat) (reason : Nat) : KeepsVia s (s.stopQps ns reason) := by
  by_cases h : ns = []
  · rw [show s.stopQps ns reason = s from if_pos h]
    exact KeepsVia.of_sessions rfl
  · rw [s.stopQps_eq h]
    refine KeepsVia.trans (KeepsVia.of_sessions ?_) (State.raise_keepsVia _ _ _ _)
    exact Changes.foldl (ps := [.qps]) (f := fun s n => s.updQp n Qp.stop) (fun u n => Changes.updQp u n Qp.stop) _ _ .sessions
      (by decide)

theorem State.failoverEnd_keepsVia (s : State) (x : Port) : KeepsVia s (s.failoverEnd x) := by
  unfold State.failoverEnd
  split
  · exact KeepsVia.of_sessions rfl
  · dsimp only
    split
    · exact KeepsVia.of_sessions rfl
    · exact KeepsVia.trans (KeepsVia.of_sessions rfl) (State.raise_keepsVia _ _ _ _)

/-- The ACTIVE queue pairs that use a port (R288). -/
def State.onPort (s : State) (x : Port) : List Nat :=
  (s.qps.filter (fun e => e.2.st == .active && e.2.active == x)).map Prod.fst

theorem State.mem_onPort {s : State} (hqps : Tab.wf {} s.qps = true) {x : Port} {n : Nat} :
    n ∈ s.onPort x ↔ (s.qp n).st = .active ∧ (s.qp n).active = x := by
  rw [State.onPort, Tab.mem_keys_filter hqps rfl, Bool.and_eq_true, beq_iff_eq, beq_iff_eq, State.qp]

/-- Why a queue pair stops: no FAILOVER, no other port, or no function on it (R293). -/
theorem State.moveOrStop_reason {s : State} {n : Nat} {x : Port} {r : Nat} (h : s.moveOrStop n x = some r) : r = 0 ∨ r = 1 ∨ r = 2 := by
  unfold State.moveOrStop at h
  split at h
  · exact .inl (Option.some.inj h).symm
  split at h
  · exact .inr (.inl (Option.some.inj h).symm)
  split at h
  · exact .inr (.inr (Option.some.inj h).symm)
  · cases h

/-- The queue pairs of a lost port that move do so, and are counted (R288). -/
def State.moveQps (s : State) (x : Port) (go : List Nat) : State :=
  { (go.foldl (fun s n => s.updQp n (fun q => q.move x)) s).bump 32 0x2000 0x20 go.length with
    moved := Tab.upd 0 (go.foldl (fun s n => s.updQp n (fun q => q.move x)) s).moved x.n (· + go.length) }

/-- The queue pairs that stop for one reason. -/
def State.stopFor (s : State) (x : Port) (r : Nat) : List Nat := (s.onPort x).filter (fun n => s.moveOrStop n x == some r)

theorem State.failover_eq (s : State) (x : Port) : s.failover x =
    (((s.moveQps x ((s.onPort x).filter (fun n => (s.moveOrStop n x).isNone))).stopQps (s.stopFor x 0) 0).stopQps (s.stopFor x 1) 1).stopQps
      (s.stopFor x 2) 2 := rfl

theorem State.moveQps_spec (s : State) (x : Port) (go : List Nat) :
    (∀ n, (s.moveQps x go).qp n = if n ∈ go then (s.qp n).move x else s.qp n) ∧ CellsBut [(0x2000, 0x20)] s (s.moveQps x go) ∧
      Changes s (s.moveQps x go) [.qps, .led, .moved] := by
  have hfold := Changes.foldl (f := fun s n => s.updQp n (fun q => q.move x)) (fun u n => Changes.updQp u n (fun q => q.move x)) go s
  have hmove := State.qp_foldl_updQp (f := fun q => q.move x) (fun _ => rfl) go s
  unfold State.moveQps
  generalize go.foldl (fun s n => s.updQp n (fun q => q.move x)) s = u at *
  refine ⟨hmove, ((CellsBut.of_led (hfold .led (by decide))).trans (CellsBut.bump u 32 0x2000 0x20 go.length (by decide))).trans
    (CellsBut.of_led rfl), (hfold.mono (by decide)).trans (((Changes.bump u 32 0x2000 0x20 go.length).mono (by decide)).trans ?_)⟩
  intro p hp
  cases p
  case moved => exact absurd (by decide) hp
  all_goals rfl

/-- Each ACTIVE queue pair of a lost port moves to the other one where it may, else it stops; others stay (R288). -/
theorem State.failover_spec {s : State} (hqps : Tab.wf {} s.qps = true) (x : Port) :
    (∀ n, (s.qp n).st = .active → (s.qp n).active = x →
      (s.failover x).qp n = if s.moveOrStop n x = none then (s.qp n).move x else (s.qp n).stop) ∧
      (∀ n, ¬((s.qp n).st = .active ∧ (s.qp n).active = x) → (s.failover x).qp n = s.qp n) ∧
      KeepsVia s (s.failover x) ∧ CellsBut [(0x2000, 0x20)] s (s.failover x) ∧
      Changes s (s.failover x) (.qps :: .led :: .moved :: Part.report) := by
  obtain ⟨hmove, hcells, hch⟩ := s.moveQps_spec x ((s.onPort x).filter (fun n => (s.moveOrStop n x).isNone))
  rw [State.failover_eq]
  generalize s.moveQps x ((s.onPort x).filter (fun n => (s.moveOrStop n x).isNone)) = u at *
  have hstops : Changes u (((u.stopQps (s.stopFor x 0) 0).stopQps (s.stopFor x 1) 1).stopQps (s.stopFor x 2) 2) (.qps :: Part.report) :=
    ((u.stopQps_changes _ _).trans (State.stopQps_changes _ _ _)).trans (State.stopQps_changes _ _ _)
  refine ⟨fun n hst hx => ?_, fun n hn => ?_, ?_, hcells.trans (CellsBut.of_led (hstops .led (by decide))),
    (hch.mono (by decide)).trans (hstops.mono (by decide))⟩
  · have hin : n ∈ s.onPort x := (State.mem_onPort hqps).2 ⟨hst, hx⟩
    rw [State.qp_stopQps, State.qp_stopQps, State.qp_stopQps, hmove]
    simp only [State.stopFor, List.mem_filter, hin, true_and, beq_iff_eq, Option.isNone_iff_eq_none]
    cases hm : s.moveOrStop n x with
    | none => simp
    | some r => rcases State.moveOrStop_reason hm with rfl | rfl | rfl <;> simp
  · have hout : n ∉ s.onPort x := fun h => hn ((State.mem_onPort hqps).1 h)
    rw [State.qp_stopQps, State.qp_stopQps, State.qp_stopQps, hmove]
    simp [State.stopFor, hout]
  · exact (((KeepsVia.of_sessions (hch .sessions (by decide))).trans (u.stopQps_keepsVia _ _)).trans
      (State.stopQps_keepsVia _ _ _)).trans (State.stopQps_keepsVia _ _ _)

end Sys2Proof.Machine
end

section
/-! PROOFS. PORT_LINK_UP, PORT_RETRAIN, PORT_LINK_DOWN, VF_FLR and FAILOVER_REWRITE (R271, R274, R287 to R289, R293): the statement
O40. -/

namespace Sys2Proof.Machine

theorem State.portUp_eq (s : State) (x : Port) : s.portUp x = (s.cell 0x2000 (portSub x + 1) == 2) := by cases x <;> rfl

theorem portSub_le (x : Port) : portSub x ≤ 0x10 := by cases x <;> decide

theorem State.portUp_of_cells {ks : List (Nat × Nat)} {s t : State} (h : CellsBut ks s t) {x : Port}
    (hx : (0x2000, portSub x + 1) ∉ ks) : t.portUp x = s.portUp x := by
  rw [State.portUp_eq, State.portUp_eq, h _ _ (by have := portSub_le x; omega) hx]

/-! ### PORT_LINK_UP and PORT_RETRAIN -/

/-- A port's link is UP at a generation and width (R292). -/
def State.linkTrained (s : State) (x : Port) (gen width : Nat) : State :=
  (s.setCell 0x2000 (portSub x + 1) 2).setCell 0x2000 (portSub x + 2) (linkWord gen width)

theorem State.linkTrained_spec (s : State) (x : Port) (gen width : Nat) : (s.linkTrained x gen width).portUp x = true ∧
    (s.linkTrained x gen width).cell 0x2000 (portSub x + 2) = linkWord gen width ∧
    CellsBut [(0x2000, portSub x + 1), (0x2000, portSub x + 2)] s (s.linkTrained x gen width) ∧
    Changes s (s.linkTrained x gen width) [.led] := by
  have hsub := portSub_le x
  refine ⟨?_, State.cell_setCell_self _ _ _ _, ((CellsBut.of_led rfl).setCell _ _ 2 (by omega) (by simp)).setCell _ _ _ (by omega)
    (by simp), (Changes.setCell _ _ _ _).trans (Changes.setCell _ _ _ _)⟩
  rw [State.portUp_eq, State.linkTrained, State.cell_setCell _ _ _ _ _ _ (by omega) (by omega), if_neg (by simp),
    State.cell_setCell_self]
  rfl

section Links

variable {s : State} {x : Port} {gen : Fin 8} {width : Fin 17}

theorem portLinkUp_staysDown (hlink : linkOk gen.val width.val = false) (hdown : s.portUp x = false) (hb : s.booted = true) :
    ∃ t, exec (.portLinkUp x gen width) s = .next t ∧ t.portUp x = false ∧ CellsBut [(0x2000, portSub x + 1)] s t ∧
      Changes s t [.led] := by
  have hsub := portSub_le x
  refine ⟨s.setCell 0x2000 (portSub x + 1) 0, ?_, ?_, (CellsBut.of_led rfl).setCell _ _ _ (by omega) List.mem_cons_self,
    Changes.setCell _ _ _ _⟩
  · exact congrArg Host.Outcome.next ((if_neg (by simp [hdown, hb])).trans (if_pos hlink))
  · rw [State.portUp_eq, State.cell_setCell_self]
    rfl

theorem exec_portLinkUp (hlink : linkOk gen.val width.val = true) (hdown : s.portUp x = false) (hb : s.booted = true) :
    exec (.portLinkUp x gen width) s = .next (
      if gen.val < 6 ∨ width.val < 16 then
        ((s.linkTrained x gen.val width.val).raise 0x2001 0xFF [x.n, gen.val, width.val]).raise 0x2003 0xFF [x.n, gen.val, width.val]
      else (s.linkTrained x gen.val width.val).raise 0x2001 0xFF [x.n, gen.val, width.val]) :=
  congrArg Host.Outcome.next ((if_neg (by simp [hdown, hb])).trans (if_neg (by simp [hlink])))

theorem portLinkUp_trains (hlink : linkOk gen.val width.val = true) (hdown : s.portUp x = false) (hb : s.booted = true) :
    ∃ t, exec (.portLinkUp x gen width) s = .next t ∧ t.portUp x = true ∧
      t.cell 0x2000 (portSub x + 2) = linkWord gen.val width.val ∧
      (if gen.val < 6 ∨ width.val < 16 then
        Raises s t [(0x2001, 0xFF, [x.n, gen.val, width.val]), (0x2003, 0xFF, [x.n, gen.val, width.val])]
      else Raises s t [(0x2001, 0xFF, [x.n, gen.val, width.val])]) ∧
      CellsBut [(0x2000, portSub x + 1), (0x2000, portSub x + 2)] s t ∧ Changes s t (.led :: Part.report) := by
  refine ⟨_, exec_portLinkUp hlink hdown hb, ?_⟩
  obtain ⟨hup, hword, hcells, hch⟩ := s.linkTrained_spec x gen.val width.val
  generalize s.linkTrained x gen.val width.val = u at *
  have hone := Raises.one (s := s) (congrArg Events.seq (hch .ev (by decide))) 0x2001 0xFF [x.n, gen.val, width.val]
  have hreport {t : State} (ht : Changes u t Part.report) : t.portUp x = true ∧
      t.cell 0x2000 (portSub x + 2) = linkWord gen.val width.val ∧
      CellsBut [(0x2000, portSub x + 1), (0x2000, portSub x + 2)] s t ∧ Changes s t (.led :: Part.report) := by
    have hled := ht .led (by decide)
    refine ⟨?_, (State.cell_of_led hled _ _).trans hword, hcells.trans (CellsBut.of_led hled),
      (hch.mono (by decide)).trans (ht.mono (by decide))⟩
    rw [State.portUp_eq, State.cell_of_led hled, ← State.portUp_eq, hup]
  split
  · obtain ⟨h1, h2, h3, h4⟩ := hreport ((Changes.raise u 0x2001 0xFF [x.n, gen.val, width.val]).trans
      (Changes.raise _ 0x2003 0xFF [x.n, gen.val, width.val]))
    exact ⟨h1, h2, hone.raise (by simp) 0x2003 0xFF _, h3, h4⟩
  · obtain ⟨h1, h2, h3, h4⟩ := hreport (Changes.raise u 0x2001 0xFF [x.n, gen.val, width.val])
    exact ⟨h1, h2, hone, h3, h4⟩

theorem exec_portRetrain_fails (hlink : linkOk gen.val width.val = false) : exec (.portRetrain x gen width) s = .next s :=
  congrArg Host.Outcome.next (if_pos (.inr (.inl hlink)))

theorem exec_portRetrain (hlink : linkOk gen.val width.val = true) (hup : s.portUp x = true)
    (hlow : gen.val < bits (s.cell 0x2000 (portSub x + 2)) 7 0 ∨ width.val < bits (s.cell 0x2000 (portSub x + 2)) 15 8) :
    exec (.portRetrain x gen width) s = .next ((s.setCell 0x2000 (portSub x + 2) (linkWord gen.val width.val)).raise 0x2003 0xFF
      [x.n, gen.val, width.val]) := by
  change execPortRetrain x gen width s = _
  refine congrArg Host.Outcome.next (if_neg fun h => ?_)
  rcases h with h | h | h
  · simp [hup] at h
  · simp [hlink] at h
  · exact h hlow

theorem portRetrain_lowers (hlink : linkOk gen.val width.val = true) (hup : s.portUp x = true)
    (hlow : gen.val < bits (s.cell 0x2000 (portSub x + 2)) 7 0 ∨ width.val < bits (s.cell 0x2000 (portSub x + 2)) 15 8) :
    ∃ t, exec (.portRetrain x gen width) s = .next t ∧ t.cell 0x2000 (portSub x + 2) = linkWord gen.val width.val ∧
      Raises s t [(0x2003, 0xFF, [x.n, gen.val, width.val])] ∧ CellsBut [(0x2000, portSub x + 2)] s t ∧
      Changes s t (.led :: Part.report) := by
  have hsub := portSub_le x
  refine ⟨_, exec_portRetrain hlink hup hlow, ?_⟩
  have hcell := s.cell_setCell_self 0x2000 (portSub x + 2) (linkWord gen.val width.val)
  have hset := Changes.setCell s 0x2000 (portSub x + 2) (linkWord gen.val width.val)
  have hcells : CellsBut [(0x2000, portSub x + 2)] s (s.setCell 0x2000 (portSub x + 2) (linkWord gen.val width.val)) :=
    (CellsBut.of_led rfl).setCell _ _ _ (by omega) List.mem_cons_self
  generalize s.setCell 0x2000 (portSub x + 2) (linkWord gen.val width.val) = u at *
  have hraise := Changes.raise u 0x2003 0xFF [x.n, gen.val, width.val]
  exact ⟨(State.cell_of_led (hraise .led (by decide)) _ _).trans hcell,
    Raises.one (congrArg Events.seq (hset .ev (by decide))) _ _ _, hcells.trans (CellsBut.of_led (hraise .led (by decide))),
    (hset.mono (by decide)).trans (hraise.mono (by decide))⟩

end Links

/-! ### What the functions of a port hold is gone (R274, R287) -/

theorem State.clearFuncs_changes (s : State) (x : Port) (one : Option Nat) : Changes s (s.clearFuncs x one) [.mailbox, .latch] := by
  intro p hp
  cases p
  case mailbox | latch => exact absurd (by decide) hp
  all_goals rfl

theorem State.box_clearFuncs_port (s : State) (x : Port) (fn : Func) :
    (fn.port = x → (s.clearFuncs x none).box fn = {}) ∧ (fn.port ≠ x → (s.clearFuncs x none).box fn = s.box fn) := by
  constructor
  · rintro rfl
    refine Tab.get_keep_dropped {} _ s.mailbox ?_
    simp [funcN_div]
  · intro h
    refine Tab.get_keep {} _ s.mailbox _ ?_
    simpa [funcN_div] using fun e => h (portN_inj e)

theorem State.box_clearFuncs_vf (s : State) (x : Port) (vf : Fin 16) (fn : Func) :
    (s.clearFuncs x (some vf.val)).box fn = if fn = { port := x, vf := some vf } then {} else s.box fn := by
  have hn : Func.n { port := x, vf := some vf } = x.n * 32 + vf.val + 1 := rfl
  split
  next h =>
    subst h
    refine Tab.get_keep_dropped {} _ s.mailbox ?_
    simp [hn]
  next h =>
    refine Tab.get_keep {} _ s.mailbox _ ?_
    simpa [← hn] using fun e => h (funcN_inj e)

/-! ### Host-memory entries complete (R288) -/

/-- No host-memory entry of a loom is outstanding on a port. -/
def LoomSt.HostDone (l : LoomSt) (x : Port) : Prop :=
  ∀ e ∈ (l.queue 5).entries, ∀ a b len w, e.req = .host x a b len w → e.status ≠ none

/-- An entry as the loss of a port leaves it. -/
def QEntry.dropHost (e : QEntry) (x : Port) : QEntry :=
  match e.req with
  | .host y _ _ _ _ => if y = x ∧ e.status.isNone then { e with status := some .linkDown } else e
  | _ => e

theorem QEntry.dropHost_done (e : QEntry) (x : Port) {a b len w} (h : (e.dropHost x).req = .host x a b len w) :
    (e.dropHost x).status ≠ none := by
  cases hreq : e.req with
  | host y =>
    have hdrop : e.dropHost x = if y = x ∧ e.status.isNone then { e with status := some .linkDown } else e := by
      rw [QEntry.dropHost, hreq]
    rw [hdrop] at h ⊢
    by_cases hc : y = x ∧ e.status.isNone
    · rw [if_pos hc]
      exact Option.some_ne_none _
    · rw [if_neg hc] at h ⊢
      rw [hreq] at h
      cases h
      simpa using hc
  | _ =>
    simp only [QEntry.dropHost, hreq] at h
    cases h

theorem LoomSt.dropHost_done (l : LoomSt) (x : Port) : (l.dropHost x).HostDone x := by
  intro e he a b len w hreq
  have hqueue : ∃ u : LoomSt, l.dropHost x = u.updQueue 5 (fun q => { q with entries := q.entries.map (·.dropHost x) }) := ⟨_, rfl⟩
  obtain ⟨u, hu⟩ := hqueue
  rw [hu, LoomSt.queue_updQueue, if_pos rfl] at he
  obtain ⟨e', -, rfl⟩ := List.mem_map.1 he
  exact e'.dropHost_done x hreq

/-- The host-memory entries of every loom on a port complete. -/
def State.dropHosts (s : State) (x : Port) : State := (s.looms.map Prod.fst).foldl (fun s n => s.updLoom n (fun l => l.dropHost x)) s

theorem State.foldl_dropHost_done (x : Port) (ns : List Nat) (s : State) {n : Nat} (h : (s.loom n).HostDone x ∨ n ∈ ns) :
    ((ns.foldl (fun s n => s.updLoom n (fun l => l.dropHost x)) s).loom n).HostDone x := by
  induction ns generalizing s with
  | nil => exact h.resolve_right List.not_mem_nil
  | cons k ks ih =>
    rw [List.foldl_cons]
    refine ih _ ?_
    rw [State.loom_updLoom]
    by_cases hk : k = n
    · rw [if_pos hk]
      exact .inl (LoomSt.dropHost_done _ x)
    · rw [if_neg hk]
      exact h.imp_right fun hn => (List.mem_cons.1 hn).resolve_left (Ne.symm hk)

theorem State.dropHosts_done (s : State) (x : Port) (n : Nat) : ((s.dropHosts x).loom n).HostDone x := by
  refine State.foldl_dropHost_done x _ s ?_
  by_cases hn : n ∈ s.looms.map Prod.fst
  · exact .inr hn
  · refine .inl fun e he => ?_
    have hdef : s.loom n = {} := Tab.get_of_not_mem {} s.looms n fun e he hk => hn (hk ▸ List.mem_map_of_mem he)
    rw [hdef] at he
    cases he

theorem State.dropHosts_changes (s : State) (x : Port) : Changes s (s.dropHosts x) [.looms] :=
  Changes.foldl (f := fun s n => s.updLoom n (fun l => l.dropHost x)) (fun u n => Changes.updLoom u n _) _ s

/-! ### PORT_LINK_DOWN -/

theorem exec_portLinkDown_ignored {s : State} {x : Port} {cause : PortCause} (hdown : s.portUp x = false)
    (h : cause ≠ .perst ∨ s.booted = false) : exec (.portLinkDown x cause) s = .next s :=
  congrArg Host.Outcome.next (if_pos ⟨hdown, h⟩)

/-- PORT_STATE after a loss; a function-level reset leaves the link (R274, R292). -/
def State.linkLost (s : State) (x : Port) (cause : PortCause) : State :=
  if cause = .flr then s else (s.setCell 0x2000 (portSub x + 1) (afterLoss cause)).setCell 0x2000 (portSub x + 2) 0

/-- The loss is counted and reported, and what the port's functions hold is gone (R274, R287, R293). -/
def State.noteLoss (s : State) (x : Port) (cause : PortCause) : State :=
  (((s.linkLost x cause).bump 32 0x2000 (portSub x + 3) 1).clearFuncs x none).raise 0x2002 0xFF [x.n, portCauseCode cause]

/-- What the plots do on a port ends (R288, R397). -/
def State.dropWork (s : State) (x : Port) : State :=
  let u := (s.plotsNow.foldl (fun s p => s.noteBusy p) s).dropHosts x
  u.noteLapse (u.lapseOf (if u.strands x then some 4 else none))

/-- The sessions through a port's mailbox end with its link (R417). -/
def State.dropSessions (s : State) (x : Port) (cause : PortCause) : State := if cause = .flr then s else s.endVia x

/-- A lost port's keys are released, and its queue pairs move or stop (R287, R288). -/
def State.leavePort (s : State) (x : Port) (cause : PortCause) : State :=
  ((s.releaseKeysOf (holderId (.host { port := x, vf := none })) (portCauseCode cause)).failover x).failoverEnds

theorem exec_portLinkDown {s : State} {x : Port} {cause : PortCause} (h : s.portUp x = true ∨ (cause = .perst ∧ s.booted = true)) :
    exec (.portLinkDown x cause) s = .next ((((s.noteLoss x cause).dropWork x).dropSessions x cause).leavePort x cause) := by
  refine congrArg Host.Outcome.next (if_neg fun ⟨hdown, hc⟩ => ?_)
  rcases h with h | ⟨hcause, hb⟩
  · simp [h] at hdown
  · simp [hcause, hb] at hc

/-- The cells of 2000 that the loss of a port changes (R292). -/
def lossCells (x : Port) : List (Nat × Nat) := [(0x2000, portSub x + 1), (0x2000, portSub x + 2), (0x2000, portSub x + 3)]

/-- The other port's PORT_STATE is none of the cells that a loss changes. -/
theorem portSub_other (x : Port) : (0x2000, portSub x.other + 1) ∉ lossCells x ++ [(0x2100, 4), (0x7100, 4)] := by
  cases x <;> decide

theorem State.linkLost_spec {s : State} {x : Port} {cause : PortCause} (h : cause = .flr → s.portUp x = true) :
    (s.linkLost x cause).cell 0x2000 (portSub x + 1) = afterLoss cause ∧
      (s.linkLost x cause).cell 0x2000 (portSub x + 3) = s.cell 0x2000 (portSub x + 3) ∧
      CellsBut (lossCells x) s (s.linkLost x cause) ∧ Changes s (s.linkLost x cause) [.led] := by
  have hsub := portSub_le x
  unfold State.linkLost
  split
  next hc =>
    have hup := h hc
    rw [State.portUp_eq, beq_iff_eq] at hup
    exact ⟨by rw [hup, hc]; rfl, rfl, CellsBut.of_led rfl, Changes.refl _ _⟩
  next =>
    refine ⟨?_, ?_, ((CellsBut.of_led rfl).setCell _ _ _ (by omega) (by simp [lossCells])).setCell _ _ _ (by omega)
      (by simp [lossCells]), (Changes.setCell _ _ _ _).trans (Changes.setCell _ _ _ _)⟩
    · rw [State.cell_setCell _ _ _ _ _ _ (by omega) (by omega), if_neg (by simp), State.cell_setCell_self]
    · rw [State.cell_setCell _ _ _ _ _ _ (by omega) (by omega), if_neg (by simp),
        State.cell_setCell _ _ _ _ _ _ (by omega) (by omega), if_neg (by simp)]

theorem State.noteLoss_spec {s : State} {x : Port} {cause : PortCause} (h : cause = .flr → s.portUp x = true) :
    (s.noteLoss x cause).cell 0x2000 (portSub x + 1) = afterLoss cause ∧
      (s.noteLoss x cause).cell 0x2000 (portSub x + 3) = satAdd 32 (s.cell 0x2000 (portSub x + 3)) 1 ∧
      (∀ fn : Func, (fn.port = x → (s.noteLoss x cause).box fn = {}) ∧ (fn.port ≠ x → (s.noteLoss x cause).box fn = s.box fn)) ∧
      CellsBut (lossCells x) s (s.noteLoss x cause) ∧
      Changes s (s.noteLoss x cause) (.led :: .mailbox :: .latch :: Part.report) := by
  have hsub := portSub_le x
  obtain ⟨hstate, hcount, hcells, hch⟩ := State.linkLost_spec h
  unfold State.noteLoss
  generalize s.linkLost x cause = u at *
  have hbump := Changes.bump u 32 0x2000 (portSub x + 3) 1
  have hbumpCells := CellsBut.bump u 32 0x2000 (portSub x + 3) 1 (by omega)
  have hself := u.cell_bump_self 32 0x2000 (portSub x + 3) 1
  generalize u.bump 32 0x2000 (portSub x + 3) 1 = v at *
  have hboxes := v.box_clearFuncs_port x
  have hclear := v.clearFuncs_changes x none
  generalize v.clearFuncs x none = w at *
  have hraise := Changes.raise w 0x2002 0xFF [x.n, portCauseCode cause]
  generalize w.raise 0x2002 0xFF [x.n, portCauseCode cause] = t at *
  have hled : t.led = v.led := (hraise .led (by decide)).trans (hclear .led (by decide))
  have hbox : ∀ fn, t.box fn = w.box fn := State.box_of_mailbox (hraise .mailbox (by decide))
  have hv : ∀ fn, v.box fn = s.box fn := State.box_of_mailbox ((hbump .mailbox (by decide)).trans (hch .mailbox (by decide)))
  refine ⟨?_, ?_, fun fn => ?_, (hcells.trans (hbumpCells.mono (by simp [lossCells]))).trans (CellsBut.of_led hled),
    (((hch.mono (by decide)).trans (hbump.mono (by decide))).trans (hclear.mono (by decide))).trans (hraise.mono (by decide))⟩
  · rw [State.cell_of_led hled, hbumpCells _ _ (by omega) (by simp), hstate]
  · rw [State.cell_of_led hled, hself, hcount]
  · rw [hbox, ← hv]
    exact hboxes fn

theorem State.noteLapse_changes (s : State) (c : Option Nat) : Changes s (s.noteLapse c) (.led :: Part.report) := by
  unfold State.noteLapse
  split
  · exact Changes.refl _ _
  · exact ((Changes.bump _ _ _ _ _).mono (by decide)).trans ((Changes.raise _ _ _ _).mono (by decide))

theorem State.noteLapse_cells (s : State) (c : Option Nat) : CellsBut [(0x7100, 4)] s (s.noteLapse c) := by
  unfold State.noteLapse
  split
  · exact CellsBut.of_led rfl
  · exact (CellsBut.bump _ _ _ _ _ (by decide)).trans (CellsBut.of_led (Changes.raise _ _ _ _ .led (by decide)))

theorem State.dropWork_spec (s : State) (x : Port) :
    (∀ n, ((s.dropWork x).loom n).HostDone x) ∧ CellsBut [(0x7100, 4)] s (s.dropWork x) ∧
      Changes s (s.dropWork x) (.plots :: .looms :: .led :: Part.report) := by
  have hbusy := Changes.foldl (f := fun s p => s.noteBusy p) (fun u p => u.noteBusy_changes p) s.plotsNow s
  unfold State.dropWork
  dsimp only
  generalize s.plotsNow.foldl (fun s p => s.noteBusy p) s = u at *
  have hdrop := u.dropHosts_changes x
  have hdone := u.dropHosts_done x
  generalize u.dropHosts x = v at *
  have hlapse := v.noteLapse_changes (v.lapseOf (if v.strands x then some 4 else none))
  refine ⟨fun n => ?_, ((CellsBut.of_led (hbusy .led (by decide))).trans (CellsBut.of_led (hdrop .led (by decide)))).trans
    (v.noteLapse_cells _), ((hbusy.mono (by decide)).trans (hdrop.mono (by decide))).trans (hlapse.mono (by decide))⟩
  rw [State.loom, hlapse .looms (by decide), ← State.loom]
  exact hdone n

theorem State.dropSessions_spec {s : State} (hcanon : tablesCanonical s) (x : Port) (cause : PortCause) :
    (cause ≠ .flr → NoneVia x (s.dropSessions x cause)) ∧
      (∀ k, s.holder k < 0x3000 → (s.dropSessions x cause).holder k = s.holder k) ∧
      CellsBut [(0x2100, 4)] s (s.dropSessions x cause) ∧ Changes s (s.dropSessions x cause) (.keys :: .led :: Part.report) := by
  unfold State.dropSessions
  split
  next hc => exact ⟨fun h => absurd hc h, fun _ _ => rfl, CellsBut.of_led rfl, Changes.refl _ _⟩
  next =>
    obtain ⟨hnone, hrest⟩ := State.endVia_spec hcanon x
    exact ⟨fun _ => hnone, hrest⟩

/-- A physical function's holder ID is none of a session's (R283). -/
theorem holderId_host (x : Port) :
    0 < holderId (.host { port := x, vf := none }) ∧ holderId (.host { port := x, vf := none }) < 0x3000 := by
  cases x <;> decide

theorem State.leavePort_spec {s : State} (hcanon : tablesCanonical s) (x : Port) (cause : PortCause) :
    (∀ k, (s.leavePort x cause).holder k =
        if s.holder k = holderId (.host { port := x, vf := none }) then 0 else s.holder k) ∧
      (∀ n, (s.qp n).st = .active → (s.qp n).active = x →
        (s.leavePort x cause).qp n = if s.moveOrStop n x = none then (s.qp n).move x else (s.qp n).stop) ∧
      (∀ n, ¬((s.qp n).st = .active ∧ (s.qp n).active = x) → (s.leavePort x cause).qp n = s.qp n) ∧
      KeepsVia s (s.leavePort x cause) ∧ CellsBut [(0x2000, 0x20), (0x2100, 4)] s (s.leavePort x cause) ∧
      Changes s (s.leavePort x cause) (.keys :: .qps :: .led :: .moved :: Part.report) := by
  obtain ⟨hpos, hlt⟩ := holderId_host x
  obtain ⟨-, hwf, hkeys, -⟩ := hcanon
  have hholder := State.holder_releaseKeysOf hkeys hpos (by omega) (portCauseCode cause)
  have hvia := s.releaseKeysOf_keepsVia (holderId (.host { port := x, vf := none })) (portCauseCode cause)
  have hcells := s.releaseKeysOf_cells (holderId (.host { port := x, vf := none })) (portCauseCode cause)
  have hch := s.releaseKeysOf_changes (holderId (.host { port := x, vf := none })) (portCauseCode cause)
  unfold State.leavePort
  generalize s.releaseKeysOf (holderId (.host { port := x, vf := none })) (portCauseCode cause) = u at *
  have hqps : u.qps = s.qps := hch .qps (by decide)
  have hqp := State.qp_of_qps hqps
  have hgoes : ∀ n, u.moveOrStop n x = s.moveOrStop n x := fun n =>
    State.moveOrStop_of_binding (hcells.binding (by simp)) (hqp n) (State.portUp_of_cells hcells (by simp))
  obtain ⟨hon, hoff, hvia', hcells', hch'⟩ := State.failover_spec (s := u) (by rwa [hqps]) x
  generalize u.failover x = v at *
  have hends := v.failoverEnds_changes
  have hend := State.qp_of_qps (hends .qps (by decide))
  refine ⟨fun k => ?_, fun n hst hx => ?_, fun n hn => ?_,
    (hvia.trans hvia').trans ((v.failoverEnd_keepsVia .a).trans (State.failoverEnd_keepsVia _ .b)),
    ((hcells.mono (by simp)).trans (hcells'.mono (by simp))).trans (CellsBut.of_led (hends .led (by decide))),
    ((hch.mono (by decide)).trans (hch'.mono (by decide))).trans (hends.mono (by decide))⟩
  · rw [State.holder_of_keys (hends .keys (by decide)), State.holder_of_keys (hch' .keys (by decide)), hholder]
  · rw [hend, hon n (by rwa [hqp]) (by rwa [hqp]), hgoes, hqp]
  · rw [hend, hoff n (by rwa [hqp]), hqp]

/-- What the loss of a port ends before its queue pairs leave it: work, and sessions. -/
def State.lossEnds (s : State) (x : Port) (cause : PortCause) : State := (s.dropWork x).dropSessions x cause

theorem State.noteLoss_canonical {s : State} (h : tablesCanonical s) (x : Port) (cause : PortCause) :
    tablesCanonical (s.noteLoss x cause) := by
  have hlost : tablesCanonical (s.linkLost x cause) :=
    tablesCanonical_ite h (State.setCell_canonical (State.setCell_canonical h _ _ _) _ _ _)
  exact State.raise_canonical (State.clearFuncs_canonical (State.bump_canonical hlost _ _ _ _) _ _) _ _ _

theorem State.dropWork_canonical {s : State} (h : tablesCanonical s) (x : Port) : tablesCanonical (s.dropWork x) :=
  State.noteLapse_canonical (foldl_canonical (fun _ n hu => State.updLoom_canonical hu n _) _
    (foldl_canonical (fun _ p hu => State.noteBusy_canonical hu p) _ h)) _

theorem State.lossEnds_spec {s : State} (hcanon : tablesCanonical s) (x : Port) (cause : PortCause) :
    tablesCanonical (s.lossEnds x cause) ∧ (∀ n, ((s.lossEnds x cause).loom n).HostDone x) ∧
      (cause ≠ .flr → NoneVia x (s.lossEnds x cause)) ∧
      (∀ k, s.holder k < 0x3000 → (s.lossEnds x cause).holder k = s.holder k) ∧
      CellsBut [(0x2100, 4), (0x7100, 4)] s (s.lossEnds x cause) ∧
      Changes s (s.lossEnds x cause) (.plots :: .looms :: .keys :: .led :: Part.report) := by
  obtain ⟨hdone, hcells, hch⟩ := s.dropWork_spec x
  have hcanon' := State.dropWork_canonical hcanon x
  unfold State.lossEnds
  generalize s.dropWork x = u at *
  obtain ⟨hnone, hheld, hcells', hch'⟩ := State.dropSessions_spec hcanon' x cause
  have hkeys : ∀ k, u.holder k = s.holder k := State.holder_of_keys (hch .keys (by decide))
  refine ⟨tablesCanonical_ite hcanon' (State.endVia_canonical hcanon' x), fun n => ?_, hnone, fun k hk => ?_,
    (hcells.mono (by simp)).trans (hcells'.mono (by simp)), (hch.mono (by decide)).trans (hch'.mono (by decide))⟩
  · rw [State.loom, hch' .looms (by decide), ← State.loom]
    exact hdone n
  · rw [hheld k (by rwa [hkeys]), hkeys]

/-- What the loss of a port leaves before its queue pairs leave it (R274, R287, R288). -/
structure PortLost (s t : State) (x : Port) (cause : PortCause) : Prop where
  canonical : tablesCanonical t
  link : t.cell 0x2000 (portSub x + 1) = afterLoss cause
  count : t.cell 0x2000 (portSub x + 3) = satAdd 32 (s.cell 0x2000 (portSub x + 3)) 1
  boxes : ∀ fn : Func, (fn.port = x → t.box fn = {}) ∧ (fn.port ≠ x → t.box fn = s.box fn)
  hosts : ∀ n, (t.loom n).HostDone x
  sessions : cause ≠ .flr → NoneVia x t
  holders : ∀ k, s.holder k < 0x3000 → t.holder k = s.holder k
  qps : t.qps = s.qps
  goes : ∀ n, t.moveOrStop n x = s.moveOrStop n x
  cells : CellsBut (lossCells x ++ [(0x2100, 4), (0x7100, 4)]) s t
  changes : Changes s t (.mailbox :: .latch :: .plots :: .looms :: .keys :: .led :: Part.report)

theorem State.noteLoss_lossEnds {s : State} {x : Port} {cause : PortCause} (hcanon : tablesCanonical s)
    (hflr : cause = .flr → s.portUp x = true) : PortLost s ((s.noteLoss x cause).lossEnds x cause) x cause := by
  have hsub := portSub_le x
  obtain ⟨hstate, hcount, hbox, hcellsA, hchA⟩ := State.noteLoss_spec hflr
  have hcanonA := State.noteLoss_canonical hcanon x cause
  generalize s.noteLoss x cause = u at *
  obtain ⟨hcanonB, hdone, hnone, hheld, hcellsB, hchB⟩ := State.lossEnds_spec hcanonA x cause
  generalize u.lossEnds x cause = t at *
  have hqps : t.qps = s.qps := (hchB .qps (by decide)).trans (hchA .qps (by decide))
  have hkeys : ∀ k, u.holder k = s.holder k := State.holder_of_keys (hchA .keys (by decide))
  have hcells : CellsBut (lossCells x ++ [(0x2100, 4), (0x7100, 4)]) s t :=
    (hcellsA.mono fun _ => List.mem_append_left _).trans (hcellsB.mono fun _ => List.mem_append_right _)
  exact {
    canonical := hcanonB
    link := by rw [hcellsB _ _ (by omega) (by simp), hstate]
    count := by rw [hcellsB _ _ (by omega) (by simp), hcount]
    boxes := fun fn => by
      rw [State.box_of_mailbox (hchB .mailbox (by decide))]
      exact hbox fn
    hosts := hdone
    sessions := hnone
    holders := fun k hk => by rw [hheld k (by rwa [hkeys]), hkeys]
    qps := hqps
    goes := fun n => State.moveOrStop_of_binding (hcells.binding (by simp [lossCells])) (State.qp_of_qps hqps n)
      (State.portUp_of_cells hcells (portSub_other x))
    cells := hcells
    changes := (hchA.mono (by decide)).trans (hchB.mono (by decide)) }

/-- What the loss of a port leaves of links, mailboxes, keys, sessions, looms and queue pairs (R274, R287, R288). -/
theorem portLinkDown_loses {s : State} {x : Port} {cause : PortCause} (hcanon : tablesCanonical s)
    (h : s.portUp x = true ∨ (cause = .perst ∧ s.booted = true)) :
    ∃ t, exec (.portLinkDown x cause) s = .next t ∧ t.portUp x = decide (cause = .flr) ∧
      t.cell 0x2000 (portSub x + 1) = (if cause = .flr then 2 else if cause = .linkDown then 0 else 1) ∧
      t.cell 0x2000 (portSub x + 3) = satAdd 32 (s.cell 0x2000 (portSub x + 3)) 1 ∧
      (∀ fn : Func, (fn.port = x → t.box fn = {}) ∧ (fn.port ≠ x → t.box fn = s.box fn)) ∧
      (∀ k, s.holder k = holderId (.host { port := x, vf := none }) → t.holder k = 0) ∧
      (∀ k, s.holder k < 0x3000 → s.holder k ≠ holderId (.host { port := x, vf := none }) → t.holder k = s.holder k) ∧
      (∀ n y, cause ≠ .flr → t.session n = some y → y.via ≠ some x) ∧
      (∀ n e a b len w, e ∈ ((t.loom n).queue 5).entries → e.req = .host x a b len w → e.status ≠ none) ∧
      (∀ n, (s.qp n).st = .active → (s.qp n).active = x →
        (s.moveOrStop n x = none → t.qp n = (s.qp n).move x) ∧ (s.moveOrStop n x ≠ none → t.qp n = (s.qp n).stop)) ∧
      (∀ n, ¬((s.qp n).st = .active ∧ (s.qp n).active = x) → t.qp n = s.qp n) ∧
      CellsBut [(0x2000, portSub x + 1), (0x2000, portSub x + 2), (0x2000, portSub x + 3), (0x2000, 0x20), (0x2100, 4),
        (0x7100, 4)] s t ∧
      Changes s t [.led, .mailbox, .latch, .plots, .looms, .keys, .qps, .moved, .ev, .sessions, .out] := by
  have hsub := portSub_le x
  have hpos := holderId_host x
  refine ⟨((s.noteLoss x cause).lossEnds x cause).leavePort x cause, exec_portLinkDown h, ?_⟩
  have hlost := State.noteLoss_lossEnds (x := x) (cause := cause) hcanon fun hc => h.resolve_right fun hp => by simp [hc] at hp
  generalize (s.noteLoss x cause).lossEnds x cause = u at *
  obtain ⟨hfree, hon, hoff, hvia, hcells, hch⟩ := State.leavePort_spec hlost.canonical x cause
  generalize u.leavePort x cause = t at *
  have hqp := State.qp_of_qps hlost.qps
  have hcell : ∀ i, i ≤ 3 → t.cell 0x2000 (portSub x + i) = u.cell 0x2000 (portSub x + i) := fun i hi =>
    hcells _ _ (by omega) (by simp; omega)
  have hport := (hcell 1 (by decide)).trans hlost.link
  refine ⟨?_, ?_, (hcell 3 (by decide)).trans hlost.count, fun fn => ?_, fun k hk => ?_, fun k hk hne => ?_,
    fun n y hc hy => (hlost.sessions hc).keeps hvia n y hy, fun n e a b len w he => ?_, fun n hst hx => ?_, fun n hn => ?_,
    (hlost.cells.mono (by simp [lossCells])).trans (hcells.mono (by simp)),
    (hlost.changes.mono (by decide)).trans (hch.mono (by decide))⟩
  · rw [State.portUp_eq, hport]
    cases cause <;> rfl
  · rw [hport]
    cases cause <;> rfl
  · rw [State.box_of_mailbox (hch .mailbox (by decide))]
    exact hlost.boxes fn
  · rw [hfree, hlost.holders k (by omega), if_pos hk]
  · rw [hfree, hlost.holders k hk, if_neg hne]
  · rw [State.loom, hch .looms (by decide), ← State.loom] at he
    exact hlost.hosts n e he a b len w
  · rw [hon n (by rwa [hqp]) (by rwa [hqp]), hlost.goes, hqp]
    exact ⟨fun h => if_pos h, fun h => if_neg h⟩
  · rw [hoff n (by rwa [hqp]), hqp]

/-! ### VF_FLR -/

/-- The ACTIVE queue pairs that use a virtual function of a port (R279, R287). -/
def State.vfUsers (s : State) (x : Port) (vf : Fin 16) : List Nat :=
  (s.qps.filter (fun e => e.2.st == .active && e.2.active == x && bit e.2.c2.toNat 20
    && s.qpFunc e.1 x == some { port := x, vf := some vf })).map Prod.fst

theorem State.mem_vfUsers {s : State} (hqps : Tab.wf {} s.qps = true) {x : Port} {vf : Fin 16} {n : Nat} : n ∈ s.vfUsers x vf ↔
    (s.qp n).st = .active ∧ (s.qp n).active = x ∧ bit (s.qp n).c2.toNat 20 = true ∧
      s.qpFunc n x = some { port := x, vf := some vf } := by
  rw [State.vfUsers, Tab.mem_keys_filter hqps rfl]
  simp only [Bool.and_eq_true, beq_iff_eq, and_assoc, State.qp]

theorem vfFlr_stops {s : State} {x : Port} {vf : Fin 16} (hcanon : tablesCanonical s) (hup : s.portUp x = true) :
    ∃ t, exec (.vfFlr x vf) s = .next t ∧ t.box { port := x, vf := some vf } = {} ∧
      (∀ fn : Func, fn ≠ { port := x, vf := some vf } → t.box fn = s.box fn) ∧
      (∀ n, t.qp n = if (s.qp n).st = .active ∧ (s.qp n).active = x ∧ bit (s.qp n).c2.toNat 20 = true ∧
          s.qpFunc n x = some { port := x, vf := some vf } then (s.qp n).stop else s.qp n) ∧
      Changes s t (.mailbox :: .latch :: .qps :: .moved :: Part.report) := by
  obtain ⟨-, hqps, -, -⟩ := hcanon
  refine ⟨((s.clearFuncs x (some vf.val)).stopQps (s.vfUsers x vf) 4).failoverEnds,
    congrArg Host.Outcome.next (if_neg (by simp [hup])), ?_⟩
  have hbox := s.box_clearFuncs_vf x vf
  have hclear := s.clearFuncs_changes x (some vf.val)
  generalize s.clearFuncs x (some vf.val) = u at *
  have hstop := u.stopQps_changes (s.vfUsers x vf) 4
  have hqp := u.qp_stopQps (s.vfUsers x vf) 4
  generalize u.stopQps (s.vfUsers x vf) 4 = v at *
  have hends := v.failoverEnds_changes
  have hboxes : ∀ fn, v.failoverEnds.box fn = u.box fn :=
    State.box_of_mailbox ((hends .mailbox (by decide)).trans (hstop .mailbox (by decide)))
  refine ⟨by rw [hboxes, hbox, if_pos rfl], fun fn hfn => by rw [hboxes, hbox, if_neg hfn], fun n => ?_,
    ((hclear.mono (by decide)).trans (hstop.mono (by decide))).trans (hends.mono (by decide))⟩
  rw [State.qp_of_qps (hends .qps (by decide)), hqp, State.qp_of_qps (hclear .qps (by decide))]
  exact if_congr (State.mem_vfUsers hqps) rfl rfl

/-! ### FAILOVER_REWRITE -/

theorem State.failoverEnd_keeps (s : State) (x : Port) (o : Out) : Keeps o s (s.failoverEnd x) := by
  unfold State.failoverEnd
  split
  · exact id
  · dsimp only
    split
    · exact id
    · exact fun ho => State.raise_keeps _ _ _ _ _ ho

theorem Rewritten.keeps {n : Nat} {q : Qp} {s t : State} (h : Rewritten n q s) (hk : ∀ o, Keeps o s t) : Rewritten n q t :=
  fun k r ph hlt hr => (h k r ph hlt hr).imp (hk _) (hk _)

section Rewrites

variable {s : State} {n : QpId} {x : Port} (hx : (s.qp n.val).rewrite = some x)
include hx

theorem failoverRewrite_writes : ∃ t, exec (.failoverRewrite n false) s = .next t ∧
    t.qp n.val = { s.qp n.val with rewrite := none } ∧ Rewritten n.val (s.qp n.val) t ∧ SameBut [n.val] s.qp t.qp ∧
    Changes s t (.qps :: .moved :: Part.report) := by
  refine ⟨((s.rewriteRing n.val).updQp n.val (fun q => { q with rewrite := none })).failoverEnd x, ?_, ?_⟩
  · change execFailoverRewrite n false s = _
    rw [execFailoverRewrite, hx]
    rfl
  have hring := s.rewriteRing_changes n.val
  have hwrite := s.rewriteRing_rewrites n.val
  generalize s.rewriteRing n.val = u at *
  have hupd := Changes.updQp u n.val (fun q => { q with rewrite := none })
  have hqp := u.qp_updQp n.val n.val (fun q => { q with rewrite := none })
  have hothers := u.updQp_others n.val (fun q => { q with rewrite := none })
  rw [if_pos rfl, State.qp_of_qps (hring .qps (by decide))] at hqp
  have hsent := Rewritten.keeps hwrite (t := u.updQp n.val (fun q => { q with rewrite := none })) fun o => id
  generalize u.updQp n.val (fun q => { q with rewrite := none }) = v at *
  have hend := v.failoverEnd_changes x
  exact ⟨(State.qp_of_qps (hend .qps (by decide)) _).trans hqp, hsent.keeps (v.failoverEnd_keeps x),
    ((SameBut.of_qps (hring .qps (by decide)) _).trans hothers).trans (SameBut.of_qps (hend .qps (by decide)) _),
    ((hring.mono (by decide)).trans (hupd.mono (by decide))).trans (hend.mono (by decide))⟩

theorem failoverRewrite_faults : ∃ t, exec (.failoverRewrite n true) s = .next t ∧ t.qp n.val = (s.qp n.val).stop ∧
    SameBut [n.val] s.qp t.qp ∧ Changes s t (.qps :: .moved :: Part.report) := by
  refine ⟨(s.stopQps [n.val] 3).failoverEnd x, ?_, ?_⟩
  · change execFailoverRewrite n true s = _
    rw [execFailoverRewrite, hx]
    rfl
  have hqp := s.qp_stopQps [n.val] 3
  have hstop := s.stopQps_changes [n.val] 3
  generalize s.stopQps [n.val] 3 = u at *
  have hend := u.failoverEnd_changes x
  have hsame := State.qp_of_qps (hend .qps (by decide))
  refine ⟨?_, fun k hk => ?_, (hstop.mono (by decide)).trans (hend.mono (by decide))⟩
  · rw [hsame, hqp, if_pos List.mem_cons_self]
  · rw [hsame, hqp, if_neg hk]

end Rewrites

end Sys2Proof.Machine

open Sys2Proof Sys2Proof.Machine

/-- Settles O40: a link that trains is `State.linkTrained`; one that is lost, `State.noteLoss`, `State.lossEnds` and
`State.leavePort` in turn; entries are written again by `State.rewriteRing`. -/
theorem hostLinksAndFailover : Obligations.HostLinksAndFailover :=
  ⟨fun s _ _ _ hlink => ⟨portLinkUp_staysDown hlink, s, exec_portRetrain_fails hlink, rfl⟩,
    fun _ _ _ _ hlink => ⟨portLinkUp_trains hlink, portRetrain_lowers hlink⟩,
    fun _ _ _ hcanon h => portLinkDown_loses hcanon h,
    fun s _ _ hdown h => ⟨s, exec_portLinkDown_ignored hdown h, rfl⟩,
    fun _ _ _ hcanon hup => vfFlr_stops hcanon hup,
    fun _ _ _ hx => ⟨failoverRewrite_writes hx, failoverRewrite_faults hx⟩⟩
end
